-- ==== Sys2Proof/Word.lean ====
section
/-! DEFINITION. The word types of the part and their plainest arithmetic. Registers are 32 bits wide (R5); an address of the
fabric is a 40-bit physical address (Table FAB-2), kept as a Nat key once computed. -/

namespace Sys2Proof

/-- A 32-bit register or fabric data word (R5). -/
abbrev Word := BitVec 32

/-- A byte of memory. -/
abbrev Byte := BitVec 8

end Sys2Proof
end

