-- ==== Sys2Proof/Machine/Operands.lean ====
section
/-! DEFINITION. The operand types of the commands: what the outside world supplies with a command. -/

namespace Sys2Proof.Machine

/-- A fault that the end-of-period check or the CE meets (R482). -/
inductive CeFaultIn where
  | none | sramEcc | shadowCrc
deriving DecidableEq, Repr

/-- The header of a CSI-2 packet: its ECC holds, has corrected one bit, or has lost the packet (Table STR-7). -/
inductive CamHdr where
  | good | corrected | lost
deriving DecidableEq, Repr

/-- What comes with a CSI-2 packet: the state of its header, the short packets of no kind of Table STR-2 that came before it on its
virtual channel, and whether the lanes go to ULPS after it. -/
structure CamHead where
  hdr : CamHdr
  shorts : Nat
  ulps : Bool
deriving DecidableEq, Repr

/-- Bits of a stored word flip. -/
structure Upset where
  addr : Nat
  double : Bool
deriving DecidableEq, Repr

/-- An upset of an active entry: bit `bit` of 128 flips, and its parity bit no longer fits. -/
structure ClpUpset where
  inst : Fin 12
  entry : Nat
  bit : Nat
deriving DecidableEq, Repr

/-- Who makes a scratchpad access (R203, R211). -/
inductive SpmWho where
  /-- Wide, the read or write port of a core. -/
  | core (t : Nat)
  /-- Wide, the CNV of a cluster. -/
  | cnv (c : Nat)
  /-- Wide, the input port of a Mitre slot. -/
  | mitre (n : Nat)
  /-- Narrow: the fabric target port of the scratchpad, the initiator port and the TID. -/
  | narrow (target port tid : Nat)
deriving DecidableEq, Repr

/-- An access to a scratchpad bank: fabric address, write data (none: a read) and byte strobes of a narrow write. -/
structure SpmReq where
  who : SpmWho
  addr : Nat
  data : Option (List Byte)
  strobes : Nat
deriving DecidableEq, Repr

/-- What a bank meets in a TCLK: the requests that are presented to it, and the upsets that have struck its words before. -/
structure SpmCycle where
  reqs : List SpmReq
  upsets : List Upset
deriving DecidableEq, Repr

/-- What publishes a guard value: a write of GD_TS_S, or the collision context over a frame captured at this time (R71, R151). -/
inductive GuardStamp where
  | given (v : BitVec 32)
  | frame (sec ns : Nat)
deriving DecidableEq, Repr

/-- The levels of A and B of a port after an edge. -/
structure AbLevel where
  a : Bool
  b : Bool
deriving DecidableEq, Repr

/-- An index edge: its port, and for how many consecutive CECLK samples Z has been high. -/
structure ZEdge where
  port : Fin 8
  held : Nat
deriving DecidableEq, Repr

/-- The operators of the library: one per row of Table SCH-1. -/
inductive Operator where
  | matmul | conv2d | pool | elementwise | activation | normalise | recurrent | attention | quantise | reshape | embedding | tokenise
  | convert | copy
deriving DecidableEq, Repr

/-- What an operator runs on. -/
inductive OpEngine where
  | array | vector | cnv | ppu | emb | yarrow | host | dma
deriving DecidableEq, Repr

/-- The engines that run an operator (Table SCH-1, R273). -/
def Operator.runsOn : Operator → List OpEngine
  | .matmul => [.array]
  | .conv2d => [.cnv, .array]
  | .pool | .elementwise | .activation | .normalise => [.vector]
  | .recurrent | .attention => [.array, .vector]
  | .quantise => [.vector, .ppu]
  | .reshape => [.vector, .dma]
  | .embedding => [.emb]
  | .tokenise => [.yarrow, .host]
  | .convert => [.ppu]
  | .copy => [.dma]

/-- The engines on which a Mitre model may use an operator (Table SCH-1). -/
def Operator.inMitre (o : Operator) : List OpEngine := o.runsOn.filter fun e => e == .array || e == .vector

/-- A use of an operator of Table SCH-1 on one of its engines. -/
structure OpUse where
  op : Operator
  on : OpEngine
deriving DecidableEq, Repr

/-- A model image as the load meets it: its operators, none for one outside Table SCH-1, and whether the image is otherwise well formed
(Table SCH-7). -/
structure ModelImage where
  ops : List (Option OpUse)
  formed : Bool
deriving DecidableEq, Repr

/-- The first condition of Table SCH-7 does not hold. -/
def ModelImage.ok (m : ModelImage) : Bool :=
  m.formed && m.ops.all fun o => match o with
    | some u => u.op.runsOn.contains u.on
    | none => false

/-- A Mitre model by its compiler report: bytes of the program and of the activations in LS, and the operators that it uses. -/
structure LsNeed where
  prog : Nat
  act : Nat
  ops : List OpUse
deriving DecidableEq, Repr

/-- Does a Mitre model use only operators marked Yes in the Mitre column of Table SCH-1, in the form marked (R273)? -/
def LsNeed.mitreOps (n : LsNeed) : Bool := n.ops.all fun u => u.op.inMitre.contains u.on

/-- A submission to Yarrow: the tail index, and the descriptors of the jobs that the runtime sends to the host beside it (R152). -/
structure YarSubmit where
  tail : BitVec 5
  host : List Nat
deriving DecidableEq, Repr

/-- A Yarrow job that ends: of which unit, and where the host has run it, the address of its descriptor (R153). -/
structure YarDone where
  unit : Fin 2
  host : Option Nat
deriving DecidableEq, Repr

/-- An array instruction: its descriptor, and the TCLK that its accesses wait before grant (R163). -/
structure ArrIssue where
  desc : List (BitVec 8)
  wait : Nat
deriving DecidableEq, Repr

/-- A walk: for a write or a read, and the root cycles since it began. -/
structure WalkIn where
  wr : Bool
  begun : Nat
deriving DecidableEq, Repr

/-- An operation of a PPU (Table YAR-6). fp32 values are given as words. -/
inductive PpuOp where
  /-- CONVERT to a format code. -/
  | convert (code : Nat)
  /-- AFFINE with a scale and an offset for each channel. -/
  | affine (scale offset : List Nat)
  /-- CROP: the corner and the size of the rectangle, and the decimation of each axis. -/
  | crop (x0 y0 w h dx dy : Nat)
  /-- WINDOW: the last L samples of the ring of a sample stream (S16 to S47), and the window table. -/
  | window (l : Nat) (table : List Nat) (stream : Nat)
  /-- DEPTH: F and B. -/
  | depth (f b : Nat)
deriving DecidableEq, Repr

/-- A PPU job: TID (that of a queued job stands in its descriptor), source (format, width, height, channels, address, block exponents), the chain, and the destination. -/
structure PpuJob where
  tid : Nat
  fmt : Nat
  w : Nat
  h : Nat
  ch : Nat
  src : Nat
  srcScale : Nat
  ops : List PpuOp
  dst : Nat
  dstScale : Nat
deriving DecidableEq, Repr

/-- The operations of the vector unit (Table TEN-5). -/
inductive VecOp where
  | fadd | fsub | fmul | fmin | fmax | feq | flt | fle | fselect | ffma
  | iadd | isub | imul | ishl | ishr | isar | iand | ior | ixor | inot | iadds | isubs
  | qadds | qsubs | qaddw | qmul (sh : Nat) | qsin | qcos
  | convert (src dst : Nat)
  | recip | rsqrt | exp2 | log2 | exp | tanh | sigmoid
  /-- An instruction that stops the core: illegal or reserved, a local address outside LS and CS, a misaligned wide access. -/
  | illegal | badLocal | misaligned
deriving DecidableEq, Repr

/-- The interface from which a dictionary request comes, with what its answer needs. -/
inductive OdFrom where
  /-- CAN0: SDO, or USDO with the BRS of the request, and the number of the transfer. -/
  | can (fd brs : Bool) (xfer : Nat)
  /-- VDP: session number, SEQ and opcode. -/
  | vdp (session seq op : Nat)
  /-- PCIe: queue pair and CID. -/
  | pcie (qp cid : Nat)
  /-- Forwarded over the Dowel link by the manager, with the tag of the forward. -/
  | dowel (tag : Nat)
deriving DecidableEq, Repr

/-- A value of process data: its object, its length in bits, and its bytes. -/
structure PdVal where
  idx : Nat
  sub : Nat
  bits : Nat
  val : List Byte
deriving DecidableEq, Repr

/-- The live levels at the PWM's trip inputs: ESTOP_N, TRIPn_N, and for each sigma-delta channel the bits that its over-current
filter has received, oldest first. -/
structure TripLive where
  estopN : Bool
  tripN : BitVec 8
  oc : List (List Bool)
deriving DecidableEq, Repr

/-- What a request asks: a read, a write of bytes, a BLOCK_READ, or the content of one received PDO or cyclic frame, with the root time
at which its reception completed. -/
inductive OdOp where
  | read
  | write (v : List Byte)
  | block
  | process (vals : List PdVal) (rx : Nat)
deriving DecidableEq, Repr

/-- A dictionary request (R294). -/
structure OdReq where
  src : OdFrom
  op : OdOp
  idx : Nat
  sub : Nat
deriving DecidableEq, Repr

/-- The request as it arrives at root time t. -/
def OdReq.stamp (q : OdReq) (t : Nat) : OdReq :=
  match q.op with
  | .process l _ => { q with op := .process l t }
  | _ => q

/-- A CAN frame (Table CAN-3). -/
structure CanFrame where
  id : Nat
  ide : Bool
  rmt : Bool
  dlc : Nat
  fd : Bool
  brs : Bool
  esi : Bool
  data : List Byte
deriving DecidableEq, Repr

/-- What an error on the bus does to the counters (ISO 11898-1): 1 or 8 on REC, 8 on TEC, or nothing. -/
inductive CanErr where
  | receiver | receiverEight | transmitter | exempt
deriving DecidableEq, Repr

/-- Which pending request was on the bus: a transmit mailbox, or a frame of the CANopen node. -/
inductive CanSrc where
  | mb (b : Fin 64)
  | node
deriving DecidableEq, Repr

/-- A service of the SDO protocol, as CiA 301 and CiA 1301 carry it. -/
inductive SdoMsg where
  | download (idx sub : Nat) (data : List Byte)
  | downloadStart (idx sub : Nat)
  | downloadSeg (toggle last : Bool) (data : List Byte)
  | upload (idx sub : Nat)
  | uploadSeg (toggle : Bool)
  | abort
  | unknown
  /-- A broadcast or routed USDO, which the node ignores (R341). -/
  | elsewhere
deriving DecidableEq, Repr

/-- An Ethernet frame without its check sequence. -/
structure EthFrame where
  dst : Nat
  src : Nat
  tagged : Bool
  pcp : Nat
  vid : Nat
  etype : Nat
  data : List Byte
deriving DecidableEq, Repr

/-- A register of the PCIe configuration space (Table PCI-2, Table PCI-3). -/
inductive CfgReg where
  | ids | command | classRev | bar (k : Nat) | subsys | intPin | msixCtl | serialLo | serialHi | other (n : Nat)
deriving DecidableEq, Repr

/-- An inbound memory access: BAR, offset, bytes written or the number of bytes read, whether every byte enable is set, and
whether the packet is poisoned. -/
structure PciAcc where
  bar : Nat
  off : Nat
  wr : Bool
  data : List Byte
  len : Nat
  full : Bool
  poisoned : Bool
deriving DecidableEq, Repr

/-- A fabric request: port, TID, address, length, the bytes written (none: a read), and the other initiator ports that present a request
to the same target port in this NCLK (R225). -/
structure FabIn where
  port : Nat
  tid : Nat
  addr : Nat
  len : Nat
  data : Option (List Byte)
  rivals : List Nat
deriving DecidableEq, Repr

/-- What the outside gives to a register access that needs it: the live trip levels (a write of MIO_TRIP, a read of MIO_TRIP_IN), the
LS addresses of the input record and of the vibration rings (MIT_CTRL.LOADED), and whether the mailbox is on the bus
(CANn_MBCMD). -/
structure RegEnv where
  live : TripLive
  recAddr : Nat
  ringAddr : Nat
  onBus : Bool
deriving DecidableEq, Repr

/-- The answer of a target outside the model: none within the timeout, a good answer with the data that it returns, an answer
that reports a data error, or (a remote node) UNMAPPED. -/
inductive FabReply where
  | waits
  | good (data : List Byte)
  | bad
  | unmapped
deriving DecidableEq, Repr

/-- What OTPWR writes (R475). -/
inductive OtpWr where
  | slot (s : Fin 16) (ty mask : Nat) (key : List Nat)
  | rotpk (k : Fin 4) (hash : List Byte)
  | revoke (k : Fin 4)
  | secure
deriving DecidableEq, Repr

/-- A placement hint (Table MEM-9). -/
inductive Hint where
  | readMostly | preferredDevice | accessedBy (agent : Nat)
deriving DecidableEq, Repr

/-- Words that the runtime writes into memory: page-table and address-space entries. -/
structure RtWrite where
  addr : Nat
  bytes : Nat
  val : Nat
deriving DecidableEq, Repr

/-- A placement of the runtime for mol_mem_alloc: virtual address, the entries that map it, whether the placement asked for is "any", and
whether every page lies in device DRAM. -/
structure Placed where
  va : Nat
  entries : List RtWrite
  any_ : Bool
  dev : Bool
deriving DecidableEq, Repr

/-- A page that mol_prefetch may move: virtual address, size in bytes, address of its entry, address of the reference copy of
a replica, the place for it at the target, and the addresses of its entries in the tables of the agents of ACCESSED_BY hints. -/
structure PageMove where
  va : Nat
  size : Nat
  entry : Nat
  ref_ : Nat
  pa : Nat
  also : List Nat
deriving DecidableEq, Repr

/-- The first task of the next part of a split model: its node, its channel, and the 16 words of the task (R416). -/
structure HandOver where
  node : Nat
  ch : Nat
  words : List Nat
deriving DecidableEq, Repr

/-- What the image gives for mol_invoke: the tasks of the invocation, and the part that comes next on another node. -/
structure Invocation where
  tasks : List (List Nat)
  next : Option HandOver
deriving DecidableEq, Repr

/-- What the runtime chooses for mol_model_load, and the compiler report of the image (R291): slot, TID, shares, CTX_BW, the
channels, the AST flags, the nodes that hold parts, whether every part fits its node, and the deadline flag. -/
structure ModelPlan where
  slot : Fin 64
  tid : Nat
  coresLo : Nat
  coresHi : Nat
  lsB0 : Nat
  lsNb : Nat
  csB0 : Nat
  csNb : Nat
  bw : Nat
  ch0 : Nat
  chs : Nat
  flags : Nat
  modelId : Nat
  image : ModelImage
  w : Nat
  aCs : Nat
  aLs : Nat
  nodes : List Nat
  partsFit : Bool
  deadline : Bool
  /-- The resident weights of the part that this device runs: addresses in the CS window, and bytes. -/
  weights : List (Nat × List Byte)
deriving DecidableEq, Repr

end Sys2Proof.Machine
end

