-- ==== Sys2Proof/Syntax.lean ====
section
/-! DEFINITION. The commands of the part: one constructor per row of spec/opcode_table.json. The first operand `dt` of
every command is the number of 8.4 GHz root cycles that pass before it (DESIGN CHOICE, log entry 1). A width is the width of the field
that carries the operand; an operand that only the outside can supply (a pin level, a counted window) is an operand. -/

namespace Sys2Proof

/-- The commands. -/
inductive Instr where
  /-- REGISTER_WRITE (R6): A write to a register field that has no row of its own, applied per field type with reserved bits ignored and discarded fields handled field by field. -/
  | registerWrite (dt : Nat) (tid slot off : Nat) (v : Word) (env : Machine.RegEnv)
  /-- LOCK_SET (R7): A write of 1 to a block's LOCK bit sets it until that block's power domain is reset. -/
  | lockSet (dt : Nat) (slot : Nat)
  /-- HELD_RECORDS_FLUSH (R513): When the log starts, the records held in Veneer retention enter it before any later record, and records that found the hold full are counted. -/
  | heldRecordsFlush (dt : Nat)
  /-- BASE_TICK (R55): A base tick falls on the CECLK grid; ALIVE toggles and the active device of a pair sends its mirror. -/
  | baseTick (dt : Nat)
  /-- AXIS_TICK (R20): An axis tick opens a period: the PWM shadows load into the live compare registers and the motor-side samples are latched. -/
  | axisTick (dt : Nat) (n : Fin 8) (sd : List (List (Option Bool)))
  /-- SAMPLE_DELIVERY (R76): At t = 353 CECLK the latched samples are written to the CE input bank, the Mitre slot input and the current streams. -/
  | sampleDelivery (dt : Nat) (n : Fin 8)
  /-- MITRE_INVOCATION_START (R106): At t = 420 CECLK an ARMED slot starts its invocation: MIT_SEQ is set, the staging words take their fall-back values and the input record is written. -/
  | mitreInvocationStart (dt : Nat) (n : Fin 8)
  /-- MITRE_INVOCATION_STOP (R109): A program still running at the end of the CECLK of t_commit is stopped without a commit. -/
  | mitreInvocationStop (dt : Nat) (n : Fin 8)
  /-- MITRE_COMMIT (R111): A write of MIT_SEQ to MIT_COMMIT commits the staged mailbox words, or is discarded as a mismatch, a duplicate or a late commit. -/
  | mitreCommit (dt : Nat) (tid : Nat) (n : Fin 8) (v : BitVec 16)
  /-- CE_LATCH (R59): At t_commit the CE latches the mailbox or its fall-back values, the guards, the parameters and the samples of the axis. -/
  | ceLatch (dt : Nat) (n : Fin 8)
  /-- CE_ISSUE (R74): A latched axis issues into the CE pipeline once the entry is free, with waiting axes issued in ascending axis order. -/
  | ceIssue (dt : Nat) (n : Fin 8) (ecc : Bool)
  /-- CE_SHADOW_COMPLETE (R74): 252 CECLK after issue the CE completes its shadow writes for the next period. -/
  | ceShadowComplete (dt : Nat) (n : Fin 8)
  /-- END_OF_PERIOD_CHECK (R27): At period end the Safety Island tests the CE and Mitre commits of each enabled axis and updates the PST registers. -/
  | endOfPeriodCheck (dt : Nat) (n : Fin 8) (f : Machine.CeFaultIn)
  /-- PST_CLR_CNT (R34): A write of CLR_CNT clears all PST miss counters at the next CECLK. -/
  | pstClrCnt (dt : Nat)
  /-- EPOCH_ARM (R37): A write of EPOCH_SEC_HI.ARM captures the target DTIME for an epoch move, or is discarded while an axis is enabled. -/
  | epochArm (dt : Nat) (tid : Nat) (v : Word)
  /-- EPOCH_MOVE (R37): At the first coincidence point at or after the target, the alignment epoch moves and the tick and period counts restart. -/
  | epochMove (dt : Nat)
  /-- LSX_PRESENCE_JUDGE (R39): At T0 + 2 ms the Veneer judges whether the 32.768 kHz crystal is present. -/
  | lsxPresenceJudge (dt : Nat) (regulated : Bool)
  /-- QUAL_WINDOW_END (R40): A qualification window of 64 reference cycles ends and is judged good or bad, passing or failing the attempt. -/
  | qualWindowEnd (dt : Nat) (count : Nat)
  /-- QUAL_RETRY (R40): 100 ms after a failed fall-back attempt, a new qualification attempt starts. -/
  | qualRetry (dt : Nat)
  /-- PLL_LOCK (R42): The root PLL locks, the dividers are released at the alignment epoch, DTIME is loaded and the ROM starts. -/
  | pllLock (dt : Nat)
  /-- CLKMON_WINDOW_END (R43): A 102.4 µs clock-monitor window ends, and two consecutive bad windows make a clock fault. -/
  | clkmonWindowEnd (dt : Nat) (count : Nat)
  /-- PLL_LOCK_LOSS (R43): The lock detector reports loss of lock, which is a clock fault within 1 µs. -/
  | pllLockLoss (dt : Nat)
  /-- LSX_LOST (R45): After the 32.768 kHz crystal has stopped for 4 ms, the Veneer switches to the RC and raises EVT_CLK_LSX_ABSENT. -/
  | lsxLost (dt : Nat)
  /-- CKG_EN_WRITE (R46): A write of CKG_EN requests clock gating or ungating per block; zeros for loop blocks are discarded while an axis is enabled. -/
  | ckgEnWrite (dt : Nat) (tid : Nat) (v : Word)
  /-- CLOCK_GATE_OFF (R46): Once a block's outstanding fabric transactions have completed, its clock is gated off and CKG_EN_STAT changes. -/
  | clockGateOff (dt : Nat) (bit : Fin 21)
  /-- FMTR_START (R49): A write of FMTR_CTRL.START begins a frequency measurement, or is ignored while one is pending. -/
  | fmtrStart (dt tid : Nat) (v : Word)
  /-- FMTR_DONE (R49): After NREF reference cycles, the measurement completes and FMTR_CNT holds the count. -/
  | fmtrDone (dt : Nat) (edges : Nat)
  /-- DTIME_INC_WRITE (R51): A write of DTIME_INC_INT applies both parts of the increment at the next CECLK. -/
  | dtimeIncWrite (dt : Nat) (v : Word)
  /-- DTIME_ADJ (R52): A write of DTIME_ADJ steps DTIME by a signed value at the next CECLK, or is discarded when out of range. -/
  | dtimeAdj (dt : Nat) (tid : Nat) (v : Word)
  /-- DTIME_NSEC_READ (R53): A read of DTIME_NSEC latches the seconds of the same CECLK into DTIME_SEC_LO and DTIME_SEC_HI. -/
  | dtimeNsecRead (dt : Nat)
  /-- TB_CFG_WRITE (R56): A write of TB_CFG selecting the base tick is accepted only while every axis is disabled and every phase fits. -/
  | tbCfgWrite (dt : Nat) (tid : Nat) (v : Word)
  /-- TB_CFG_APPLY (R57): At the first coincidence point after an accepted TB_CFG write, the grid restarts as a new alignment epoch and EVT_CLK_EPOCH is raised. -/
  | tbCfgApply (dt : Nat)
  /-- AXN_TB_WRITE (R56): A write of AXn_TB sets the axis period and phase at once, or discards fields that break the limits. -/
  | axnTbWrite (dt : Nat) (tid : Nat) (n : Fin 8) (v : Word)
  /-- AX_ENABLE_WRITE (R60): A write of 1 to AX_CTRL.EN is accepted only when the axis is armed and untripped, and takes effect at the next tick. -/
  | axEnableWrite (dt : Nat) (tid : Nat) (n : Fin 8)
  /-- AX_DISABLE_WRITE (R60): A write of 0 to AX_CTRL.EN takes effect at the next axis tick after the running period completes. -/
  | axDisableWrite (dt : Nat) (n : Fin 8)
  /-- AX_CTRL_CFG_WRITE (R68): A write of AX_CTRL MODE and SPSRC is judged as a pair and discarded when the pair is not allowed. -/
  | axCtrlCfgWrite (dt : Nat) (tid : Nat) (n : Fin 8) (v : Word)
  /-- GUARD_PUBLISH (R71): A write of GD_TS_S publishes the guard value and its stamp as one unit. -/
  | guardPublish (dt : Nat) (g : Fin 16) (v : Machine.GuardStamp)
  /-- ESTOP_RECOGNISED (R85): A recognised low on ESTOP_N releases all PWM pads, sets MIO_TRIP.ESTOP, clears every enable and the arming, and drives STO_N low. -/
  | estopRecognised (dt : Nat)
  /-- TRIP_RECOGNISED (R86): A recognised low on TRIPn_N releases the axis pads, sets its trip bit and clears its enable. -/
  | tripRecognised (dt : Nat) (n : Fin 8)
  /-- OVERCURRENT_TRIP (R92): When the over-current run of a channel reaches OC_CNT evaluations, the axis trips. -/
  | overcurrentTrip (dt : Nat) (ch : Fin 24) (bits : List Bool)
  /-- MIO_TRIP_CLEAR (R87): A write of 1 to a MIO_TRIP bit clears it only if its source is inactive in that CECLK. -/
  | mioTripClear (dt : Nat) (v : Word) (estopN : Bool) (tripN : BitVec 8) (oc : List (List Bool))
  /-- ENC_EDGE (R93): An accepted A or B edge counts the ABZ position, and simultaneous A and B changes count a quadrature error. -/
  | encEdge (dt : Nat) (p : Fin 8) (l : Machine.AbLevel) (held : Nat)
  /-- ENC_Z_EDGE (R94): An accepted rising Z edge latches ENC_ZPOS and, by ZMODE, zeroes ENC_POSMOD. -/
  | encZEdge (dt : Nat) (z : Machine.ZEdge)
  /-- ENC_CPR_WRITE (R94): A write of ENC_CPR sets ENC_POSMOD to 0. -/
  | encCprWrite (dt : Nat) (tid : Nat) (n : Fin 8) (v : Word)
  /-- SSI_FRAME_START (R95): SSI_LEAD CECLK before the axis tick, an SSI frame starts if ENCn_A reads high. -/
  | ssiFrameStart (dt : Nat) (p : Fin 8) (level : Bool)
  /-- SSI_FRAME_END (R96): An SSI frame completes and updates the position, or is bad and is counted. -/
  | ssiFrameEnd (dt : Nat) (p : Fin 8) (data : Word) (parity : Bool)
  /-- PULSE_EDGE (R98): An accepted pulse-input edge counts PLS_CNT in step/direction or A/B mode. -/
  | pulseEdge (dt : Nat) (p : Fin 8) (l : Machine.AbLevel) (held : Nat)
  /-- ADC_SLOT (R99): A 1 µs ADC slot starts the conversion of the next enabled channel. -/
  | adcSlot (dt : Nat)
  /-- ADC_CONVERSION_DONE (R99): A conversion completes and stores its code for its channel. -/
  | adcConversionDone (dt : Nat) (nanovolts : Int)
  /-- MITRE_LOADED (R103): A write of MIT_CTRL.LOADED marks the image present and leaves the slot LOADED, or is discarded in ARMED and FAULT. -/
  | mitreLoaded (dt : Nat) (tid : Nat) (n : Fin 8) (recAddr ringAddr : Nat)
  /-- MITRE_ARM_REQUEST (R103): A write of 1 to MIT_CTRL.ARM is judged against the state, cores, clock and model fit, and is then pending for the next tick. -/
  | mitreArmRequest (dt : Nat) (tid : Nat) (n : Fin 8)
  /-- MITRE_DISARM (R103): A write of 0 to MIT_CTRL.ARM disarms the slot at the next tick or cancels a pending arming. -/
  | mitreDisarm (dt : Nat) (n : Fin 8)
  /-- MITRE_UNLOAD (R103): A write of MIT_CTRL.UNLOAD takes a LOADED slot to OFF. -/
  | mitreUnload (dt : Nat) (n : Fin 8)
  /-- MITRE_MODEL_LOAD (R104): The runtime classifies a Mitre model as Fits or Rejected before writing any slot memory. -/
  | mitreModelLoad (dt : Nat) (n : Fin 8) (weightBytes : Nat) (ls : Machine.LsNeed) (wcet modelId : Nat)
  /-- MITRE_MISS_LIMIT (R114): MISS_LIMIT consecutive periods without an accepted commit place the slot in FAULT. -/
  | mitreMissLimit (dt : Nat) (n : Fin 8)
  /-- CAM_LINE_PACKET (R120): A received CSI-2 long packet becomes a row of the open frame, is dropped, or acts as an implied Frame Start. -/
  | camLinePacket (dt : Nat) (p vc : Fin 4) (dataType : BitVec 6) (line : Option Nat) (h : Machine.CamHead) (crcOk : Bool) (payload : List Byte)
  /-- CAM_FRAME_START (R123): A processed Frame Start opens a frame, applies a pending commit and starts the oldest SCQ set. -/
  | camFrameStart (dt : Nat) (k : Fin 16) (fnum : BitVec 16) (h : Machine.CamHead)
  /-- CAM_FRAME_END (R126): A frame closes: replacements and statistics are written, or the frame is skipped, and a frame record is written. -/
  | camFrameEnd (dt : Nat) (k : Fin 16) (h : Machine.CamHead)
  /-- CAM_COMMIT (R123): A write of CAM_COMMIT captures the shadow address and tag as the pending commit, replacing an earlier pending commit. -/
  | camCommit (dt : Nat) (tid : Nat) (k : Fin 16) (tag : Byte)
  /-- CAM_APPLIED_POP (R125): A write of CAM_APPLIED_POP removes the oldest entry of the applied FIFO. -/
  | camAppliedPop (dt : Nat) (k : Fin 16)
  /-- SCQ_ENTRY (R127): A write to SCQ_ENTRY appends one sensor register write to the queue. -/
  | scqEntry (dt : Nat) (tid : Nat) (p : Fin 4) (v : Word)
  /-- SCQ_SUBMIT (R127): A write to SCQ_SUBMIT closes the appended writes into a set carrying an epoch. -/
  | scqSubmit (dt : Nat) (tid : Nat) (p : Fin 4) (epoch : Byte)
  /-- SCQ_WRITE_ACK (R128): An I²C write of a set is acknowledged, and the acknowledgement of the last write releases the set with its effect frame. -/
  | scqWriteAck (dt : Nat) (p : Fin 4)
  /-- SCQ_WRITE_NACK (R130): An unacknowledged write is repeated once, and a second failure abandons the set and marks later epochs uncertain. -/
  | scqWriteNack (dt : Nat) (p : Fin 4)
  /-- TDM_FRAME (R136): A TDM frame delivers one vibration sample per channel, checked, replaced if bad, and written to the rings. -/
  | tdmFrame (dt : Nat) (q : Fin 4) (a b : Word)
  /-- YAR_DICT_LOAD (R143): A write of YAR_DICT_LOAD loads and checks a dictionary image, or is discarded while the queue is not empty. -/
  | yarDictLoad (dt : Nat) (tid : Nat) (u : Fin 2)
  /-- YAR_Q_SUBMIT (R147): A write of YAR_Q_TAIL submits Yarrow job descriptors under the ring rule. -/
  | yarQSubmit (dt : Nat) (tid : Nat) (u : Fin 2) (x : Machine.YarSubmit)
  /-- YAR_JOB_START (R147): A Yarrow unit starts the next queued job. -/
  | yarJobStart (dt : Nat) (u : Fin 2)
  /-- YAR_JOB_DONE (R148): A Yarrow job completes as done, partial, digest mismatch or killed, and writes back its fields. -/
  | yarJobDone (dt : Nat) (x : Machine.YarDone)
  /-- PPU_Q_SUBMIT (R147): A write of PPU_Q_TAIL submits PPU job descriptors under the ring rule. -/
  | ppuQSubmit (dt : Nat) (tid : Nat) (v : Fin 4) (t : BitVec 5)
  /-- PPU_JOB_START (R154): A PPU starts the next queued or stream-triggered job. -/
  | ppuJobStart (dt : Nat) (v : Fin 4) (stream : Bool) (job : Machine.PpuJob)
  /-- PPU_JOB_DONE (R154): A PPU job completes, and elements it could not produce are counted. -/
  | ppuJobDone (dt : Nat) (v : Fin 4)
  /-- IPOS_WRITE (R150): A write of IPOS moves the look-ahead window and, outside the tokenized range, resynchronises it. -/
  | iposWrite (dt : Nat) (v : Word) (progEnd : Nat)
  /-- TEN_ARRAY_OP (R163): A tensor core issues an array operation, or stops on an invalid descriptor. -/
  | tenArrayOp (dt : Nat) (c : Fin 64) (pc : BitVec 20) (x : Machine.ArrIssue)
  /-- TEN_VECTOR_OP (R168): A tensor core issues a vector instruction with fixed latency. -/
  | tenVectorOp (dt : Nat) (c : Fin 64) (pc : BitVec 20) (op : Machine.VecOp) (sr : Bool) (a b e : List Nat)
  /-- TC_RESTART (R171): A write of TC_CTRL.RESTART restarts a stopped core. -/
  | tcRestart (dt : Nat) (c : Fin 64)
  /-- TC_SR_SEED_WRITE (R172): A write of TC_SR_SEED is held until the operations in flight complete. -/
  | tcSrSeedWrite (dt : Nat) (c : Fin 64) (v : Word)
  /-- TC_SR_SEED_LOAD (R172): After the in-flight work completes, the written seed replaces the generator state, with 0 loaded as 1. -/
  | tcSrSeedLoad (dt : Nat) (c : Fin 64)
  /-- CNV_Q_SUBMIT (R174): A write of CNV_Q_TAIL submits CNV job slots under the ring rule. -/
  | cnvQSubmit (dt : Nat) (tid : Nat) (c : Fin 8) (v : BitVec 4)
  /-- CNV_JOB_START (R178): The CNV starts the next job: it validates it, and continues from the line buffer or reloads. -/
  | cnvJobStart (dt : Nat) (c : Fin 8)
  /-- CNV_JOB_DONE (R183): A CNV job completes and writes back its STATUS and T. -/
  | cnvJobDone (dt : Nat) (c : Fin 8) (wait : Nat)
  /-- EMB_Q_SUBMIT (R187): A write of EMB_Q_TAIL submits embedding job descriptors under the ring rule. -/
  | embQSubmit (dt : Nat) (tid : Nat) (e : Fin 2) (v : BitVec 5)
  /-- EMB_JOB_START (R187): An embedding engine starts the next job and reads its table descriptor. -/
  | embJobStart (dt : Nat) (e : Fin 2)
  /-- EMB_JOB_DONE (R187): An embedding job writes back its STATUS after all of its row writes have completed. -/
  | embJobDone (dt : Nat) (e : Fin 2) (u : List Machine.Upset)
  /-- EMB_ROW_LOCK_GRANT (R195): A row lock is granted once no EMB read of the row is in flight and a lock-table entry is free. -/
  | embRowLockGrant (dt : Nat) (e : Fin 2)
  /-- EMB_ROW_WRITE_ACK (R195): The acknowledgement of a row write releases its lock. -/
  | embRowWriteAck (dt : Nat) (e : Fin 2) (addr : Nat)
  /-- EMB_SR_SEED_WRITE (R200): A write of EMB_SR_SEED loads after the running job completes. -/
  | embSrSeedWrite (dt : Nat) (e : Fin 2) (v : Word)
  /-- SPM_ACCESS_GRANT (R203): A scratchpad bank grants one waiting access per TCLK, wide before narrow and by rotation among wide ports. -/
  | spmAccessGrant (dt : Nat) (k : Fin 1280) (x : Machine.SpmCycle)
  /-- SPM_ACCESS_COMPLETE (R205): A granted scratchpad access completes after its fixed latency, with ECC correction or error. -/
  | spmAccessComplete (dt : Nat) (k : Nat) (u : List Machine.Upset)
  /-- SPM_ECC_WRITEBACK (R210): A corrected word is written back at the next TCLK in which its bank is free. -/
  | spmEccWriteback (dt : Nat) (k : Fin 1280)
  /-- SPM_NARROW_STARVE (R208): A narrow request that has waited STARVE_LIM TCLK raises EVT_SPM_NARROW_STARVE once. -/
  | spmNarrowStarve (dt tid addr port : Nat)
  /-- SPM_INIT (R212): A write to SPM_INIT zero-fills the scratchpads of a cluster, or is discarded while the cluster is in use. -/
  | spmInit (dt : Nat) (tid : Nat) (v : Byte)
  /-- SPM_CNT_CLR (R213): A write of SPM_CNT_CTRL.CLR clears the bank and ECC counters at the next TCLK. -/
  | spmCntClr (dt : Nat)
  /-- POOL_ENABLE (R215): A write of POOL_CFG.EN = 1 checks the pool range and sets every buffer FREE. -/
  | poolEnable (dt : Nat) (tid : Nat) (p : Fin 32)
  /-- POOL_DISABLE (R215): A write of POOL_CFG.EN = 0 is accepted only while every buffer of the pool is FREE. -/
  | poolDisable (dt : Nat) (tid : Nat) (p : Fin 32)
  /-- BPU_ALLOC (R216): A read of BPU_ALLOC allocates the head buffer of the pool and returns its handle, or returns the null handle. -/
  | bpuAlloc (dt : Nat) (tid : Nat) (p : Fin 32)
  /-- BPU_FREE (R217): A write of a handle to BPU_FREE runs the handle checks and frees the buffer. -/
  | bpuFree (dt : Nat) (tid : Nat) (p : Fin 32) (h : Word)
  /-- BPU_GIVE (R217): A write of a handle to a BPU_GIVE word runs the handle checks and transfers ownership. -/
  | bpuGive (dt : Nat) (tid : Nat) (p : Fin 32) (g : BitVec 10) (h : Word)
  /-- BPU_RECLAIM (R219): A write of a TID to BPU_RECLAIM starts freeing every buffer that TID owns. -/
  | bpuReclaim (dt : Nat) (g : BitVec 10)
  /-- BPU_RECLAIM_DONE (R219): The reclaim completes, BUSY clears and the waiting commands run. -/
  | bpuReclaimDone (dt : Nat)
  /-- FABRIC_REQUEST (R221): A fabric request is checked for decode, width, Clamp, gate and target, and is served or refused with a response code. -/
  | fabricRequest (dt : Nat) (f : Machine.FabIn) (env : Machine.RegEnv) (u : List Machine.Upset) (cu : List Machine.ClpUpset) (reply : Machine.FabReply)
  /-- FABRIC_TIMEOUT (R226): A peripheral, host or Dowel request without a response by its timeout receives TIMEOUT. -/
  | fabricTimeout (dt : Nat) (id : Nat)
  /-- FABRIC_LATE_RESPONSE (R226): A response that arrives after TIMEOUT is discarded and counted. -/
  | fabricLateResponse (dt : Nat) (id : Nat)
  /-- CLAMP_COMMIT (R236): A write of CLP_COMMIT.GO freezes the staging table and starts its validation. -/
  | clampCommit (dt : Nat) (tid : Nat) (i : Fin 12) (v : Word)
  /-- CLAMP_COMMIT_ACTIVATE (R237): After validation, the staging table becomes active at once or at the named axis tick, or the commit is rejected. -/
  | clampCommitActivate (dt : Nat) (i : Fin 12)
  /-- TID_RETIRE (R231): The runtime retires a TID through task termination, reclaim, invalidation and Clamp removal before it is issued again. -/
  | tidRetire (dt : Nat) (tid : BitVec 10)
  /-- MEMC_SCRUB_READ (R248): The controller scrubs a DRAM block at the lowest priority, correcting or reporting errors. -/
  | memcScrubRead (dt : Nat) (u : List Machine.Upset)
  /-- MEMC_MR4_POLL (R249): Every 16 ms the controller polls MR4, sets the refresh rates and reports a hot DRAM. -/
  | memcMr4Poll (dt : Nat) (codes : List Nat) (hot : BitVec 8)
  /-- MEMC_CNT_CLR (R246): A write of MEMC_CNT_CLR clears the DRAM ECC counters. -/
  | memcCntClr (dt : Nat)
  /-- MMU_WALK_COMPLETE (R255): A page walk completes, and either installs a TLB entry or faults with a cause. -/
  | mmuWalkComplete (dt : Nat) (e : Fin 40) (tid : BitVec 10) (va : Nat) (w : Machine.WalkIn)
  /-- MMU_XLATE (R261): A write of MMU_XLATE_CMD.GO translates a given address through the L2 TLB and the walker. -/
  | mmuXlate (dt : Nat) (v : Word)
  /-- MMU_RESUME (R264): A write of a TID to MMU_RESUME releases the engines stalled on that TID's faults. -/
  | mmuResume (dt : Nat) (tid : BitVec 10)
  /-- MMU_RETRY (R264): A resumed engine retries its faulting access once no invalidation of the TID runs. -/
  | mmuRetry (dt : Nat) (e : Fin 40)
  /-- MMU_INVALIDATE (R266): A write of MMU_INV_CMD.GO advances the generation and starts a range invalidation in every TLB. -/
  | mmuInvalidate (dt : Nat) (tid : Nat) (v : Word)
  /-- MMU_INV_ACK (R266): An engine acknowledges the invalidation, and the last acknowledgement completes it. -/
  | mmuInvAck (dt : Nat) (e : Fin 40)
  /-- MMU_INV_TIMEOUT (R268): An invalidation not complete after 100 µs sets TIMEOUT and raises EVT_MMU_INV_TIMEOUT. -/
  | mmuInvTimeout (dt : Nat)
  /-- CTX_ACTIVATE (R275): A write of CTX_CTRL.ACTIVATE checks the shares and takes a FREE slot to ACTIVATING. -/
  | ctxActivate (dt : Nat) (tid : Nat) (k : Fin 64)
  /-- CTX_RESIDENT (R274): Once the Clamp entries of its shares are committed, an activating slot becomes RESIDENT. -/
  | ctxResident (dt : Nat) (k : Fin 64)
  /-- CTX_RELEASE (R278): A write of RELEASE frees an idle RESIDENT slot. -/
  | ctxRelease (dt : Nat) (tid : Nat) (k : Fin 64)
  /-- CTX_TERMINATE (R278): A write of TERMINATE cancels the queued tasks of a slot and moves it to DRAINING. -/
  | ctxTerminate (dt : Nat) (k : Fin 64)
  /-- CTX_FREE (R274): When the last running task has completed and the Clamp entries are removed, a draining slot becomes FREE. -/
  | ctxFree (dt : Nat) (k : Fin 64)
  /-- CH_TAIL_SUBMIT (R280): A write of CH_TAIL submits task descriptors under the ring rule. -/
  | chTailSubmit (dt : Nat) (tid : Nat) (ch : Fin 64) (v : BitVec 3)
  /-- TASK_DISPATCH (R287): A Task Dispatcher starts the chosen ready task on an idle resource 32 TCLK after both are available. -/
  | taskDispatch (dt : Nat) (c : Fin 8)
  /-- TASK_COMPLETE (R288): A task completes, writes back its result and T, and halts its channel on an error result. -/
  | taskComplete (dt : Nat) (ch : Fin 64) (i : Fin 8)
  /-- TASK_OVERRUN (R285): A task still running TLIM µs after its start is stopped with result 0x6. -/
  | taskOverrun (dt : Nat) (ch : Fin 64) (i : Fin 8) (rows : Nat)
  /-- CH_RESUME (R288): A write of CH_CTRL.RESUME restarts dispatch of a halted channel. -/
  | chResume (dt : Nat) (ch : Fin 64)
  /-- CH_FLUSH (R288): A write of CH_CTRL.FLUSH cancels every queued task of the channel. -/
  | chFlush (dt : Nat) (ch : Fin 64)
  /-- MODEL_LOAD (R291): The runtime classifies a model at load as Fits, Fits-streamed, Split or Rejected and records the outcome in 0x3010. -/
  | modelLoad (dt : Nat) (k : Fin 64) (modelId : Nat) (image : Machine.ModelImage) (w aCs aLs : Nat)
  /-- OD_REQUEST_RECEIVE (R295): A dictionary request enters its interface queue, or is refused when the queue is full. -/
  | odRequestReceive (dt : Nat) (q : Machine.OdReq)
  /-- OD_READ (R299): The server takes a read request of one sub-index, runs the access checks and returns the value. -/
  | odRead (dt : Nat)
  /-- OD_WRITE (R298): The server takes a write of an object without its own row, runs the checks and applies the value. -/
  | odWrite (dt : Nat) (progEnd : Nat)
  /-- OD_STORE (R302): A write of "save" to 0x1010:01 snapshots the P objects and starts the flash write. -/
  | odStore (dt : Nat)
  /-- OD_STORE_DONE (R302): The background flash write of a store completes or fails, and the store is answered. -/
  | odStoreDone (dt : Nat) (ok : Bool)
  /-- OD_RESTORE_DEFAULTS (R303): A write of "load" to 0x1011:01 invalidates both stored copies of the P objects. -/
  | odRestoreDefaults (dt : Nat)
  /-- PROCESS_DATA_FORWARD (R306): The target values of one RPDO or cyclic frame are forwarded to the CE as one unit before a latch. -/
  | processDataForward (dt : Nat) (l : Machine.TripLive) (progEnd : Nat)
  /-- LOG_READ_CURSOR (R309): A read of 0x3400:06 returns the record at the cursor and advances the cursor. -/
  | logReadCursor (dt : Nat)
  /-- LOG_BLOCK_READ (R309): A BLOCK_READ of 0x3400:08 returns up to 64 records from the cursor and advances it. -/
  | logBlockRead (dt : Nat)
  /-- LOG_CLEAR (R308): A write of the clear word to 0x3400:07 empties the log and zeroes the overwrite count. -/
  | logClear (dt : Nat)
  /-- MODE_OF_OPERATION_WRITE (R311): A write of 0x6060 selects the drive mode and sets AX_CTRL.MODE and SPSRC. -/
  | modeOfOperationWrite (dt : Nat) (n : Fin 8)
  /-- CONTROLWORD_WRITE (R313): A controlword value is evaluated and makes the matching profile state transition within 10 µs. -/
  | controlwordWrite (dt : Nat) (n : Fin 8) (l : Machine.TripLive)
  /-- AXIS_FAULT_ENTRY (R317): After a trip, ESTOP or CE miss, the axis passes through Fault reaction active into Fault within 10 µs. -/
  | axisFaultEntry (dt : Nat) (n : Fin 8)
  /-- CAN_FRAME_RECEIVE (R325): A received CAN frame is acknowledged and sorted by the acceptance rules into a queue, a mailbox or discard. -/
  | canFrameReceive (dt : Nat) (n : Fin 4) (f : Machine.CanFrame) (ago : Nat) (resRec : Bool)
  /-- CAN_BUS_ERROR (R334): A bus error moves TEC or REC and can bring the node to error-passive or bus-off. -/
  | canBusError (dt : Nat) (n : Fin 4) (e : Machine.CanErr)
  /-- CAN_TX_SUCCESS (R331): A transmitted frame succeeds, sets TXDONE, writes back its timestamp and ends the request. -/
  | canTxSuccess (dt : Nat) (n : Fin 4) (src : Machine.CanSrc) (ago delay : Nat)
  /-- CAN_TX_RETRY (R331): After lost arbitration or an error, the frame is retried, or an aborted request ends. -/
  | canTxRetry (dt : Nat) (n : Fin 4) (src : Machine.CanSrc)
  /-- CAN_MB_SEND (R330): A send command in CANn_MBCMD makes a transmit mailbox pending. -/
  | canMbSend (dt : Nat) (tid : Nat) (n : Fin 4) (b : Fin 64)
  /-- CAN_MB_ABORT (R332): An abort command in CANn_MBCMD ends a pending request, or ends it after the running attempt. -/
  | canMbAbort (dt : Nat) (n : Fin 4) (b : Fin 64) (onBus : Bool)
  /-- CAN_QUEUE_RELEASE (R329): A write of CANn_QiREL releases queue elements up to the index. -/
  | canQueueRelease (dt : Nat) (tid : Nat) (n : Fin 4) (q : Fin 2) (a : Fin 32)
  /-- CAN_BOFF_RECOVER (R335): A write of BOFF_RECOVER in bus-off starts counting recessive sequences. -/
  | canBoffRecover (dt : Nat) (n : Fin 4)
  /-- CAN_BOFF_RECOVERED (R335): At the 128th sequence of 11 recessive bits, TEC and REC reset and the node is error-active. -/
  | canBoffRecovered (dt : Nat) (n : Fin 4)
  /-- CAN_ROM_APPLY (R336): A change of CANn_CTRL.ROM takes effect at the next bus idle. -/
  | canRomApply (dt : Nat) (n : Fin 4)
  /-- CAN_BOFF_AUTO_RECOVER (R344): 500 ms after CAN0 enters bus-off, the runtime writes BOFF_RECOVER. -/
  | canBoffAutoRecover (dt : Nat)
  /-- NMT_COMMAND (R340): A received NMT command changes the CANopen node state or resets communication. -/
  | nmtCommand (dt : Nat)
  /-- SDO_REQUEST (R341): A received SDO or USDO request starts or continues a transfer, which becomes a dictionary request. -/
  | sdoRequest (dt : Nat) (usdo : Machine.SdoMsg)
  /-- SDO_TIMEOUT (R341): No next segment within 1,000 ms aborts the transfer. -/
  | sdoTimeout (dt : Nat)
  /-- TPDO_EVENT_TIMER (R342): A TPDO event timer expires and sends the TPDO no sooner than its inhibit time. -/
  | tpdoEventTimer (dt : Nat) (i : Fin 4)
  /-- HB_CONSUMER_TIMEOUT (R343): A consumer heartbeat missing for its time raises EVT_CAN_HB_TIMEOUT and queues an EMCY. -/
  | hbConsumerTimeout (dt : Nat) (j : Fin 4)
  /-- ETH_FRAME_RECEIVE (R346): A received Ethernet frame is filtered by address, VID and IP and passed on or dropped. -/
  | ethFrameReceive (dt : Nat) (m : Fin 2) (f : Machine.EthFrame)
  /-- ETH_LINK_CHANGE (R354): A link goes up, down or changes speed, and shapers that break the limit are disabled. -/
  | ethLinkChange (dt : Nat) (m : Fin 2) (up : Bool) (speed : Fin 3)
  /-- GPTP_SYNC (R349): A Sync yields the offset, and the servo corrects seconds, steps or slews DTIME by its state. -/
  | gptpSync (dt : Nat) (gmSec gmNs : Nat) (newGm : Bool)
  /-- GPTP_SYNC_TIMEOUT (R349): No Sync for 3 Sync intervals puts the servo into HOLDOVER. -/
  | gptpSyncTimeout (dt : Nat)
  /-- TAS_GATE_EVENT (R352): A gate-list entry boundary opens and closes queues when DTIME reaches its time. -/
  | tasGateEvent (dt : Nat) (m : Fin 2)
  /-- ETH_FRAME_TRANSMIT (R352): The highest eligible queue starts a frame that fits its open window, or drops a frame that cannot fit. -/
  | ethFrameTransmit (dt : Nat) (m : Fin 2)
  /-- TAS_GO (R353): A write of TAS_CTRL.GO schedules the administrative gate list, or is discarded. -/
  | tasGo (dt : Nat) (tid : Nat) (m : Fin 2) (v : Word)
  /-- TAS_LIST_ACTIVATE (R353): At base + k × cycle the administrative gate list becomes operational. -/
  | tasListActivate (dt : Nat) (m : Fin 2)
  /-- VDP_READ (R358): A VDP READ request reads one sub-index through the server and is answered. -/
  | vdpRead (dt : Nat)
  /-- VDP_WRITE (R358): A VDP WRITE request writes one sub-index through the server and is answered. -/
  | vdpWrite (dt : Nat)
  /-- VDP_AUTH_WRITE (R364): A VDP AUTH_WRITE carries an authentication record to the server. -/
  | vdpAuthWrite (dt : Nat)
  /-- VDP_BLOCK_READ (R358): A VDP BLOCK_READ reads a DOMAIN value as one atomic request. -/
  | vdpBlockRead (dt : Nat)
  /-- VDP_SUBSCRIBE (R359): A VDP SUBSCRIBE creates, changes or deletes a cyclic or event channel. -/
  | vdpSubscribe (dt : Nat)
  /-- VDP_CYCLIC_WRITE (R360): A cyclic WRITE frame delivers a channel's packed values as one request without an answer. -/
  | vdpCyclicWrite (dt : Nat)
  /-- VDP_CYCLIC_PUBLISH (R360): NET_CYC_LEAD before a publishing cycle, the server reads the mapped objects and queues an EVENT frame. -/
  | vdpCyclicPublish (dt : Nat) (c : Fin 8)
  /-- VDP_CYC_TIMEOUT (R360): A consuming channel without a frame for 3 × M cycles raises EVT_NET_CYC_TIMEOUT. -/
  | vdpCycTimeout (dt : Nat) (c : Fin 8)
  /-- VDP_EVENT_PUSH (R361): At most once per millisecond, new log records of the subscribed classes are pushed to a subscriber. -/
  | vdpEventPush (dt : Nat) (c : Fin 8)
  /-- VDP_SESSION_LAPSE (R357): A session lapses 10 s after its last request and releases its channels. -/
  | vdpSessionLapse (dt : Nat)
  /-- AUTH_WRITE (R367): The server checks an authentication record's slot, mask, counter and CMAC and performs the target write. -/
  | authWrite (dt : Nat) (flashOk : Bool)
  /-- AUTH_COUNTER_FLASH_DONE (R368): The flash copy of an authentication counter is written, or the write fails, and the waiting record is answered. -/
  | authCounterFlashDone (dt : Nat) (ok flashOk : Bool)
  /-- STAGING_RESET (R365): A write of 0 to 0x3802:01 empties the staging buffer. -/
  | stagingReset (dt : Nat)
  /-- STAGING_CHUNK (R365): A write to 0x3802:02 appends bytes at the staged length. -/
  | stagingChunk (dt : Nat)
  /-- PCIE_CONFIG_REQUEST (R391): A configuration request is answered with Retry Status before READY, and normally after it. -/
  | pcieConfigRequest (dt : Nat) (r : Machine.CfgReg) (w : Option Word)
  /-- PCIE_INBOUND_ACCESS (R375): A BAR2 access through an aperture becomes a fabric request, and the response maps to a completion. -/
  | pcieInboundAccess (dt : Nat) (x : Machine.PciAcc) (env : Machine.RegEnv) (reply : Machine.FabReply)
  /-- HOST_ENABLE (R380): A write of HOST_CTRL.EN = 1 sets up the admin queue pair. -/
  | hostEnable (dt : Nat)
  /-- HOST_DISABLE (R380): A write of HOST_CTRL.EN = 0 deletes every queue pair. -/
  | hostDisable (dt : Nat)
  /-- PCIE_SQ_DOORBELL (R382): A write of SQ_TAIL submits SQ entries, or puts the queue pair in error. -/
  | pcieSqDoorbell (dt : Nat) (q : Fin 64) (v : BitVec 12)
  /-- PCIE_CQ_DOORBELL (R382): A write of CQ_HEAD frees CQ entries, or puts the queue pair in error. -/
  | pcieCqDoorbell (dt : Nat) (q : Fin 64) (v : BitVec 12)
  /-- PCIE_SQ_FETCH (R383): The runtime fetches the next SQ entry once a CQ entry is free for it. -/
  | pcieSqFetch (dt : Nat) (q : Fin 64) (l : Option (List Byte))
  /-- CREATE_QP (R386): The admin command CREATE_QP creates a queue pair with a process TID. -/
  | createQp (dt : Nat) (q : Fin 64) (tid : Nat)
  /-- DELETE_QP (R386): The admin command DELETE_QP ends a queue pair and its contexts, apertures and memory. -/
  | deleteQp (dt : Nat)
  /-- PCIE_OD_READ (R385): The OD_READ opcode makes a dictionary read request of the PCIe interface. -/
  | pcieOdRead (dt : Nat) (q : Fin 64)
  /-- PCIE_OD_WRITE (R385): The OD_WRITE opcode makes a dictionary write request of the PCIe interface. -/
  | pcieOdWrite (dt : Nat) (q : Fin 64) (data : List Byte)
  /-- PCIE_OD_BLOCK_READ (R385): The OD_BLOCK_READ opcode reads a DOMAIN value into host memory. -/
  | pcieOdBlockRead (dt : Nat) (q : Fin 64)
  /-- MOL_MEM_ALLOC (R387): The call mol_mem_alloc allocates device memory and returns its virtual address. -/
  | molMemAlloc (dt : Nat) (q : Fin 64) (bytes : Nat) (place : Option Machine.Placed)
  /-- MOL_MEM_FREE (R387): The call mol_mem_free frees device memory. -/
  | molMemFree (dt : Nat) (q : Fin 64) (ptr : Nat) (entries : List Machine.RtWrite)
  /-- MOL_MODEL_LOAD (R387): The call mol_model_load loads and classifies a model and takes a context slot. -/
  | molModelLoad (dt : Nat) (q : Fin 64) (plan : Option Machine.ModelPlan)
  /-- MOL_MODEL_UNLOAD (R387): The call mol_model_unload releases a model's context slot. -/
  | molModelUnload (dt : Nat) (q : Fin 64) (k : Fin 64)
  /-- MOL_INVOKE (R387): The call mol_invoke places one invocation's tasks into the channels of a context. -/
  | molInvoke (dt : Nat) (q : Fin 64) (k : Fin 64) (ch : Fin 64) (x : Machine.Invocation)
  /-- MOL_PREFETCH (R271): The call mol_prefetch moves or replicates pages to the target in batches with invalidation. -/
  | molPrefetch (dt : Nat) (q : Fin 64) (va n : Nat) (target : Option Bool) (ch : Fin 64) (pages : List Machine.PageMove)
  /-- MOL_ADVISE (R272): The call mol_advise records a placement hint for a range. -/
  | molAdvise (dt : Nat) (q : Fin 64) (va n : Nat) (h : Option Machine.Hint)
  /-- MOL_BAR_MAP (R377): The call mol_bar_map sets up a BAR2 aperture for a contiguous range. -/
  | molBarMap (dt : Nat) (q : Fin 64) (bytes : Nat) (readonly : Bool) (pa : Option Nat) (a : Fin 64)
  /-- MOL_BAR_UNMAP (R377): The call mol_bar_unmap disables an aperture. -/
  | molBarUnmap (dt : Nat) (q : Fin 64) (off : Nat)
  /-- CQ_COALESCE_SIGNAL (R389): A CQ signals its MSI-X vector when its coalescing count or time is reached. -/
  | cqCoalesceSignal (dt : Nat) (q : Fin 64)
  /-- LOG_MSIX_SIGNAL (R389): Vector 128 signals new log records of the masked classes at most once per millisecond. -/
  | logMsixSignal (dt : Nat)
  /-- HOST_NOTE_CLEAR (R390): A write of 1 to a HOST_NOTE bit clears it and the channel's CH_STAT.NOTE. -/
  | hostNoteClear (dt : Nat) (hi : Bool) (v : Word)
  /-- PCIE_FLR (R393): A function-level reset closes the host window, ends every queue pair and disables the apertures. -/
  | pcieFlr (dt : Nat)
  /-- PCIE_RESET (R394): A hot reset, a PERST_N assertion or a link down has the effects of a function-level reset. -/
  | pcieReset (dt : Nat) (cause : Fin 3)
  /-- PCIE_D3HOT (R395): Entry into D3hot holds completions and notifications and closes the host window. -/
  | pcieD3hot (dt : Nat)
  /-- PCIE_D0_RETURN (R395): On return to D0 the held completions and notifications are written and signalled. -/
  | pcieD0Return (dt : Nat)
  /-- DWL_FLIT_RECEIVE (R399): A received flit is accepted in sequence, or discarded with a NAK, or forwarded along the route. -/
  | dwlFlitReceive (dt : Nat) (p : Fin 4) (l : List Byte) (res : Nat)
  /-- DWL_REPLAY_TIMEOUT (R399): No ACK progress for 10 µs with flits outstanding triggers a replay. -/
  | dwlReplayTimeout (dt : Nat) (p : Fin 4)
  /-- DWL_RETRAIN (R401): A port retrains after 8 replays without progress or a loss of block lock, and goes DOWN after 3 failures. -/
  | dwlRetrain (dt : Nat) (p : Fin 4) (lost : Bool)
  /-- DWL_TRAINING_DONE (R401): A port completes training, is UP and replays its retry buffer. -/
  | dwlTrainingDone (dt : Nat) (p : Fin 4) (partner : Fin 16) (ppair : Bool)
  /-- DWL_TRAIN_RETRY (R401): Every 1 s a DOWN port in use tries to train again. -/
  | dwlTrainRetry (dt : Nat) (p : Fin 4)
  /-- DWL_HELLO (R408): The manager receives a HELLO and decides the worker's verdict by the join checks. -/
  | dwlHello (dt : Nat) (links : List (Nat × Nat))
  /-- DWL_VERDICT (R415): A worker receives a HELLO verdict with its state, epoch, features and route table. -/
  | dwlVerdict (dt : Nat)
  /-- DWL_MEM_WR (R405): A MEM_WR message at the target node enters the fabric through its inbound segment and is answered once it takes effect. -/
  | dwlMemWr (dt : Nat) (env : Machine.RegEnv) (reply : Machine.FabReply)
  /-- DWL_MEM_RD (R404): A MEM_RD message at the target node enters the fabric through its inbound segment and returns data or a code. -/
  | dwlMemRd (dt : Nat) (env : Machine.RegEnv) (reply : Machine.FabReply)
  /-- DWL_TASK (R416): A TASK message delivers a task descriptor or a forwarded dictionary request or answer. -/
  | dwlTask (dt : Nat)
  /-- DWL_SYNC (R413): A worker receives SYNC and arms an epoch move and TB_CFG, or discards it while an axis is enabled. -/
  | dwlSync (dt : Nat)
  /-- DWL_TIME_REQUEST (R411): The manager receives a TIME request and answers with its ingress and egress timestamps. -/
  | dwlTimeRequest (dt : Nat)
  /-- DWL_TIME_ANSWER (R412): A worker receives a TIME answer, computes its offset and steps or slews DTIME. -/
  | dwlTimeAnswer (dt : Nat)
  /-- DWL_MIRROR (R429): The shadow applies a complete MIRROR message and publishes the mirrored guards. -/
  | dwlMirror (dt : Nat)
  /-- ASM_HELLO_TIMER (R407): Every 100 ms without a verdict, a worker sends its HELLO again. -/
  | asmHelloTimer (dt : Nat)
  /-- ASM_TIME_TIMER (R411): Every DWL_TIME_INT µs a worker sends a TIME request. -/
  | asmTimeTimer (dt : Nat)
  /-- ASM_FORMED (R414): At T0 + 400 ms the manager sets the Assembly FORMED and sends SYNC. -/
  | asmFormed (dt : Nat)
  /-- ASM_WORKER_LOST (R417): No flit from a worker for ASM_WKR_TO ms marks it LOST. -/
  | asmWorkerLost (dt : Nat) (k : Fin 16)
  /-- ASM_MANAGER_LOST (R418): No flit from node 0 for ASM_MGR_TO ms puts the worker into HELD. -/
  | asmManagerLost (dt : Nat)
  /-- ASM_FORWARD (R410): A write of 0x2830:01 forwards a VDP request to a worker. -/
  | asmForward (dt : Nat)
  /-- ASM_FORWARD_TIMEOUT (R410): No answer from the worker within 500 ms answers the forward with 0x0800_0022. -/
  | asmForwardTimeout (dt : Nat)
  /-- PEER_FAIL_RECOGNISED (R426): A shadow recognises PEER_FAIL_N low and starts a takeover. -/
  | peerFailRecognised (dt : Nat) (low : Bool)
  /-- ALIVE_WINDOW_END (R426): An ALIVE window ends, and 3 consecutive windows without a partner edge start a takeover. -/
  | aliveWindowEnd (dt : Nat) (edge : Bool)
  /-- PEER_ACTIVE_FALL (R428): An active device that recognises a falling PEER_ACTIVE_N yields: pads high-Z, axes disabled, role SHADOW. -/
  | peerActiveFall (dt : Nat) (low : Bool)
  /-- PAIR_MIRROR_STALE (R431): A mirror older than 0x2910:03 base ticks, or a pair port DOWN, raises EVT_PAIR_LINK_LOST. -/
  | pairMirrorStale (dt : Nat)
  /-- PAIR_HANDOVER_TICK (R434): At handover tick j the shadow enables its axes, and the active releases them or yields. -/
  | pairHandoverTick (dt : Nat)
  /-- PWR_DOMAIN_REQUEST (R439): A write of PWR_DOM_REQ switches an on-demand domain on or off, or is discarded while it is in use. -/
  | pwrDomainRequest (dt : Nat) (tid : Nat) (v : Word)
  /-- PWR_DOMAIN_SWITCHED (R438): A domain completes switching on or off, and its CKG_EN_STAT bit follows. -/
  | pwrDomainSwitched (dt : Nat) (d : Fin 24)
  /-- PWR_STATE_REQUEST (R441): A write of 0x2100:02 requests OFF, DEEP REST or STANDBY and runs the entry sequence. -/
  | pwrStateRequest (dt : Nat) (flashOk : Bool)
  /-- PWR_WAKE (R445): An enabled wake input wakes the device from STANDBY or DEEP REST. -/
  | pwrWake (dt : Nat) (b : Fin 6)
  /-- PWR_ALARM_WAKE (R445): VSEC reaching PWR_ALARM wakes the device. -/
  | pwrAlarmWake (dt : Nat)
  /-- THM_RECOVERY_WAKE (R451): After THM_MAX has stayed at or below Tm − 20 °C for 10 s, the device wakes to READY. -/
  | thmRecoveryWake (dt : Nat)
  /-- AVS_MONITOR (R448): Every 1 ms the ring-oscillator monitors are read and VID is raised or lowered. -/
  | avsMonitor (dt : Nat) (low high : Bool)
  /-- AVS_LIMIT (R448): VID 20 with too little margin for 10 ms raises EVT_PWR_AVS_LIMIT and applies cap level 1. -/
  | avsLimit (dt : Nat)
  /-- THM_CONVERSION (R449): Every 100 µs the sensors convert, invalid sensors are marked and T_WARN is checked. -/
  | thmConversion (dt : Nat) (l : List Int)
  /-- THM_CRIT (R451): Three consecutive readings at or above T_CRIT apply STO and force STANDBY. -/
  | thmCrit (dt : Nat)
  /-- THROTTLE_WINDOW (R453): At the end of each 1 ms window, the throttle level rises or falls by power and temperature. -/
  | throttleWindow (dt : Nat) (est : Nat)
  /-- PWR_CAP_UNMET (R455): At level 4 with the estimate above the cap for 10 windows, EVT_PWR_CAP_UNMET is raised. -/
  | pwrCapUnmet (dt : Nat)
  /-- FAN_ENABLE (R457): Enabling a fan channel, or entering READY, starts spin-up at full duty. -/
  | fanEnable (dt : Nat) (f : Fin 2)
  /-- FAN_TACH_EDGE (R456): A rising tach edge gives a new fan speed. -/
  | fanTachEdge (dt : Nat) (f : Fin 2)
  /-- FAN_SPINUP_TIMEOUT (R457): A fan not at FAN_MIN_RPM 2 s after a start retries, and after the third retry is stalled. -/
  | fanSpinupTimeout (dt : Nat) (f : Fin 2)
  /-- FAN_TACH_LOST (R458): No tach edge for the timeout marks the tach lost and applies cap level 1. -/
  | fanTachLost (dt : Nat) (f : Fin 2)
  /-- FAN_RECOVERED (R459): 10 s of valid speed recovers a stalled or tach-lost channel and lifts its cap. -/
  | fanRecovered (dt : Nat) (f : Fin 2)
  /-- POWER_ON_RESET (R461): A low on PWR_OK or POR_N for 1 µs or more resets every domain. -/
  | powerOnReset (dt : Nat) (cause : Fin 3)
  /-- T0_RELEASE (R461): The later rising edge of PWR_OK and POR_N is T0 and starts the timeline. -/
  | t0Release (dt : Nat)
  /-- STRAP_LATCH (R462): At T0 + 100 µs the strap pins are latched. -/
  | strapLatch (dt : Nat) (v : BitVec 11)
  /-- BOOT_SIF_VERIFIED (R467): The ROM completes reading and verifying the SIF, or fails with a cause or falls back to the other bank. -/
  | bootSifVerified (dt : Nat) (b : List Byte) (err : Bool)
  /-- BOOT_CAN_ROM (R339): At the 40 ms point the CAN controllers leave INIT in restricted operation and DRAM training starts. -/
  | bootCanRom (dt : Nat)
  /-- BOOT_CE_READY (R463): At the 60 ms point PD2 and PD3 come on, the CE is ready, FAIL_N goes high and the pair role is taken. -/
  | bootCeReady (dt : Nat) (peerHigh : Bool)
  /-- DRAM_TRAINING_DONE (R463): DRAM training completes and the DRAM block is opened to the fabric. -/
  | dramTrainingDone (dt : Nat) (ok : Bool)
  /-- BOOT_RUNTIME_VERIFIED (R467): The SIF completes reading and verifying the runtime image. -/
  | bootRuntimeVerified (dt : Nat) (more : List Byte) (err : Bool)
  /-- BOOT_RUNTIME_START (R463): At the 120 ms point the runtime starts, PCIE_CFG.READY is set and CAN0 leaves restricted operation. -/
  | bootRuntimeStart (dt : Nat)
  /-- BOOT_DOWEL_TRAINING (R414): At the 150 ms point Dowel training starts on the ports in use. -/
  | bootDowelTraining (dt : Nat)
  /-- BOOT_DICT_READY (R463): At the 300 ms point the dictionary is ready, the boot-up message is sent and EVT_BOOT_DONE is raised. -/
  | bootDictReady (dt : Nat)
  /-- PCIE_READY_FALLBACK (R465): If the runtime has not set PCIE_CFG.READY 1.0 s after T0 or PERST_N release, the SIF sets it. -/
  | pcieReadyFallback (dt : Nat)
  /-- BOOT_MB_GO (R469): A write of MB_GO copies one chunk of a boot bundle from the PCIe boot mailbox. -/
  | bootMbGo (dt : Nat)
  /-- BOOT_DOWEL_TIMEOUT (R470): A Dowel boot source silent for 10 s fails the boot. -/
  | bootDowelTimeout (dt : Nat)
  /-- WARM_RESET (R473): A warm reset from WARM_RST_N, RST_CTRL.WARM or the Safety Island resets PD1–PD23 and reruns the shortened timeline. -/
  | warmReset (dt : Nat) (pinLow release : Bool)
  /-- PARTIAL_RESET (R474): A write to RST_DOM by TID 0 resets the named domains and the domains that depend on them. -/
  | partialReset (dt : Nat) (tid : Nat) (v : Word)
  /-- PROGRAM_CONTROL (R472): A write to 0x1F51:01 selects the active bank or raises OTP_SVN. -/
  | programControl (dt : Nat)
  /-- OTP_WRITE (R475): The TAP instruction OTPWR writes key slots, masks, ROTPK data or the SECURE fuse as the lifecycle allows. -/
  | otpWrite (dt : Nat) (w : Machine.OtpWr)
  /-- SAFE_STATE_RESTART (R477): A restart trigger faults the Mitre slots, frees the contexts and resets PD4–PD15, or escalates. -/
  | safeStateRestart (dt : Nat)
  /-- SAF_RESTART_DONE (R477): The runtime serves the dictionary again and EVT_SAF_RESTART_DONE is raised. -/
  | safRestartDone (dt : Nat)
  /-- SAF_RESTART_TIMEOUT (R479): A restart not complete 150 ms after its trigger escalates to STO. -/
  | safRestartTimeout (dt : Nat)
  /-- SAF_DISARM (R481): A write to 0x2A10:02 clears armed bits, and an empty mask drives STO_N low. -/
  | safDisarm (dt : Nat)
  /-- SAF_STO_READBACK (R483): A pad level that differs from the driven STO_N level for 1 µs applies STO and sets RB_FAIL. -/
  | safStoReadback (dt : Nat) (pad : Bool)
  /-- SS1_REQUEST (R484): An SS1 request forces feed 0, disables torque-mode axes and starts the SS1 timer. -/
  | ss1Request (dt : Nat) (gpio : Option (Fin 32))
  /-- SS1_EXPIRE (R484): The expiry of the SS1 timer applies STO with cause bit 5. -/
  | ss1Expire (dt : Nat)
  /-- WDG_KICK (R486): A write to SAF_WDG_KICK is a valid kick or counts as a bad kick. -/
  | wdgKick (dt : Nat) (v : BitVec 16)
  /-- WDG_WINDOW_END (R486): A watchdog window that ends without a valid kick raises EVT_SAF_WDG_EXPIRED and applies its reaction. -/
  | wdgWindowEnd (dt : Nat)
  /-- ISLAND_FAULT (R487): A lock-step mismatch, an island watchdog expiry or an uncorrectable island SRAM error causes a warm reset. -/
  | islandFault (dt : Nat) (kind : Fin 4)
  /-- SAF_CLAMP_CRC_CHECK (R488): Every 10 ms, and after a commit, the Safety Island compares the Clamp CRCs and recommits on a mismatch. -/
  | safClampCrcCheck (dt : Nat) (l : List Machine.ClpUpset)
  /-- SPM_INIT_DONE (R212): The zero-fill that a write of SPM_INIT started completes after 1,024 TCLK, and the SPM_INIT bit reads 0 again. -/
  | spmInitDone (dt : Nat) (c : Fin 8)
  /-- BOOT_MB_CHUNK_COPIED (R469): The copy of a boot-mailbox chunk completes, MB_GO reads 0 and PHASE advances or fails. -/
  | bootMbChunkCopied (dt : Nat)
  /-- HEARTBEAT_PRODUCER_TIMER (R340): The producer heartbeat time of 0x1017 expires and the node sends its heartbeat with its NMT state byte. -/
  | heartbeatProducerTimer (dt : Nat)
  /-- PCIE_LINK_UP (R392): The PCIe link completes training and EVT_PCI_LINK_UP is raised with speed and width. -/
  | pcieLinkUp (dt : Nat) (speed : BitVec 3) (width : BitVec 3)
  /-- PERST_N_RELEASE (R391): The release of PERST_N ends the conventional reset of the function; configuration requests get Retry Status until READY, and the 1.0 s READY fallback counts from this edge. -/
  | perstNRelease (dt : Nat)
  /-- PCIE_PME_TURN_OFF (R395): The host's PME_Turn_Off takes the link to L2, after which PD17 may be switched off and a rest state requested. -/
  | pciePmeTurnOff (dt : Nat)
  /-- PCIE_FLR_COMPLETE (R393): A function-level reset completes within 100 ms, and BAR accesses are served again. -/
  | pcieFlrComplete (dt : Nat)
  /-- FAN_SPINUP_RETRY (R457): 5 s after the previous start, a fan that failed spin-up starts a new attempt at D = 255 and FAN_STAT.RETRY increments. -/
  | fanSpinupRetry (dt : Nat) (f : Fin 2)
  /-- BOOT_DOWEL_RETRY (R471): Every 1 s in HELD after a Dowel boot failure, the ROM tries the Dowel boot source again. -/
  | bootDowelRetry (dt : Nat)
  /-- VDD_AO_VALID (R498): VDD_AO becomes valid, the Veneer comes up and drives PWR_HOLD and MAIN_EN high within 200 µs. -/
  | vddAoValid (dt : Nat)
deriving DecidableEq, Repr

end Sys2Proof
end

