-- ==== Sys2Proof/Config.lean ====
section
/-! DEFINITION. What the spec leaves open: each constant has no body, so no proof can see a value of it. `free k` is the
k-th free value a run takes (DESIGN CHOICE, log entry 3). -/

namespace Sys2Proof.Config

/-- A free word: a value that the spec does not state. -/
opaque free : Nat → BitVec 32

/-- Free values by draw and position: the bytes or words of one draw (DESIGN CHOICE, log entry 3). -/
opaque freeAt : Nat → Nat → BitVec 32

/-- The word that an fp32 compare of the vector unit writes for false and for true (DESIGN CHOICE, log entry 3). -/
opaque cmpWord : Bool → BitVec 32

/-- The transcendental functions of the vector unit: function number (in the order of Table TEN-5) and fp32 operand, as
`mol_vfn_ref` gives them (R169; DESIGN CHOICE, log entry 3). -/
opaque vfn : Nat → BitVec 32 → BitVec 32

/-- Does AFFINE of a PPU round once (true), or after the product and after the sum (DESIGN CHOICE, log entry 3)? -/
opaque affineFused : Bool

/-- The ordering code in the fuses (0x2000:01): true for TRN-4200-XB (DESIGN CHOICE, log entry 3). -/
opaque orderXb : Bool

/-- The serial number in OTP (0x2000:03; DESIGN CHOICE, log entry 3). -/
opaque serial : BitVec 64

/-- The operator-library version (0x2000:05), the Dowel protocol version (0x2000:06) and the feature mask (Table ASM-3) of the
runtime that runs (DESIGN CHOICE, log entry 3). -/
opaque libVersion : BitVec 24
opaque dowelVersion : BitVec 16
opaque features : BitVec 32

/-- The MAC addresses held in OTP (R468; DESIGN CHOICE, log entry 3). -/
opaque otpMac : Nat → BitVec 48

end Sys2Proof.Config
end

