-- ==== Sys2Proof/Machine/Bits.lean ====
section
/-! DEFINITION. Bit-field, sign-extension, rounding and byte-order helpers. -/

namespace Sys2Proof.Machine

/-- Two's-complement reading of the low `w` bits. -/
def signed (w n : Nat) : Int :=
  let m := n % 2 ^ w
  if m < 2 ^ (w - 1) then m else (m : Int) - 2 ^ w

/-- The low `w` bits of an integer. -/
def unsigned (w : Nat) (x : Int) : Nat := (x % (2 ^ w : Int)).toNat

/-- int32 reading of a register field. -/
def s32 (n : Nat) : Int := signed 32 n

/-- Register field of an int32. -/
def u32 (x : Int) : Nat := unsigned 32 x

/-- Wrap to int32. -/
def wrap32 (x : Int) : Int := s32 (u32 x)

/-- Division by a positive number, rounded to nearest, ties to even (R62). -/
def rne (a : Int) (d : Nat) : Int :=
  let q := a / (d : Int)
  let r := a % (d : Int)
  if 2 * r < d then q else if (d : Int) < 2 * r then q + 1 else if q % 2 = 0 then q else q + 1

/-- Bits `lo` to `lo + w - 1`. -/
def bitsOf (n lo w : Nat) : Nat := n / 2 ^ lo % 2 ^ w

/-- Bit `k`. -/
def bitOf (n k : Nat) : Bool := n / 2 ^ k % 2 == 1

/-- Set or clear bit `k`. -/
def setBit (n k : Nat) (b : Bool) : Nat :=
  if bitOf n k = b then n else if b then n + 2 ^ k else n - 2 ^ k

/-- 1 for true. -/
def b2n (b : Bool) : Nat := if b then 1 else 0

/-- Add, saturating at the largest value of `w` bits. -/
def satAdd (w a b : Nat) : Nat := min (a + b) (2 ^ w - 1)

/-- Bytes of a number, little-endian. -/
def leBytes : Nat → Nat → List Byte
  | 0, _ => []
  | k + 1, n => BitVec.ofNat 8 n :: leBytes k (n / 256)

/-- The number that little-endian bytes spell. -/
def leNat : List Byte → Nat
  | [] => 0
  | b :: t => b.toNat + 256 * leNat t

/-- Bytes of a number, big-endian. -/
def beBytes (k n : Nat) : List Byte := (leBytes k n).reverse

/-- The number that big-endian bytes spell. -/
def beNat (l : List Byte) : Nat := leNat l.reverse

/-- ceil(a / b). -/
def ceilDiv (a b : Nat) : Nat := (a + b - 1) / b

/-- The instances of a fixed range in which `p` holds. -/
def whichOf (n : Nat) (p : Nat → Bool) : List Nat := (List.range n).filter p

/-- Fold an update over instances 0 to n − 1. -/
def foldN {σ : Type} (n : Nat) (f : Nat → σ → σ) (s : σ) : σ := (List.range n).foldl (fun s k => f k s) s

end Sys2Proof.Machine
end

