-- ==== Sys2Proof/Machine/CeMath.lean ====
section
/-! DEFINITION. The arithmetic of the control engine (R62, R63, Table CE-1). A Q1.31 word is the Int of its raw value. -/

namespace Sys2Proof.Machine

/-- Clamp to the Q1.31 range. -/
def satQ (x : Int) : Int := if x < -2147483648 then -2147483648 else if 2147483647 < x then 2147483647 else x

/-- a +sat b. -/
def addS (a b : Int) : Int := satQ (a + b)
/-- a −sat b. -/
def subS (a b : Int) : Int := satQ (a - b)
/-- −sat a. -/
def negS (a : Int) : Int := satQ (-a)
/-- a +wrap b. -/
def addW (a b : Int) : Int := wrap32 (a + b)

/-- mul(a, b, SH): exact product, shifted, rounded once, saturated. -/
def mulQ (a b : Int) (sh : Nat) : Int := satQ (rne (a * b * 2 ^ sh) 2147483648)

/-- fmul(f, x) for an unsigned factor f of R63. -/
def fmulQ (f : Nat) (x : Int) : Int := if f = 2147483648 then x else satQ (rne (f * x) 2147483648)

/-- imul(c, k, SH). -/
def imulQ (c k : Int) (sh : Nat) : Int := satQ (c * k * 2 ^ sh)

/-- The unsigned factor of a Q1.31 value (R63). -/
def factorOf (x : Int) : Nat := if x ≤ 0 then 0 else if x = 0x7FFFFFFF then 2147483648 else x.toNat

/-- s_j for j = 0 to 31. -/
def sinPart0 : List Int :=
  [0, 13176712, 26352928, 39528151, 52701887, 65873638, 79042909, 92209205, 105372028, 118530885, 131685278,
   144834714, 157978697, 171116733, 184248325, 197372981, 210490206, 223599506, 236700388, 249792358, 262874923,
   275947592, 289009871, 302061269, 315101295, 328129457, 341145265, 354148230, 367137861, 380113669, 393075166,
   406021865]

/-- s_j for j = 32 to 63. -/
def sinPart1 : List Int :=
  [418953276, 431868915, 444768294, 457650927, 470516330, 483364019, 496193509, 509004318, 521795963, 534567963,
   547319836, 560051104, 572761285, 585449903, 598116479, 610760536, 623381598, 635979190, 648552838, 661102068,
   673626408, 686125387, 698598533, 711045377, 723465451, 735858287, 748223418, 760560380, 772868706, 785147934,
   797397602, 809617249]

/-- s_j for j = 64 to 95. -/
def sinPart2 : List Int :=
  [821806413, 833964638, 846091463, 858186435, 870249095, 882278992, 894275671, 906238681, 918167572, 930061894,
   941921200, 953745043, 965532978, 977284562, 988999351, 1000676905, 1012316784, 1023918550, 1035481766,
   1047005996, 1058490808, 1069935768, 1081340445, 1092704411, 1104027237, 1115308496, 1126547765, 1137744621,
   1148898640, 1160009405, 1171076495, 1182099496]

/-- s_j for j = 96 to 127. -/
def sinPart3 : List Int :=
  [1193077991, 1204011567, 1214899813, 1225742318, 1236538675, 1247288478, 1257991320, 1268646800, 1279254516,
   1289814068, 1300325060, 1310787095, 1321199781, 1331562723, 1341875533, 1352137822, 1362349204, 1372509294,
   1382617710, 1392674072, 1402678000, 1412629117, 1422527051, 1432371426, 1442161874, 1451898025, 1461579514,
   1471205974, 1480777044, 1490292364, 1499751576, 1509154322]

/-- s_j for j = 128 to 159. -/
def sinPart4 : List Int :=
  [1518500250, 1527789007, 1537020244, 1546193612, 1555308768, 1564365367, 1573363068, 1582301533, 1591180426,
   1599999411, 1608758157, 1617456335, 1626093616, 1634669676, 1643184191, 1651636841, 1660027308, 1668355276,
   1676620432, 1684822463, 1692961062, 1701035922, 1709046739, 1716993211, 1724875040, 1732691928, 1740443581,
   1748129707, 1755750017, 1763304224, 1770792044, 1778213194]

/-- s_j for j = 160 to 191. -/
def sinPart5 : List Int :=
  [1785567396, 1792854372, 1800073849, 1807225553, 1814309216, 1821324572, 1828271356, 1835149306, 1841958164,
   1848697674, 1855367581, 1861967634, 1868497586, 1874957189, 1881346202, 1887664383, 1893911494, 1900087301,
   1906191570, 1912224073, 1918184581, 1924072871, 1929888720, 1935631910, 1941302225, 1946899451, 1952423377,
   1957873796, 1963250501, 1968553292, 1973781967, 1978936331]

/-- s_j for j = 192 to 223. -/
def sinPart6 : List Int :=
  [1984016189, 1989021350, 1993951625, 1998806829, 2003586779, 2008291295, 2012920201, 2017473321, 2021950484,
   2026351522, 2030676269, 2034924562, 2039096241, 2043191150, 2047209133, 2051150040, 2055013723, 2058800036,
   2062508835, 2066139983, 2069693342, 2073168777, 2076566160, 2079885360, 2083126254, 2086288720, 2089372638,
   2092377892, 2095304370, 2098151960, 2100920556, 2103610054]

/-- s_j for j = 224 to 255. -/
def sinPart7 : List Int :=
  [2106220352, 2108751352, 2111202959, 2113575080, 2115867626, 2118080511, 2120213651, 2122266967, 2124240380,
   2126133817, 2127947206, 2129680480, 2131333572, 2132906420, 2134398966, 2135811153, 2137142927, 2138394240,
   2139565043, 2140655293, 2141664948, 2142593971, 2143442326, 2144209982, 2144896910, 2145503083, 2146028480,
   2146473080, 2146836866, 2147119825, 2147321946, 2147443222]

/-- s_j for j = 256 to 256. -/
def sinPart8 : List Int :=
  [2147483647]

/-- s_j for j = 0 to 256, the first quarter turn. -/
def sinQuarter : List Int :=
  sinPart0 ++ sinPart1 ++ sinPart2 ++ sinPart3 ++ sinPart4 ++ sinPart5 ++ sinPart6 ++ sinPart7 ++ sinPart8

/-- s_j of Table CE-1 for any j, by the symmetries of the sine; the table is saturated, so −s is exact. -/
def sinTab (j : Nat) : Int :=
  let k := j % 1024
  if k ≤ 256 then sinQuarter.getD k 0
  else if k ≤ 512 then sinQuarter.getD (512 - k) 0
  else if k ≤ 768 then (if k = 768 then -2147483648 else -(sinQuarter.getD (k - 512) 0))
  else -(sinQuarter.getD (1024 - k) 0)

/-- sin(θ) of a uint32 turn fraction, with linear interpolation and one rounding. -/
def sinQ (th : Nat) : Int :=
  let t := th % 4294967296
  let j := t / 4194304
  let s := sinTab j
  rne (s * 4194304 + (sinTab (j + 1) - s) * (t % 4194304 : Nat)) 4194304

/-- cos(θ) = sin(θ +wrap 0x4000_0000). -/
def cosQ (th : Nat) : Int := sinQ (th + 0x40000000)

/-- The root bits from 2^(k−1) down, each kept while the square does not pass `n`. -/
def isqrtAux (n : Nat) : Nat → Nat → Nat
  | 0, r => r
  | k + 1, r => isqrtAux n k (if (r + 2 ^ k) * (r + 2 ^ k) ≤ n then r + 2 ^ k else r)

/-- floor(sqrt(n)) for n < 2^80. -/
def isqrt (n : Nat) : Nat := isqrtAux n 40 0

/-- floor(sqrt(x² + y²)). -/
def magQ (x y : Int) : Nat := isqrt (x * x + y * y).toNat

/-- x × VLIM / m, rounded. -/
def scaleQ (x vlim : Int) (m : Nat) : Int := rne (x * vlim) m

/-- The constants of R64. -/
def kS3 : Int := 0x49E69D16
def k13 : Int := 0x2AAAAAAB
def kS32 : Int := 0x6ED9EBA1

/-- Clamp between two bounds. -/
def clampI (x lo hi : Int) : Int := if x < lo then lo else if hi < x then hi else x

end Sys2Proof.Machine
end

