-- ==== Sys2Proof/Machine/Num.lean ====
section
/-! DEFINITION. The number formats, exact float arithmetic, rounding and conversion (R155, R156, R161, R164 to R166). Exact
values are rationals, so that every operation computes exactly and rounds once. -/

namespace Sys2Proof.Machine

/-- A datum of a float format: NaN, ±infinity, or a number; `nz`: a zero is −0. -/
inductive Fl where
  | nan
  | inf (neg : Bool)
  | fin (x : Rat) (nz : Bool)
deriving DecidableEq, Repr

def Fl.zero : Fl := .fin 0 false
def Fl.ofInt (n : Int) : Fl := .fin n false

/-- The sign of a datum that is not NaN. -/
def Fl.neg (a : Fl) : Bool :=
  match a with
  | .nan => false
  | .inf n => n
  | .fin x nz => decide (x < 0) || (decide (x = 0) && nz)

def Fl.isNan (a : Fl) : Bool := a == .nan
def Fl.isInf (a : Fl) : Bool :=
  match a with
  | .inf _ => true
  | _ => false
def Fl.isFin (a : Fl) : Bool := !a.isNan && !a.isInf
def Fl.isZero (a : Fl) : Bool :=
  match a with
  | .fin x _ => decide (x = 0)
  | _ => false

/-- −a. -/
def Fl.negate (a : Fl) : Fl :=
  match a with
  | .nan => .nan
  | .inf n => .inf (!n)
  | .fin x nz => .fin (-x) (decide (x = 0) && !nz)

/-- The real value of a number. -/
def Fl.val (a : Fl) : Rat :=
  match a with
  | .fin x _ => x
  | _ => 0

/-- 2^e. -/
def pow2 (e : Int) : Rat := if 0 ≤ e then ((2 ^ e.toNat : Nat) : Rat) else 1 / ((2 ^ (-e).toNat : Nat) : Rat)

/-- |x|. -/
def ratAbs (x : Rat) : Rat := if x < 0 then -x else x

/-- floor(log2 x) for x > 0. -/
def log2Floor (x : Rat) : Int :=
  let l : Int := (Nat.log2 x.num.natAbs : Int) - (Nat.log2 x.den : Int)
  if pow2 (l + 1) ≤ x then l + 1 else if pow2 l ≤ x then l else l - 1

/-! Exact operations with the specials of IEEE 754. -/

/-- The exact product: 0 × infinity is NaN. -/
def Fl.mul (a b : Fl) : Fl :=
  if a.isNan ∨ b.isNan then .nan
  else if a.isInf ∨ b.isInf then (if a.isZero ∨ b.isZero then .nan else .inf (a.neg != b.neg))
  else .fin (a.val * b.val) (decide (a.val * b.val = 0) && (a.neg != b.neg))

/-- The exact sum of a list: infinity − infinity is NaN; an exact zero is +0 unless every addend is −0 (R161). -/
def Fl.sum (l : List Fl) : Fl :=
  let pos := l.any fun a => a == .inf false
  let min := l.any fun a => a == .inf true
  if l.any Fl.isNan ∨ (pos ∧ min) then .nan
  else if pos then .inf false
  else if min then .inf true
  else
    let x := (l.map Fl.val).sum
    .fin x (decide (x = 0) && l.all fun a => a.isZero && a.neg)

def Fl.add (a b : Fl) : Fl := Fl.sum [a, b]
def Fl.sub (a b : Fl) : Fl := Fl.sum [a, b.negate]

/-- The exact quotient. -/
def Fl.div (a b : Fl) : Fl :=
  if a.isNan ∨ b.isNan then .nan
  else if a.isInf then (if b.isInf then .nan else .inf (a.neg != b.neg))
  else if b.isInf then .fin 0 (a.neg != b.neg)
  else if b.isZero then (if a.isZero then .nan else .inf (a.neg != b.neg))
  else .fin (a.val / b.val) (decide (a.val = 0) && (a.neg != b.neg))

/-! Rounding (R164). -/

/-- Round a magnitude to an integer: ties to even, or against the generator value r. -/
def roundMag (t : Rat) (r : Option Nat) : Nat :=
  let f := t.floor.toNat
  let frac := t - (f : Rat)
  match r with
  | some r => if (r : Int) < (frac * 65536).floor then f + 1 else f
  | none => if frac < 1 / 2 then f else if 1 / 2 < frac then f + 1 else if f % 2 = 0 then f else f + 1

/-- Round a number to an integer. -/
def roundInt (x : Rat) (r : Option Nat) : Int :=
  if x < 0 then -(roundMag (-x) r : Int) else (roundMag x r : Int)

/-- A float format: exponent bits, mantissa bits, bias; whether the top exponent is reserved for infinity and NaN; the
largest finite magnitude. -/
structure FFmt where
  e : Nat
  m : Nat
  bias : Int
  ieee : Bool
  big : Rat
deriving DecidableEq, Repr

/-- An IEEE-style format. -/
def FFmt.ofIeee (e m : Nat) (bias : Int) : FFmt :=
  ⟨e, m, bias, true, (((2 ^ (m + 1) - 1 : Nat)) : Rat) * pow2 ((2 ^ e - 2 : Nat) - bias - m)⟩

def fmtE4M3 : FFmt := ⟨4, 3, 7, false, 448⟩
def fmtE5M2 : FFmt := .ofIeee 5 2 15
def fmtF16 : FFmt := .ofIeee 5 10 15
def fmtBf16 : FFmt := .ofIeee 8 7 127
def fmtF19 : FFmt := .ofIeee 8 10 127
def fmtF32 : FFmt := .ofIeee 8 23 127
def fmtE2M1 : FFmt := ⟨2, 1, 1, false, 6⟩

/-- Exponent of the smallest step. -/
def FFmt.qmin (f : FFmt) : Int := 1 - f.bias - f.m

/-- The code of n × 2^q with the sign given, for n < 2^(m+1), q ≥ qmin, and n ≥ 2^m unless q = qmin. -/
def FFmt.encode (f : FFmt) (neg : Bool) (n : Nat) (q : Int) : Nat :=
  let sign := b2n neg * 2 ^ (f.e + f.m)
  if n < 2 ^ f.m then sign + n else sign + (q - f.qmin + 1).toNat * 2 ^ f.m + (n - 2 ^ f.m)

/-- Value of a code that is a number. -/
def FFmt.number (f : FFmt) (b : Nat) : Fl :=
  let neg := bitOf b (f.e + f.m)
  let x := bitsOf b f.m f.e
  let n := bitsOf b 0 f.m
  let v := if x = 0 then (n : Rat) * pow2 f.qmin else ((n + 2 ^ f.m : Nat) : Rat) * pow2 (f.qmin + x - 1)
  .fin (if neg then -v else v) (decide (v = 0) && neg)

/-- Decode a code. -/
def FFmt.decode (f : FFmt) (b : Nat) : Fl :=
  let x := bitsOf b f.m f.e
  let n := bitsOf b 0 f.m
  if f.ieee ∧ x = 2 ^ f.e - 1 then (if n = 0 then .inf (bitOf b (f.e + f.m)) else .nan)
  else if f = fmtE4M3 ∧ x = 15 ∧ n = 7 then .nan
  else f.number b

/-- The code of the largest finite magnitude. -/
def FFmt.maxCode (f : FFmt) (neg : Bool) : Nat :=
  b2n neg * 2 ^ (f.e + f.m) + (if f.ieee then (2 ^ f.e - 2) * 2 ^ f.m + (2 ^ f.m - 1)
    else if f = fmtE4M3 then 0x7E else 7)

def FFmt.infCode (f : FFmt) (neg : Bool) : Nat := b2n neg * 2 ^ (f.e + f.m) + (2 ^ f.e - 1) * 2 ^ f.m

/-- The canonical NaN (Table TEN-4). -/
def FFmt.nanCode (f : FFmt) : Nat :=
  if f.ieee then (2 ^ f.e - 1) * 2 ^ f.m + 2 ^ (f.m - 1) else 0x7F

/-- Numeric conditions of one element (R165, R166). -/
structure NumFlags where
  nan : Bool
  inf : Bool
  sat : Bool
  n2i : Bool
  blk : Bool
deriving DecidableEq, Repr

def NumFlags.none : NumFlags := ⟨false, false, false, false, false⟩
def NumFlags.or (a b : NumFlags) : NumFlags :=
  ⟨a.nan || b.nan, a.inf || b.inf, a.sat || b.sat, a.n2i || b.n2i, a.blk || b.blk⟩

/-- Round a datum to a float format: code and conditions (R164, R165). `satf`: saturate overflow. -/
def FFmt.round (f : FFmt) (r : Option Nat) (satf : Bool) (a : Fl) : Nat × NumFlags :=
  match a with
  | .nan => (f.nanCode, .none)
  | .inf neg =>
    if f.ieee then (f.infCode neg, .none)
    else if satf then (f.maxCode neg, { NumFlags.none with sat := true })
    else (f.nanCode, { NumFlags.none with nan := true })
  | .fin x nz =>
    if x = 0 then (f.encode nz 0 f.qmin, .none)
    else
      let m := ratAbs x
      let neg := decide (x < 0)
      let q := max (log2Floor m - f.m) f.qmin
      let n := roundMag (m / pow2 q) r
      if f.big < (n : Rat) * pow2 q then
        if satf then (f.maxCode neg, { NumFlags.none with sat := true })
        else if f.ieee then (f.infCode neg, { NumFlags.none with inf := true })
        else (f.nanCode, { NumFlags.none with nan := true })
      else if n = 2 ^ (f.m + 1) then (f.encode neg (2 ^ f.m) (q + 1), .none)
      else (f.encode neg n q, .none)

/-! The format codes (Table TEN-1). -/

/-- The float format of a code of class F that has elements of its own. -/
def fmtOf (c : Nat) : Option FFmt :=
  match c with
  | 8 => some fmtE4M3
  | 9 => some fmtE5M2
  | 10 => some fmtF16
  | 11 => some fmtBf16
  | 12 => some fmtF19
  | 13 => some fmtF32
  | _ => none

/-- An integer or Q code: least and largest raw value, and fraction bits. -/
def intRange (c : Nat) : Option (Int × Int × Nat) :=
  match c with
  | 0 => some (-8, 7, 0)
  | 1 => some (0, 15, 0)
  | 2 => some (-128, 127, 0)
  | 3 => some (0, 255, 0)
  | 4 => some (-32768, 32767, 0)
  | 5 => some (-2147483648, 2147483647, 0)
  | 6 => some (-32768, 32767, 15)
  | 7 => some (-2147483648, 2147483647, 31)
  | _ => none

/-- Bits of a stored element. -/
def eltBits (c : Nat) : Nat :=
  match c with
  | 0 => 4
  | 1 => 4
  | 4 => 16
  | 5 => 32
  | 6 => 16
  | 7 => 32
  | 10 => 16
  | 11 => 16
  | 12 => 32
  | 13 => 32
  | 15 => 4
  | _ => 8

/-- Classes of Table TEN-1. -/
def classI (c : Nat) : Bool := [0, 1, 2, 3, 4, 6].contains c
def classF (c : Nat) : Bool := 8 ≤ c && c ≤ 15

/-- Raw value of an integer or Q element. -/
def rawInt (c b : Nat) : Int := if c = 1 ∨ c = 3 then b else signed (eltBits c) b

/-- Decode an element of a code without a block; an fp19 element lies in bits [31:13]. -/
def decodeElt (c b : Nat) : Fl :=
  match fmtOf c with
  | some f => f.decode (if c = 12 then b / 8192 else b)
  | none =>
    match intRange c with
    | some (_, _, s) => .fin ((rawInt c b : Rat) / ((2 ^ s : Nat) : Rat)) false
    | none => .nan

/-- Decode an element of a block format with its exponent or scale byte (R156). -/
def decodeBlk (c b e : Nat) : Fl :=
  if e = 255 then .nan
  else if c = 14 then .fin ((signed 8 b : Rat) * pow2 ((e : Int) - 133)) false
  else
    match fmtE2M1.number b with
    | .fin x _ => .fin (x * pow2 ((e : Int) - 127)) false
    | a => a

/-- Clamp to a range, and whether that changed the value. -/
def satRange (lo hi x : Int) : Int × Bool := if x < lo then (lo, true) else if hi < x then (hi, true) else (x, false)

/-- Convert a datum to a format code that has no block (R165): stored bits and conditions. -/
def convElt (c : Nat) (r : Option Nat) (satf : Bool) (a : Fl) : Nat × NumFlags :=
  match fmtOf c with
  | some f =>
    let (b, fl) := f.round r satf a
    (if c = 12 then b * 8192 else b, fl)
  | none =>
    match intRange c with
    | none => (0, .none)
    | some (lo, hi, s) =>
      match a with
      | .nan => (0, { NumFlags.none with n2i := true })
      | .inf neg => (unsigned (eltBits c) (if neg then lo else hi), { NumFlags.none with sat := true })
      | .fin x _ =>
        let (n, sat) := satRange lo hi (roundInt (x * ((2 ^ s : Nat) : Rat)) r)
        (unsigned (eltBits c) n, { NumFlags.none with sat := sat })

/-- One fp32 operation on an exact result: code and conditions; INF and NAN as R165 says, for operands that are numbers. -/
def f32Of (a : Fl) : Nat := (fmtF32.round none false a).1

/-- The datum of an fp32 word. -/
def f32 (b : Nat) : Fl := fmtF32.decode b

/-- Round an exact result to fp32, as a datum. -/
def rnd32 (a : Fl) : Fl := f32 (f32Of a)

/-- The square root, correctly rounded to fp32, as a datum. -/
def sqrt32 (a : Fl) : Fl :=
  match a with
  | .nan => .nan
  | .inf neg => if neg then .nan else .inf false
  | .fin x nz =>
    if x = 0 then .fin 0 nz
    else if x < 0 then .nan
    else
      let e := log2Floor x / 2
      let q := e - 26
      let t := x / pow2 (2 * q)
      let n := Nat.sqrt t.floor.toNat
      let exact := decide ((n : Rat) * (n : Rat) = t)
      rnd32 (.fin (((2 * n + b2n (!exact) : Nat) : Rat) * pow2 (q - 1)) false)

/-! Block formats (R166). -/

/-- The largest magnitude of the numbers of a block. -/
def blockMax (l : List Fl) : Rat := l.foldl (fun m a => if m < ratAbs a.val then ratAbs a.val else m) 0

/-- A value clamped to a range of integers. -/
def clampTo (lo hi x : Int) : Int := if x < lo then lo else if hi < x then hi else x

/-- Write a block in bfp8 (14) or MX-fp4 (15): the exponent or scale byte, the element codes, and the conditions by element.
`r k`: the generator value for element k. -/
def writeBlock (c : Nat) (r : Nat → Option Nat) (l : List Fl) : Nat × List (Nat × NumFlags) :=
  if l.any fun a => a.isNan || a.isInf then
    (255, (List.range l.length).map fun k => (0, if k = 0 then { NumFlags.none with blk := true } else .none))
  else
    let a := blockMax l
    if c = 14 then
      let e := if a = 0 then 0 else (clampTo 0 254 (log2Floor a + 127)).toNat
      (e, (List.range l.length).map fun k =>
        let x := (l.getD k .zero).val
        (unsigned 8 (clampTo (-127) 127 (roundInt (x * pow2 (133 - (e : Int))) (r k))), NumFlags.none))
    else
      let s := if a = 0 then 0 else (clampTo 0 254 (log2Floor a - 2 + 127)).toNat
      (s, (List.range l.length).map fun k =>
        let d := l.getD k .zero
        let y : Fl := .fin (d.val / pow2 ((s : Int) - 127)) d.neg
        let over6 := decide (6 < ratAbs y.val)
        let b := (fmtE2M1.round (r k) true y).1
        (b, { NumFlags.none with sat := over6 && decide (ratAbs d.val < a) }))

/-- One step of the 32-bit Galois generator (R164). -/
def srStep (st : Nat) : Nat := if st % 2 = 1 then (st / 2) ^^^ 0x80200003 else st / 2

end Sys2Proof.Machine
end

