-- ==== Sys2Proof/Machine/Vfn.lean ====
section
/-! DEFINITION. The transcendental functions of the vector unit (R168, R169). The spec bounds the error of a result by 2 ulp and
names a library as what gives it; so a lane is one of the fp32 words within the bound, and which of them it is stays open
(`Config.vfn`, log entry 3). Exact values are computed here in fixed point with 100 fraction bits, far finer than an ulp. -/

namespace Sys2Proof.Machine

/-- 2^100, and ln 2 in that scale. -/
def vOne : Nat := 2 ^ 100
def vLn2 : Int := 878668439483319573618263538048

/-- A number in fixed point, rounded down. -/
def toFix (x : Rat) : Int := (x * (vOne : Rat)).floor

/-- e^r for 0 ≤ r < 1, in fixed point: 34 terms of the series. -/
def expFix (r : Int) : Int :=
  ((List.range 34).foldl (fun (a : Int × Int) k => let t := a.2 * r / ((vOne * (k + 1) : Nat) : Int); (a.1 + t, t))
    ((vOne : Int), (vOne : Int))).1

/-- e^x for a moderate x. -/
def expRat (x : Rat) : Rat :=
  let k := toFix x / vLn2
  (expFix (toFix x - k * vLn2) : Rat) * pow2 (k - 100)

/-- 2^x for a moderate x. -/
def exp2Rat (x : Rat) : Rat :=
  let k := x.floor
  (expFix (toFix (x - (k : Rat)) * vLn2 / (vOne : Int)) : Rat) * pow2 (k - 100)

/-- ln m for 1 ≤ m < 2, in fixed point: 36 terms of 2 artanh((m − 1) / (m + 1)). -/
def lnFix (m : Rat) : Int :=
  let z := toFix ((m - 1) / (m + 1))
  let z2 := z * z / (vOne : Int)
  2 * ((List.range 36).foldl (fun (a : Int × Int) k => (a.1 + a.2 / ((2 * k + 1 : Nat) : Int), a.2 * z2 / (vOne : Int))) (0, z)).1

/-- log2 x for x > 0. -/
def log2Rat (x : Rat) : Rat :=
  let e := log2Floor x
  (e : Rat) + (lnFix (x / pow2 e) : Rat) / (vLn2 : Rat)

/-- 1 / sqrt x for x > 0. -/
def rsqrtRat (x : Rat) : Rat :=
  let t := 1 / x
  let e := log2Floor t / 2
  (Nat.sqrt (t * pow2 (2 * (80 - e))).floor.toNat : Rat) * pow2 (e - 80)

/-- tanh x: near 0 by its series, far out at a bound that fp32 does not tell from 1. -/
def tanhRat (x : Rat) : Rat :=
  let a := ratAbs x
  let y :=
    if a < pow2 (-15) then a - a * a * a / 3 + 2 * a * a * a * a * a / 15
    else
      let e := expRat (2 * (if 64 < a then 64 else a))
      (e - 1) / (e + 1)
  if x < 0 then -y else y

/-- 1 / (1 + e^−x); below −200 the value lies below every fp32 number. -/
def sigmoidRat (x : Rat) : Rat :=
  let e := expRat (if x < -200 then -200 else if 200 < x then -200 else -ratAbs x)
  if x < 0 then e / (1 + e) else 1 / (1 + e)

/-- The value of function `f` (in the order of Table TEN-5) at a number; none where it has none. -/
def vfnValue (f : Nat) (x : Rat) : Option Rat :=
  match f with
  | 0 => if x = 0 then none else some (1 / x)
  | 1 => if x ≤ 0 then none else some (rsqrtRat x)
  | 2 => if 129 < x then none else some (exp2Rat (if x < -300 then -300 else x))
  | 3 => if x ≤ 0 then none else some (log2Rat x)
  | 4 => if 90 < x then none else some (expRat (if x < -200 then -200 else x))
  | 5 => some (tanhRat x)
  | _ => some (sigmoidRat x)

/-- One ulp of fp32 at a value. -/
def ulp32 (y : Rat) : Rat := if y = 0 then pow2 (-149) else pow2 (max (log2Floor (ratAbs y) - 23) (-149))

/-- The fp32 word at a place in the order of the numbers: 0 for +0, k for the k-th number above it, −k for the k-th below. -/
def wordAt (k : Int) : Nat := if k < 0 then 0x80000000 + k.natAbs else k.toNat

/-- The fp32 words within 2 ulp of a value. -/
def within2 (y : Rat) : List Nat :=
  let n := (fmtF32.round none false (.fin y false)).1
  let p : Int := if n < 0x80000000 then n else -((n - 0x80000000 : Nat) : Int)
  ((List.range 9).map fun j => wordAt (p + (j : Int) - 4)).filter fun b =>
    (f32 b).isFin && decide (ratAbs ((f32 b).val - y) ≤ 2 * ulp32 y)

/-- A lane of a transcendental function: a word within the bound; at an operand for which the function has no value, or none that
fp32 holds, an open word. -/
def vfnWord (f a : Nat) : Nat :=
  let k := (Config.vfn f (BitVec.ofNat 32 a)).toNat
  match f32 a with
  | .fin x _ =>
    match vfnValue f x with
    | some y => if fmtF32.big < ratAbs y then k else (within2 y).getD (k % (within2 y).length) k
    | none => k
  | _ => k

end Sys2Proof.Machine
end

