-- ==== Sys2Proof/Machine/Crypto.lean ====
section
/-! DEFINITION. The cryptographic functions that the spec names: SHA-256 (FIPS 180-4) and AES-128-CMAC (SP 800-38B),
AES-256-CTR (SP 800-38A) and the check of an ECDSA P-256 signature (FIPS 186-4). Words and bytes are Nat. -/

namespace Sys2Proof.Machine

/-! SHA-256. -/

def shaK : List Nat :=
  [0x428a2f98, 0x71374491, 0xb5c0fbcf, 0xe9b5dba5, 0x3956c25b, 0x59f111f1, 0x923f82a4, 0xab1c5ed5] ++
  [0xd807aa98, 0x12835b01, 0x243185be, 0x550c7dc3, 0x72be5d74, 0x80deb1fe, 0x9bdc06a7, 0xc19bf174] ++
  [0xe49b69c1, 0xefbe4786, 0x0fc19dc6, 0x240ca1cc, 0x2de92c6f, 0x4a7484aa, 0x5cb0a9dc, 0x76f988da] ++
  [0x983e5152, 0xa831c66d, 0xb00327c8, 0xbf597fc7, 0xc6e00bf3, 0xd5a79147, 0x06ca6351, 0x14292967] ++
  [0x27b70a85, 0x2e1b2138, 0x4d2c6dfc, 0x53380d13, 0x650a7354, 0x766a0abb, 0x81c2c92e, 0x92722c85] ++
  [0xa2bfe8a1, 0xa81a664b, 0xc24b8b70, 0xc76c51a3, 0xd192e819, 0xd6990624, 0xf40e3585, 0x106aa070] ++
  [0x19a4c116, 0x1e376c08, 0x2748774c, 0x34b0bcb5, 0x391c0cb3, 0x4ed8aa4a, 0x5b9cca4f, 0x682e6ff3] ++
  [0x748f82ee, 0x78a5636f, 0x84c87814, 0x8cc70208, 0x90befffa, 0xa4506ceb, 0xbef9a3f7, 0xc67178f2]

def shaInit : List Nat :=
  [0x6a09e667, 0xbb67ae85, 0x3c6ef372, 0xa54ff53a, 0x510e527f, 0x9b05688c, 0x1f83d9ab, 0x5be0cd19]

/-- Rotate a 32-bit word right. -/
def ror32 (x n : Nat) : Nat := x / 2 ^ n + x % 2 ^ n * 2 ^ (32 - n)

/-- Sum modulo 2^32. -/
def add32 (l : List Nat) : Nat := l.sum % 4294967296

/-- Extend a message schedule, newest word first, by `n` words. -/
def shaSchedule : Nat → List Nat → List Nat
  | 0, w => w
  | n + 1, w =>
    let a := w.getD 14 0
    let b := w.getD 1 0
    let s0 := ror32 a 7 ^^^ ror32 a 18 ^^^ (a / 8)
    let s1 := ror32 b 17 ^^^ ror32 b 19 ^^^ (b / 1024)
    shaSchedule n (add32 [w.getD 15 0, s0, w.getD 6 0, s1] :: w)

/-- One round on the eight working words. -/
def shaRound (v : List Nat) (kw : Nat × Nat) : List Nat :=
  match v with
  | [a, b, c, d, e, f, g, h] =>
    let s1 := ror32 e 6 ^^^ ror32 e 11 ^^^ ror32 e 25
    let ch := (e &&& f) ^^^ ((4294967295 - e) &&& g)
    let t1 := add32 [h, s1, ch, kw.1, kw.2]
    let s0 := ror32 a 2 ^^^ ror32 a 13 ^^^ ror32 a 22
    let mj := (a &&& b) ^^^ (a &&& c) ^^^ (b &&& c)
    [add32 [t1, s0, mj], a, b, c, add32 [d, t1], e, f, g]
  | v => v

/-- One block of 16 words. -/
def shaBlock (h w : List Nat) : List Nat :=
  let ws := (shaSchedule 48 w.reverse).reverse
  let v := (shaK.zip ws).foldl shaRound h
  (h.zip v).map fun p => add32 [p.1, p.2]

/-- Big-endian words of bytes. -/
def shaWords : Nat → List Byte → List Nat
  | 0, _ => []
  | n + 1, l => beNat (l.take 4) :: shaWords n (l.drop 4)

/-- The blocks of a padded message. -/
def shaBlocks : Nat → List Byte → List Nat → List Nat
  | 0, _, h => h
  | n + 1, l, h => shaBlocks n (l.drop 64) (shaBlock h (shaWords 16 (l.take 64)))

/-- SHA-256 of bytes: 32 bytes. -/
def sha256 (l : List Byte) : List Byte :=
  let pad := (119 - l.length % 64) % 64
  let m := l ++ [0x80] ++ List.replicate pad 0 ++ beBytes 8 (8 * l.length)
  (shaBlocks (m.length / 64) m shaInit).flatMap (beBytes 4)

/-! AES-128-CMAC. -/

/-- Multiply by x in GF(2^8). -/
def gfX (a : Nat) : Nat := if a < 128 then 2 * a else (2 * a - 256) ^^^ 0x1B

/-- Multiply in GF(2^8) over the low `n` bits of b. -/
def gfMulAux : Nat → Nat → Nat → Nat
  | 0, _, _ => 0
  | n + 1, a, b => (if b % 2 = 1 then a else 0) ^^^ gfMulAux n (gfX a) (b / 2)

def gfMul (a b : Nat) : Nat := gfMulAux 8 a b

/-- The product of the squares a^2, a^4, … of `n` doublings in GF(2^8): the inverse a^254 for n = 7. -/
def gfInv : Nat → Nat → Nat
  | 0, _ => 1
  | n + 1, a => gfMul (gfMul a a) (gfInv n (gfMul a a))

/-- Rotate a byte left. -/
def rol8 (x n : Nat) : Nat := x * 2 ^ n % 256 + x / 2 ^ (8 - n)

/-- The S-box: the inverse, and the affine map. -/
def aesSub (x : Nat) : Nat :=
  let i := gfInv 7 x
  i ^^^ rol8 i 1 ^^^ rol8 i 2 ^^^ rol8 i 3 ^^^ rol8 i 4 ^^^ 0x63

/-- Exclusive or of two lists. -/
def xorL (a b : List Nat) : List Nat := (a.zip b).map fun p => p.1 ^^^ p.2

/-- The round keys of 16 bytes, by round. -/
def aesKeys : Nat → Nat → List Nat → List (List Nat)
  | 0, _, k => [k]
  | n + 1, rc, k =>
    let t := [aesSub (k.getD 13 0) ^^^ rc, aesSub (k.getD 14 0), aesSub (k.getD 15 0), aesSub (k.getD 12 0)]
    let a := xorL (k.take 4) t
    let b := xorL ((k.drop 4).take 4) a
    let c := xorL ((k.drop 8).take 4) b
    let d := xorL (k.drop 12) c
    k :: aesKeys n (gfX rc) (a ++ b ++ c ++ d)

/-- Shift the rows of a state held column by column. -/
def aesShift (s : List Nat) : List Nat := (List.range 16).map fun i => s.getD (i % 4 + (i / 4 + i % 4) % 4 * 4) 0

def aesMixCol (c : List Nat) : List Nat :=
  (List.range 4).map fun i =>
    gfX (c.getD i 0) ^^^ (gfX (c.getD ((i + 1) % 4) 0) ^^^ c.getD ((i + 1) % 4) 0) ^^^ c.getD ((i + 2) % 4) 0 ^^^
      c.getD ((i + 3) % 4) 0

def aesMix (s : List Nat) : List Nat := (List.range 4).flatMap fun j => aesMixCol ((s.drop (4 * j)).take 4)

/-- The rounds after the first key; the last has no column mix. -/
def aesRounds : List (List Nat) → List Nat → List Nat
  | [], s => s
  | [k], s => xorL (aesShift (s.map aesSub)) k
  | k :: t, s => aesRounds t (xorL (aesMix (aesShift (s.map aesSub))) k)

/-- AES-128 of one block. -/
def aes128 (key blk : List Nat) : List Nat :=
  match aesKeys 10 1 key with
  | [] => blk
  | k :: t => aesRounds t (xorL blk k)

/-- Double a block in GF(2^128). -/
def cmacDbl (b : List Nat) : List Nat :=
  let n := b.foldl (fun a x => a * 256 + x) 0
  let d := 2 * n % 2 ^ 128 ^^^ (if 2 ^ 127 ≤ n then 0x87 else 0)
  (beBytes 16 d).map BitVec.toNat

/-- The blocks of a CMAC; the last is masked. -/
def cmacGo (key k1 k2 : List Nat) : Nat → List Nat → List Nat → List Nat
  | 0, _, x => x
  | n + 1, m, x =>
    if m.length ≤ 16 then
      let last := if m.length = 16 then xorL m k1 else xorL (m ++ [0x80] ++ List.replicate (15 - m.length) 0) k2
      aes128 key (xorL last x)
    else cmacGo key k1 k2 n (m.drop 16) (aes128 key (xorL (m.take 16) x))

/-- AES-128-CMAC: 16 bytes. -/
def cmac (key m : List Nat) : List Nat :=
  let k1 := cmacDbl (aes128 key (List.replicate 16 0))
  cmacGo key k1 (cmacDbl k1) (m.length / 16 + 1) m (List.replicate 16 0)

/-! AES-256-CTR. -/

/-- The next 16 bytes of a key schedule: the 16 bytes 32 back, and the word before, changed. -/
def aesNext (k t : List Nat) : List Nat :=
  let a := xorL (k.take 4) t
  let b := xorL ((k.drop 4).take 4) a
  let c := xorL ((k.drop 8).take 4) b
  a ++ b ++ c ++ xorL (k.drop 12) c

/-- The round keys of AES-256: two at a time, and the last one. -/
def aes256Keys : Nat → Nat → List Nat → List Nat → List (List Nat)
  | 0, _, a, _ => [a]
  | n + 1, rc, a, b =>
    let a' := aesNext a [aesSub (b.getD 13 0) ^^^ rc, aesSub (b.getD 14 0), aesSub (b.getD 15 0), aesSub (b.getD 12 0)]
    let b' := aesNext b ((a'.drop 12).map aesSub)
    a :: b :: aes256Keys n (gfX rc) a' b'

/-- AES-256 of one block. -/
def aes256 (key blk : List Nat) : List Nat :=
  match aes256Keys 7 1 (key.take 16) (key.drop 16) with
  | [] => blk
  | k :: t => aesRounds t (xorL blk k)

/-- AES-256-CTR from a counter block, counted as a big-endian number. -/
def aesCtr (key : List Nat) : Nat → Nat → List Byte → List Byte
  | 0, _, _ => []
  | n + 1, c, l =>
    let pad := aes256 key ((beBytes 16 c).map BitVec.toNat)
    ((l.take 16).zip pad).map (fun p => p.1 ^^^ BitVec.ofNat 8 p.2) ++ aesCtr key n ((c + 1) % 2 ^ 128) (l.drop 16)

/-! ECDSA over P-256. A point is none (the point at infinity) or its coordinates. -/

def ecP : Nat := 2 ^ 256 - 2 ^ 224 + 2 ^ 192 + 2 ^ 96 - 1
def ecN : Nat := 0xFFFFFFFF00000000FFFFFFFFFFFFFFFFBCE6FAADA7179E84F3B9CAC2FC632551
def ecB : Nat := 0x5AC635D8AA3A93E7B3EBBD55769886BC651D06B0CC53B0F63BCE3C3E27D2604B
def ecG : Nat × Nat :=
  (0x6B17D1F2E12C4247F8BCE6E563A440F277037D812DEB33A0F4A13945D898C296,
   0x4FE342E2FE1A7F9B8EE7EB4A7C0F9E162BCE33576B315ECECBB6406837BF51F5)

/-- a^e modulo m, over the low `k` bits of e. -/
def powMod (m : Nat) : Nat → Nat → Nat → Nat
  | 0, _, _ => 1 % m
  | k + 1, a, e => (if e % 2 = 1 then a else 1) * powMod m k (a * a % m) (e / 2) % m

/-- The inverse modulo a prime. -/
def invMod (m a : Nat) : Nat := powMod m 256 (a % m) (m - 2)

/-- Difference modulo the field prime. -/
def ecSub (a b : Nat) : Nat := (a + ecP - b % ecP) % ecP

/-- The point with a slope through (x1, y1), and the other point's x. -/
def ecThird (m x1 y1 x2 : Nat) : Nat × Nat :=
  let x := ecSub (ecSub (m * m) x1) x2
  (x, ecSub (m * ecSub x1 x) y1)

/-- Add two points. -/
def ecAdd (p q : Option (Nat × Nat)) : Option (Nat × Nat) :=
  match p, q with
  | none, q => q
  | p, none => p
  | some (x1, y1), some (x2, y2) =>
    if x1 ≠ x2 then some (ecThird (ecSub y2 y1 * invMod ecP (ecSub x2 x1) % ecP) x1 y1 x2)
    else if y1 ≠ y2 ∨ y1 = 0 then none
    else some (ecThird (ecSub (3 * x1 * x1) 3 * invMod ecP (2 * y1) % ecP) x1 y1 x1)

/-- k times a point, over the low `n` bits of k. -/
def ecMul : Nat → Nat → Option (Nat × Nat) → Option (Nat × Nat)
  | 0, _, _ => none
  | n + 1, k, p => ecAdd (if k % 2 = 1 then p else none) (ecMul n (k / 2) (ecAdd p p))

/-- Is a pair of coordinates on the curve? -/
def ecOn (x y : Nat) : Bool := x < ecP && y < ecP && y * y % ecP == ecSub (x * x * x + ecB) (3 * x)

/-- Does a signature (r then s) of a message hold under a public key (x then y)? -/
def ecdsaOk (pub sig msg : List Byte) : Bool :=
  let x := beNat (pub.take 32)
  let y := beNat (pub.drop 32)
  let r := beNat (sig.take 32)
  let t := beNat (sig.drop 32)
  let w := invMod ecN t
  let e := beNat (sha256 msg)
  ecOn x y && 0 < r && r < ecN && 0 < t && t < ecN &&
    match ecAdd (ecMul 256 (e * w % ecN) (some ecG)) (ecMul 256 (r * w % ecN) (some (x, y))) with
    | none => false
    | some q => q.1 % ecN == r

end Sys2Proof.Machine
end

