-- ==== Sys2Proof/Machine/Events.lean ====
section
/-! DEFINITION. The events of the part: one constructor per row of the chapters' event tables, and its code (R13). -/

namespace Sys2Proof.Machine

/-- The events, by name. -/
inductive Ev where
  /-- EVT_PST_MITRE_MISS, Safety. ARG: [2:0] axis; [8] 1 if a late commit was discarded. -/
  | pstMitreMiss
  /-- EVT_PST_CE_MISS, Safety. ARG: [2:0] axis. -/
  | pstCeMiss
  /-- EVT_CLK_EPOCH, Info. ARG: 0. -/
  | clkEpoch
  /-- EVT_CLK_LSX_ABSENT, Warning. ARG: 0 at start-up; 1 lost while running. -/
  | clkLsxAbsent
  /-- EVT_CLK_GATED_ACCESS, Warning. ARG: CKG_EN bit number. -/
  | clkGatedAccess
  /-- EVT_CLK_CFG_REJECT, Warning. ARG: Offset of the discarded write. -/
  | clkCfgReject
  /-- EVT_CLK_XO_QUAL_FAIL, Error. ARG: Failed attempts, saturating at 0xFFFF. -/
  | clkXoQualFail
  /-- EVT_CLK_MON_FAULT, Safety. ARG: [0] lock loss; [1] frequency fault. -/
  | clkMonFault
  /-- EVT_CE_SRC_SWITCH, Info. ARG: [2:0] axis; [5:4] new SPSRC. -/
  | ceSrcSwitch
  /-- EVT_CE_CFG_REJECT, Warning. ARG: Offset of the discarded write. -/
  | ceCfgReject
  /-- EVT_CE_GUARD_STALE, Warning. ARG: [3:0] guard; [4] 1 if the stamp lay in the future; [10:8] axis. -/
  | ceGuardStale
  /-- EVT_CE_INTEG_NEAR_WRAP, Safety. ARG: [2:0] axis; [5:4] 0 d, 1 q, 2 speed. -/
  | ceIntegNearWrap
  /-- EVT_MIO_CFG_REJECT, Warning. ARG: Offset of the discarded write. -/
  | mioCfgReject
  /-- EVT_MIO_SD_REPLACED, Warning. ARG: [4:0] channel; [8] 0 out-of-range, 1 clock loss. -/
  | mioSdReplaced
  /-- EVT_MIO_ENC_ERROR, Warning. ARG: [2:0] port; [9:8] 0 quadrature, 1 not ready, 2 parity, 3 late; [10] 0 encoder port, 1 pulse port (R98). -/
  | mioEncError
  /-- EVT_MIO_ESTOP, Safety. ARG: 0. -/
  | mioEstop
  /-- EVT_MIO_TRIP, Safety. ARG: [2:0] axis. -/
  | mioTrip
  /-- EVT_MIO_OVERCURRENT, Safety. ARG: [4:0] channel; [5] 0 above OC_HI, 1 below OC_LO. -/
  | mioOvercurrent
  /-- EVT_MIT_ARMED, Info. ARG: [2:0] slot; [3] 1 armed, 0 disarmed. -/
  | mitArmed
  /-- EVT_MIT_CFG_REJECT, Warning. ARG: Offset of the discarded write or request. -/
  | mitCfgReject
  /-- EVT_MIT_DOUBLE_COMMIT, Warning. ARG: [2:0] slot. -/
  | mitDoubleCommit
  /-- EVT_MIT_SEQ_MISMATCH, Warning. ARG: [2:0] slot. -/
  | mitSeqMismatch
  /-- EVT_MIT_FAULT, Safety. ARG: [2:0] slot; [7:4] CAUSE. -/
  | mitFault
  /-- EVT_CAM_COMMIT_REPLACED, Warning. ARG: [3:0] stream; [15:8] replaced tag. -/
  | camCommitReplaced
  /-- EVT_CAM_LINE_REPLACED, Warning. ARG: [3:0] stream; [7:4] cause. -/
  | camLineReplaced
  /-- EVT_CAM_FRAME_SKIPPED, Warning. ARG: [3:0] stream; [4] NOADDR; [5] Clamp refusal. -/
  | camFrameSkipped
  /-- EVT_CAM_BOUNDARY, Warning. ARG: [3:0] stream; [4] implied FS; [5] implied FE. -/
  | camBoundary
  /-- EVT_CAM_APPLIED_OVF, Warning. ARG: [3:0] stream. -/
  | camAppliedOvf
  /-- EVT_SCQ_LATE, Warning. ARG: [1:0] port; [15:8] epoch. -/
  | scqLate
  /-- EVT_VIB_REPLACED, Warning. ARG: [2:0] s − 40; [8] 0 flag, 1 stuck. -/
  | vibReplaced
  /-- EVT_STR_CFG_REJECT, Warning. ARG: Offset of the discarded write. -/
  | strCfgReject
  /-- EVT_SCQ_NACK, Error. ARG: [1:0] port; [15:8] epoch. -/
  | scqNack
  /-- EVT_YAR_JOB_PARTIAL, Info. ARG: [0] unit; [15:8] descriptor index. -/
  | yarJobPartial
  /-- EVT_YAR_LA_RESYNC, Info. ARG: IPOS [15:0]. -/
  | yarLaResync
  /-- EVT_YAR_REPL, Warning. ARG: [0] unit; [15:8] descriptor index. -/
  | yarRepl
  /-- EVT_YAR_DICT_REJECT, Warning. ARG: Ordinal, or 0xFFFF. -/
  | yarDictReject
  /-- EVT_YAR_CFG_REJECT, Warning. ARG: Offset of the discarded write. -/
  | yarCfgReject
  /-- EVT_PPU_ELEM_ERROR, Warning. ARG: [1:0] unit. -/
  | ppuElemError
  /-- EVT_TEN_NAN, Warning. ARG: [5:0] core. -/
  | tenNan
  /-- EVT_TEN_SAT, Warning. ARG: [5:0] core. -/
  | tenSat
  /-- EVT_TEN_EXCEPTION, Error. ARG: [5:0] core; [11:8] cause. -/
  | tenException
  /-- EVT_CNV_SAT, Warning. ARG: [2:0] cluster. -/
  | cnvSat
  /-- EVT_CNV_NAN, Warning. ARG: [2:0] cluster. -/
  | cnvNan
  /-- EVT_CNV_DESC_INVALID, Error. ARG: [2:0] cluster; [7:4] CAUSE; [11:8] slot. -/
  | cnvDescInvalid
  /-- EVT_CNV_JOB_STOPPED, Error. ARG: [2:0] cluster; [11:8] slot. -/
  | cnvJobStopped
  /-- EVT_EMB_UPDATE_NONFINITE, Warning. ARG: [0] engine; [12:8] slot. -/
  | embUpdateNonfinite
  /-- EVT_EMB_KEY_RANGE, Warning. ARG: [0] engine; [12:8] slot; first range skip of a job. -/
  | embKeyRange
  /-- EVT_EMB_ROW_ECC, Error. ARG: [0] engine. -/
  | embRowEcc
  /-- EVT_EMB_JOB_INVALID, Error. ARG: [0] engine; [7:4] CAUSE; [12:8] slot. -/
  | embJobInvalid
  /-- EVT_SPM_ECC_CORR, Info. ARG: [15] 0 LS, 1 CS; [5:0] core (LS) or [2:0] cluster (CS); [12:8] bank. -/
  | spmEccCorr
  /-- EVT_BPU_DOUBLE_FREE, Warning. ARG: [4:0] pool. -/
  | bpuDoubleFree
  /-- EVT_BPU_BAD_CMD, Warning. ARG: [4:0] pool of the page; [9:8] 0 malformed, 1 pool disabled, 2 target TID, 3 stale GIVE. -/
  | bpuBadCmd
  /-- EVT_BPU_POOL_EMPTY, Warning. ARG: [4:0] pool. -/
  | bpuPoolEmpty
  /-- EVT_BPU_CFG_REJECT, Warning. ARG: Offset of the discarded write. -/
  | bpuCfgReject
  /-- EVT_SPM_NARROW_STARVE, Warning. ARG: As EVT_SPM_ECC_CORR. -/
  | spmNarrowStarve
  /-- EVT_SPM_CFG_REJECT, Warning. ARG: Offset of the discarded write. -/
  | spmCfgReject
  /-- EVT_SPM_ECC_UNCORR, Error. ARG: As EVT_SPM_ECC_CORR. -/
  | spmEccUncorr
  /-- EVT_BPU_FOREIGN_FREE, Safety. ARG: [4:0] pool; [8] 0 FREE, 1 GIVE. -/
  | bpuForeignFree
  /-- EVT_FAB_CLAMP_COMMIT, Info. ARG: [3:0] instance. -/
  | fabClampCommit
  /-- EVT_FAB_LOCKED_WRITE, Warning. ARG: [7:0] block slot. -/
  | fabLockedWrite
  /-- EVT_FAB_UNMAPPED, Warning. ARG: [4:0] port. -/
  | fabUnmapped
  /-- EVT_FAB_ACCESS_WIDTH, Warning. ARG: [4:0] port. -/
  | fabAccessWidth
  /-- EVT_FAB_CFG_REJECT, Warning. ARG: Offset of the discarded write; for a rejected commit, the FAB offset of word 0 of the offending entry (R237). -/
  | fabCfgReject
  /-- EVT_FAB_TIMEOUT, Error. ARG: [4:0] port; [9:8] 0 peripheral, 1 host, 2 Dowel. -/
  | fabTimeout
  /-- EVT_FAB_CLAMP_BLOCK, Safety. ARG: [3:0] instance; [4] write; [5] reserved TID; [6] EXCL. -/
  | fabClampBlock
  /-- EVT_FAB_CLAMP_PARITY, Safety. ARG: [3:0] instance; [13:4] entry. -/
  | fabClampParity
  /-- EVT_MEM_ECC_CORR, Info. ARG: [2:0] channel. -/
  | memEccCorr
  /-- EVT_MMU_FAULT_BATCH, Warning. ARG: [5:0] engine; [11:8] cause. -/
  | mmuFaultBatch
  /-- EVT_MMU_FQ_OVF, Warning. ARG: 0. -/
  | mmuFqOvf
  /-- EVT_MMU_CFG_REJECT, Warning. ARG: Offset of the discarded write. -/
  | mmuCfgReject
  /-- EVT_MEM_DRAM_HOT, Warning. ARG: [2:0] channel. -/
  | memDramHot
  /-- EVT_MEM_ECC_UNCORR, Error. ARG: [2:0] channel; [8] scrub. -/
  | memEccUncorr
  /-- EVT_MMU_FAULT_KILL, Error. ARG: [5:0] engine; [11:8] cause. -/
  | mmuFaultKill
  /-- EVT_MMU_INV_TIMEOUT, Error. ARG: Missing acknowledgements. -/
  | mmuInvTimeout
  /-- EVT_SCH_CTX_RESIDENT, Info. ARG: [5:0] slot. -/
  | schCtxResident
  /-- EVT_SCH_CTX_FREE, Info. ARG: [5:0] slot. -/
  | schCtxFree
  /-- EVT_SCH_FITS_STREAMED, Info. ARG: [5:0] slot. -/
  | schFitsStreamed
  /-- EVT_SCH_CFG_REJECT, Warning. ARG: Offset of the discarded write. -/
  | schCfgReject
  /-- EVT_SCH_EVQ_OVF, Warning. ARG: [5:0] slot. -/
  | schEvqOvf
  /-- EVT_SCH_TASK_ERROR, Error. ARG: [5:0] channel; [11:8] result. -/
  | schTaskError
  /-- EVT_SCH_MITRE_OVERSIZE, Error. ARG: [2:0] slot; [5:4] 0 weights, 1 LS, 2 time. -/
  | schMitreOversize
  /-- EVT_SCH_MODEL_REJECTED, Error. ARG: [3:0] reason. -/
  | schModelRejected
  /-- EVT_OD_STORED, Info. ARG: Stored copy sequence [15:0]. -/
  | odStored
  /-- EVT_OD_LOG_OVF, Warning. ARG: 0. -/
  | odLogOvf
  /-- EVT_OD_QUEUE_OVF, Warning. ARG: 0 CAN, 1 VDP, 2 PCIe. -/
  | odQueueOvf
  /-- EVT_OD_AXIS_REFUSED, Warning. ARG: [2:0] axis. -/
  | odAxisRefused
  /-- EVT_OD_STORE_FAIL, Error. ARG: 0. -/
  | odStoreFail
  /-- EVT_CAN_BOFF_RECOVERED, Info. ARG: [1:0] controller. -/
  | canBoffRecovered
  /-- EVT_CAN_BOOTUP, Info. ARG: [6:0] node. -/
  | canBootup
  /-- EVT_CAN_ERR_PASSIVE, Warning. ARG: [1:0] controller; [8] 1 if REC caused it. -/
  | canErrPassive
  /-- EVT_CAN_RX_LOST, Warning. ARG: [1:0] controller; [9:8] 0 queue Q0, 1 queue Q1, 2 mailbox; [15:10] mailbox. -/
  | canRxLost
  /-- EVT_CAN_PROTOCOL_EXC, Warning. ARG: [1:0] controller. -/
  | canProtocolExc
  /-- EVT_CAN_CFG_REJECT, Warning. ARG: Offset of the discarded write. -/
  | canCfgReject
  /-- EVT_CAN_HB_TIMEOUT, Warning. ARG: [6:0] node. -/
  | canHbTimeout
  /-- EVT_CAN_BUS_OFF, Error. ARG: [1:0] controller. -/
  | canBusOff
  /-- EVT_NET_GPTP_LOCKED, Info. ARG: [0] port. -/
  | netGptpLocked
  /-- EVT_NET_TIME_STEP, Info. ARG: Step in µs, signed, saturating. -/
  | netTimeStep
  /-- EVT_NET_LINK_UP, Info. ARG: [0] MAC; [2:1] speed. -/
  | netLinkUp
  /-- EVT_NET_LINK_DOWN, Warning. ARG: [0] MAC. -/
  | netLinkDown
  /-- EVT_NET_GPTP_LOST, Warning. ARG: [0] port. -/
  | netGptpLost
  /-- EVT_NET_STEP_DEFERRED, Warning. ARG: As EVT_NET_TIME_STEP. -/
  | netStepDeferred
  /-- EVT_NET_GATE_DROP, Warning. ARG: [0] MAC; [3:1] queue. -/
  | netGateDrop
  /-- EVT_NET_VDP_BAD_FRAME, Warning. ARG: [0] MAC. -/
  | netVdpBadFrame
  /-- EVT_NET_CYC_TIMEOUT, Warning. ARG: [2:0] channel. -/
  | netCycTimeout
  /-- EVT_NET_CFG_REJECT, Warning. ARG: Offset of the discarded write. -/
  | netCfgReject
  /-- EVT_NET_AUTH_FAIL, Warning. ARG: [3:0] slot; [9:8] 0 state or mask, 1 counter, 2 check. -/
  | netAuthFail
  /-- EVT_NET_CNT_SKIP, Warning. ARG: Bit s: slot skipped. -/
  | netCntSkip
  /-- EVT_NET_CNT_FLASH_FAIL, Error. ARG: [3:0] slot. -/
  | netCntFlashFail
  /-- EVT_NET_CNT_EXHAUSTED, Error. ARG: [3:0] slot. -/
  | netCntExhausted
  /-- EVT_PCI_LINK_UP, Info. ARG: [2:0] speed; [6:4] width. -/
  | pciLinkUp
  /-- EVT_PCI_FLR, Info. ARG: [1:0] 0 FLR, 1 hot reset, 2 PERST_N, 3 link down. -/
  | pciFlr
  /-- EVT_PCI_LINK_DOWN, Warning. ARG: 0. -/
  | pciLinkDown
  /-- EVT_PCI_QP_ERROR, Warning. ARG: [5:0] queue pair; [9:8] 0 SQ doorbell, 1 CQ doorbell, 2 host memory. -/
  | pciQpError
  /-- EVT_PCI_INBOUND_ERROR, Warning. ARG: [5:0] aperture; [10:8] fabric response; [11] write. -/
  | pciInboundError
  /-- EVT_PCI_POISONED, Warning. ARG: [5:0] aperture. -/
  | pciPoisoned
  /-- EVT_ASM_FORMED, Info. ARG: Bit k: node k MEMBER or SUSPECT. -/
  | asmFormed
  /-- EVT_ASM_JOIN, Info. ARG: [3:0] node. -/
  | asmJoin
  /-- EVT_DWL_LINK_UP, Info. ARG: [1:0] port. -/
  | dwlLinkUp
  /-- EVT_ASM_RELOAD, Info. ARG: [3:0] node. -/
  | asmReload
  /-- EVT_ASM_CFG_MISMATCH, Warning. ARG: [3:0] node. -/
  | asmCfgMismatch
  /-- EVT_ASM_VERSION_MISMATCH, Warning. ARG: [3:0] node; [5:4] 0 Dowel, 1 firmware, 2 library. -/
  | asmVersionMismatch
  /-- EVT_ASM_TIME_SUSPECT, Warning. ARG: [3:0] node; [4] quarantined. -/
  | asmTimeSuspect
  /-- EVT_ASM_NOT_ADMITTED, Warning. ARG: [3:0] node; [4] duplicate node. -/
  | asmNotAdmitted
  /-- EVT_DWL_REPLAY, Warning. ARG: [1:0] port. -/
  | dwlReplay
  /-- EVT_DWL_CFG_REJECT, Warning. ARG: Offset of the discarded write. -/
  | dwlCfgReject
  /-- EVT_ASM_FORWARD_TIMEOUT, Warning. ARG: [3:0] node. -/
  | asmForwardTimeout
  /-- EVT_DWL_LINK_DOWN, Error. ARG: [1:0] port. -/
  | dwlLinkDown
  /-- EVT_ASM_MEMBER_LOST, Error. ARG: [3:0] node. -/
  | asmMemberLost
  /-- EVT_ASM_MANAGER_LOST, Error. ARG: 0. -/
  | asmManagerLost
  /-- EVT_PAIR_HANDOVER, Info. ARG: 0 completed, 1 kept for lack of READY. -/
  | pairHandover
  /-- EVT_PAIR_LINK_LOST, Warning. ARG: 0 port down, 1 mirror stale. -/
  | pairLinkLost
  /-- EVT_PAIR_CFG_MISMATCH, Warning. ARG: 0 digest, 1 firmware. -/
  | pairCfgMismatch
  /-- EVT_PAIR_RANK_CONFLICT, Error. ARG: 0. -/
  | pairRankConflict
  /-- EVT_PAIR_NOT_ARMED, Error. ARG: Bit n: axis n left disabled. -/
  | pairNotArmed
  /-- EVT_PAIR_TAKEOVER, Safety. ARG: [1:0] cause; [2] cold; [15:8] axes enabled. -/
  | pairTakeover
  /-- EVT_PAIR_YIELD, Safety. ARG: 0. -/
  | pairYield
  /-- EVT_PAIR_PEER_FAIL, Safety. ARG: Raised by the active device: 0 PEER_FAIL_N low, 1 ALIVE windows empty. -/
  | pairPeerFail
  /-- EVT_PWR_STATE, Info. ARG: [2:0] new state; [6:4] old state. -/
  | pwrState
  /-- EVT_PWR_WAKE, Info. ARG: Wake source bit. -/
  | pwrWake
  /-- EVT_PWR_CAP_CHANGE, Info. ARG: Effective cap, W. -/
  | pwrCapChange
  /-- EVT_FAN_RECOVERED, Info. ARG: [0] fan. -/
  | fanRecovered
  /-- EVT_PWR_CFG_REJECT, Warning. ARG: Offset of the discarded write. -/
  | pwrCfgReject
  /-- EVT_PWR_ENTRY_ABORT, Warning. ARG: Requested state. -/
  | pwrEntryAbort
  /-- EVT_PWR_CAP_UNMET, Warning. ARG: PWR_EST in units of 0.1 W. -/
  | pwrCapUnmet
  /-- EVT_THM_WARN, Warning. ARG: [3:0] sensor. -/
  | thmWarn
  /-- EVT_THM_SENSOR_FAIL, Warning. ARG: [3:0] sensor. -/
  | thmSensorFail
  /-- EVT_FAN_STALL, Error. ARG: [0] fan. -/
  | fanStall
  /-- EVT_FAN_TACH_LOST, Error. ARG: [0] fan. -/
  | fanTachLost
  /-- EVT_PWR_AVS_LIMIT, Error. ARG: 0. -/
  | pwrAvsLimit
  /-- EVT_THM_CRIT, Safety. ARG: [3:0] sensor. -/
  | thmCrit
  /-- EVT_BOOT_DONE, Info. ARG: [1:0] source; [2] bank; [15:8] S + S_R in ms, saturating. -/
  | bootDone
  /-- EVT_BOOT_RESET, Info. ARG: VNR_RST_CAUSE [5:0]. -/
  | bootReset
  /-- EVT_BOOT_BANK_FALLBACK, Warning. ARG: [3:0] cause in the active bank. -/
  | bootBankFallback
  /-- EVT_BOOT_LIFECYCLE_OPEN, Warning. ARG: 0. -/
  | bootLifecycleOpen
  /-- EVT_BOOT_STRAP_ERR, Warning. ARG: VNR_STRAP [10:0]. -/
  | bootStrapErr
  /-- EVT_BOOT_BCR_INVALID, Warning. ARG: 0. -/
  | bootBcrInvalid
  /-- EVT_BOOT_CFG_REJECT, Warning. ARG: Offset of the discarded write. -/
  | bootCfgReject
  /-- EVT_DBG_UNLOCKED, Warning. ARG: Key slot. -/
  | dbgUnlocked
  /-- EVT_BOOT_FAIL, Error. ARG: [3:0] cause; [6:4] stage. -/
  | bootFail
  /-- EVT_BOOT_RECOVERY, Error. ARG: 0. -/
  | bootRecovery
  /-- EVT_SAF_RESTART_DONE, Info. ARG: Restart time, ms. -/
  | safRestartDone
  /-- EVT_SAF_ARMED, Info. ARG: New armed mask. -/
  | safArmed
  /-- EVT_SAF_ARM_REFUSED, Warning. ARG: 1 ESTOP, 2 temperature, 3 SS1, 4 restart or escalation, 5 readback, 6 boot. -/
  | safArmRefused
  /-- EVT_SAF_RESTART, Safety. ARG: Sub of Table SAF-3 that triggered it. -/
  | safRestart
  /-- EVT_SAF_STO, Safety. ARG: Bit of Table SAF-1. -/
  | safSto
  /-- EVT_SAF_WDG_EXPIRED, Safety. ARG: 0. -/
  | safWdgExpired
  /-- EVT_SAF_CE_FAULT, Safety. ARG: [2:0] axis; [4] 0 SRAM ECC, 1 shadow CRC. -/
  | safCeFault
  /-- EVT_SAF_SS1, Safety. ARG: 0 requested, 1 STO reached. -/
  | safSs1
  /-- EVT_SAF_STO_READBACK, Safety. ARG: STO_DRV. -/
  | safStoReadback
  /-- EVT_SAF_CLAMP_CRC, Safety. ARG: [3:0] instance. -/
  | safClampCrc
  /-- EVT_SAF_ESCALATED, Safety. ARG: 0 timeout, 1 repeated restarts. -/
  | safEscalated
  /-- EVT_SAF_ISLAND_FAULT, Safety. ARG: SAF_LS. -/
  | safIslandFault
deriving DecidableEq, Repr

/-- The event code. -/
def Ev.code : Ev → Nat
  | .pstMitreMiss => 0xC101
  | .pstCeMiss => 0xC102
  | .clkEpoch => 0x1201
  | .clkLsxAbsent => 0x4201
  | .clkGatedAccess => 0x4202
  | .clkCfgReject => 0x4203
  | .clkXoQualFail => 0x8201
  | .clkMonFault => 0xC201
  | .ceSrcSwitch => 0x1301
  | .ceCfgReject => 0x4301
  | .ceGuardStale => 0x4302
  | .ceIntegNearWrap => 0xC301
  | .mioCfgReject => 0x4401
  | .mioSdReplaced => 0x4402
  | .mioEncError => 0x4403
  | .mioEstop => 0xC401
  | .mioTrip => 0xC402
  | .mioOvercurrent => 0xC403
  | .mitArmed => 0x1501
  | .mitCfgReject => 0x4501
  | .mitDoubleCommit => 0x4502
  | .mitSeqMismatch => 0x4503
  | .mitFault => 0xC501
  | .camCommitReplaced => 0x4601
  | .camLineReplaced => 0x4602
  | .camFrameSkipped => 0x4603
  | .camBoundary => 0x4604
  | .camAppliedOvf => 0x4605
  | .scqLate => 0x4606
  | .vibReplaced => 0x4607
  | .strCfgReject => 0x4608
  | .scqNack => 0x8601
  | .yarJobPartial => 0x1701
  | .yarLaResync => 0x1702
  | .yarRepl => 0x4701
  | .yarDictReject => 0x4702
  | .yarCfgReject => 0x4703
  | .ppuElemError => 0x4704
  | .tenNan => 0x4801
  | .tenSat => 0x4802
  | .tenException => 0x8801
  | .cnvSat => 0x4901
  | .cnvNan => 0x4902
  | .cnvDescInvalid => 0x8901
  | .cnvJobStopped => 0x8902
  | .embUpdateNonfinite => 0x4A01
  | .embKeyRange => 0x4A02
  | .embRowEcc => 0x8A01
  | .embJobInvalid => 0x8A02
  | .spmEccCorr => 0x1B01
  | .bpuDoubleFree => 0x4B01
  | .bpuBadCmd => 0x4B02
  | .bpuPoolEmpty => 0x4B03
  | .bpuCfgReject => 0x4B04
  | .spmNarrowStarve => 0x4B05
  | .spmCfgReject => 0x4B06
  | .spmEccUncorr => 0x8B01
  | .bpuForeignFree => 0xCB01
  | .fabClampCommit => 0x1C01
  | .fabLockedWrite => 0x4C01
  | .fabUnmapped => 0x4C02
  | .fabAccessWidth => 0x4C03
  | .fabCfgReject => 0x4C04
  | .fabTimeout => 0x8C01
  | .fabClampBlock => 0xCC01
  | .fabClampParity => 0xCC02
  | .memEccCorr => 0x1D01
  | .mmuFaultBatch => 0x4D01
  | .mmuFqOvf => 0x4D02
  | .mmuCfgReject => 0x4D03
  | .memDramHot => 0x4D04
  | .memEccUncorr => 0x8D01
  | .mmuFaultKill => 0x8D02
  | .mmuInvTimeout => 0x8D03
  | .schCtxResident => 0x1E01
  | .schCtxFree => 0x1E02
  | .schFitsStreamed => 0x1E03
  | .schCfgReject => 0x4E01
  | .schEvqOvf => 0x4E02
  | .schTaskError => 0x8E01
  | .schMitreOversize => 0x8E02
  | .schModelRejected => 0x8E03
  | .odStored => 0x1F01
  | .odLogOvf => 0x4F01
  | .odQueueOvf => 0x4F02
  | .odAxisRefused => 0x4F03
  | .odStoreFail => 0x8F01
  | .canBoffRecovered => 0x1001
  | .canBootup => 0x1002
  | .canErrPassive => 0x4001
  | .canRxLost => 0x4002
  | .canProtocolExc => 0x4003
  | .canCfgReject => 0x4004
  | .canHbTimeout => 0x4005
  | .canBusOff => 0x8001
  | .netGptpLocked => 0x1021
  | .netTimeStep => 0x1022
  | .netLinkUp => 0x1023
  | .netLinkDown => 0x4021
  | .netGptpLost => 0x4022
  | .netStepDeferred => 0x4023
  | .netGateDrop => 0x4024
  | .netVdpBadFrame => 0x4025
  | .netCycTimeout => 0x4026
  | .netCfgReject => 0x4027
  | .netAuthFail => 0x4028
  | .netCntSkip => 0x4029
  | .netCntFlashFail => 0x8021
  | .netCntExhausted => 0x8022
  | .pciLinkUp => 0x1041
  | .pciFlr => 0x1042
  | .pciLinkDown => 0x4041
  | .pciQpError => 0x4042
  | .pciInboundError => 0x4043
  | .pciPoisoned => 0x4044
  | .asmFormed => 0x1061
  | .asmJoin => 0x1062
  | .dwlLinkUp => 0x1063
  | .asmReload => 0x1064
  | .asmCfgMismatch => 0x4061
  | .asmVersionMismatch => 0x4062
  | .asmTimeSuspect => 0x4063
  | .asmNotAdmitted => 0x4064
  | .dwlReplay => 0x4065
  | .dwlCfgReject => 0x4066
  | .asmForwardTimeout => 0x4067
  | .dwlLinkDown => 0x8061
  | .asmMemberLost => 0x8062
  | .asmManagerLost => 0x8063
  | .pairHandover => 0x1081
  | .pairLinkLost => 0x4081
  | .pairCfgMismatch => 0x4082
  | .pairRankConflict => 0x8081
  | .pairNotArmed => 0x8082
  | .pairTakeover => 0xC081
  | .pairYield => 0xC082
  | .pairPeerFail => 0xC083
  | .pwrState => 0x10A1
  | .pwrWake => 0x10A2
  | .pwrCapChange => 0x10A3
  | .fanRecovered => 0x10A4
  | .pwrCfgReject => 0x40A1
  | .pwrEntryAbort => 0x40A2
  | .pwrCapUnmet => 0x40A3
  | .thmWarn => 0x40A4
  | .thmSensorFail => 0x40A5
  | .fanStall => 0x80A1
  | .fanTachLost => 0x80A2
  | .pwrAvsLimit => 0x80A3
  | .thmCrit => 0xC0A1
  | .bootDone => 0x10C1
  | .bootReset => 0x10C2
  | .bootBankFallback => 0x40C1
  | .bootLifecycleOpen => 0x40C2
  | .bootStrapErr => 0x40C3
  | .bootBcrInvalid => 0x40C4
  | .bootCfgReject => 0x40C5
  | .dbgUnlocked => 0x40C6
  | .bootFail => 0x80C1
  | .bootRecovery => 0x80C2
  | .safRestartDone => 0x10E1
  | .safArmed => 0x10E2
  | .safArmRefused => 0x40E1
  | .safRestart => 0xC0E1
  | .safSto => 0xC0E2
  | .safWdgExpired => 0xC0E3
  | .safCeFault => 0xC0E4
  | .safSs1 => 0xC0E5
  | .safStoReadback => 0xC0E6
  | .safClampCrc => 0xC0E7
  | .safEscalated => 0xC0E8
  | .safIslandFault => 0xC0E9

/-- The classes of R13. -/
inductive EvClass where
  | safety | error | warning | info
deriving DecidableEq, Repr

/-- The class that bits [15:12] of a code give. -/
def evClass (code : Nat) : EvClass :=
  if code / 4096 = 0xC then .safety else if code / 4096 = 8 then .error else if code / 4096 = 4 then .warning else .info

/-- The order of the classes within one DTIME (R16). -/
def EvClass.rank : EvClass → Nat
  | .safety => 0
  | .error => 1
  | .warning => 2
  | .info => 3

end Sys2Proof.Machine
end

