-- ==== Sys2Proof/Machine/RegMap.lean ====
section
/-! DEFINITION. The register map: one constructor of `RegId` per register field of the spec's register tables
(chapters 01 to 23), with the block slot of Table FAB-3, the offset, the instance counts and strides, the bit
position, the field type of Table SC-4 and the reset value. BAR0 (Tables PCI-9 and BOOT-8) is slot 256, a space of its own.
The fields of one register are separate rows, so reserved bits have no storage (R10). -/

namespace Sys2Proof.Machine

/-- The field types of Table SC-4; `lock` is the W1S LOCK bit of R7. -/
inductive RegType where
  | ro | rw | w1c | w1s | wo | rwl | rws | lock
deriving DecidableEq, Repr

/-- The register fields, in the order of Table FAB-3's slots and of each block's table. -/
inductive RegId where
  -- FAB, slot 0
  | fabLock
  | fabToPer
  | fabToHost
  | fabToDwl
  | fabErrAddrLo
  | fabErrAddrHi
  | fabErrTid
  | fabErrWr
  | fabErrResp
  | fabErrPort
  | fabErrValid
  | fabErrCnt
  | fabLateCnt
  | clpCommitGo
  | clpCommitAtTick
  | clpCommitAxis
  | clpBlkPend
  | clpRej
  | clpCause
  | clpNvalid
  | clpBlkCnt
  | clpBlkAddrLo
  | clpBlkAddrHi
  | clpBlkTid
  | clpBlkWr
  | clpBlkRsvd
  | clpBlkExcl
  | clpBlkPort
  | clpCrc
  | clpStage
  -- CKG, slot 1
  | ckgLsxPresent
  | ckgQualRef
  | ckgPllLock
  | ckgLsxLost
  | ckgQualFails
  | ckgQualLastCnt
  | ckgQualGood
  | ckgEn
  | ckgEnStat
  | ckgMonLast
  | ckgMonLockLost
  | ckgMonFreqFault
  | fmtrSrc
  | fmtrRef
  | fmtrPre
  | fmtrStart
  | fmtrOvr
  | fmtrPort
  | fmtrNref
  | fmtrCnt
  | tbBase
  | dtimeNsec
  | dtimeSecLo
  | dtimeSecHi
  | dtimeIncFrac
  | dtimeIncInt
  | dtimeAdj
  | epochNsec
  | epochSecLo
  | epochSecHi
  | epochArm
  | axTbPer
  | axTbPhase
  -- PST, slot 2
  | pstPeriod
  | pstMitEn
  | pstAxEn
  | pstMitT
  | pstMitLate
  | pstCeT
  | pstMitMiss
  | pstCeMiss
  | pstClrCnt
  -- CE, slot 3
  | ceLock
  | ceAxRun
  | gdVal
  | gdTsNs
  | gdTsS
  | gdKind
  | gdStaleAct
  | gdMaxAge
  | gdPub
  | axEn
  | axMode
  | axSpsrc
  | axI3
  | axNs
  | axNp
  | axAnaCh
  | axKpD
  | axKiD
  | axKpQ
  | axKiQ
  | axKpS
  | axKiS
  | axKpP
  | axKvff
  | axKaff
  | axGainSh
  | axVlim
  | axIqLim
  | axIdRef
  | axSpdK
  | axEncK
  | axEncCpr
  | axPole
  | axThetaOfs
  | axGearNum
  | axGearDen
  | axAnaOfs
  | axAnaGain
  | axAnaDb
  | axAnaAlpha
  | axAnaSh
  | axGuardMask
  | axIntD
  | axIntQ
  | axIntS
  | axRefSrc
  | axRefEff
  | axFeedLag
  | axFeed
  | axVlimAct
  | axNearD
  | axNearQ
  | axNearS
  | axHold
  | axStale
  | axAnaEn
  | axChatter
  -- MIO, slot 4
  | mioLock
  | mioPol
  | mioPadsOn
  | mioTrip
  | mioOc
  | mioEstop
  | mioTripInN
  | mioEstopInN
  | sdClkEn
  | adcEn
  | adcCode
  | pwmDt
  | pwmPer
  | pwmSh
  | pwmCmp
  | sdEn
  | sdOsr
  | sdClksel
  | sdStuck
  | sdOcEn
  | sdOcOsr
  | sdOcCnt
  | sdOfs
  | sdGain
  | sdOcHi
  | sdOcLo
  | sdSample
  | sdReplLoss
  | sdReplRange
  | encMode
  | encFilt
  | encZmode
  | encDir
  | ssiBits
  | ssiGray
  | ssiPar
  | ssiDiv
  | ssiDly
  | ssiLead
  | encPos
  | encPosmod
  | encZpos
  | encQerr
  | encSsierr
  | ssiRaw
  | plsMode
  | plsFilt
  | plsDirinv
  | plsCnt
  | plsErr
  -- MIT, slot 5
  | mitLock
  | mitArm
  | mitUnload
  | mitLoaded
  | mitCluster
  | mitCores
  | mitWbankBase
  | mitWbanks
  | mitMissLimit
  | mitWcet
  | mitVibCh
  | mitVibLen
  | mitStateSz
  | mitFbFeed
  | mitState
  | mitCause
  | mitSbuf
  | mitObsValid
  | mitImg
  | mitConsec
  | mitSeq
  | mitLastT
  | mitMiss
  | mitDcommit
  | mitSeqerr
  | mitCommit
  | mitMbx
  | mitOut
  -- STR, slot 6
  | strLock
  | strEnLo
  | strEnHi
  | csiLanes
  | csiEn
  | csiUlps
  | csiErrCorr
  | csiErrUncorr
  | csiErrDrop
  | camDt
  | camMode
  | camLnum
  | camOutfmt
  | camW
  | camH
  | camStride
  | camReplMode
  | camMaxbad
  | camFill
  | camAddrLo
  | camAddrHi
  | camCommit
  | camLiveLo
  | camLiveHi
  | camPendP
  | camPendTag
  | camAppFnum
  | camAppTag
  | camAppStatus
  | camAppFcnt
  | camAppPop
  | camFcnt
  | camRecLo
  | camRecHi
  | camRecN
  | camStatsLo
  | camStatsHi
  | camStatsN
  | camStatsHch
  | camTsOfs
  | camRidx
  | camCrepl
  | camAovf
  | cmpBayer
  | cmpBlack
  | cmpWbR
  | cmpWbG
  | cmpWbB
  | cmpC00
  | cmpC01
  | cmpC02
  | cmpC10
  | cmpC11
  | cmpC12
  | cmpC20
  | cmpC21
  | cmpC22
  | ringLo
  | ringHi
  | ringLenLog2
  | strWidx
  | tdmBdiv
  | tdmEn
  | tdmVflagEn
  | tdmVflagBit
  | tdmVflagPol
  | tdmStuckRun
  | tdmRepl0
  | tdmRepl1
  | scqEn
  | scqBus
  | scqAddr
  | scqAw
  | scqDw
  | scqFmp
  | scqD
  | scqVc
  | scqEntry
  | scqSubmit
  | scqEpoch
  | scqSets
  | scqFree
  | scqUncertain
  | scqEffectFcnt
  -- YAR, slot 7
  | yarLock
  | yarEn
  | yarFold
  | yarDictLo
  | yarDictHi
  | yarDictLoad
  | yarDictValid
  | yarDictN
  | yarDictDigLo
  | yarDictDigHi
  | yarQLo
  | yarQHi
  | yarQTail
  | yarQHead
  | yarQbytes
  | yarCntTok
  | yarCntRepl
  | yarCntSat
  | ppuQLo
  | ppuQHi
  | ppuQTail
  | ppuQHead
  | ppuCntErr
  -- TEN, slot 8
  | tenLock
  | tcSrEn
  | tcTrapNan
  | tcTrapSat
  | tcRestart
  | tcState
  | tcTid
  | tcSrSeed
  | tcFlagNan
  | tcFlagInf
  | tcFlagSat
  | tcFlagNanToInt
  | tcFlagBlockNan
  | tcCntSat
  | tcCntNan
  | tcExcCause
  | tcExcPc
  | tcArrayOps
  -- CNV, slot 9
  | cnvLock
  | cnvEn
  | cnvQAddr
  | cnvQTail
  | cnvQHead
  | cnvBusy
  | cnvLbValid
  | cnvLbTag
  | cnvTid
  | cnvFlags
  | cnvCntSat
  | cnvCntReload
  | cnvJobs
  | cnvLastT
  | cnvErrCause
  | cnvErrSlot
  -- EMB, slot 10
  | embLock
  | embEn
  | embQLo
  | embQHi
  | embQTail
  | embQHead
  | embSrSeed
  | embBusy
  | embTid
  | embCntRows
  | embSkipRange
  | embSkipNonfinite
  | embCntEcc
  | embCntLockwait
  | embFlags
  | embErrCause
  | embErrSlot
  -- SPM, slot 11
  | spmLock
  | spmStarveLim
  | spmCntClr
  | spmCntFreeze
  | spmEccCorr
  | spmEccUnc
  | spmEccAddrLo
  | spmEccAddrHi
  | spmInit
  | lsNstall
  | lsWconf
  | csNstall
  | csWconf
  -- BPU, slot 12
  | bpuLock
  | bpuInfoH
  | bpuInfoState
  | bpuInfoOwner
  | bpuInfoGen
  | bpuReclaimTid
  | bpuReclaimBusy
  | poolEn
  | poolBaseLo
  | poolBaseHi
  | poolSize
  | poolCount
  | poolFree
  | poolEmptyCnt
  | poolLow
  | poolDfree
  | poolFfree
  | bpuAlloc
  | bpuFree
  | bpuGive
  -- MEMC, slot 20
  | memcLock
  | memcDens
  | memcScrubEn
  | memcUsableLo
  | memcUsableHi
  | memcScrubInt
  | memcEccCorr
  | memcEccUnc
  | memcEccAddrLo
  | memcEccAddrHi
  | memcEccCh
  | memcEccSrc
  | memcCntClr
  | memcTemp
  | memcChCorr
  -- MMU, slot 21
  | mmuLock
  | mmuAstLo
  | mmuAstHi
  | mmuFqLo
  | mmuFqHi
  | mmuFqProd
  | mmuFqCons
  | mmuFqOvf
  | mmuResume
  | mmuInvBaseLo
  | mmuInvBaseHi
  | mmuInvLen
  | mmuInvTid
  | mmuInvGo
  | mmuInvBusy
  | mmuInvTimeout
  | mmuInvAckLo
  | mmuInvAckHi
  | mmuXlateVaLo
  | mmuXlateVaHi
  | mmuXlateTid
  | mmuXlateWr
  | mmuXlateGo
  | mmuXlateDone
  | mmuXlateFault
  | mmuXlateCause
  | mmuXlatePgs
  | mmuXlatePaLo
  | mmuXlatePaHi
  | mmuXlateGen
  | mmuCntL2hit
  | mmuCntWalk
  | mmuCntGenmiss
  | mmuCntFault
  | mmuGen
  | mmuDead
  -- SCH, slot 22
  | schLock
  | schTlim
  | schBwRsv
  | schNres
  | schBwUsed
  | schDispCnt
  | chEn
  | chSlot
  | chMode
  | chPrio
  | chTail
  | chHead
  | chState
  | chResult
  | chIndex
  | chNote
  | chDone
  | chResume
  | chFlush
  | ctxTid
  | ctxCoresLo
  | ctxCoresHi
  | ctxLsB0
  | ctxLsNb
  | ctxCsB0
  | ctxCsNb
  | ctxBw
  | ctxActivate
  | ctxRelease
  | ctxTerminate
  | ctxState
  | ctxEvqLo
  | ctxEvqHi
  | ctxEvqLenLog2
  | ctxEvqProd
  | ctxEvqCons
  | ctxEvqOvf
  | taskRing
  -- CAN, slot 23
  | canLock
  | canInit
  | canRom
  | canBoffRecover
  | canFdEn
  | canBrsEn
  | canPexOff
  | canSspEn
  | canLoop
  | canAPre
  | canAS1
  | canAS2
  | canASjw
  | canDPre
  | canDS1
  | canDS2
  | canDSjw
  | canSspWin
  | canSspMeas
  | canSspOfs
  | canTec
  | canRec
  | canBus
  | canPassive
  | canWarn
  | canOff
  | canInitAck
  | canRecovCnt
  | canStdRules
  | canExtRules
  | canStdDef
  | canExtDef
  | canStdRmtDrop
  | canExtRmtDrop
  | canQ0Ovw
  | canQ1Ovw
  | canQ0Fill
  | canQ0Rd
  | canQ0Wr
  | canQ0Rel
  | canQ1Fill
  | canQ1Rd
  | canQ1Wr
  | canQ1Rel
  | canMbfullLo
  | canMbfullHi
  | canMbdirLo
  | canMbdirHi
  | canCmdMb
  | canCmdCmd
  | canTxpendLo
  | canTxpendHi
  | canTxdoneLo
  | canTxdoneHi
  | canTxabtLo
  | canTxabtHi
  | canTxnextMb
  | canTxnextValid
  | canRxlostQ0
  | canRxlostQ1
  | canCntMbovw
  | canCntPex
  | canCntBoff
  | canRam
  -- ETH, slot 24
  | ethLock
  | gptpEn
  | gptpPort
  | gptpGmCap
  | gptpPrio1
  | gptpPrio2
  | gptpSyncLog
  | servoLockNs
  | servoStepUs
  | netState
  | netOfsNs
  | netSecOfsLo
  | netSecOfsHi
  | netCycLead
  | ethEn
  | ethIf
  | ethSpeed
  | ethLink
  | ethMacLo
  | ethMacHi
  | ethIp
  | ethMask
  | ethGw
  | ethVdpPort
  | ethVdpVid
  | ethVdpCycq
  | ethLatTx
  | ethLatRx
  | tasEn
  | tasGo
  | tasCycle
  | tasBaseNsec
  | tasBaseSecLo
  | tasBaseSecHi
  | tasLen
  | ethRxdrop
  | ethTasdrop
  | ethVdpbad
  | ethVdpstale
  | cbsEn
  | cbsIdle
  | gateMask
  | gateInterval
  -- PCIE, slot 25
  | pcieLock
  | pcieHwinLo
  | pcieHwinHi
  | pcieReady
  | pcieSpeed
  | pcieWidth
  | pcieUp
  | pcieBme
  | pcieD3
  | pcieCntInb
  | pcieCntPoison
  | pcieCntCorr
  | apBase
  | apEn
  | apRo
  | apTid
  -- DWL, slot 26
  | dwlLock
  | asmRole
  | asmNode
  | asmState
  | asmStrapErr
  | asmGridOk
  | asmMgrTo
  | asmWkrTo
  | dwlTimeInt
  | dwlOfsNs
  | asmMember
  | asmQuar
  | asmSuspect
  | asmLost
  | asmEpoch
  | asmFeat
  | dwlRoute
  | dwlRouteV
  | dwlPortEn
  | dwlPortUse
  | dwlPortState
  | dwlPartner
  | dwlPpair
  | dwlCntCrc
  | dwlCntReplay
  | dwlCntRetrain
  | dwlCntBad
  | inbEn
  | inbBase
  | inbTid
  | inbSrcMask
  -- PAIR, slot 27
  | pairLock
  | pairRole
  | pairRank
  | pairMirrorOk
  | pairLink
  | pairPeerAlive
  | pairPeerFail
  | pairPeerActive
  | pairConflict
  | pairMirrorAge
  | pairMirrorIdx
  | pairTkoCause
  | pairTkoCold
  | pairTkoCnt
  | pairHoTick
  | pairEncDelta
  -- PWR, slot 28
  | pwrLock
  | pwrState
  | pwrL
  | pwrVid
  | pwrCap
  | pwrCapSrc
  | pwrDomStat
  | pwrDomReq
  | pwrWakeEn
  | pwrWakePol
  | pwrWakeSrc
  | pwrAlarm
  | pwrCapUser
  | pwrEst
  | thmMax
  | thmTLo
  | thmTHi
  | thmT
  | thmValid
  | fanEn
  | fanRestOff
  | fanDmin
  | fanMinRpm
  | fanD
  | fanState
  | fanRetry
  | fanRpm
  -- SAF, slot 29
  | safLock
  | safState
  | safStoDrv
  | safStoPad
  | safRbFail
  | safArmed
  | safRst60
  | safStoCause
  | safWdgKick
  | safWdgT
  | safWdgExp
  | safWdgBad
  | safSs1Req
  | safSs1Gpio
  | safSs1GpioEn
  | safSs1T
  | safSs1Rem
  | safRestartCnt
  | safLs
  | safSramCorr
  | safReact
  -- CRY, slot 30
  | cryLock
  | crySlotType
  | crySlotState
  | crySlotMask
  | cryCnt
  -- VNR, slot 33
  | vnrLock
  | vnrRstCause
  | vnrRetValid
  | vnrWarm
  | vnrRstDom
  | vnrStrap
  | vnrBootSrc
  | vnrBootBank
  | vnrBootStage
  | vnrBootCause
  | vnrRecovery
  | vnrLifecycle
  | vnrBootTSif
  | vnrBootTDict
  | vnrBootShift
  | vnrOtpSvn
  | vnrDbgUnlocked
  -- APP, slot 34
  | appHartTid
  -- HOST, slot 256
  | hostMinor
  | hostMajor
  | hostEn
  | hostRdy
  | hostDictReady
  | hostState
  | hostAqSqLo
  | hostAqSqHi
  | hostAqCqLo
  | hostAqCqHi
  | hostAqSizeSq
  | hostAqSizeCq
  | hostEvmask
  | hostEvseq
  | hostNoteLo
  | hostNoteHi
  | hostQpErrLo
  | hostQpErrHi
  | mbOfs
  | mbLen
  | mbGo
  | mbPhase
  | mbCause
  | sqTail
  | cqHead
  | msixTable
  | msixPba
  | mbData
deriving DecidableEq, Repr

/-- One row of a register table: `off` is the byte offset of the instance (0, 0); instance (i, j) lies `i * st1 + j * st2`
bytes above it, for `i < n1` and `j < n2`. -/
structure RegInfo where
  slot : Nat
  off : Nat
  n1 : Nat
  st1 : Nat
  n2 : Nat
  st2 : Nat
  lo : Nat
  width : Nat
  ty : RegType
  reset : Nat
deriving DecidableEq, Repr

/-- The rows of the register tables. -/
def RegId.info : RegId → RegInfo
  | .fabLock => ⟨0, 0x0, 1, 0, 1, 0, 0, 1, .lock, 0x0⟩
  | .fabToPer => ⟨0, 0x4, 1, 0, 1, 0, 0, 16, .rwl, 0x14⟩
  | .fabToHost => ⟨0, 0x8, 1, 0, 1, 0, 0, 16, .rwl, 0xC350⟩
  | .fabToDwl => ⟨0, 0xC, 1, 0, 1, 0, 0, 16, .rwl, 0x3E8⟩
  | .fabErrAddrLo => ⟨0, 0x10, 1, 0, 1, 0, 0, 32, .ro, 0x0⟩
  | .fabErrAddrHi => ⟨0, 0x14, 1, 0, 1, 0, 0, 8, .ro, 0x0⟩
  | .fabErrTid => ⟨0, 0x18, 1, 0, 1, 0, 0, 10, .ro, 0x0⟩
  | .fabErrWr => ⟨0, 0x18, 1, 0, 1, 0, 12, 1, .ro, 0x0⟩
  | .fabErrResp => ⟨0, 0x18, 1, 0, 1, 0, 13, 3, .ro, 0x0⟩
  | .fabErrPort => ⟨0, 0x18, 1, 0, 1, 0, 16, 5, .ro, 0x0⟩
  | .fabErrValid => ⟨0, 0x18, 1, 0, 1, 0, 31, 1, .w1c, 0x0⟩
  | .fabErrCnt => ⟨0, 0x1C, 1, 0, 1, 0, 0, 32, .ro, 0x0⟩
  | .fabLateCnt => ⟨0, 0x20, 1, 0, 1, 0, 0, 32, .ro, 0x0⟩
  | .clpCommitGo => ⟨0, 0x1000, 12, 32, 1, 0, 0, 1, .w1s, 0x0⟩
  | .clpCommitAtTick => ⟨0, 0x1000, 12, 32, 1, 0, 1, 1, .rw, 0x0⟩
  | .clpCommitAxis => ⟨0, 0x1000, 12, 32, 1, 0, 2, 3, .rw, 0x0⟩
  | .clpBlkPend => ⟨0, 0x1004, 12, 32, 1, 0, 0, 1, .w1c, 0x0⟩
  | .clpRej => ⟨0, 0x1004, 12, 32, 1, 0, 1, 1, .ro, 0x0⟩
  | .clpCause => ⟨0, 0x1004, 12, 32, 1, 0, 8, 3, .ro, 0x0⟩
  | .clpNvalid => ⟨0, 0x1004, 12, 32, 1, 0, 16, 16, .ro, 0x0⟩
  | .clpBlkCnt => ⟨0, 0x1008, 12, 32, 1, 0, 0, 32, .ro, 0x0⟩
  | .clpBlkAddrLo => ⟨0, 0x100C, 12, 32, 1, 0, 0, 32, .ro, 0x0⟩
  | .clpBlkAddrHi => ⟨0, 0x1010, 12, 32, 1, 0, 0, 8, .ro, 0x0⟩
  | .clpBlkTid => ⟨0, 0x1014, 12, 32, 1, 0, 0, 10, .ro, 0x0⟩
  | .clpBlkWr => ⟨0, 0x1014, 12, 32, 1, 0, 12, 1, .ro, 0x0⟩
  | .clpBlkRsvd => ⟨0, 0x1014, 12, 32, 1, 0, 13, 1, .ro, 0x0⟩
  | .clpBlkExcl => ⟨0, 0x1014, 12, 32, 1, 0, 14, 1, .ro, 0x0⟩
  | .clpBlkPort => ⟨0, 0x1014, 12, 32, 1, 0, 16, 5, .ro, 0x0⟩
  | .clpCrc => ⟨0, 0x1018, 12, 32, 1, 0, 0, 32, .ro, 0x0⟩
  | .clpStage => ⟨0, 0x4000, 9216, 4, 1, 0, 0, 32, .rw, 0x0⟩
  | .ckgLsxPresent => ⟨1, 0x0, 1, 0, 1, 0, 0, 1, .ro, 0x0⟩
  | .ckgQualRef => ⟨1, 0x0, 1, 0, 1, 0, 1, 1, .ro, 0x0⟩
  | .ckgPllLock => ⟨1, 0x0, 1, 0, 1, 0, 2, 1, .ro, 0x0⟩
  | .ckgLsxLost => ⟨1, 0x0, 1, 0, 1, 0, 3, 1, .ro, 0x0⟩
  | .ckgQualFails => ⟨1, 0x0, 1, 0, 1, 0, 8, 8, .ro, 0x0⟩
  | .ckgQualLastCnt => ⟨1, 0x4, 1, 0, 1, 0, 0, 16, .ro, 0x0⟩
  | .ckgQualGood => ⟨1, 0x4, 1, 0, 1, 0, 16, 3, .ro, 0x0⟩
  | .ckgEn => ⟨1, 0x8, 1, 0, 1, 0, 0, 21, .rw, 0x0⟩
  | .ckgEnStat => ⟨1, 0xC, 1, 0, 1, 0, 0, 21, .ro, 0x0⟩
  | .ckgMonLast => ⟨1, 0x10, 1, 0, 1, 0, 0, 16, .ro, 0x0⟩
  | .ckgMonLockLost => ⟨1, 0x10, 1, 0, 1, 0, 16, 1, .rws, 0x0⟩
  | .ckgMonFreqFault => ⟨1, 0x10, 1, 0, 1, 0, 17, 1, .rws, 0x0⟩
  | .fmtrSrc => ⟨1, 0x20, 1, 0, 1, 0, 0, 4, .rw, 0x0⟩
  | .fmtrRef => ⟨1, 0x20, 1, 0, 1, 0, 4, 1, .rw, 0x0⟩
  | .fmtrPre => ⟨1, 0x20, 1, 0, 1, 0, 5, 3, .rw, 0x0⟩
  | .fmtrStart => ⟨1, 0x20, 1, 0, 1, 0, 8, 1, .w1s, 0x0⟩
  | .fmtrOvr => ⟨1, 0x20, 1, 0, 1, 0, 9, 1, .ro, 0x0⟩
  | .fmtrPort => ⟨1, 0x20, 1, 0, 1, 0, 10, 2, .rw, 0x0⟩
  | .fmtrNref => ⟨1, 0x20, 1, 0, 1, 0, 12, 20, .rw, 0x61A8⟩
  | .fmtrCnt => ⟨1, 0x24, 1, 0, 1, 0, 0, 32, .ro, 0x0⟩
  | .tbBase => ⟨1, 0x30, 1, 0, 1, 0, 0, 2, .rws, 0x2⟩
  | .dtimeNsec => ⟨1, 0x60, 1, 0, 1, 0, 0, 30, .ro, 0x0⟩
  | .dtimeSecLo => ⟨1, 0x64, 1, 0, 1, 0, 0, 32, .ro, 0x0⟩
  | .dtimeSecHi => ⟨1, 0x68, 1, 0, 1, 0, 0, 16, .ro, 0x0⟩
  | .dtimeIncFrac => ⟨1, 0x6C, 1, 0, 1, 0, 0, 32, .rws, 0x61861862⟩
  | .dtimeIncInt => ⟨1, 0x70, 1, 0, 1, 0, 0, 4, .rws, 0x2⟩
  | .dtimeAdj => ⟨1, 0x74, 1, 0, 1, 0, 0, 32, .wo, 0x0⟩
  | .epochNsec => ⟨1, 0x78, 1, 0, 1, 0, 0, 30, .rw, 0x0⟩
  | .epochSecLo => ⟨1, 0x7C, 1, 0, 1, 0, 0, 32, .rw, 0x0⟩
  | .epochSecHi => ⟨1, 0x80, 1, 0, 1, 0, 0, 16, .rw, 0x0⟩
  | .epochArm => ⟨1, 0x80, 1, 0, 1, 0, 31, 1, .w1s, 0x0⟩
  | .axTbPer => ⟨1, 0x40, 8, 4, 1, 0, 0, 2, .rws, 0x0⟩
  | .axTbPhase => ⟨1, 0x40, 8, 4, 1, 0, 8, 18, .rws, 0x0⟩
  | .pstPeriod => ⟨2, 0x0, 8, 16, 1, 0, 0, 20, .ro, 0x0⟩
  | .pstMitEn => ⟨2, 0x0, 8, 16, 1, 0, 20, 1, .ro, 0x0⟩
  | .pstAxEn => ⟨2, 0x0, 8, 16, 1, 0, 21, 1, .ro, 0x0⟩
  | .pstMitT => ⟨2, 0x4, 8, 16, 1, 0, 0, 20, .ro, 0xFFFFF⟩
  | .pstMitLate => ⟨2, 0x4, 8, 16, 1, 0, 31, 1, .ro, 0x0⟩
  | .pstCeT => ⟨2, 0x8, 8, 16, 1, 0, 0, 20, .ro, 0xFFFFF⟩
  | .pstMitMiss => ⟨2, 0xC, 8, 16, 1, 0, 0, 16, .ro, 0x0⟩
  | .pstCeMiss => ⟨2, 0xC, 8, 16, 1, 0, 16, 16, .ro, 0x0⟩
  | .pstClrCnt => ⟨2, 0x80, 1, 0, 1, 0, 0, 1, .w1s, 0x0⟩
  | .ceLock => ⟨3, 0x0, 1, 0, 1, 0, 0, 1, .lock, 0x0⟩
  | .ceAxRun => ⟨3, 0x4, 1, 0, 1, 0, 0, 8, .ro, 0x0⟩
  | .gdVal => ⟨3, 0x100, 16, 16, 1, 0, 0, 32, .rw, 0x0⟩
  | .gdTsNs => ⟨3, 0x104, 16, 16, 1, 0, 0, 30, .rw, 0x0⟩
  | .gdTsS => ⟨3, 0x108, 16, 16, 1, 0, 0, 32, .rw, 0x0⟩
  | .gdKind => ⟨3, 0x10C, 16, 16, 1, 0, 0, 2, .rwl, 0x0⟩
  | .gdStaleAct => ⟨3, 0x10C, 16, 16, 1, 0, 2, 1, .rwl, 0x1⟩
  | .gdMaxAge => ⟨3, 0x10C, 16, 16, 1, 0, 4, 16, .rwl, 0x4E20⟩
  | .gdPub => ⟨3, 0x10C, 16, 16, 1, 0, 31, 1, .ro, 0x0⟩
  | .axEn => ⟨3, 0x400, 8, 256, 1, 0, 0, 1, .rw, 0x0⟩
  | .axMode => ⟨3, 0x400, 8, 256, 1, 0, 1, 2, .rwl, 0x0⟩
  | .axSpsrc => ⟨3, 0x400, 8, 256, 1, 0, 4, 2, .rw, 0x0⟩
  | .axI3 => ⟨3, 0x400, 8, 256, 1, 0, 6, 1, .rwl, 0x0⟩
  | .axNs => ⟨3, 0x400, 8, 256, 1, 0, 8, 4, .rwl, 0x0⟩
  | .axNp => ⟨3, 0x400, 8, 256, 1, 0, 12, 4, .rwl, 0x0⟩
  | .axAnaCh => ⟨3, 0x400, 8, 256, 1, 0, 16, 3, .rwl, 0x0⟩
  | .axKpD => ⟨3, 0x404, 8, 256, 1, 0, 0, 32, .rw, 0x0⟩
  | .axKiD => ⟨3, 0x408, 8, 256, 1, 0, 0, 32, .rw, 0x0⟩
  | .axKpQ => ⟨3, 0x40C, 8, 256, 1, 0, 0, 32, .rw, 0x0⟩
  | .axKiQ => ⟨3, 0x410, 8, 256, 1, 0, 0, 32, .rw, 0x0⟩
  | .axKpS => ⟨3, 0x414, 8, 256, 1, 0, 0, 32, .rw, 0x0⟩
  | .axKiS => ⟨3, 0x418, 8, 256, 1, 0, 0, 32, .rw, 0x0⟩
  | .axKpP => ⟨3, 0x41C, 8, 256, 1, 0, 0, 32, .rw, 0x0⟩
  | .axKvff => ⟨3, 0x420, 8, 256, 1, 0, 0, 32, .rw, 0x0⟩
  | .axKaff => ⟨3, 0x424, 8, 256, 1, 0, 0, 32, .rw, 0x0⟩
  | .axGainSh => ⟨3, 0x428, 8, 256, 1, 0, 0, 32, .rw, 0x0⟩
  | .axVlim => ⟨3, 0x42C, 8, 256, 1, 0, 0, 32, .rw, 0x49E69D16⟩
  | .axIqLim => ⟨3, 0x430, 8, 256, 1, 0, 0, 32, .rw, 0x7FFFFFFF⟩
  | .axIdRef => ⟨3, 0x434, 8, 256, 1, 0, 0, 32, .rw, 0x0⟩
  | .axSpdK => ⟨3, 0x438, 8, 256, 1, 0, 0, 32, .rw, 0x0⟩
  | .axEncK => ⟨3, 0x43C, 8, 256, 1, 0, 0, 32, .rw, 0x0⟩
  | .axEncCpr => ⟨3, 0x440, 8, 256, 1, 0, 0, 32, .rwl, 0x10000⟩
  | .axPole => ⟨3, 0x444, 8, 256, 1, 0, 0, 6, .rwl, 0x1⟩
  | .axThetaOfs => ⟨3, 0x448, 8, 256, 1, 0, 0, 32, .rw, 0x0⟩
  | .axGearNum => ⟨3, 0x44C, 8, 256, 1, 0, 0, 24, .rwl, 0x1⟩
  | .axGearDen => ⟨3, 0x450, 8, 256, 1, 0, 0, 23, .rwl, 0x1⟩
  | .axAnaOfs => ⟨3, 0x454, 8, 256, 1, 0, 0, 32, .rw, 0x0⟩
  | .axAnaGain => ⟨3, 0x458, 8, 256, 1, 0, 0, 32, .rw, 0x40000000⟩
  | .axAnaDb => ⟨3, 0x45C, 8, 256, 1, 0, 0, 32, .rw, 0x0⟩
  | .axAnaAlpha => ⟨3, 0x460, 8, 256, 1, 0, 0, 32, .rw, 0x7FFFFFFF⟩
  | .axAnaSh => ⟨3, 0x464, 8, 256, 1, 0, 0, 4, .rw, 0x1⟩
  | .axGuardMask => ⟨3, 0x468, 8, 256, 1, 0, 0, 16, .rw, 0x0⟩
  | .axIntD => ⟨3, 0x470, 8, 256, 1, 0, 0, 32, .rw, 0x0⟩
  | .axIntQ => ⟨3, 0x474, 8, 256, 1, 0, 0, 32, .rw, 0x0⟩
  | .axIntS => ⟨3, 0x478, 8, 256, 1, 0, 0, 32, .rw, 0x0⟩
  | .axRefSrc => ⟨3, 0x47C, 8, 256, 1, 0, 0, 32, .ro, 0x0⟩
  | .axRefEff => ⟨3, 0x480, 8, 256, 1, 0, 0, 32, .ro, 0x0⟩
  | .axFeedLag => ⟨3, 0x484, 8, 256, 1, 0, 0, 32, .ro, 0x0⟩
  | .axFeed => ⟨3, 0x488, 8, 256, 1, 0, 0, 32, .ro, 0x0⟩
  | .axVlimAct => ⟨3, 0x48C, 8, 256, 1, 0, 0, 1, .ro, 0x0⟩
  | .axNearD => ⟨3, 0x48C, 8, 256, 1, 0, 1, 1, .ro, 0x0⟩
  | .axNearQ => ⟨3, 0x48C, 8, 256, 1, 0, 2, 1, .ro, 0x0⟩
  | .axNearS => ⟨3, 0x48C, 8, 256, 1, 0, 3, 1, .ro, 0x0⟩
  | .axHold => ⟨3, 0x48C, 8, 256, 1, 0, 4, 1, .ro, 0x0⟩
  | .axStale => ⟨3, 0x48C, 8, 256, 1, 0, 5, 1, .ro, 0x0⟩
  | .axAnaEn => ⟨3, 0x48C, 8, 256, 1, 0, 6, 1, .ro, 0x0⟩
  | .axChatter => ⟨3, 0x490, 8, 256, 1, 0, 0, 32, .ro, 0x0⟩
  | .mioLock => ⟨4, 0x0, 1, 0, 1, 0, 0, 1, .lock, 0x0⟩
  | .mioPol => ⟨4, 0x4, 1, 0, 1, 0, 0, 1, .ro, 0x0⟩
  | .mioPadsOn => ⟨4, 0x4, 1, 0, 1, 0, 8, 8, .ro, 0x0⟩
  | .mioTrip => ⟨4, 0x8, 1, 0, 1, 0, 0, 8, .w1c, 0x0⟩
  | .mioOc => ⟨4, 0x8, 1, 0, 1, 0, 8, 8, .w1c, 0x0⟩
  | .mioEstop => ⟨4, 0x8, 1, 0, 1, 0, 16, 1, .w1c, 0x0⟩
  | .mioTripInN => ⟨4, 0xC, 1, 0, 1, 0, 0, 8, .ro, 0xFF⟩
  | .mioEstopInN => ⟨4, 0xC, 1, 0, 1, 0, 16, 1, .ro, 0x1⟩
  | .sdClkEn => ⟨4, 0x10, 1, 0, 1, 0, 0, 4, .rw, 0x0⟩
  | .adcEn => ⟨4, 0x20, 1, 0, 1, 0, 0, 8, .rw, 0x0⟩
  | .adcCode => ⟨4, 0x40, 8, 4, 1, 0, 0, 12, .ro, 0x800⟩
  | .pwmDt => ⟨4, 0x100, 8, 64, 1, 0, 0, 10, .rwl, 0x348⟩
  | .pwmPer => ⟨4, 0x11C, 8, 64, 1, 0, 0, 20, .ro, 0x0⟩
  | .pwmSh => ⟨4, 0x104, 8, 64, 3, 4, 0, 32, .ro, 0x40000000⟩
  | .pwmCmp => ⟨4, 0x110, 8, 64, 3, 4, 0, 17, .ro, 0x0⟩
  | .sdEn => ⟨4, 0x400, 24, 32, 1, 0, 0, 1, .rw, 0x0⟩
  | .sdOsr => ⟨4, 0x400, 24, 32, 1, 0, 1, 2, .rwl, 0x2⟩
  | .sdClksel => ⟨4, 0x400, 24, 32, 1, 0, 3, 2, .rwl, 0x0⟩
  | .sdStuck => ⟨4, 0x400, 24, 32, 1, 0, 5, 6, .rwl, 0x20⟩
  | .sdOcEn => ⟨4, 0x400, 24, 32, 1, 0, 11, 1, .rwl, 0x0⟩
  | .sdOcOsr => ⟨4, 0x400, 24, 32, 1, 0, 12, 2, .rwl, 0x1⟩
  | .sdOcCnt => ⟨4, 0x400, 24, 32, 1, 0, 16, 4, .rwl, 0x1⟩
  | .sdOfs => ⟨4, 0x404, 24, 32, 1, 0, 0, 32, .rw, 0x0⟩
  | .sdGain => ⟨4, 0x408, 24, 32, 1, 0, 0, 32, .rw, 0x40000000⟩
  | .sdOcHi => ⟨4, 0x40C, 24, 32, 1, 0, 0, 32, .rwl, 0x7FFFFFFF⟩
  | .sdOcLo => ⟨4, 0x410, 24, 32, 1, 0, 0, 32, .rwl, 0x80000000⟩
  | .sdSample => ⟨4, 0x414, 24, 32, 1, 0, 0, 32, .ro, 0x0⟩
  | .sdReplLoss => ⟨4, 0x418, 24, 32, 1, 0, 0, 16, .ro, 0x0⟩
  | .sdReplRange => ⟨4, 0x418, 24, 32, 1, 0, 16, 16, .ro, 0x0⟩
  | .encMode => ⟨4, 0x800, 8, 32, 1, 0, 0, 2, .rwl, 0x0⟩
  | .encFilt => ⟨4, 0x800, 8, 32, 1, 0, 2, 4, .rwl, 0x2⟩
  | .encZmode => ⟨4, 0x800, 8, 32, 1, 0, 6, 2, .rwl, 0x0⟩
  | .encDir => ⟨4, 0x800, 8, 32, 1, 0, 8, 1, .rwl, 0x0⟩
  | .ssiBits => ⟨4, 0x804, 8, 32, 1, 0, 0, 5, .rwl, 0x19⟩
  | .ssiGray => ⟨4, 0x804, 8, 32, 1, 0, 5, 1, .rwl, 0x0⟩
  | .ssiPar => ⟨4, 0x804, 8, 32, 1, 0, 6, 1, .rwl, 0x0⟩
  | .ssiDiv => ⟨4, 0x804, 8, 32, 1, 0, 8, 8, .rwl, 0x15⟩
  | .ssiDly => ⟨4, 0x804, 8, 32, 1, 0, 16, 8, .rwl, 0x8⟩
  | .ssiLead => ⟨4, 0x808, 8, 32, 1, 0, 0, 20, .rwl, 0x4EC⟩
  | .encPos => ⟨4, 0x80C, 8, 32, 1, 0, 0, 32, .ro, 0x0⟩
  | .encPosmod => ⟨4, 0x810, 8, 32, 1, 0, 0, 32, .ro, 0x0⟩
  | .encZpos => ⟨4, 0x814, 8, 32, 1, 0, 0, 32, .ro, 0x0⟩
  | .encQerr => ⟨4, 0x818, 8, 32, 1, 0, 0, 16, .ro, 0x0⟩
  | .encSsierr => ⟨4, 0x818, 8, 32, 1, 0, 16, 16, .ro, 0x0⟩
  | .ssiRaw => ⟨4, 0x81C, 8, 32, 1, 0, 0, 32, .ro, 0x0⟩
  | .plsMode => ⟨4, 0x900, 8, 16, 1, 0, 0, 2, .rwl, 0x0⟩
  | .plsFilt => ⟨4, 0x900, 8, 16, 1, 0, 2, 4, .rwl, 0x2⟩
  | .plsDirinv => ⟨4, 0x900, 8, 16, 1, 0, 6, 1, .rwl, 0x0⟩
  | .plsCnt => ⟨4, 0x904, 8, 16, 1, 0, 0, 32, .ro, 0x0⟩
  | .plsErr => ⟨4, 0x908, 8, 16, 1, 0, 0, 16, .ro, 0x0⟩
  | .mitLock => ⟨5, 0x0, 1, 0, 1, 0, 0, 1, .lock, 0x0⟩
  | .mitArm => ⟨5, 0x100, 8, 256, 1, 0, 0, 1, .rw, 0x0⟩
  | .mitUnload => ⟨5, 0x100, 8, 256, 1, 0, 1, 1, .w1s, 0x0⟩
  | .mitLoaded => ⟨5, 0x100, 8, 256, 1, 0, 2, 1, .w1s, 0x0⟩
  | .mitCluster => ⟨5, 0x104, 8, 256, 1, 0, 0, 3, .rwl, 0x0⟩
  | .mitCores => ⟨5, 0x104, 8, 256, 1, 0, 3, 8, .rwl, 0x0⟩
  | .mitWbankBase => ⟨5, 0x104, 8, 256, 1, 0, 11, 5, .rwl, 0x0⟩
  | .mitWbanks => ⟨5, 0x104, 8, 256, 1, 0, 16, 6, .rwl, 0x1⟩
  | .mitMissLimit => ⟨5, 0x104, 8, 256, 1, 0, 24, 8, .rw, 0x8⟩
  | .mitWcet => ⟨5, 0x108, 8, 256, 1, 0, 0, 20, .rwl, 0x0⟩
  | .mitVibCh => ⟨5, 0x10C, 8, 256, 1, 0, 0, 8, .rwl, 0x0⟩
  | .mitVibLen => ⟨5, 0x10C, 8, 256, 1, 0, 16, 10, .rwl, 0xFF⟩
  | .mitStateSz => ⟨5, 0x110, 8, 256, 1, 0, 0, 18, .rwl, 0x0⟩
  | .mitFbFeed => ⟨5, 0x114, 8, 256, 1, 0, 0, 32, .rw, 0x0⟩
  | .mitState => ⟨5, 0x118, 8, 256, 1, 0, 0, 2, .ro, 0x0⟩
  | .mitCause => ⟨5, 0x118, 8, 256, 1, 0, 4, 4, .ro, 0x0⟩
  | .mitSbuf => ⟨5, 0x118, 8, 256, 1, 0, 8, 1, .ro, 0x0⟩
  | .mitObsValid => ⟨5, 0x118, 8, 256, 1, 0, 9, 1, .ro, 0x0⟩
  | .mitImg => ⟨5, 0x118, 8, 256, 1, 0, 10, 1, .ro, 0x0⟩
  | .mitConsec => ⟨5, 0x118, 8, 256, 1, 0, 16, 8, .ro, 0x0⟩
  | .mitSeq => ⟨5, 0x11C, 8, 256, 1, 0, 0, 16, .ro, 0x0⟩
  | .mitLastT => ⟨5, 0x120, 8, 256, 1, 0, 0, 20, .ro, 0xFFFFF⟩
  | .mitMiss => ⟨5, 0x124, 8, 256, 1, 0, 0, 32, .ro, 0x0⟩
  | .mitDcommit => ⟨5, 0x128, 8, 256, 1, 0, 0, 16, .ro, 0x0⟩
  | .mitSeqerr => ⟨5, 0x128, 8, 256, 1, 0, 16, 16, .ro, 0x0⟩
  | .mitCommit => ⟨5, 0x180, 8, 256, 1, 0, 0, 16, .wo, 0x0⟩
  | .mitMbx => ⟨5, 0x140, 8, 256, 16, 4, 0, 32, .wo, 0x0⟩
  | .mitOut => ⟨5, 0x1C0, 8, 256, 16, 4, 0, 32, .ro, 0x0⟩
  | .strLock => ⟨6, 0x0, 1, 0, 1, 0, 0, 1, .lock, 0x0⟩
  | .strEnLo => ⟨6, 0x4, 1, 0, 1, 0, 0, 32, .rw, 0x0⟩
  | .strEnHi => ⟨6, 0x8, 1, 0, 1, 0, 0, 16, .rw, 0x0⟩
  | .csiLanes => ⟨6, 0x40, 4, 16, 1, 0, 0, 2, .rwl, 0x2⟩
  | .csiEn => ⟨6, 0x40, 4, 16, 1, 0, 4, 1, .rw, 0x0⟩
  | .csiUlps => ⟨6, 0x44, 4, 16, 1, 0, 0, 1, .ro, 0x0⟩
  | .csiErrCorr => ⟨6, 0x48, 4, 16, 1, 0, 0, 16, .ro, 0x0⟩
  | .csiErrUncorr => ⟨6, 0x48, 4, 16, 1, 0, 16, 16, .ro, 0x0⟩
  | .csiErrDrop => ⟨6, 0x4C, 4, 16, 1, 0, 0, 16, .ro, 0x0⟩
  | .camDt => ⟨6, 0x100, 16, 128, 1, 0, 0, 6, .rwl, 0x2C⟩
  | .camMode => ⟨6, 0x100, 16, 128, 1, 0, 6, 1, .rwl, 0x1⟩
  | .camLnum => ⟨6, 0x100, 16, 128, 1, 0, 7, 1, .rwl, 0x0⟩
  | .camOutfmt => ⟨6, 0x100, 16, 128, 1, 0, 8, 3, .rwl, 0x1⟩
  | .camW => ⟨6, 0x104, 16, 128, 1, 0, 0, 14, .rwl, 0x800⟩
  | .camH => ⟨6, 0x104, 16, 128, 1, 0, 16, 14, .rwl, 0x600⟩
  | .camStride => ⟨6, 0x108, 16, 128, 1, 0, 0, 24, .rwl, 0x1800⟩
  | .camReplMode => ⟨6, 0x10C, 16, 128, 1, 0, 0, 1, .rwl, 0x0⟩
  | .camMaxbad => ⟨6, 0x10C, 16, 128, 1, 0, 4, 13, .rwl, 0x10⟩
  | .camFill => ⟨6, 0x110, 16, 128, 1, 0, 0, 16, .rwl, 0x0⟩
  | .camAddrLo => ⟨6, 0x114, 16, 128, 1, 0, 0, 32, .rw, 0x0⟩
  | .camAddrHi => ⟨6, 0x118, 16, 128, 1, 0, 0, 8, .rw, 0x0⟩
  | .camCommit => ⟨6, 0x11C, 16, 128, 1, 0, 0, 8, .wo, 0x0⟩
  | .camLiveLo => ⟨6, 0x120, 16, 128, 1, 0, 0, 32, .ro, 0x0⟩
  | .camLiveHi => ⟨6, 0x124, 16, 128, 1, 0, 0, 8, .ro, 0x0⟩
  | .camPendP => ⟨6, 0x128, 16, 128, 1, 0, 0, 1, .ro, 0x0⟩
  | .camPendTag => ⟨6, 0x128, 16, 128, 1, 0, 8, 8, .ro, 0x0⟩
  | .camAppFnum => ⟨6, 0x12C, 16, 128, 1, 0, 0, 16, .ro, 0x0⟩
  | .camAppTag => ⟨6, 0x12C, 16, 128, 1, 0, 16, 8, .ro, 0x0⟩
  | .camAppStatus => ⟨6, 0x12C, 16, 128, 1, 0, 24, 3, .ro, 0x0⟩
  | .camAppFcnt => ⟨6, 0x130, 16, 128, 1, 0, 0, 32, .ro, 0x0⟩
  | .camAppPop => ⟨6, 0x134, 16, 128, 1, 0, 0, 1, .w1s, 0x0⟩
  | .camFcnt => ⟨6, 0x138, 16, 128, 1, 0, 0, 32, .ro, 0x0⟩
  | .camRecLo => ⟨6, 0x13C, 16, 128, 1, 0, 5, 27, .rwl, 0x0⟩
  | .camRecHi => ⟨6, 0x140, 16, 128, 1, 0, 0, 8, .rwl, 0x0⟩
  | .camRecN => ⟨6, 0x140, 16, 128, 1, 0, 16, 8, .rwl, 0xF⟩
  | .camStatsLo => ⟨6, 0x144, 16, 128, 1, 0, 13, 19, .rwl, 0x0⟩
  | .camStatsHi => ⟨6, 0x148, 16, 128, 1, 0, 0, 8, .rwl, 0x0⟩
  | .camStatsN => ⟨6, 0x148, 16, 128, 1, 0, 16, 8, .rwl, 0x3⟩
  | .camStatsHch => ⟨6, 0x148, 16, 128, 1, 0, 28, 2, .rwl, 0x0⟩
  | .camTsOfs => ⟨6, 0x14C, 16, 128, 1, 0, 0, 32, .rwl, 0x0⟩
  | .camRidx => ⟨6, 0x150, 16, 128, 1, 0, 0, 32, .ro, 0x0⟩
  | .camCrepl => ⟨6, 0x154, 16, 128, 1, 0, 0, 16, .ro, 0x0⟩
  | .camAovf => ⟨6, 0x154, 16, 128, 1, 0, 16, 16, .ro, 0x0⟩
  | .cmpBayer => ⟨6, 0xC00, 4, 32, 1, 0, 0, 2, .rwl, 0x0⟩
  | .cmpBlack => ⟨6, 0xC00, 4, 32, 1, 0, 16, 16, .rwl, 0x0⟩
  | .cmpWbR => ⟨6, 0xC04, 4, 32, 1, 0, 0, 16, .rwl, 0x1000⟩
  | .cmpWbG => ⟨6, 0xC04, 4, 32, 1, 0, 16, 16, .rwl, 0x1000⟩
  | .cmpWbB => ⟨6, 0xC08, 4, 32, 1, 0, 0, 16, .rwl, 0x1000⟩
  | .cmpC00 => ⟨6, 0xC0C, 4, 32, 1, 0, 0, 16, .rwl, 0x1000⟩
  | .cmpC01 => ⟨6, 0xC0C, 4, 32, 1, 0, 16, 16, .rwl, 0x0⟩
  | .cmpC02 => ⟨6, 0xC10, 4, 32, 1, 0, 0, 16, .rwl, 0x0⟩
  | .cmpC10 => ⟨6, 0xC10, 4, 32, 1, 0, 16, 16, .rwl, 0x0⟩
  | .cmpC11 => ⟨6, 0xC14, 4, 32, 1, 0, 0, 16, .rwl, 0x1000⟩
  | .cmpC12 => ⟨6, 0xC14, 4, 32, 1, 0, 16, 16, .rwl, 0x0⟩
  | .cmpC20 => ⟨6, 0xC18, 4, 32, 1, 0, 0, 16, .rwl, 0x0⟩
  | .cmpC21 => ⟨6, 0xC18, 4, 32, 1, 0, 16, 16, .rwl, 0x0⟩
  | .cmpC22 => ⟨6, 0xC1C, 4, 32, 1, 0, 0, 16, .rwl, 0x1000⟩
  | .ringLo => ⟨6, 0x1000, 32, 16, 1, 0, 3, 29, .rwl, 0x0⟩
  | .ringHi => ⟨6, 0x1004, 32, 16, 1, 0, 0, 8, .rwl, 0x0⟩
  | .ringLenLog2 => ⟨6, 0x1004, 32, 16, 1, 0, 16, 4, .rwl, 0xA⟩
  | .strWidx => ⟨6, 0x1008, 32, 16, 1, 0, 0, 32, .ro, 0x0⟩
  | .tdmBdiv => ⟨6, 0x1400, 4, 16, 1, 0, 0, 12, .rwl, 0x80⟩
  | .tdmEn => ⟨6, 0x1400, 4, 16, 1, 0, 12, 1, .rwl, 0x0⟩
  | .tdmVflagEn => ⟨6, 0x1400, 4, 16, 1, 0, 13, 1, .rwl, 0x0⟩
  | .tdmVflagBit => ⟨6, 0x1400, 4, 16, 1, 0, 16, 5, .rwl, 0x0⟩
  | .tdmVflagPol => ⟨6, 0x1400, 4, 16, 1, 0, 21, 1, .rwl, 0x1⟩
  | .tdmStuckRun => ⟨6, 0x1404, 4, 16, 1, 0, 0, 8, .rwl, 0x40⟩
  | .tdmRepl0 => ⟨6, 0x1408, 4, 16, 1, 0, 0, 16, .ro, 0x0⟩
  | .tdmRepl1 => ⟨6, 0x1408, 4, 16, 1, 0, 16, 16, .ro, 0x0⟩
  | .scqEn => ⟨6, 0x1800, 4, 32, 1, 0, 0, 1, .rw, 0x0⟩
  | .scqBus => ⟨6, 0x1800, 4, 32, 1, 0, 1, 2, .rw, 0x0⟩
  | .scqAddr => ⟨6, 0x1800, 4, 32, 1, 0, 3, 7, .rw, 0x0⟩
  | .scqAw => ⟨6, 0x1800, 4, 32, 1, 0, 10, 1, .rw, 0x1⟩
  | .scqDw => ⟨6, 0x1800, 4, 32, 1, 0, 11, 1, .rw, 0x1⟩
  | .scqFmp => ⟨6, 0x1800, 4, 32, 1, 0, 12, 1, .rw, 0x0⟩
  | .scqD => ⟨6, 0x1800, 4, 32, 1, 0, 14, 2, .rw, 0x0⟩
  | .scqVc => ⟨6, 0x1800, 4, 32, 1, 0, 16, 2, .rw, 0x0⟩
  | .scqEntry => ⟨6, 0x1804, 4, 32, 1, 0, 0, 32, .wo, 0x0⟩
  | .scqSubmit => ⟨6, 0x1808, 4, 32, 1, 0, 0, 8, .wo, 0x0⟩
  | .scqEpoch => ⟨6, 0x180C, 4, 32, 1, 0, 0, 8, .ro, 0x0⟩
  | .scqSets => ⟨6, 0x180C, 4, 32, 1, 0, 8, 3, .ro, 0x0⟩
  | .scqFree => ⟨6, 0x180C, 4, 32, 1, 0, 16, 7, .ro, 0x40⟩
  | .scqUncertain => ⟨6, 0x180C, 4, 32, 1, 0, 24, 1, .ro, 0x0⟩
  | .scqEffectFcnt => ⟨6, 0x1810, 4, 32, 1, 0, 0, 32, .ro, 0x0⟩
  | .yarLock => ⟨7, 0x0, 1, 0, 1, 0, 0, 1, .lock, 0x0⟩
  | .yarEn => ⟨7, 0x100, 2, 256, 1, 0, 0, 1, .rwl, 0x0⟩
  | .yarFold => ⟨7, 0x100, 2, 256, 1, 0, 1, 1, .rwl, 0x0⟩
  | .yarDictLo => ⟨7, 0x104, 2, 256, 1, 0, 0, 32, .rw, 0x0⟩
  | .yarDictHi => ⟨7, 0x108, 2, 256, 1, 0, 0, 8, .rw, 0x0⟩
  | .yarDictLoad => ⟨7, 0x10C, 2, 256, 1, 0, 0, 1, .w1s, 0x0⟩
  | .yarDictValid => ⟨7, 0x110, 2, 256, 1, 0, 0, 1, .ro, 0x0⟩
  | .yarDictN => ⟨7, 0x110, 2, 256, 1, 0, 16, 16, .ro, 0x0⟩
  | .yarDictDigLo => ⟨7, 0x114, 2, 256, 1, 0, 0, 32, .ro, 0x0⟩
  | .yarDictDigHi => ⟨7, 0x118, 2, 256, 1, 0, 0, 32, .ro, 0x0⟩
  | .yarQLo => ⟨7, 0x11C, 2, 256, 1, 0, 0, 32, .rwl, 0x0⟩
  | .yarQHi => ⟨7, 0x120, 2, 256, 1, 0, 0, 32, .rwl, 0x0⟩
  | .yarQTail => ⟨7, 0x124, 2, 256, 1, 0, 0, 5, .rw, 0x0⟩
  | .yarQHead => ⟨7, 0x128, 2, 256, 1, 0, 0, 5, .ro, 0x0⟩
  | .yarQbytes => ⟨7, 0x12C, 2, 256, 1, 0, 0, 32, .ro, 0x0⟩
  | .yarCntTok => ⟨7, 0x130, 2, 256, 1, 0, 0, 32, .ro, 0x0⟩
  | .yarCntRepl => ⟨7, 0x134, 2, 256, 1, 0, 0, 32, .ro, 0x0⟩
  | .yarCntSat => ⟨7, 0x138, 2, 256, 1, 0, 0, 32, .ro, 0x0⟩
  | .ppuQLo => ⟨7, 0x400, 4, 64, 1, 0, 0, 32, .rwl, 0x0⟩
  | .ppuQHi => ⟨7, 0x404, 4, 64, 1, 0, 0, 32, .rwl, 0x0⟩
  | .ppuQTail => ⟨7, 0x408, 4, 64, 1, 0, 0, 5, .rw, 0x0⟩
  | .ppuQHead => ⟨7, 0x40C, 4, 64, 1, 0, 0, 5, .ro, 0x0⟩
  | .ppuCntErr => ⟨7, 0x410, 4, 64, 1, 0, 0, 32, .ro, 0x0⟩
  | .tenLock => ⟨8, 0x0, 1, 0, 1, 0, 0, 1, .lock, 0x0⟩
  | .tcSrEn => ⟨8, 0x100, 64, 64, 1, 0, 0, 1, .rwl, 0x1⟩
  | .tcTrapNan => ⟨8, 0x100, 64, 64, 1, 0, 1, 1, .rwl, 0x0⟩
  | .tcTrapSat => ⟨8, 0x100, 64, 64, 1, 0, 2, 1, .rwl, 0x0⟩
  | .tcRestart => ⟨8, 0x104, 64, 64, 1, 0, 0, 1, .w1s, 0x0⟩
  | .tcState => ⟨8, 0x108, 64, 64, 1, 0, 0, 2, .ro, 0x0⟩
  | .tcTid => ⟨8, 0x108, 64, 64, 1, 0, 16, 10, .ro, 0x0⟩
  | .tcSrSeed => ⟨8, 0x10C, 64, 64, 1, 0, 0, 32, .rw, 0x1⟩
  | .tcFlagNan => ⟨8, 0x110, 64, 64, 1, 0, 0, 1, .w1c, 0x0⟩
  | .tcFlagInf => ⟨8, 0x110, 64, 64, 1, 0, 1, 1, .w1c, 0x0⟩
  | .tcFlagSat => ⟨8, 0x110, 64, 64, 1, 0, 2, 1, .w1c, 0x0⟩
  | .tcFlagNanToInt => ⟨8, 0x110, 64, 64, 1, 0, 3, 1, .w1c, 0x0⟩
  | .tcFlagBlockNan => ⟨8, 0x110, 64, 64, 1, 0, 4, 1, .w1c, 0x0⟩
  | .tcCntSat => ⟨8, 0x114, 64, 64, 1, 0, 0, 32, .ro, 0x0⟩
  | .tcCntNan => ⟨8, 0x118, 64, 64, 1, 0, 0, 32, .ro, 0x0⟩
  | .tcExcCause => ⟨8, 0x11C, 64, 64, 1, 0, 0, 4, .ro, 0x0⟩
  | .tcExcPc => ⟨8, 0x11C, 64, 64, 1, 0, 12, 20, .ro, 0x0⟩
  | .tcArrayOps => ⟨8, 0x120, 64, 64, 1, 0, 0, 32, .ro, 0x0⟩
  | .cnvLock => ⟨9, 0x0, 1, 0, 1, 0, 0, 1, .lock, 0x0⟩
  | .cnvEn => ⟨9, 0x100, 8, 64, 1, 0, 0, 1, .rwl, 0x0⟩
  | .cnvQAddr => ⟨9, 0x104, 8, 64, 1, 0, 7, 15, .rwl, 0x0⟩
  | .cnvQTail => ⟨9, 0x108, 8, 64, 1, 0, 0, 4, .rw, 0x0⟩
  | .cnvQHead => ⟨9, 0x10C, 8, 64, 1, 0, 0, 4, .ro, 0x0⟩
  | .cnvBusy => ⟨9, 0x110, 8, 64, 1, 0, 0, 1, .ro, 0x0⟩
  | .cnvLbValid => ⟨9, 0x110, 8, 64, 1, 0, 1, 1, .ro, 0x0⟩
  | .cnvLbTag => ⟨9, 0x110, 8, 64, 1, 0, 8, 8, .ro, 0x0⟩
  | .cnvTid => ⟨9, 0x110, 8, 64, 1, 0, 16, 10, .ro, 0x0⟩
  | .cnvFlags => ⟨9, 0x114, 8, 64, 1, 0, 0, 4, .w1c, 0x0⟩
  | .cnvCntSat => ⟨9, 0x118, 8, 64, 1, 0, 0, 32, .ro, 0x0⟩
  | .cnvCntReload => ⟨9, 0x11C, 8, 64, 1, 0, 0, 32, .ro, 0x0⟩
  | .cnvJobs => ⟨9, 0x120, 8, 64, 1, 0, 0, 32, .ro, 0x0⟩
  | .cnvLastT => ⟨9, 0x124, 8, 64, 1, 0, 0, 32, .ro, 0x0⟩
  | .cnvErrCause => ⟨9, 0x128, 8, 64, 1, 0, 0, 4, .ro, 0x0⟩
  | .cnvErrSlot => ⟨9, 0x128, 8, 64, 1, 0, 8, 4, .ro, 0x0⟩
  | .embLock => ⟨10, 0x0, 1, 0, 1, 0, 0, 1, .lock, 0x0⟩
  | .embEn => ⟨10, 0x100, 2, 128, 1, 0, 0, 1, .rwl, 0x0⟩
  | .embQLo => ⟨10, 0x104, 2, 128, 1, 0, 0, 32, .rwl, 0x0⟩
  | .embQHi => ⟨10, 0x108, 2, 128, 1, 0, 0, 16, .rwl, 0x0⟩
  | .embQTail => ⟨10, 0x10C, 2, 128, 1, 0, 0, 5, .rw, 0x0⟩
  | .embQHead => ⟨10, 0x110, 2, 128, 1, 0, 0, 5, .ro, 0x0⟩
  | .embSrSeed => ⟨10, 0x114, 2, 128, 1, 0, 0, 32, .rw, 0x1⟩
  | .embBusy => ⟨10, 0x118, 2, 128, 1, 0, 0, 1, .ro, 0x0⟩
  | .embTid => ⟨10, 0x118, 2, 128, 1, 0, 16, 10, .ro, 0x0⟩
  | .embCntRows => ⟨10, 0x11C, 2, 128, 1, 0, 0, 32, .ro, 0x0⟩
  | .embSkipRange => ⟨10, 0x120, 2, 128, 1, 0, 0, 16, .ro, 0x0⟩
  | .embSkipNonfinite => ⟨10, 0x120, 2, 128, 1, 0, 16, 16, .ro, 0x0⟩
  | .embCntEcc => ⟨10, 0x124, 2, 128, 1, 0, 0, 32, .ro, 0x0⟩
  | .embCntLockwait => ⟨10, 0x128, 2, 128, 1, 0, 0, 32, .ro, 0x0⟩
  | .embFlags => ⟨10, 0x12C, 2, 128, 1, 0, 0, 2, .w1c, 0x0⟩
  | .embErrCause => ⟨10, 0x130, 2, 128, 1, 0, 0, 4, .ro, 0x0⟩
  | .embErrSlot => ⟨10, 0x130, 2, 128, 1, 0, 8, 5, .ro, 0x0⟩
  | .spmLock => ⟨11, 0x0, 1, 0, 1, 0, 0, 1, .lock, 0x0⟩
  | .spmStarveLim => ⟨11, 0x4, 1, 0, 1, 0, 0, 16, .rwl, 0x400⟩
  | .spmCntClr => ⟨11, 0x8, 1, 0, 1, 0, 0, 1, .w1s, 0x0⟩
  | .spmCntFreeze => ⟨11, 0x8, 1, 0, 1, 0, 1, 1, .rw, 0x0⟩
  | .spmEccCorr => ⟨11, 0xC, 1, 0, 1, 0, 0, 32, .ro, 0x0⟩
  | .spmEccUnc => ⟨11, 0x10, 1, 0, 1, 0, 0, 32, .ro, 0x0⟩
  | .spmEccAddrLo => ⟨11, 0x14, 1, 0, 1, 0, 3, 29, .ro, 0x0⟩
  | .spmEccAddrHi => ⟨11, 0x18, 1, 0, 1, 0, 0, 8, .ro, 0x0⟩
  | .spmInit => ⟨11, 0x20, 1, 0, 1, 0, 0, 8, .w1s, 0x0⟩
  | .lsNstall => ⟨11, 0x1000, 64, 128, 16, 8, 0, 32, .ro, 0x0⟩
  | .lsWconf => ⟨11, 0x1004, 64, 128, 16, 8, 0, 32, .ro, 0x0⟩
  | .csNstall => ⟨11, 0x4000, 8, 256, 32, 8, 0, 32, .ro, 0x0⟩
  | .csWconf => ⟨11, 0x4004, 8, 256, 32, 8, 0, 32, .ro, 0x0⟩
  | .bpuLock => ⟨12, 0x0, 1, 0, 1, 0, 0, 1, .lock, 0x0⟩
  | .bpuInfoH => ⟨12, 0x4, 1, 0, 1, 0, 0, 32, .rw, 0x0⟩
  | .bpuInfoState => ⟨12, 0x8, 1, 0, 1, 0, 0, 1, .ro, 0x0⟩
  | .bpuInfoOwner => ⟨12, 0x8, 1, 0, 1, 0, 8, 10, .ro, 0x0⟩
  | .bpuInfoGen => ⟨12, 0x8, 1, 0, 1, 0, 24, 8, .ro, 0x0⟩
  | .bpuReclaimTid => ⟨12, 0xC, 1, 0, 1, 0, 0, 10, .wo, 0x0⟩
  | .bpuReclaimBusy => ⟨12, 0xC, 1, 0, 1, 0, 31, 1, .ro, 0x0⟩
  | .poolEn => ⟨12, 0x800, 32, 32, 1, 0, 0, 1, .rw, 0x0⟩
  | .poolBaseLo => ⟨12, 0x804, 32, 32, 1, 0, 7, 25, .rwl, 0x0⟩
  | .poolBaseHi => ⟨12, 0x808, 32, 32, 1, 0, 0, 8, .rwl, 0x0⟩
  | .poolSize => ⟨12, 0x80C, 32, 32, 1, 0, 0, 17, .rwl, 0x0⟩
  | .poolCount => ⟨12, 0x810, 32, 32, 1, 0, 0, 16, .rwl, 0x0⟩
  | .poolFree => ⟨12, 0x814, 32, 32, 1, 0, 0, 17, .ro, 0x0⟩
  | .poolEmptyCnt => ⟨12, 0x814, 32, 32, 1, 0, 17, 15, .ro, 0x0⟩
  | .poolLow => ⟨12, 0x818, 32, 32, 1, 0, 0, 17, .ro, 0x0⟩
  | .poolDfree => ⟨12, 0x81C, 32, 32, 1, 0, 0, 16, .ro, 0x0⟩
  | .poolFfree => ⟨12, 0x81C, 32, 32, 1, 0, 16, 16, .ro, 0x0⟩
  | .bpuAlloc => ⟨12, 0x1000, 32, 4096, 1, 0, 0, 32, .ro, 0x0⟩
  | .bpuFree => ⟨12, 0x1004, 32, 4096, 1, 0, 0, 32, .wo, 0x0⟩
  | .bpuGive => ⟨12, 0x21000, 32, 4096, 1024, 4, 0, 32, .wo, 0x0⟩
  | .memcLock => ⟨20, 0x0, 1, 0, 1, 0, 0, 1, .lock, 0x0⟩
  | .memcDens => ⟨20, 0x4, 1, 0, 1, 0, 0, 2, .rwl, 0x1⟩
  | .memcScrubEn => ⟨20, 0x4, 1, 0, 1, 0, 4, 1, .rw, 0x1⟩
  | .memcUsableLo => ⟨20, 0x8, 1, 0, 1, 0, 6, 26, .ro, 0x0⟩
  | .memcUsableHi => ⟨20, 0xC, 1, 0, 1, 0, 0, 8, .ro, 0x0⟩
  | .memcScrubInt => ⟨20, 0x10, 1, 0, 1, 0, 0, 32, .rw, 0x15180⟩
  | .memcEccCorr => ⟨20, 0x14, 1, 0, 1, 0, 0, 32, .ro, 0x0⟩
  | .memcEccUnc => ⟨20, 0x18, 1, 0, 1, 0, 0, 32, .ro, 0x0⟩
  | .memcEccAddrLo => ⟨20, 0x1C, 1, 0, 1, 0, 6, 26, .ro, 0x0⟩
  | .memcEccAddrHi => ⟨20, 0x20, 1, 0, 1, 0, 0, 8, .ro, 0x0⟩
  | .memcEccCh => ⟨20, 0x24, 1, 0, 1, 0, 0, 3, .ro, 0x0⟩
  | .memcEccSrc => ⟨20, 0x24, 1, 0, 1, 0, 8, 1, .ro, 0x0⟩
  | .memcCntClr => ⟨20, 0x28, 1, 0, 1, 0, 0, 1, .w1s, 0x0⟩
  | .memcTemp => ⟨20, 0x2C, 1, 0, 1, 0, 0, 3, .ro, 0x0⟩
  | .memcChCorr => ⟨20, 0x40, 8, 4, 1, 0, 0, 32, .ro, 0x0⟩
  | .mmuLock => ⟨21, 0x0, 1, 0, 1, 0, 0, 1, .lock, 0x0⟩
  | .mmuAstLo => ⟨21, 0x4, 1, 0, 1, 0, 12, 20, .rwl, 0x0⟩
  | .mmuAstHi => ⟨21, 0x8, 1, 0, 1, 0, 0, 8, .rwl, 0x0⟩
  | .mmuFqLo => ⟨21, 0xC, 1, 0, 1, 0, 13, 19, .rwl, 0x0⟩
  | .mmuFqHi => ⟨21, 0x10, 1, 0, 1, 0, 0, 8, .rwl, 0x0⟩
  | .mmuFqProd => ⟨21, 0x14, 1, 0, 1, 0, 0, 9, .ro, 0x0⟩
  | .mmuFqCons => ⟨21, 0x18, 1, 0, 1, 0, 0, 9, .rw, 0x0⟩
  | .mmuFqOvf => ⟨21, 0x1C, 1, 0, 1, 0, 0, 32, .ro, 0x0⟩
  | .mmuResume => ⟨21, 0x20, 1, 0, 1, 0, 0, 10, .wo, 0x0⟩
  | .mmuInvBaseLo => ⟨21, 0x24, 1, 0, 1, 0, 12, 20, .rw, 0x0⟩
  | .mmuInvBaseHi => ⟨21, 0x28, 1, 0, 1, 0, 0, 16, .rw, 0x0⟩
  | .mmuInvLen => ⟨21, 0x2C, 1, 0, 1, 0, 0, 32, .rw, 0x0⟩
  | .mmuInvTid => ⟨21, 0x30, 1, 0, 1, 0, 0, 10, .rw, 0x0⟩
  | .mmuInvGo => ⟨21, 0x30, 1, 0, 1, 0, 31, 1, .w1s, 0x0⟩
  | .mmuInvBusy => ⟨21, 0x34, 1, 0, 1, 0, 0, 1, .ro, 0x0⟩
  | .mmuInvTimeout => ⟨21, 0x34, 1, 0, 1, 0, 1, 1, .ro, 0x0⟩
  | .mmuInvAckLo => ⟨21, 0x38, 1, 0, 1, 0, 0, 32, .ro, 0x0⟩
  | .mmuInvAckHi => ⟨21, 0x3C, 1, 0, 1, 0, 0, 8, .ro, 0x0⟩
  | .mmuXlateVaLo => ⟨21, 0x40, 1, 0, 1, 0, 0, 32, .rw, 0x0⟩
  | .mmuXlateVaHi => ⟨21, 0x44, 1, 0, 1, 0, 0, 16, .rw, 0x0⟩
  | .mmuXlateTid => ⟨21, 0x48, 1, 0, 1, 0, 0, 10, .rw, 0x0⟩
  | .mmuXlateWr => ⟨21, 0x48, 1, 0, 1, 0, 16, 1, .rw, 0x0⟩
  | .mmuXlateGo => ⟨21, 0x48, 1, 0, 1, 0, 31, 1, .w1s, 0x0⟩
  | .mmuXlateDone => ⟨21, 0x4C, 1, 0, 1, 0, 0, 1, .ro, 0x0⟩
  | .mmuXlateFault => ⟨21, 0x4C, 1, 0, 1, 0, 1, 1, .ro, 0x0⟩
  | .mmuXlateCause => ⟨21, 0x4C, 1, 0, 1, 0, 2, 4, .ro, 0x0⟩
  | .mmuXlatePgs => ⟨21, 0x4C, 1, 0, 1, 0, 6, 2, .ro, 0x0⟩
  | .mmuXlatePaLo => ⟨21, 0x4C, 1, 0, 1, 0, 12, 20, .ro, 0x0⟩
  | .mmuXlatePaHi => ⟨21, 0x50, 1, 0, 1, 0, 0, 8, .ro, 0x0⟩
  | .mmuXlateGen => ⟨21, 0x50, 1, 0, 1, 0, 16, 16, .ro, 0x0⟩
  | .mmuCntL2hit => ⟨21, 0x60, 1, 0, 1, 0, 0, 32, .ro, 0x0⟩
  | .mmuCntWalk => ⟨21, 0x64, 1, 0, 1, 0, 0, 32, .ro, 0x0⟩
  | .mmuCntGenmiss => ⟨21, 0x68, 1, 0, 1, 0, 0, 32, .ro, 0x0⟩
  | .mmuCntFault => ⟨21, 0x6C, 1, 0, 1, 0, 0, 32, .ro, 0x0⟩
  | .mmuGen => ⟨21, 0x1000, 1024, 4, 1, 0, 0, 16, .ro, 0x1⟩
  | .mmuDead => ⟨21, 0x1000, 1024, 4, 1, 0, 16, 1, .ro, 0x0⟩
  | .schLock => ⟨22, 0x0, 1, 0, 1, 0, 0, 1, .lock, 0x0⟩
  | .schTlim => ⟨22, 0x4, 1, 0, 1, 0, 0, 16, .rwl, 0x3C⟩
  | .schBwRsv => ⟨22, 0x4, 1, 0, 1, 0, 16, 6, .rwl, 0x8⟩
  | .schNres => ⟨22, 0x8, 1, 0, 1, 0, 0, 7, .ro, 0x0⟩
  | .schBwUsed => ⟨22, 0x8, 1, 0, 1, 0, 16, 7, .ro, 0x0⟩
  | .schDispCnt => ⟨22, 0xC, 1, 0, 1, 0, 0, 32, .ro, 0x0⟩
  | .chEn => ⟨22, 0x100, 64, 64, 1, 0, 0, 1, .rw, 0x0⟩
  | .chSlot => ⟨22, 0x100, 64, 64, 1, 0, 1, 6, .rw, 0x0⟩
  | .chMode => ⟨22, 0x100, 64, 64, 1, 0, 7, 1, .rw, 0x0⟩
  | .chPrio => ⟨22, 0x100, 64, 64, 1, 0, 8, 3, .rw, 0x0⟩
  | .chTail => ⟨22, 0x104, 64, 64, 1, 0, 0, 3, .rw, 0x0⟩
  | .chHead => ⟨22, 0x108, 64, 64, 1, 0, 0, 3, .ro, 0x0⟩
  | .chState => ⟨22, 0x10C, 64, 64, 1, 0, 0, 2, .ro, 0x0⟩
  | .chResult => ⟨22, 0x10C, 64, 64, 1, 0, 4, 4, .ro, 0x0⟩
  | .chIndex => ⟨22, 0x10C, 64, 64, 1, 0, 8, 3, .ro, 0x0⟩
  | .chNote => ⟨22, 0x10C, 64, 64, 1, 0, 16, 1, .w1c, 0x0⟩
  | .chDone => ⟨22, 0x110, 64, 64, 1, 0, 0, 32, .ro, 0x0⟩
  | .chResume => ⟨22, 0x114, 64, 64, 1, 0, 0, 1, .w1s, 0x0⟩
  | .chFlush => ⟨22, 0x114, 64, 64, 1, 0, 1, 1, .w1s, 0x0⟩
  | .ctxTid => ⟨22, 0x2000, 64, 64, 1, 0, 0, 10, .rw, 0x0⟩
  | .ctxCoresLo => ⟨22, 0x2004, 64, 64, 1, 0, 0, 32, .rw, 0x0⟩
  | .ctxCoresHi => ⟨22, 0x2008, 64, 64, 1, 0, 0, 32, .rw, 0x0⟩
  | .ctxLsB0 => ⟨22, 0x200C, 64, 64, 1, 0, 0, 4, .rw, 0x0⟩
  | .ctxLsNb => ⟨22, 0x200C, 64, 64, 1, 0, 4, 5, .rw, 0x0⟩
  | .ctxCsB0 => ⟨22, 0x2010, 64, 64, 1, 0, 0, 5, .rw, 0x0⟩
  | .ctxCsNb => ⟨22, 0x2010, 64, 64, 1, 0, 8, 6, .rw, 0x0⟩
  | .ctxBw => ⟨22, 0x2014, 64, 64, 1, 0, 0, 6, .rw, 0x1⟩
  | .ctxActivate => ⟨22, 0x2018, 64, 64, 1, 0, 0, 1, .w1s, 0x0⟩
  | .ctxRelease => ⟨22, 0x2018, 64, 64, 1, 0, 1, 1, .w1s, 0x0⟩
  | .ctxTerminate => ⟨22, 0x2018, 64, 64, 1, 0, 2, 1, .w1s, 0x0⟩
  | .ctxState => ⟨22, 0x201C, 64, 64, 1, 0, 0, 2, .ro, 0x0⟩
  | .ctxEvqLo => ⟨22, 0x2020, 64, 64, 1, 0, 4, 28, .rw, 0x0⟩
  | .ctxEvqHi => ⟨22, 0x2024, 64, 64, 1, 0, 0, 8, .rw, 0x0⟩
  | .ctxEvqLenLog2 => ⟨22, 0x2024, 64, 64, 1, 0, 16, 4, .rw, 0x6⟩
  | .ctxEvqProd => ⟨22, 0x2028, 64, 64, 1, 0, 0, 13, .ro, 0x0⟩
  | .ctxEvqCons => ⟨22, 0x202C, 64, 64, 1, 0, 0, 13, .rw, 0x0⟩
  | .ctxEvqOvf => ⟨22, 0x2030, 64, 64, 1, 0, 0, 32, .ro, 0x0⟩
  | .taskRing => ⟨22, 0x8000, 64, 512, 128, 4, 0, 32, .rw, 0x0⟩
  | .canLock => ⟨23, 0x0, 1, 0, 1, 0, 0, 1, .lock, 0x0⟩
  | .canInit => ⟨23, 0x100, 4, 256, 1, 0, 0, 1, .rw, 0x1⟩
  | .canRom => ⟨23, 0x100, 4, 256, 1, 0, 1, 1, .rw, 0x0⟩
  | .canBoffRecover => ⟨23, 0x100, 4, 256, 1, 0, 2, 1, .w1s, 0x0⟩
  | .canFdEn => ⟨23, 0x100, 4, 256, 1, 0, 8, 1, .rw, 0x1⟩
  | .canBrsEn => ⟨23, 0x100, 4, 256, 1, 0, 9, 1, .rw, 0x1⟩
  | .canPexOff => ⟨23, 0x100, 4, 256, 1, 0, 10, 1, .rw, 0x0⟩
  | .canSspEn => ⟨23, 0x100, 4, 256, 1, 0, 11, 1, .rw, 0x1⟩
  | .canLoop => ⟨23, 0x100, 4, 256, 1, 0, 12, 1, .rw, 0x0⟩
  | .canAPre => ⟨23, 0x104, 4, 256, 1, 0, 0, 4, .rw, 0x1⟩
  | .canAS1 => ⟨23, 0x104, 4, 256, 1, 0, 4, 8, .rw, 0x3E⟩
  | .canAS2 => ⟨23, 0x104, 4, 256, 1, 0, 12, 7, .rw, 0xF⟩
  | .canASjw => ⟨23, 0x104, 4, 256, 1, 0, 19, 7, .rw, 0xF⟩
  | .canDPre => ⟨23, 0x108, 4, 256, 1, 0, 0, 4, .rw, 0x0⟩
  | .canDS1 => ⟨23, 0x108, 4, 256, 1, 0, 4, 5, .rw, 0x1C⟩
  | .canDS2 => ⟨23, 0x108, 4, 256, 1, 0, 9, 4, .rw, 0x9⟩
  | .canDSjw => ⟨23, 0x108, 4, 256, 1, 0, 13, 4, .rw, 0x9⟩
  | .canSspWin => ⟨23, 0x10C, 4, 256, 1, 0, 0, 8, .rw, 0x4⟩
  | .canSspMeas => ⟨23, 0x10C, 4, 256, 1, 0, 8, 7, .ro, 0x0⟩
  | .canSspOfs => ⟨23, 0x10C, 4, 256, 1, 0, 16, 7, .rw, 0x1E⟩
  | .canTec => ⟨23, 0x110, 4, 256, 1, 0, 0, 9, .ro, 0x0⟩
  | .canRec => ⟨23, 0x110, 4, 256, 1, 0, 16, 8, .ro, 0x0⟩
  | .canBus => ⟨23, 0x114, 4, 256, 1, 0, 0, 2, .ro, 0x3⟩
  | .canPassive => ⟨23, 0x114, 4, 256, 1, 0, 4, 1, .ro, 0x0⟩
  | .canWarn => ⟨23, 0x114, 4, 256, 1, 0, 5, 1, .ro, 0x0⟩
  | .canOff => ⟨23, 0x114, 4, 256, 1, 0, 6, 1, .ro, 0x0⟩
  | .canInitAck => ⟨23, 0x114, 4, 256, 1, 0, 7, 1, .ro, 0x1⟩
  | .canRecovCnt => ⟨23, 0x114, 4, 256, 1, 0, 16, 8, .ro, 0x0⟩
  | .canStdRules => ⟨23, 0x118, 4, 256, 1, 0, 0, 8, .rw, 0x0⟩
  | .canExtRules => ⟨23, 0x118, 4, 256, 1, 0, 8, 7, .rw, 0x0⟩
  | .canStdDef => ⟨23, 0x118, 4, 256, 1, 0, 16, 2, .rw, 0x0⟩
  | .canExtDef => ⟨23, 0x118, 4, 256, 1, 0, 18, 2, .rw, 0x2⟩
  | .canStdRmtDrop => ⟨23, 0x118, 4, 256, 1, 0, 20, 1, .rw, 0x0⟩
  | .canExtRmtDrop => ⟨23, 0x118, 4, 256, 1, 0, 21, 1, .rw, 0x0⟩
  | .canQ0Ovw => ⟨23, 0x118, 4, 256, 1, 0, 22, 1, .rw, 0x0⟩
  | .canQ1Ovw => ⟨23, 0x118, 4, 256, 1, 0, 23, 1, .rw, 0x0⟩
  | .canQ0Fill => ⟨23, 0x11C, 4, 256, 1, 0, 0, 6, .ro, 0x0⟩
  | .canQ0Rd => ⟨23, 0x11C, 4, 256, 1, 0, 8, 5, .ro, 0x0⟩
  | .canQ0Wr => ⟨23, 0x11C, 4, 256, 1, 0, 16, 5, .ro, 0x0⟩
  | .canQ0Rel => ⟨23, 0x120, 4, 256, 1, 0, 0, 5, .wo, 0x0⟩
  | .canQ1Fill => ⟨23, 0x124, 4, 256, 1, 0, 0, 6, .ro, 0x0⟩
  | .canQ1Rd => ⟨23, 0x124, 4, 256, 1, 0, 8, 5, .ro, 0x0⟩
  | .canQ1Wr => ⟨23, 0x124, 4, 256, 1, 0, 16, 5, .ro, 0x0⟩
  | .canQ1Rel => ⟨23, 0x128, 4, 256, 1, 0, 0, 5, .wo, 0x0⟩
  | .canMbfullLo => ⟨23, 0x12C, 4, 256, 1, 0, 0, 32, .w1c, 0x0⟩
  | .canMbfullHi => ⟨23, 0x130, 4, 256, 1, 0, 0, 32, .w1c, 0x0⟩
  | .canMbdirLo => ⟨23, 0x134, 4, 256, 1, 0, 0, 32, .rw, 0x0⟩
  | .canMbdirHi => ⟨23, 0x138, 4, 256, 1, 0, 0, 32, .rw, 0x0⟩
  | .canCmdMb => ⟨23, 0x13C, 4, 256, 1, 0, 0, 6, .wo, 0x0⟩
  | .canCmdCmd => ⟨23, 0x13C, 4, 256, 1, 0, 8, 2, .wo, 0x0⟩
  | .canTxpendLo => ⟨23, 0x140, 4, 256, 1, 0, 0, 32, .ro, 0x0⟩
  | .canTxpendHi => ⟨23, 0x144, 4, 256, 1, 0, 0, 32, .ro, 0x0⟩
  | .canTxdoneLo => ⟨23, 0x148, 4, 256, 1, 0, 0, 32, .w1c, 0x0⟩
  | .canTxdoneHi => ⟨23, 0x14C, 4, 256, 1, 0, 0, 32, .w1c, 0x0⟩
  | .canTxabtLo => ⟨23, 0x150, 4, 256, 1, 0, 0, 32, .w1c, 0x0⟩
  | .canTxabtHi => ⟨23, 0x154, 4, 256, 1, 0, 0, 32, .w1c, 0x0⟩
  | .canTxnextMb => ⟨23, 0x158, 4, 256, 1, 0, 0, 6, .ro, 0x0⟩
  | .canTxnextValid => ⟨23, 0x158, 4, 256, 1, 0, 8, 1, .ro, 0x0⟩
  | .canRxlostQ0 => ⟨23, 0x164, 4, 256, 1, 0, 0, 16, .ro, 0x0⟩
  | .canRxlostQ1 => ⟨23, 0x164, 4, 256, 1, 0, 16, 16, .ro, 0x0⟩
  | .canCntMbovw => ⟨23, 0x168, 4, 256, 1, 0, 0, 32, .ro, 0x0⟩
  | .canCntPex => ⟨23, 0x16C, 4, 256, 1, 0, 0, 32, .ro, 0x0⟩
  | .canCntBoff => ⟨23, 0x170, 4, 256, 1, 0, 0, 32, .ro, 0x0⟩
  | .canRam => ⟨23, 0x1000, 4, 12288, 2880, 4, 0, 32, .rw, 0x0⟩
  | .ethLock => ⟨24, 0x0, 1, 0, 1, 0, 0, 1, .lock, 0x0⟩
  | .gptpEn => ⟨24, 0x40, 1, 0, 1, 0, 0, 1, .rwl, 0x0⟩
  | .gptpPort => ⟨24, 0x40, 1, 0, 1, 0, 1, 1, .rwl, 0x0⟩
  | .gptpGmCap => ⟨24, 0x40, 1, 0, 1, 0, 2, 1, .rwl, 0x0⟩
  | .gptpPrio1 => ⟨24, 0x40, 1, 0, 1, 0, 8, 8, .rwl, 0xFF⟩
  | .gptpPrio2 => ⟨24, 0x40, 1, 0, 1, 0, 16, 8, .rwl, 0xF8⟩
  | .gptpSyncLog => ⟨24, 0x40, 1, 0, 1, 0, 24, 4, .rwl, 0xD⟩
  | .servoLockNs => ⟨24, 0x44, 1, 0, 1, 0, 0, 16, .rwl, 0x64⟩
  | .servoStepUs => ⟨24, 0x44, 1, 0, 1, 0, 16, 16, .rwl, 0x14⟩
  | .netState => ⟨24, 0x48, 1, 0, 1, 0, 0, 2, .ro, 0x0⟩
  | .netOfsNs => ⟨24, 0x4C, 1, 0, 1, 0, 0, 32, .ro, 0x0⟩
  | .netSecOfsLo => ⟨24, 0x50, 1, 0, 1, 0, 0, 32, .ro, 0x0⟩
  | .netSecOfsHi => ⟨24, 0x54, 1, 0, 1, 0, 0, 16, .ro, 0x0⟩
  | .netCycLead => ⟨24, 0x58, 1, 0, 1, 0, 0, 16, .rw, 0x14⟩
  | .ethEn => ⟨24, 0x100, 2, 1024, 1, 0, 0, 1, .rwl, 0x0⟩
  | .ethIf => ⟨24, 0x100, 2, 1024, 1, 0, 1, 1, .rwl, 0x0⟩
  | .ethSpeed => ⟨24, 0x100, 2, 1024, 1, 0, 4, 2, .ro, 0x0⟩
  | .ethLink => ⟨24, 0x100, 2, 1024, 1, 0, 8, 1, .ro, 0x0⟩
  | .ethMacLo => ⟨24, 0x104, 2, 1024, 1, 0, 0, 32, .rwl, 0x0⟩
  | .ethMacHi => ⟨24, 0x108, 2, 1024, 1, 0, 0, 16, .rwl, 0x0⟩
  | .ethIp => ⟨24, 0x10C, 2, 1024, 1, 0, 0, 32, .rwl, 0x0⟩
  | .ethMask => ⟨24, 0x110, 2, 1024, 1, 0, 0, 32, .rwl, 0x0⟩
  | .ethGw => ⟨24, 0x114, 2, 1024, 1, 0, 0, 32, .rwl, 0x0⟩
  | .ethVdpPort => ⟨24, 0x118, 2, 1024, 1, 0, 0, 16, .rwl, 0x47EC⟩
  | .ethVdpVid => ⟨24, 0x118, 2, 1024, 1, 0, 16, 12, .rwl, 0x0⟩
  | .ethVdpCycq => ⟨24, 0x118, 2, 1024, 1, 0, 28, 3, .rwl, 0x7⟩
  | .ethLatTx => ⟨24, 0x11C, 2, 1024, 1, 0, 0, 16, .rwl, 0x0⟩
  | .ethLatRx => ⟨24, 0x11C, 2, 1024, 1, 0, 16, 16, .rwl, 0x0⟩
  | .tasEn => ⟨24, 0x120, 2, 1024, 1, 0, 0, 1, .rw, 0x0⟩
  | .tasGo => ⟨24, 0x120, 2, 1024, 1, 0, 1, 1, .w1s, 0x0⟩
  | .tasCycle => ⟨24, 0x124, 2, 1024, 1, 0, 0, 30, .rw, 0xF4240⟩
  | .tasBaseNsec => ⟨24, 0x128, 2, 1024, 1, 0, 0, 30, .rw, 0x0⟩
  | .tasBaseSecLo => ⟨24, 0x12C, 2, 1024, 1, 0, 0, 32, .rw, 0x0⟩
  | .tasBaseSecHi => ⟨24, 0x130, 2, 1024, 1, 0, 0, 16, .rw, 0x0⟩
  | .tasLen => ⟨24, 0x134, 2, 1024, 1, 0, 0, 7, .rw, 0x1⟩
  | .ethRxdrop => ⟨24, 0x160, 2, 1024, 1, 0, 0, 32, .ro, 0x0⟩
  | .ethTasdrop => ⟨24, 0x164, 2, 1024, 1, 0, 0, 32, .ro, 0x0⟩
  | .ethVdpbad => ⟨24, 0x168, 2, 1024, 1, 0, 0, 32, .ro, 0x0⟩
  | .ethVdpstale => ⟨24, 0x16C, 2, 1024, 1, 0, 0, 32, .ro, 0x0⟩
  | .cbsEn => ⟨24, 0x140, 2, 1024, 8, 4, 0, 1, .rw, 0x0⟩
  | .cbsIdle => ⟨24, 0x140, 2, 1024, 8, 4, 4, 28, .rw, 0x0⟩
  | .gateMask => ⟨24, 0x300, 2, 1024, 64, 8, 0, 8, .rw, 0xFF⟩
  | .gateInterval => ⟨24, 0x304, 2, 1024, 64, 8, 0, 32, .rw, 0x0⟩
  | .pcieLock => ⟨25, 0x0, 1, 0, 1, 0, 0, 1, .lock, 0x0⟩
  | .pcieHwinLo => ⟨25, 0x4, 1, 0, 1, 0, 12, 20, .rwl, 0x0⟩
  | .pcieHwinHi => ⟨25, 0x8, 1, 0, 1, 0, 0, 32, .rwl, 0x0⟩
  | .pcieReady => ⟨25, 0xC, 1, 0, 1, 0, 0, 1, .rw, 0x0⟩
  | .pcieSpeed => ⟨25, 0x10, 1, 0, 1, 0, 0, 3, .ro, 0x0⟩
  | .pcieWidth => ⟨25, 0x10, 1, 0, 1, 0, 4, 3, .ro, 0x0⟩
  | .pcieUp => ⟨25, 0x10, 1, 0, 1, 0, 8, 1, .ro, 0x0⟩
  | .pcieBme => ⟨25, 0x10, 1, 0, 1, 0, 9, 1, .ro, 0x0⟩
  | .pcieD3 => ⟨25, 0x10, 1, 0, 1, 0, 10, 1, .ro, 0x0⟩
  | .pcieCntInb => ⟨25, 0x14, 1, 0, 1, 0, 0, 32, .ro, 0x0⟩
  | .pcieCntPoison => ⟨25, 0x18, 1, 0, 1, 0, 0, 32, .ro, 0x0⟩
  | .pcieCntCorr => ⟨25, 0x1C, 1, 0, 1, 0, 0, 32, .ro, 0x0⟩
  | .apBase => ⟨25, 0x100, 64, 8, 1, 0, 0, 14, .rw, 0x0⟩
  | .apEn => ⟨25, 0x100, 64, 8, 1, 0, 16, 1, .rw, 0x0⟩
  | .apRo => ⟨25, 0x100, 64, 8, 1, 0, 17, 1, .rw, 0x0⟩
  | .apTid => ⟨25, 0x104, 64, 8, 1, 0, 0, 10, .rw, 0x0⟩
  | .dwlLock => ⟨26, 0x0, 1, 0, 1, 0, 0, 1, .lock, 0x0⟩
  | .asmRole => ⟨26, 0x4, 1, 0, 1, 0, 0, 2, .ro, 0x0⟩
  | .asmNode => ⟨26, 0x4, 1, 0, 1, 0, 4, 4, .ro, 0x0⟩
  | .asmState => ⟨26, 0x4, 1, 0, 1, 0, 8, 2, .ro, 0x0⟩
  | .asmStrapErr => ⟨26, 0x4, 1, 0, 1, 0, 10, 1, .ro, 0x0⟩
  | .asmGridOk => ⟨26, 0x4, 1, 0, 1, 0, 11, 1, .ro, 0x0⟩
  | .asmMgrTo => ⟨26, 0x8, 1, 0, 1, 0, 0, 16, .rwl, 0xA⟩
  | .asmWkrTo => ⟨26, 0xC, 1, 0, 1, 0, 0, 16, .rwl, 0xA⟩
  | .dwlTimeInt => ⟨26, 0x10, 1, 0, 1, 0, 0, 16, .rwl, 0x3E8⟩
  | .dwlOfsNs => ⟨26, 0x14, 1, 0, 1, 0, 0, 32, .ro, 0x0⟩
  | .asmMember => ⟨26, 0x18, 1, 0, 1, 0, 0, 16, .ro, 0x0⟩
  | .asmQuar => ⟨26, 0x18, 1, 0, 1, 0, 16, 16, .ro, 0x0⟩
  | .asmSuspect => ⟨26, 0x1C, 1, 0, 1, 0, 0, 16, .ro, 0x0⟩
  | .asmLost => ⟨26, 0x1C, 1, 0, 1, 0, 16, 16, .ro, 0x0⟩
  | .asmEpoch => ⟨26, 0x20, 1, 0, 1, 0, 0, 32, .ro, 0x0⟩
  | .asmFeat => ⟨26, 0x24, 1, 0, 1, 0, 0, 32, .ro, 0x0⟩
  | .dwlRoute => ⟨26, 0x28, 1, 0, 1, 0, 0, 32, .ro, 0x0⟩
  | .dwlRouteV => ⟨26, 0x2C, 1, 0, 1, 0, 0, 16, .ro, 0x0⟩
  | .dwlPortEn => ⟨26, 0x100, 4, 32, 1, 0, 0, 1, .rwl, 0x0⟩
  | .dwlPortUse => ⟨26, 0x100, 4, 32, 1, 0, 1, 2, .rwl, 0x0⟩
  | .dwlPortState => ⟨26, 0x104, 4, 32, 1, 0, 0, 2, .ro, 0x0⟩
  | .dwlPartner => ⟨26, 0x104, 4, 32, 1, 0, 4, 4, .ro, 0x0⟩
  | .dwlPpair => ⟨26, 0x104, 4, 32, 1, 0, 8, 1, .ro, 0x0⟩
  | .dwlCntCrc => ⟨26, 0x108, 4, 32, 1, 0, 0, 32, .ro, 0x0⟩
  | .dwlCntReplay => ⟨26, 0x10C, 4, 32, 1, 0, 0, 32, .ro, 0x0⟩
  | .dwlCntRetrain => ⟨26, 0x110, 4, 32, 1, 0, 0, 32, .ro, 0x0⟩
  | .dwlCntBad => ⟨26, 0x114, 4, 32, 1, 0, 0, 32, .ro, 0x0⟩
  | .inbEn => ⟨26, 0x200, 16, 8, 1, 0, 0, 1, .rw, 0x0⟩
  | .inbBase => ⟨26, 0x200, 16, 8, 1, 0, 4, 12, .rw, 0x0⟩
  | .inbTid => ⟨26, 0x204, 16, 8, 1, 0, 0, 10, .rw, 0x1⟩
  | .inbSrcMask => ⟨26, 0x204, 16, 8, 1, 0, 16, 16, .rw, 0x0⟩
  | .pairLock => ⟨27, 0x0, 1, 0, 1, 0, 0, 1, .lock, 0x0⟩
  | .pairRole => ⟨27, 0x4, 1, 0, 1, 0, 0, 3, .ro, 0x0⟩
  | .pairRank => ⟨27, 0x4, 1, 0, 1, 0, 3, 1, .ro, 0x0⟩
  | .pairMirrorOk => ⟨27, 0x4, 1, 0, 1, 0, 4, 1, .ro, 0x0⟩
  | .pairLink => ⟨27, 0x4, 1, 0, 1, 0, 5, 1, .ro, 0x0⟩
  | .pairPeerAlive => ⟨27, 0x4, 1, 0, 1, 0, 6, 1, .ro, 0x0⟩
  | .pairPeerFail => ⟨27, 0x4, 1, 0, 1, 0, 7, 1, .ro, 0x0⟩
  | .pairPeerActive => ⟨27, 0x4, 1, 0, 1, 0, 8, 1, .ro, 0x0⟩
  | .pairConflict => ⟨27, 0x4, 1, 0, 1, 0, 9, 1, .ro, 0x0⟩
  | .pairMirrorAge => ⟨27, 0x8, 1, 0, 1, 0, 0, 16, .ro, 0xFFFF⟩
  | .pairMirrorIdx => ⟨27, 0xC, 1, 0, 1, 0, 0, 32, .ro, 0x0⟩
  | .pairTkoCause => ⟨27, 0x10, 1, 0, 1, 0, 0, 2, .ro, 0x0⟩
  | .pairTkoCold => ⟨27, 0x10, 1, 0, 1, 0, 2, 1, .ro, 0x0⟩
  | .pairTkoCnt => ⟨27, 0x14, 1, 0, 1, 0, 0, 32, .ro, 0x0⟩
  | .pairHoTick => ⟨27, 0x18, 1, 0, 1, 0, 0, 32, .ro, 0x0⟩
  | .pairEncDelta => ⟨27, 0x20, 8, 4, 1, 0, 0, 32, .ro, 0x0⟩
  | .pwrLock => ⟨28, 0x0, 1, 0, 1, 0, 0, 1, .lock, 0x0⟩
  | .pwrState => ⟨28, 0x4, 1, 0, 1, 0, 0, 3, .ro, 0x3⟩
  | .pwrL => ⟨28, 0x4, 1, 0, 1, 0, 4, 3, .ro, 0x0⟩
  | .pwrVid => ⟨28, 0x4, 1, 0, 1, 0, 8, 5, .ro, 0xA⟩
  | .pwrCap => ⟨28, 0x4, 1, 0, 1, 0, 16, 6, .ro, 0x20⟩
  | .pwrCapSrc => ⟨28, 0x4, 1, 0, 1, 0, 24, 4, .ro, 0x0⟩
  | .pwrDomStat => ⟨28, 0x8, 1, 0, 1, 0, 0, 24, .ro, 0x0⟩
  | .pwrDomReq => ⟨28, 0xC, 1, 0, 1, 0, 0, 24, .rw, 0x0⟩
  | .pwrWakeEn => ⟨28, 0x10, 1, 0, 1, 0, 0, 8, .rw, 0xE1⟩
  | .pwrWakePol => ⟨28, 0x10, 1, 0, 1, 0, 8, 4, .rw, 0x0⟩
  | .pwrWakeSrc => ⟨28, 0x14, 1, 0, 1, 0, 0, 8, .w1c, 0x0⟩
  | .pwrAlarm => ⟨28, 0x18, 1, 0, 1, 0, 0, 32, .rw, 0x0⟩
  | .pwrCapUser => ⟨28, 0x1C, 1, 0, 1, 0, 0, 6, .rw, 0x20⟩
  | .pwrEst => ⟨28, 0x20, 1, 0, 1, 0, 0, 16, .ro, 0x0⟩
  | .thmMax => ⟨28, 0x70, 1, 0, 1, 0, 0, 12, .ro, 0x0⟩
  | .thmTLo => ⟨28, 0x74, 1, 0, 1, 0, 0, 12, .rw, 0x1E0⟩
  | .thmTHi => ⟨28, 0x74, 1, 0, 1, 0, 16, 12, .rw, 0x2F8⟩
  | .thmT => ⟨28, 0x40, 12, 4, 1, 0, 0, 12, .ro, 0x0⟩
  | .thmValid => ⟨28, 0x40, 12, 4, 1, 0, 15, 1, .ro, 0x0⟩
  | .fanEn => ⟨28, 0x80, 2, 16, 1, 0, 0, 1, .rw, 0x0⟩
  | .fanRestOff => ⟨28, 0x80, 2, 16, 1, 0, 1, 1, .rw, 0x1⟩
  | .fanDmin => ⟨28, 0x80, 2, 16, 1, 0, 8, 8, .rw, 0x4D⟩
  | .fanMinRpm => ⟨28, 0x80, 2, 16, 1, 0, 16, 16, .rw, 0x258⟩
  | .fanD => ⟨28, 0x84, 2, 16, 1, 0, 0, 8, .ro, 0x0⟩
  | .fanState => ⟨28, 0x84, 2, 16, 1, 0, 8, 3, .ro, 0x0⟩
  | .fanRetry => ⟨28, 0x84, 2, 16, 1, 0, 12, 2, .ro, 0x0⟩
  | .fanRpm => ⟨28, 0x88, 2, 16, 1, 0, 0, 16, .ro, 0x0⟩
  | .safLock => ⟨29, 0x0, 1, 0, 1, 0, 0, 1, .lock, 0x0⟩
  | .safState => ⟨29, 0x4, 1, 0, 1, 0, 0, 3, .ro, 0x0⟩
  | .safStoDrv => ⟨29, 0x4, 1, 0, 1, 0, 3, 1, .ro, 0x0⟩
  | .safStoPad => ⟨29, 0x4, 1, 0, 1, 0, 4, 1, .ro, 0x0⟩
  | .safRbFail => ⟨29, 0x4, 1, 0, 1, 0, 5, 1, .ro, 0x0⟩
  | .safArmed => ⟨29, 0x4, 1, 0, 1, 0, 8, 8, .ro, 0x0⟩
  | .safRst60 => ⟨29, 0x4, 1, 0, 1, 0, 16, 2, .ro, 0x0⟩
  | .safStoCause => ⟨29, 0x8, 1, 0, 1, 0, 0, 10, .w1c, 0x0⟩
  | .safWdgKick => ⟨29, 0xC, 1, 0, 1, 0, 0, 16, .wo, 0x0⟩
  | .safWdgT => ⟨29, 0x10, 1, 0, 1, 0, 0, 7, .rwl, 0xA⟩
  | .safWdgExp => ⟨29, 0x14, 1, 0, 1, 0, 0, 16, .ro, 0x0⟩
  | .safWdgBad => ⟨29, 0x14, 1, 0, 1, 0, 16, 16, .ro, 0x0⟩
  | .safSs1Req => ⟨29, 0x18, 1, 0, 1, 0, 0, 1, .w1s, 0x0⟩
  | .safSs1Gpio => ⟨29, 0x18, 1, 0, 1, 0, 1, 5, .rwl, 0x0⟩
  | .safSs1GpioEn => ⟨29, 0x18, 1, 0, 1, 0, 6, 1, .rwl, 0x0⟩
  | .safSs1T => ⟨29, 0x18, 1, 0, 1, 0, 16, 14, .rwl, 0x1F4⟩
  | .safSs1Rem => ⟨29, 0x1C, 1, 0, 1, 0, 0, 14, .ro, 0x0⟩
  | .safRestartCnt => ⟨29, 0x20, 1, 0, 1, 0, 0, 32, .ro, 0x0⟩
  | .safLs => ⟨29, 0x24, 1, 0, 1, 0, 0, 3, .rws, 0x0⟩
  | .safSramCorr => ⟨29, 0x28, 1, 0, 1, 0, 0, 16, .ro, 0x0⟩
  | .safReact => ⟨29, 0x104, 13, 4, 1, 0, 0, 2, .ro, 0x0⟩
  | .cryLock => ⟨30, 0x0, 1, 0, 1, 0, 0, 1, .lock, 0x0⟩
  | .crySlotType => ⟨30, 0x100, 16, 8, 1, 0, 0, 2, .ro, 0x0⟩
  | .crySlotState => ⟨30, 0x100, 16, 8, 1, 0, 2, 2, .ro, 0x0⟩
  | .crySlotMask => ⟨30, 0x100, 16, 8, 1, 0, 8, 8, .ro, 0x0⟩
  | .cryCnt => ⟨30, 0x104, 16, 8, 1, 0, 0, 32, .ro, 0x0⟩
  | .vnrLock => ⟨33, 0x0, 1, 0, 1, 0, 0, 1, .lock, 0x0⟩
  | .vnrRstCause => ⟨33, 0x4, 1, 0, 1, 0, 0, 6, .w1c, 0x0⟩
  | .vnrRetValid => ⟨33, 0x4, 1, 0, 1, 0, 8, 1, .ro, 0x0⟩
  | .vnrWarm => ⟨33, 0x8, 1, 0, 1, 0, 0, 1, .w1s, 0x0⟩
  | .vnrRstDom => ⟨33, 0xC, 1, 0, 1, 0, 0, 24, .w1s, 0x0⟩
  | .vnrStrap => ⟨33, 0x10, 1, 0, 1, 0, 0, 11, .ro, 0x0⟩
  | .vnrBootSrc => ⟨33, 0x14, 1, 0, 1, 0, 0, 2, .ro, 0x0⟩
  | .vnrBootBank => ⟨33, 0x14, 1, 0, 1, 0, 2, 1, .ro, 0x0⟩
  | .vnrBootStage => ⟨33, 0x14, 1, 0, 1, 0, 4, 3, .ro, 0x0⟩
  | .vnrBootCause => ⟨33, 0x14, 1, 0, 1, 0, 8, 4, .ro, 0x0⟩
  | .vnrRecovery => ⟨33, 0x14, 1, 0, 1, 0, 12, 1, .ro, 0x0⟩
  | .vnrLifecycle => ⟨33, 0x14, 1, 0, 1, 0, 13, 1, .ro, 0x0⟩
  | .vnrBootTSif => ⟨33, 0x18, 1, 0, 1, 0, 0, 16, .ro, 0x0⟩
  | .vnrBootTDict => ⟨33, 0x1C, 1, 0, 1, 0, 0, 16, .ro, 0x0⟩
  | .vnrBootShift => ⟨33, 0x20, 1, 0, 1, 0, 0, 20, .ro, 0x0⟩
  | .vnrOtpSvn => ⟨33, 0x24, 1, 0, 1, 0, 0, 7, .ro, 0x0⟩
  | .vnrDbgUnlocked => ⟨33, 0x28, 1, 0, 1, 0, 0, 1, .ro, 0x0⟩
  | .appHartTid => ⟨34, 0x0, 4, 4, 1, 0, 0, 10, .rw, 0x18⟩
  | .hostMinor => ⟨256, 0x0, 1, 0, 1, 0, 0, 8, .ro, 0x0⟩
  | .hostMajor => ⟨256, 0x0, 1, 0, 1, 0, 8, 8, .ro, 0x1⟩
  | .hostEn => ⟨256, 0x4, 1, 0, 1, 0, 0, 1, .rw, 0x0⟩
  | .hostRdy => ⟨256, 0x8, 1, 0, 1, 0, 0, 1, .ro, 0x0⟩
  | .hostDictReady => ⟨256, 0x8, 1, 0, 1, 0, 1, 1, .ro, 0x0⟩
  | .hostState => ⟨256, 0x8, 1, 0, 1, 0, 4, 3, .ro, 0x3⟩
  | .hostAqSqLo => ⟨256, 0x10, 1, 0, 1, 0, 12, 20, .rw, 0x0⟩
  | .hostAqSqHi => ⟨256, 0x14, 1, 0, 1, 0, 0, 32, .rw, 0x0⟩
  | .hostAqCqLo => ⟨256, 0x18, 1, 0, 1, 0, 12, 20, .rw, 0x0⟩
  | .hostAqCqHi => ⟨256, 0x1C, 1, 0, 1, 0, 0, 32, .rw, 0x0⟩
  | .hostAqSizeSq => ⟨256, 0x20, 1, 0, 1, 0, 0, 12, .rw, 0x1F⟩
  | .hostAqSizeCq => ⟨256, 0x20, 1, 0, 1, 0, 16, 12, .rw, 0x1F⟩
  | .hostEvmask => ⟨256, 0x30, 1, 0, 1, 0, 0, 4, .rw, 0x0⟩
  | .hostEvseq => ⟨256, 0x34, 1, 0, 1, 0, 0, 32, .ro, 0x0⟩
  | .hostNoteLo => ⟨256, 0x40, 1, 0, 1, 0, 0, 32, .w1c, 0x0⟩
  | .hostNoteHi => ⟨256, 0x44, 1, 0, 1, 0, 0, 32, .w1c, 0x0⟩
  | .hostQpErrLo => ⟨256, 0x48, 1, 0, 1, 0, 0, 32, .ro, 0x0⟩
  | .hostQpErrHi => ⟨256, 0x4C, 1, 0, 1, 0, 0, 32, .ro, 0x0⟩
  | .mbOfs => ⟨256, 0x4000, 1, 0, 1, 0, 0, 24, .rw, 0x0⟩
  | .mbLen => ⟨256, 0x4004, 1, 0, 1, 0, 0, 12, .rw, 0x0⟩
  | .mbGo => ⟨256, 0x4008, 1, 0, 1, 0, 0, 1, .w1s, 0x0⟩
  | .mbPhase => ⟨256, 0x400C, 1, 0, 1, 0, 0, 3, .ro, 0x0⟩
  | .mbCause => ⟨256, 0x400C, 1, 0, 1, 0, 8, 4, .ro, 0x0⟩
  | .sqTail => ⟨256, 0x1000, 64, 8, 1, 0, 0, 12, .rw, 0x0⟩
  | .cqHead => ⟨256, 0x1004, 64, 8, 1, 0, 0, 12, .rw, 0x0⟩
  | .msixTable => ⟨256, 0x2000, 1024, 4, 1, 0, 0, 32, .rw, 0x0⟩
  | .msixPba => ⟨256, 0x3000, 8, 4, 1, 0, 0, 32, .ro, 0x0⟩
  | .mbData => ⟨256, 0x4100, 960, 4, 1, 0, 0, 32, .rw, 0x0⟩

/-- The fields of the FAB block. -/
def RegId.fabFields : List RegId :=
  [.fabLock, .fabToPer, .fabToHost, .fabToDwl, .fabErrAddrLo, .fabErrAddrHi, .fabErrTid, .fabErrWr, .fabErrResp,
   .fabErrPort, .fabErrValid, .fabErrCnt, .fabLateCnt, .clpCommitGo, .clpCommitAtTick, .clpCommitAxis, .clpBlkPend,
   .clpRej, .clpCause, .clpNvalid, .clpBlkCnt, .clpBlkAddrLo, .clpBlkAddrHi, .clpBlkTid, .clpBlkWr, .clpBlkRsvd,
   .clpBlkExcl, .clpBlkPort, .clpCrc, .clpStage]

/-- The fields of the CKG block. -/
def RegId.ckgFields : List RegId :=
  [.ckgLsxPresent, .ckgQualRef, .ckgPllLock, .ckgLsxLost, .ckgQualFails, .ckgQualLastCnt, .ckgQualGood, .ckgEn,
   .ckgEnStat, .ckgMonLast, .ckgMonLockLost, .ckgMonFreqFault, .fmtrSrc, .fmtrRef, .fmtrPre, .fmtrStart, .fmtrOvr,
   .fmtrPort, .fmtrNref, .fmtrCnt, .tbBase, .dtimeNsec, .dtimeSecLo, .dtimeSecHi, .dtimeIncFrac, .dtimeIncInt,
   .dtimeAdj, .epochNsec, .epochSecLo, .epochSecHi, .epochArm, .axTbPer, .axTbPhase]

/-- The fields of the PST block. -/
def RegId.pstFields : List RegId :=
  [.pstPeriod, .pstMitEn, .pstAxEn, .pstMitT, .pstMitLate, .pstCeT, .pstMitMiss, .pstCeMiss, .pstClrCnt]

/-- The fields of the CE block. -/
def RegId.ceFields : List RegId :=
  [.ceLock, .ceAxRun, .gdVal, .gdTsNs, .gdTsS, .gdKind, .gdStaleAct, .gdMaxAge, .gdPub, .axEn, .axMode, .axSpsrc,
   .axI3, .axNs, .axNp, .axAnaCh, .axKpD, .axKiD, .axKpQ, .axKiQ, .axKpS, .axKiS, .axKpP, .axKvff, .axKaff, .axGainSh,
   .axVlim, .axIqLim, .axIdRef, .axSpdK, .axEncK, .axEncCpr, .axPole, .axThetaOfs, .axGearNum, .axGearDen, .axAnaOfs,
   .axAnaGain, .axAnaDb, .axAnaAlpha, .axAnaSh, .axGuardMask, .axIntD, .axIntQ, .axIntS, .axRefSrc, .axRefEff,
   .axFeedLag, .axFeed, .axVlimAct, .axNearD, .axNearQ, .axNearS, .axHold, .axStale, .axAnaEn, .axChatter]

/-- The fields of the MIO block. -/
def RegId.mioFields : List RegId :=
  [.mioLock, .mioPol, .mioPadsOn, .mioTrip, .mioOc, .mioEstop, .mioTripInN, .mioEstopInN, .sdClkEn, .adcEn, .adcCode,
   .pwmDt, .pwmPer, .pwmSh, .pwmCmp, .sdEn, .sdOsr, .sdClksel, .sdStuck, .sdOcEn, .sdOcOsr, .sdOcCnt, .sdOfs, .sdGain,
   .sdOcHi, .sdOcLo, .sdSample, .sdReplLoss, .sdReplRange, .encMode, .encFilt, .encZmode, .encDir, .ssiBits, .ssiGray,
   .ssiPar, .ssiDiv, .ssiDly, .ssiLead, .encPos, .encPosmod, .encZpos, .encQerr, .encSsierr, .ssiRaw, .plsMode,
   .plsFilt, .plsDirinv, .plsCnt, .plsErr]

/-- The fields of the MIT block. -/
def RegId.mitFields : List RegId :=
  [.mitLock, .mitArm, .mitUnload, .mitLoaded, .mitCluster, .mitCores, .mitWbankBase, .mitWbanks, .mitMissLimit,
   .mitWcet, .mitVibCh, .mitVibLen, .mitStateSz, .mitFbFeed, .mitState, .mitCause, .mitSbuf, .mitObsValid, .mitImg,
   .mitConsec, .mitSeq, .mitLastT, .mitMiss, .mitDcommit, .mitSeqerr, .mitCommit, .mitMbx, .mitOut]

/-- The fields of the STR block. -/
def RegId.strFields : List RegId :=
  [.strLock, .strEnLo, .strEnHi, .csiLanes, .csiEn, .csiUlps, .csiErrCorr, .csiErrUncorr, .csiErrDrop, .camDt,
   .camMode, .camLnum, .camOutfmt, .camW, .camH, .camStride, .camReplMode, .camMaxbad, .camFill, .camAddrLo,
   .camAddrHi, .camCommit, .camLiveLo, .camLiveHi, .camPendP, .camPendTag, .camAppFnum, .camAppTag, .camAppStatus,
   .camAppFcnt, .camAppPop, .camFcnt, .camRecLo, .camRecHi, .camRecN, .camStatsLo, .camStatsHi, .camStatsN,
   .camStatsHch, .camTsOfs, .camRidx, .camCrepl, .camAovf, .cmpBayer, .cmpBlack, .cmpWbR, .cmpWbG, .cmpWbB, .cmpC00,
   .cmpC01, .cmpC02, .cmpC10, .cmpC11, .cmpC12, .cmpC20, .cmpC21, .cmpC22, .ringLo, .ringHi, .ringLenLog2, .strWidx,
   .tdmBdiv, .tdmEn, .tdmVflagEn, .tdmVflagBit, .tdmVflagPol, .tdmStuckRun, .tdmRepl0, .tdmRepl1, .scqEn, .scqBus,
   .scqAddr, .scqAw, .scqDw, .scqFmp, .scqD, .scqVc, .scqEntry, .scqSubmit, .scqEpoch, .scqSets, .scqFree,
   .scqUncertain, .scqEffectFcnt]

/-- The fields of the YAR block. -/
def RegId.yarFields : List RegId :=
  [.yarLock, .yarEn, .yarFold, .yarDictLo, .yarDictHi, .yarDictLoad, .yarDictValid, .yarDictN, .yarDictDigLo,
   .yarDictDigHi, .yarQLo, .yarQHi, .yarQTail, .yarQHead, .yarQbytes, .yarCntTok, .yarCntRepl, .yarCntSat, .ppuQLo,
   .ppuQHi, .ppuQTail, .ppuQHead, .ppuCntErr]

/-- The fields of the TEN block. -/
def RegId.tenFields : List RegId :=
  [.tenLock, .tcSrEn, .tcTrapNan, .tcTrapSat, .tcRestart, .tcState, .tcTid, .tcSrSeed, .tcFlagNan, .tcFlagInf,
   .tcFlagSat, .tcFlagNanToInt, .tcFlagBlockNan, .tcCntSat, .tcCntNan, .tcExcCause, .tcExcPc, .tcArrayOps]

/-- The fields of the CNV block. -/
def RegId.cnvFields : List RegId :=
  [.cnvLock, .cnvEn, .cnvQAddr, .cnvQTail, .cnvQHead, .cnvBusy, .cnvLbValid, .cnvLbTag, .cnvTid, .cnvFlags,
   .cnvCntSat, .cnvCntReload, .cnvJobs, .cnvLastT, .cnvErrCause, .cnvErrSlot]

/-- The fields of the EMB block. -/
def RegId.embFields : List RegId :=
  [.embLock, .embEn, .embQLo, .embQHi, .embQTail, .embQHead, .embSrSeed, .embBusy, .embTid, .embCntRows,
   .embSkipRange, .embSkipNonfinite, .embCntEcc, .embCntLockwait, .embFlags, .embErrCause, .embErrSlot]

/-- The fields of the SPM block. -/
def RegId.spmFields : List RegId :=
  [.spmLock, .spmStarveLim, .spmCntClr, .spmCntFreeze, .spmEccCorr, .spmEccUnc, .spmEccAddrLo, .spmEccAddrHi,
   .spmInit, .lsNstall, .lsWconf, .csNstall, .csWconf]

/-- The fields of the BPU block. -/
def RegId.bpuFields : List RegId :=
  [.bpuLock, .bpuInfoH, .bpuInfoState, .bpuInfoOwner, .bpuInfoGen, .bpuReclaimTid, .bpuReclaimBusy, .poolEn,
   .poolBaseLo, .poolBaseHi, .poolSize, .poolCount, .poolFree, .poolEmptyCnt, .poolLow, .poolDfree, .poolFfree,
   .bpuAlloc, .bpuFree, .bpuGive]

/-- The fields of the MEMC block. -/
def RegId.memcFields : List RegId :=
  [.memcLock, .memcDens, .memcScrubEn, .memcUsableLo, .memcUsableHi, .memcScrubInt, .memcEccCorr, .memcEccUnc,
   .memcEccAddrLo, .memcEccAddrHi, .memcEccCh, .memcEccSrc, .memcCntClr, .memcTemp, .memcChCorr]

/-- The fields of the MMU block. -/
def RegId.mmuFields : List RegId :=
  [.mmuLock, .mmuAstLo, .mmuAstHi, .mmuFqLo, .mmuFqHi, .mmuFqProd, .mmuFqCons, .mmuFqOvf, .mmuResume, .mmuInvBaseLo,
   .mmuInvBaseHi, .mmuInvLen, .mmuInvTid, .mmuInvGo, .mmuInvBusy, .mmuInvTimeout, .mmuInvAckLo, .mmuInvAckHi,
   .mmuXlateVaLo, .mmuXlateVaHi, .mmuXlateTid, .mmuXlateWr, .mmuXlateGo, .mmuXlateDone, .mmuXlateFault,
   .mmuXlateCause, .mmuXlatePgs, .mmuXlatePaLo, .mmuXlatePaHi, .mmuXlateGen, .mmuCntL2hit, .mmuCntWalk,
   .mmuCntGenmiss, .mmuCntFault, .mmuGen, .mmuDead]

/-- The fields of the SCH block. -/
def RegId.schFields : List RegId :=
  [.schLock, .schTlim, .schBwRsv, .schNres, .schBwUsed, .schDispCnt, .chEn, .chSlot, .chMode, .chPrio, .chTail,
   .chHead, .chState, .chResult, .chIndex, .chNote, .chDone, .chResume, .chFlush, .ctxTid, .ctxCoresLo, .ctxCoresHi,
   .ctxLsB0, .ctxLsNb, .ctxCsB0, .ctxCsNb, .ctxBw, .ctxActivate, .ctxRelease, .ctxTerminate, .ctxState, .ctxEvqLo,
   .ctxEvqHi, .ctxEvqLenLog2, .ctxEvqProd, .ctxEvqCons, .ctxEvqOvf, .taskRing]

/-- The fields of the CAN block. -/
def RegId.canFields : List RegId :=
  [.canLock, .canInit, .canRom, .canBoffRecover, .canFdEn, .canBrsEn, .canPexOff, .canSspEn, .canLoop, .canAPre,
   .canAS1, .canAS2, .canASjw, .canDPre, .canDS1, .canDS2, .canDSjw, .canSspWin, .canSspMeas, .canSspOfs, .canTec,
   .canRec, .canBus, .canPassive, .canWarn, .canOff, .canInitAck, .canRecovCnt, .canStdRules, .canExtRules,
   .canStdDef, .canExtDef, .canStdRmtDrop, .canExtRmtDrop, .canQ0Ovw, .canQ1Ovw, .canQ0Fill, .canQ0Rd, .canQ0Wr,
   .canQ0Rel, .canQ1Fill, .canQ1Rd, .canQ1Wr, .canQ1Rel, .canMbfullLo, .canMbfullHi, .canMbdirLo, .canMbdirHi,
   .canCmdMb, .canCmdCmd, .canTxpendLo, .canTxpendHi, .canTxdoneLo, .canTxdoneHi, .canTxabtLo, .canTxabtHi,
   .canTxnextMb, .canTxnextValid, .canRxlostQ0, .canRxlostQ1, .canCntMbovw, .canCntPex, .canCntBoff, .canRam]

/-- The fields of the ETH block. -/
def RegId.ethFields : List RegId :=
  [.ethLock, .gptpEn, .gptpPort, .gptpGmCap, .gptpPrio1, .gptpPrio2, .gptpSyncLog, .servoLockNs, .servoStepUs,
   .netState, .netOfsNs, .netSecOfsLo, .netSecOfsHi, .netCycLead, .ethEn, .ethIf, .ethSpeed, .ethLink, .ethMacLo,
   .ethMacHi, .ethIp, .ethMask, .ethGw, .ethVdpPort, .ethVdpVid, .ethVdpCycq, .ethLatTx, .ethLatRx, .tasEn, .tasGo,
   .tasCycle, .tasBaseNsec, .tasBaseSecLo, .tasBaseSecHi, .tasLen, .ethRxdrop, .ethTasdrop, .ethVdpbad, .ethVdpstale,
   .cbsEn, .cbsIdle, .gateMask, .gateInterval]

/-- The fields of the PCIE block. -/
def RegId.pcieFields : List RegId :=
  [.pcieLock, .pcieHwinLo, .pcieHwinHi, .pcieReady, .pcieSpeed, .pcieWidth, .pcieUp, .pcieBme, .pcieD3, .pcieCntInb,
   .pcieCntPoison, .pcieCntCorr, .apBase, .apEn, .apRo, .apTid]

/-- The fields of the DWL block. -/
def RegId.dwlFields : List RegId :=
  [.dwlLock, .asmRole, .asmNode, .asmState, .asmStrapErr, .asmGridOk, .asmMgrTo, .asmWkrTo, .dwlTimeInt, .dwlOfsNs,
   .asmMember, .asmQuar, .asmSuspect, .asmLost, .asmEpoch, .asmFeat, .dwlRoute, .dwlRouteV, .dwlPortEn, .dwlPortUse,
   .dwlPortState, .dwlPartner, .dwlPpair, .dwlCntCrc, .dwlCntReplay, .dwlCntRetrain, .dwlCntBad, .inbEn, .inbBase,
   .inbTid, .inbSrcMask]

/-- The fields of the PAIR block. -/
def RegId.pairFields : List RegId :=
  [.pairLock, .pairRole, .pairRank, .pairMirrorOk, .pairLink, .pairPeerAlive, .pairPeerFail, .pairPeerActive,
   .pairConflict, .pairMirrorAge, .pairMirrorIdx, .pairTkoCause, .pairTkoCold, .pairTkoCnt, .pairHoTick, .pairEncDelta]

/-- The fields of the PWR block. -/
def RegId.pwrFields : List RegId :=
  [.pwrLock, .pwrState, .pwrL, .pwrVid, .pwrCap, .pwrCapSrc, .pwrDomStat, .pwrDomReq, .pwrWakeEn, .pwrWakePol,
   .pwrWakeSrc, .pwrAlarm, .pwrCapUser, .pwrEst, .thmMax, .thmTLo, .thmTHi, .thmT, .thmValid, .fanEn, .fanRestOff,
   .fanDmin, .fanMinRpm, .fanD, .fanState, .fanRetry, .fanRpm]

/-- The fields of the SAF block. -/
def RegId.safFields : List RegId :=
  [.safLock, .safState, .safStoDrv, .safStoPad, .safRbFail, .safArmed, .safRst60, .safStoCause, .safWdgKick, .safWdgT,
   .safWdgExp, .safWdgBad, .safSs1Req, .safSs1Gpio, .safSs1GpioEn, .safSs1T, .safSs1Rem, .safRestartCnt, .safLs,
   .safSramCorr, .safReact]

/-- The fields of the CRY block. -/
def RegId.cryFields : List RegId :=
  [.cryLock, .crySlotType, .crySlotState, .crySlotMask, .cryCnt]

/-- The fields of the VNR block. -/
def RegId.vnrFields : List RegId :=
  [.vnrLock, .vnrRstCause, .vnrRetValid, .vnrWarm, .vnrRstDom, .vnrStrap, .vnrBootSrc, .vnrBootBank, .vnrBootStage,
   .vnrBootCause, .vnrRecovery, .vnrLifecycle, .vnrBootTSif, .vnrBootTDict, .vnrBootShift, .vnrOtpSvn, .vnrDbgUnlocked]

/-- The fields of the APP block. -/
def RegId.appFields : List RegId :=
  [.appHartTid]

/-- The fields of the HOST block. -/
def RegId.hostFields : List RegId :=
  [.hostMinor, .hostMajor, .hostEn, .hostRdy, .hostDictReady, .hostState, .hostAqSqLo, .hostAqSqHi, .hostAqCqLo,
   .hostAqCqHi, .hostAqSizeSq, .hostAqSizeCq, .hostEvmask, .hostEvseq, .hostNoteLo, .hostNoteHi, .hostQpErrLo,
   .hostQpErrHi, .mbOfs, .mbLen, .mbGo, .mbPhase, .mbCause, .sqTail, .cqHead, .msixTable, .msixPba, .mbData]

/-- Every register field of the part. -/
def RegId.all : List RegId :=
  RegId.fabFields ++ RegId.ckgFields ++ RegId.pstFields ++ RegId.ceFields ++ RegId.mioFields ++ RegId.mitFields ++ RegId.strFields ++ RegId.yarFields ++ RegId.tenFields ++ RegId.cnvFields ++ RegId.embFields ++ RegId.spmFields ++
  RegId.bpuFields ++ RegId.memcFields ++ RegId.mmuFields ++ RegId.schFields ++ RegId.canFields ++ RegId.ethFields ++ RegId.pcieFields ++ RegId.dwlFields ++ RegId.pairFields ++ RegId.pwrFields ++ RegId.safFields ++ RegId.cryFields ++
  RegId.vnrFields ++ RegId.appFields ++ RegId.hostFields

/-- The fields of the block in a slot of Table FAB-3 (BPU: slots 12 to 19 form one range that begins at slot 12). -/
def RegId.ofSlot : Nat → List RegId
  | 0 => RegId.fabFields
  | 1 => RegId.ckgFields
  | 2 => RegId.pstFields
  | 3 => RegId.ceFields
  | 4 => RegId.mioFields
  | 5 => RegId.mitFields
  | 6 => RegId.strFields
  | 7 => RegId.yarFields
  | 8 => RegId.tenFields
  | 9 => RegId.cnvFields
  | 10 => RegId.embFields
  | 11 => RegId.spmFields
  | 12 => RegId.bpuFields
  | 20 => RegId.memcFields
  | 21 => RegId.mmuFields
  | 22 => RegId.schFields
  | 23 => RegId.canFields
  | 24 => RegId.ethFields
  | 25 => RegId.pcieFields
  | 26 => RegId.dwlFields
  | 27 => RegId.pairFields
  | 28 => RegId.pwrFields
  | 29 => RegId.safFields
  | 30 => RegId.cryFields
  | 33 => RegId.vnrFields
  | 34 => RegId.appFields
  | 256 => RegId.hostFields
  | _ => []

end Sys2Proof.Machine
end

