-- ==== Sys2Proof/Machine/ObjMap.lean ====
section
/-! DEFINITION. The object dictionary (chapter 15 and the object tables of chapters 05 to 07, 14, 17 and 19 to 23): one
constructor of `ObjId` per row of the tables, with index, sub-index, type, access, default, range and persistence class, and
the register field behind the object where there is one. -/

namespace Sys2Proof.Machine

/-- The data types of Table OD-1 that the objects use. -/
inductive ObjTy where
  | u8 | u16 | u32 | u64 | i8 | i16 | i32 | str | oct | dom
deriving DecidableEq, Repr

/-- Access codes (R11). -/
inductive ObjAcc where
  | const | ro | rw | rww | wo | rwa
deriving DecidableEq, Repr

/-- Persistence classes: volatile, stored by 0x1010, stored at acceptance. -/
inductive ObjCls where
  | v | p | a
deriving DecidableEq, Repr

/-- The objects. -/
inductive ObjId where
  | devType
  | errReg
  | devName
  | hwVersion
  | swVersion
  | storeAll
  | restoreAll
  | emcyCob
  | consHb
  | prodHb
  | vendorId
  | productCode
  | revision
  | serialLow
  | sdoReqCob
  | sdoRspCob
  | rpdoMax
  | rpdoCob
  | rpdoType
  | rmapCount
  | rmapEntry
  | tpdoMax
  | tpdoCob
  | tpdoType
  | tpdoInhibit
  | tpdoTimer
  | tmapCount
  | tmapEntry
  | progDownload
  | progControl
  | orderCode
  | stepping
  | serialNo
  | fwVersion
  | libVersion
  | dwlVersion
  | cfgDigest
  | straps
  | pkgLimit
  | odOvf
  | odOvfClear
  | pwrState
  | pwrReq
  | wakeEn
  | userCap
  | effCap
  | throttle
  | estPower
  | domsOn
  | lastWake
  | alarm
  | thmMax
  | thmSensor
  | thmLo
  | thmHi
  | fanState
  | fanSpeed
  | fanEnable
  | fanMinRpm
  | fanFloor
  | fanRestOff
  | strEnLoObj
  | strEnHiObj
  | strKind
  | strDelivered
  | strReplaced
  | strSkipped
  | strSecond
  | strCrepl
  | strEpoch
  | strClear
  | mitArmed
  | mitStateObj
  | mitCauseObj
  | mitModelObj
  | mitFbFeedObj
  | mitMissLimObj
  | mitArmObj
  | mitMissObj
  | mitLastTObj
  | mitObs
  | asmRole
  | asmNode
  | asmState
  | asmMembers
  | asmQuar
  | asmSuspect
  | asmEpoch
  | asmFeatures
  | asmOvf
  | asmAdmitted
  | asmMgrTo
  | asmWkrTo
  | cfgImage
  | asmForward
  | wkrState
  | wkrReason
  | wkrDigest
  | wkrFw
  | wkrLib
  | wkrEpoch
  | wkrOffset
  | wkrSerial
  | pairRank
  | pairRole
  | pairAge
  | pairCause
  | pairTakeovers
  | pairMode
  | pairHandover
  | pairMaxAge
  | pairLead
  | safStateObj
  | safCauses
  | safRestarts
  | safArm
  | safDisarm
  | safArmedMask
  | safSs1Req
  | safSs1Time
  | safSs1Gpio
  | safWdgWin
  | safReactObj
  | schNresObj
  | schBwObj
  | schTlimObj
  | schSwitches
  | loadModel
  | loadClass
  | loadOver
  | ipos
  | tokEnd
  | laWindow
  | laMin
  | laHigh
  | laLow
  | hostJobs
  | ctxTidObj
  | ctxStateObj
  | ctxBwObj
  | ctxErrs
  | ctxSwitch
  | logHeld
  | logOldest
  | logNext
  | logOverw
  | logCursor
  | logRecord
  | logClear
  | logBlock
  | retCount
  | retRecord
  | retIndex
  | authActive
  | authSource
  | authWrite
  | stageReset
  | stageChunk
  | stageLen
  | slotType
  | slotState
  | slotMask
  | slotCounter
  | slotFails
  | slotRevoke
  | dbgUnlock
  | axErrCode
  | axControl
  | axStatus
  | axQsOption
  | axModeObj
  | axModeDisp
  | axPosDemand
  | axPosActual
  | axTgtTorque
  | axTgtPos
  | axFollow
  | axTgtVel
  | axModes
deriving DecidableEq, Repr

/-- A row: instances (count and index stride), sub-indices from `sub` up, type, access, default, range and class. -/
structure ObjInfo where
  idx : Nat
  n1 : Nat
  st1 : Nat
  sub : Nat
  n2 : Nat
  ty : ObjTy
  acc : ObjAcc
  dflt : Int
  lo : Option Int
  hi : Option Int
  cls : ObjCls
deriving DecidableEq, Repr

/-- The object tables. -/
def ObjId.info (o : ObjId) : ObjInfo :=
  match o with
  | .devType => ⟨0x1000, 1, 0, 0x00, 1, .u32, .const, 0x00020192, none, none, .v⟩
  | .errReg => ⟨0x1001, 1, 0, 0x00, 1, .u8, .ro, 0, none, none, .v⟩
  | .devName => ⟨0x1008, 1, 0, 0x00, 1, .str, .const, 0, none, none, .v⟩
  | .hwVersion => ⟨0x1009, 1, 0, 0x00, 1, .str, .const, 0, none, none, .v⟩
  | .swVersion => ⟨0x100A, 1, 0, 0x00, 1, .str, .ro, 0, none, none, .v⟩
  | .storeAll => ⟨0x1010, 1, 0, 0x01, 1, .u32, .rw, 1, none, none, .v⟩
  | .restoreAll => ⟨0x1011, 1, 0, 0x01, 1, .u32, .rw, 1, none, none, .v⟩
  | .emcyCob => ⟨0x1014, 1, 0, 0x00, 1, .u32, .rw, 0, none, none, .p⟩
  | .consHb => ⟨0x1016, 1, 0, 0x01, 4, .u32, .rw, 0, none, none, .p⟩
  | .prodHb => ⟨0x1017, 1, 0, 0x00, 1, .u16, .rw, 0, (some 0), (some 65535), .p⟩
  | .vendorId => ⟨0x1018, 1, 0, 0x01, 1, .u32, .const, 0x00000C4D, none, none, .v⟩
  | .productCode => ⟨0x1018, 1, 0, 0x02, 1, .u32, .const, 0x00004200, none, none, .v⟩
  | .revision => ⟨0x1018, 1, 0, 0x03, 1, .u32, .ro, 0, none, none, .v⟩
  | .serialLow => ⟨0x1018, 1, 0, 0x04, 1, .u32, .ro, 0, none, none, .v⟩
  | .sdoReqCob => ⟨0x1200, 1, 0, 0x01, 1, .u32, .ro, 0, none, none, .v⟩
  | .sdoRspCob => ⟨0x1200, 1, 0, 0x02, 1, .u32, .ro, 0, none, none, .v⟩
  | .rpdoMax => ⟨0x1400, 4, 1, 0x00, 1, .u8, .const, 2, none, none, .v⟩
  | .rpdoCob => ⟨0x1400, 4, 1, 0x01, 1, .u32, .rw, 0, none, none, .p⟩
  | .rpdoType => ⟨0x1400, 4, 1, 0x02, 1, .u8, .rw, 255, none, none, .p⟩
  | .rmapCount => ⟨0x1600, 4, 1, 0x00, 1, .u8, .rw, 0, (some 0), (some 8), .p⟩
  | .rmapEntry => ⟨0x1600, 4, 1, 0x01, 8, .u32, .rw, 0, none, none, .p⟩
  | .tpdoMax => ⟨0x1800, 4, 1, 0x00, 1, .u8, .const, 5, none, none, .v⟩
  | .tpdoCob => ⟨0x1800, 4, 1, 0x01, 1, .u32, .rw, 0, none, none, .p⟩
  | .tpdoType => ⟨0x1800, 4, 1, 0x02, 1, .u8, .rw, 255, none, none, .p⟩
  | .tpdoInhibit => ⟨0x1800, 4, 1, 0x03, 1, .u16, .rw, 0, none, none, .p⟩
  | .tpdoTimer => ⟨0x1800, 4, 1, 0x05, 1, .u16, .rw, 0, none, none, .p⟩
  | .tmapCount => ⟨0x1A00, 4, 1, 0x00, 1, .u8, .rw, 0, (some 0), (some 8), .p⟩
  | .tmapEntry => ⟨0x1A00, 4, 1, 0x01, 8, .u32, .rw, 0, none, none, .p⟩
  | .progDownload => ⟨0x1F50, 1, 0, 0x01, 1, .dom, .rwa, 0, (some 0), (some 16777216), .v⟩
  | .progControl => ⟨0x1F51, 1, 0, 0x01, 1, .u8, .rw, 0, (some 0), (some 3), .v⟩
  | .orderCode => ⟨0x2000, 1, 0, 0x01, 1, .u8, .const, 0, (some 0), (some 1), .v⟩
  | .stepping => ⟨0x2000, 1, 0, 0x02, 1, .str, .const, 0, none, none, .v⟩
  | .serialNo => ⟨0x2000, 1, 0, 0x03, 1, .u64, .const, 0, none, none, .v⟩
  | .fwVersion => ⟨0x2000, 1, 0, 0x04, 1, .u32, .ro, 0, none, none, .v⟩
  | .libVersion => ⟨0x2000, 1, 0, 0x05, 1, .u32, .ro, 0, none, none, .v⟩
  | .dwlVersion => ⟨0x2000, 1, 0, 0x06, 1, .u16, .ro, 0, none, none, .v⟩
  | .cfgDigest => ⟨0x2000, 1, 0, 0x07, 1, .u64, .ro, 0, none, none, .v⟩
  | .straps => ⟨0x2000, 1, 0, 0x08, 1, .u16, .ro, 0, none, none, .v⟩
  | .pkgLimit => ⟨0x2000, 1, 0, 0x09, 1, .u8, .const, 0, none, none, .v⟩
  | .odOvf => ⟨0x2010, 1, 0, 0x01, 3, .u32, .ro, 0, none, none, .v⟩
  | .odOvfClear => ⟨0x2010, 1, 0, 0x04, 1, .u8, .wo, 0, (some 1), (some 1), .v⟩
  | .pwrState => ⟨0x2100, 1, 0, 0x01, 1, .u8, .ro, 0, (some 1), (some 5), .v⟩
  | .pwrReq => ⟨0x2100, 1, 0, 0x02, 1, .u8, .rw, 3, (some 0), (some 3), .v⟩
  | .wakeEn => ⟨0x2100, 1, 0, 0x03, 1, .u8, .rw, 0xE1, none, none, .p⟩
  | .userCap => ⟨0x2100, 1, 0, 0x04, 1, .u8, .rw, 32, (some 4), (some 32), .p⟩
  | .effCap => ⟨0x2100, 1, 0, 0x05, 1, .u8, .ro, 0, (some 4), (some 32), .v⟩
  | .throttle => ⟨0x2100, 1, 0, 0x06, 1, .u8, .ro, 0, (some 0), (some 4), .v⟩
  | .estPower => ⟨0x2100, 1, 0, 0x07, 1, .u16, .ro, 0, none, none, .v⟩
  | .domsOn => ⟨0x2100, 1, 0, 0x08, 1, .u32, .ro, 0, none, none, .v⟩
  | .lastWake => ⟨0x2100, 1, 0, 0x09, 1, .u8, .ro, 0, none, none, .v⟩
  | .alarm => ⟨0x2100, 1, 0, 0x0A, 1, .u32, .rw, 0, none, none, .v⟩
  | .thmMax => ⟨0x2200, 1, 0, 0x01, 1, .i16, .ro, 0, none, none, .v⟩
  | .thmSensor => ⟨0x2200, 1, 0, 0x02, 12, .i16, .ro, 0, none, none, .v⟩
  | .thmLo => ⟨0x2200, 1, 0, 0x0E, 1, .i16, .rw, 480, none, none, .p⟩
  | .thmHi => ⟨0x2200, 1, 0, 0x0F, 1, .i16, .rw, 760, none, none, .p⟩
  | .fanState => ⟨0x2210, 2, 1, 0x01, 1, .u8, .ro, 0, (some 0), (some 4), .v⟩
  | .fanSpeed => ⟨0x2210, 2, 1, 0x02, 1, .u16, .ro, 0, none, none, .v⟩
  | .fanEnable => ⟨0x2210, 2, 1, 0x03, 1, .u8, .rw, 0, (some 0), (some 1), .p⟩
  | .fanMinRpm => ⟨0x2210, 2, 1, 0x04, 1, .u16, .rw, 600, (some 300), (some 10000), .p⟩
  | .fanFloor => ⟨0x2210, 2, 1, 0x05, 1, .u8, .rw, 77, (some 0), (some 255), .p⟩
  | .fanRestOff => ⟨0x2210, 2, 1, 0x06, 1, .u8, .rw, 1, (some 0), (some 1), .p⟩
  | .strEnLoObj => ⟨0x2400, 1, 0, 0x01, 1, .u32, .ro, 0, none, none, .v⟩
  | .strEnHiObj => ⟨0x2400, 1, 0, 0x02, 1, .u16, .ro, 0, none, none, .v⟩
  | .strKind => ⟨0x2410, 48, 1, 0x01, 1, .u8, .const, 0, (some 0), (some 2), .v⟩
  | .strDelivered => ⟨0x2410, 48, 1, 0x02, 1, .u32, .ro, 0, none, none, .v⟩
  | .strReplaced => ⟨0x2410, 48, 1, 0x03, 1, .u32, .ro, 0, none, none, .v⟩
  | .strSkipped => ⟨0x2410, 48, 1, 0x04, 1, .u32, .ro, 0, none, none, .v⟩
  | .strSecond => ⟨0x2410, 48, 1, 0x05, 1, .u32, .ro, 0, none, none, .v⟩
  | .strCrepl => ⟨0x2410, 48, 1, 0x06, 1, .u16, .ro, 0, none, none, .v⟩
  | .strEpoch => ⟨0x2410, 48, 1, 0x07, 1, .u8, .ro, 0, none, none, .v⟩
  | .strClear => ⟨0x2410, 48, 1, 0x08, 1, .u8, .wo, 0, (some 1), (some 1), .v⟩
  | .mitArmed => ⟨0x2600, 1, 0, 0x01, 1, .u8, .ro, 0, none, none, .v⟩
  | .mitStateObj => ⟨0x2610, 8, 1, 0x01, 1, .u8, .ro, 0, (some 0), (some 3), .v⟩
  | .mitCauseObj => ⟨0x2610, 8, 1, 0x02, 1, .u8, .ro, 0, (some 0), (some 6), .v⟩
  | .mitModelObj => ⟨0x2610, 8, 1, 0x03, 1, .u32, .ro, 0, none, none, .v⟩
  | .mitFbFeedObj => ⟨0x2610, 8, 1, 0x04, 1, .i32, .rwa, 0, (some 0), (some 2147483647), .v⟩
  | .mitMissLimObj => ⟨0x2610, 8, 1, 0x05, 1, .u8, .rw, 8, (some 0), (some 255), .v⟩
  | .mitArmObj => ⟨0x2610, 8, 1, 0x06, 1, .u8, .rw, 0, (some 0), (some 1), .v⟩
  | .mitMissObj => ⟨0x2610, 8, 1, 0x07, 1, .u32, .ro, 0, none, none, .v⟩
  | .mitLastTObj => ⟨0x2610, 8, 1, 0x08, 1, .u32, .ro, 0, none, none, .v⟩
  | .mitObs => ⟨0x2620, 8, 1, 0x01, 12, .i32, .ro, 0, none, none, .v⟩
  | .asmRole => ⟨0x2800, 1, 0, 0x01, 1, .u8, .ro, 0, (some 0), (some 2), .v⟩
  | .asmNode => ⟨0x2800, 1, 0, 0x02, 1, .u8, .ro, 0, (some 0), (some 15), .v⟩
  | .asmState => ⟨0x2800, 1, 0, 0x03, 1, .u8, .ro, 0, (some 0), (some 3), .v⟩
  | .asmMembers => ⟨0x2800, 1, 0, 0x04, 1, .u16, .ro, 0, none, none, .v⟩
  | .asmQuar => ⟨0x2800, 1, 0, 0x05, 1, .u16, .ro, 0, none, none, .v⟩
  | .asmSuspect => ⟨0x2800, 1, 0, 0x06, 1, .u16, .ro, 0, none, none, .v⟩
  | .asmEpoch => ⟨0x2800, 1, 0, 0x07, 1, .u32, .ro, 0, none, none, .v⟩
  | .asmFeatures => ⟨0x2800, 1, 0, 0x08, 1, .u32, .ro, 0, none, none, .v⟩
  | .asmOvf => ⟨0x2800, 1, 0, 0x09, 1, .u32, .ro, 0, none, none, .v⟩
  | .asmAdmitted => ⟨0x2810, 1, 0, 0x01, 1, .u16, .rwa, 0xFFFE, none, none, .a⟩
  | .asmMgrTo => ⟨0x2810, 1, 0, 0x02, 1, .u16, .rw, 10, (some 2), (some 1000), .p⟩
  | .asmWkrTo => ⟨0x2810, 1, 0, 0x03, 1, .u16, .rw, 10, (some 2), (some 1000), .p⟩
  | .cfgImage => ⟨0x2820, 1, 0, 0x01, 1, .dom, .rwa, 0, (some 0), (some 65536), .a⟩
  | .asmForward => ⟨0x2830, 1, 0, 0x01, 1, .dom, .wo, 0, (some 0), (some 1460), .v⟩
  | .wkrState => ⟨0x2841, 15, 1, 0x01, 1, .u8, .ro, 0, (some 0), (some 5), .v⟩
  | .wkrReason => ⟨0x2841, 15, 1, 0x02, 1, .u8, .ro, 0, (some 0), (some 8), .v⟩
  | .wkrDigest => ⟨0x2841, 15, 1, 0x03, 1, .u64, .ro, 0, none, none, .v⟩
  | .wkrFw => ⟨0x2841, 15, 1, 0x04, 1, .u32, .ro, 0, none, none, .v⟩
  | .wkrLib => ⟨0x2841, 15, 1, 0x05, 1, .u32, .ro, 0, none, none, .v⟩
  | .wkrEpoch => ⟨0x2841, 15, 1, 0x06, 1, .u32, .ro, 0, none, none, .v⟩
  | .wkrOffset => ⟨0x2841, 15, 1, 0x07, 1, .i32, .ro, 0, none, none, .v⟩
  | .wkrSerial => ⟨0x2841, 15, 1, 0x08, 1, .u64, .ro, 0, none, none, .v⟩
  | .pairRank => ⟨0x2900, 1, 0, 0x01, 1, .u8, .ro, 0, (some 0), (some 1), .v⟩
  | .pairRole => ⟨0x2900, 1, 0, 0x02, 1, .u8, .ro, 0, (some 0), (some 4), .v⟩
  | .pairAge => ⟨0x2900, 1, 0, 0x03, 1, .u16, .ro, 0xFFFF, none, none, .v⟩
  | .pairCause => ⟨0x2900, 1, 0, 0x04, 1, .u8, .ro, 0, none, none, .v⟩
  | .pairTakeovers => ⟨0x2900, 1, 0, 0x05, 1, .u32, .ro, 0, none, none, .v⟩
  | .pairMode => ⟨0x2910, 1, 0, 0x01, 1, .u8, .rwa, 0, (some 0), (some 1), .a⟩
  | .pairHandover => ⟨0x2910, 1, 0, 0x02, 1, .u8, .rwa, 0, (some 1), (some 1), .v⟩
  | .pairMaxAge => ⟨0x2910, 1, 0, 0x03, 1, .u8, .rw, 8, (some 1), (some 15), .p⟩
  | .pairLead => ⟨0x2910, 1, 0, 0x04, 1, .u8, .rw, 16, (some 4), (some 255), .p⟩
  | .safStateObj => ⟨0x2A00, 1, 0, 0x01, 1, .u8, .ro, 0, (some 0), (some 4), .v⟩
  | .safCauses => ⟨0x2A00, 1, 0, 0x02, 1, .u16, .ro, 0, none, none, .v⟩
  | .safRestarts => ⟨0x2A00, 1, 0, 0x03, 1, .u32, .ro, 0, none, none, .v⟩
  | .safArm => ⟨0x2A10, 1, 0, 0x01, 1, .u8, .rwa, 0, (some 1), (some 255), .v⟩
  | .safDisarm => ⟨0x2A10, 1, 0, 0x02, 1, .u8, .wo, 0, none, none, .v⟩
  | .safArmedMask => ⟨0x2A10, 1, 0, 0x03, 1, .u8, .ro, 0, none, none, .v⟩
  | .safSs1Req => ⟨0x2A11, 1, 0, 0x01, 1, .u8, .wo, 0, (some 1), (some 1), .v⟩
  | .safSs1Time => ⟨0x2A12, 1, 0, 0x01, 1, .u16, .rwa, 500, (some 10), (some 10000), .a⟩
  | .safSs1Gpio => ⟨0x2A13, 1, 0, 0x01, 1, .u8, .rwa, 0xFF, (some 0), (some 255), .a⟩
  | .safWdgWin => ⟨0x2A14, 1, 0, 0x01, 1, .u8, .rwa, 10, (some 2), (some 100), .a⟩
  | .safReactObj => ⟨0x2A20, 1, 0, 0x01, 13, .u8, .rwa, 0, (some 0), (some 3), .a⟩
  | .schNresObj => ⟨0x3000, 1, 0, 0x01, 1, .u8, .ro, 0, (some 0), (some 64), .v⟩
  | .schBwObj => ⟨0x3000, 1, 0, 0x02, 1, .u8, .ro, 0, (some 0), (some 64), .v⟩
  | .schTlimObj => ⟨0x3000, 1, 0, 0x03, 1, .u16, .rw, 60, (some 50), (some 1000), .v⟩
  | .schSwitches => ⟨0x3000, 1, 0, 0x04, 1, .u32, .ro, 0, none, none, .v⟩
  | .loadModel => ⟨0x3010, 1, 0, 0x01, 1, .u32, .ro, 0, none, none, .v⟩
  | .loadClass => ⟨0x3010, 1, 0, 0x02, 2, .u8, .ro, 0, none, none, .v⟩
  | .loadOver => ⟨0x3010, 1, 0, 0x04, 4, .u32, .ro, 0, none, none, .v⟩
  | .ipos => ⟨0x3080, 1, 0, 0x01, 1, .u32, .rww, 0, none, none, .v⟩
  | .tokEnd => ⟨0x3080, 1, 0, 0x02, 1, .u32, .ro, 0, none, none, .v⟩
  | .laWindow => ⟨0x3080, 1, 0, 0x03, 1, .u16, .rw, 4096, (some 1), (some 4096), .v⟩
  | .laMin => ⟨0x3080, 1, 0, 0x04, 1, .u16, .rw, 256, (some 1), (some 4096), .v⟩
  | .laHigh => ⟨0x3080, 1, 0, 0x05, 1, .u32, .rw, 4194304, none, none, .v⟩
  | .laLow => ⟨0x3080, 1, 0, 0x06, 1, .u32, .rw, 1048576, none, none, .v⟩
  | .hostJobs => ⟨0x3080, 1, 0, 0x07, 1, .u32, .ro, 0, none, none, .v⟩
  | .ctxTidObj => ⟨0x3100, 64, 1, 0x01, 1, .u16, .ro, 0, none, none, .v⟩
  | .ctxStateObj => ⟨0x3100, 64, 1, 0x02, 1, .u8, .ro, 0, (some 0), (some 3), .v⟩
  | .ctxBwObj => ⟨0x3100, 64, 1, 0x03, 1, .u8, .ro, 0, (some 1), (some 63), .v⟩
  | .ctxErrs => ⟨0x3100, 64, 1, 0x04, 1, .u32, .ro, 0, none, none, .v⟩
  | .ctxSwitch => ⟨0x3100, 64, 1, 0x05, 1, .u32, .ro, 0, none, none, .v⟩
  | .logHeld => ⟨0x3400, 1, 0, 0x01, 1, .u16, .ro, 0, (some 0), (some 4096), .v⟩
  | .logOldest => ⟨0x3400, 1, 0, 0x02, 1, .u32, .ro, 0, none, none, .v⟩
  | .logNext => ⟨0x3400, 1, 0, 0x03, 1, .u32, .ro, 0, none, none, .v⟩
  | .logOverw => ⟨0x3400, 1, 0, 0x04, 1, .u32, .ro, 0, none, none, .v⟩
  | .logCursor => ⟨0x3400, 1, 0, 0x05, 1, .u32, .rw, 0, none, none, .v⟩
  | .logRecord => ⟨0x3400, 1, 0, 0x06, 1, .oct, .ro, 0, (some 16), (some 16), .v⟩
  | .logClear => ⟨0x3400, 1, 0, 0x07, 1, .u32, .wo, 0, (some 0x7261656C), (some 0x7261656C), .v⟩
  | .logBlock => ⟨0x3400, 1, 0, 0x08, 1, .dom, .ro, 0, (some 0), (some 1024), .v⟩
  | .retCount => ⟨0x3401, 1, 0, 0x01, 1, .u16, .ro, 0, (some 0), (some 256), .v⟩
  | .retRecord => ⟨0x3401, 1, 0, 0x02, 1, .oct, .ro, 0, (some 16), (some 16), .v⟩
  | .retIndex => ⟨0x3401, 1, 0, 0x03, 1, .u16, .rw, 0, (some 0), (some 255), .v⟩
  | .authActive => ⟨0x3800, 1, 0, 0x01, 1, .u8, .ro, 0, (some 0), (some 16), .v⟩
  | .authSource => ⟨0x3800, 1, 0, 0x02, 1, .u8, .ro, 0, (some 0), (some 2), .v⟩
  | .authWrite => ⟨0x3801, 1, 0, 0x01, 1, .dom, .wo, 0, (some 17), (some 16400), .v⟩
  | .stageReset => ⟨0x3802, 1, 0, 0x01, 1, .u32, .wo, 0, (some 0), (some 0), .v⟩
  | .stageChunk => ⟨0x3802, 1, 0, 0x02, 1, .dom, .wo, 0, (some 1), (some 1024), .v⟩
  | .stageLen => ⟨0x3802, 1, 0, 0x03, 1, .u32, .ro, 0, (some 0), (some 16777216), .v⟩
  | .slotType => ⟨0x3810, 16, 1, 0x01, 1, .u8, .ro, 0, none, none, .v⟩
  | .slotState => ⟨0x3810, 16, 1, 0x02, 1, .u8, .ro, 0, none, none, .v⟩
  | .slotMask => ⟨0x3810, 16, 1, 0x03, 1, .u8, .ro, 0, none, none, .v⟩
  | .slotCounter => ⟨0x3810, 16, 1, 0x04, 1, .u32, .ro, 0, none, none, .v⟩
  | .slotFails => ⟨0x3810, 16, 1, 0x05, 1, .u32, .ro, 0, none, none, .v⟩
  | .slotRevoke => ⟨0x3810, 16, 1, 0x06, 1, .u8, .rwa, 0, (some 0), (some 255), .v⟩
  | .dbgUnlock => ⟨0x3820, 1, 0, 0x01, 1, .u8, .rwa, 0, (some 0), (some 1), .v⟩
  | .axErrCode => ⟨0x603F, 8, 2048, 0x00, 1, .u16, .ro, 0, none, none, .v⟩
  | .axControl => ⟨0x6040, 8, 2048, 0x00, 1, .u16, .rww, 0, none, none, .v⟩
  | .axStatus => ⟨0x6041, 8, 2048, 0x00, 1, .u16, .ro, 0x0200, none, none, .v⟩
  | .axQsOption => ⟨0x605A, 8, 2048, 0x00, 1, .i16, .const, 6, none, none, .v⟩
  | .axModeObj => ⟨0x6060, 8, 2048, 0x00, 1, .i8, .rw, 0, (some (-3)), (some 10), .p⟩
  | .axModeDisp => ⟨0x6061, 8, 2048, 0x00, 1, .i8, .ro, 0, none, none, .v⟩
  | .axPosDemand => ⟨0x6062, 8, 2048, 0x00, 1, .i32, .ro, 0, none, none, .v⟩
  | .axPosActual => ⟨0x6064, 8, 2048, 0x00, 1, .i32, .ro, 0, none, none, .v⟩
  | .axTgtTorque => ⟨0x6071, 8, 2048, 0x00, 1, .i16, .rww, 0, none, none, .v⟩
  | .axTgtPos => ⟨0x607A, 8, 2048, 0x00, 1, .i32, .rww, 0, none, none, .v⟩
  | .axFollow => ⟨0x60F4, 8, 2048, 0x00, 1, .i32, .ro, 0, none, none, .v⟩
  | .axTgtVel => ⟨0x60FF, 8, 2048, 0x00, 1, .i32, .rww, 0, none, none, .v⟩
  | .axModes => ⟨0x6502, 8, 2048, 0x00, 1, .u32, .const, 0x00070380, none, none, .v⟩

/-- The register field that an object shows: the instance of the object is the instance of the field. -/
def ObjId.view (o : ObjId) : Option RegId :=
  match o with
  | .straps => some .vnrStrap
  | .pwrState => some .pwrState
  | .wakeEn => some .pwrWakeEn
  | .userCap => some .pwrCapUser
  | .effCap => some .pwrCap
  | .throttle => some .pwrL
  | .estPower => some .pwrEst
  | .domsOn => some .pwrDomStat
  | .lastWake => some .pwrWakeSrc
  | .alarm => some .pwrAlarm
  | .fanState => some .fanState
  | .fanSpeed => some .fanRpm
  | .fanEnable => some .fanEn
  | .fanMinRpm => some .fanMinRpm
  | .fanFloor => some .fanDmin
  | .fanRestOff => some .fanRestOff
  | .strEnLoObj => some .strEnLo
  | .strEnHiObj => some .strEnHi
  | .mitStateObj => some .mitState
  | .mitCauseObj => some .mitCause
  | .mitFbFeedObj => some .mitFbFeed
  | .mitMissLimObj => some .mitMissLimit
  | .mitMissObj => some .mitMiss
  | .mitLastTObj => some .mitLastT
  | .asmRole => some .asmRole
  | .asmNode => some .asmNode
  | .asmState => some .asmState
  | .asmMembers => some .asmMember
  | .asmQuar => some .asmQuar
  | .asmSuspect => some .asmSuspect
  | .asmEpoch => some .asmEpoch
  | .asmFeatures => some .asmFeat
  | .asmMgrTo => some .asmMgrTo
  | .asmWkrTo => some .asmWkrTo
  | .pairRank => some .pairRank
  | .pairRole => some .pairRole
  | .pairAge => some .pairMirrorAge
  | .pairTakeovers => some .pairTkoCnt
  | .safStateObj => some .safState
  | .safCauses => some .safStoCause
  | .safRestarts => some .safRestartCnt
  | .safArmedMask => some .safArmed
  | .schNresObj => some .schNres
  | .schBwObj => some .schBwUsed
  | .schTlimObj => some .schTlim
  | .ctxTidObj => some .ctxTid
  | .ctxStateObj => some .ctxState
  | .ctxBwObj => some .ctxBw
  | .logNext => some .hostEvseq
  | .slotType => some .crySlotType
  | .slotState => some .crySlotState
  | .slotMask => some .crySlotMask
  | .slotCounter => some .cryCnt
  | .dbgUnlock => some .vnrDbgUnlocked
  | _ => none

/-- Objects, part 0. -/
def objPart0 : List ObjId :=
  [.devType, .errReg, .devName, .hwVersion, .swVersion, .storeAll, .restoreAll, .emcyCob, .consHb, .prodHb, .vendorId, .productCode, .revision, .serialLow, .sdoReqCob, .sdoRspCob, .rpdoMax, .rpdoCob, .rpdoType, .rmapCount, .rmapEntry, .tpdoMax, .tpdoCob, .tpdoType, .tpdoInhibit, .tpdoTimer, .tmapCount, .tmapEntry, .progDownload, .progControl, .orderCode, .stepping, .serialNo, .fwVersion, .libVersion, .dwlVersion, .cfgDigest, .straps, .pkgLimit, .odOvf]

/-- Objects, part 1. -/
def objPart1 : List ObjId :=
  [.odOvfClear, .pwrState, .pwrReq, .wakeEn, .userCap, .effCap, .throttle, .estPower, .domsOn, .lastWake, .alarm, .thmMax, .thmSensor, .thmLo, .thmHi, .fanState, .fanSpeed, .fanEnable, .fanMinRpm, .fanFloor, .fanRestOff, .strEnLoObj, .strEnHiObj, .strKind, .strDelivered, .strReplaced, .strSkipped, .strSecond, .strCrepl, .strEpoch, .strClear, .mitArmed, .mitStateObj, .mitCauseObj, .mitModelObj, .mitFbFeedObj, .mitMissLimObj, .mitArmObj, .mitMissObj, .mitLastTObj]

/-- Objects, part 2. -/
def objPart2 : List ObjId :=
  [.mitObs, .asmRole, .asmNode, .asmState, .asmMembers, .asmQuar, .asmSuspect, .asmEpoch, .asmFeatures, .asmOvf, .asmAdmitted, .asmMgrTo, .asmWkrTo, .cfgImage, .asmForward, .wkrState, .wkrReason, .wkrDigest, .wkrFw, .wkrLib, .wkrEpoch, .wkrOffset, .wkrSerial, .pairRank, .pairRole, .pairAge, .pairCause, .pairTakeovers, .pairMode, .pairHandover, .pairMaxAge, .pairLead, .safStateObj, .safCauses, .safRestarts, .safArm, .safDisarm, .safArmedMask, .safSs1Req, .safSs1Time]

/-- Objects, part 3. -/
def objPart3 : List ObjId :=
  [.safSs1Gpio, .safWdgWin, .safReactObj, .schNresObj, .schBwObj, .schTlimObj, .schSwitches, .loadModel, .loadClass, .loadOver, .ipos, .tokEnd, .laWindow, .laMin, .laHigh, .laLow, .hostJobs, .ctxTidObj, .ctxStateObj, .ctxBwObj, .ctxErrs, .ctxSwitch, .logHeld, .logOldest, .logNext, .logOverw, .logCursor, .logRecord, .logClear, .logBlock, .retCount, .retRecord, .retIndex, .authActive, .authSource, .authWrite, .stageReset, .stageChunk, .stageLen, .slotType]

/-- Objects, part 4. -/
def objPart4 : List ObjId :=
  [.slotState, .slotMask, .slotCounter, .slotFails, .slotRevoke, .dbgUnlock, .axErrCode, .axControl, .axStatus, .axQsOption, .axModeObj, .axModeDisp, .axPosDemand, .axPosActual, .axTgtTorque, .axTgtPos, .axFollow, .axTgtVel, .axModes]

/-- Every object. -/
def ObjId.all : List ObjId := objPart0 ++ objPart1 ++ objPart2 ++ objPart3 ++ objPart4

/-- An object instance: index instance i, sub-index instance j. -/
structure ObjKey where
  o : ObjId
  i : Nat
  j : Nat
deriving DecidableEq, Repr

/-- The instance of a row at an index and sub-index. -/
def ObjId.at_ (o : ObjId) (idx sub : Nat) : Option ObjKey :=
  let t := o.info
  let i := if t.st1 = 0 then 0 else (idx - t.idx) / t.st1
  if t.idx ≤ idx ∧ i < t.n1 ∧ idx = t.idx + i * t.st1 ∧ t.sub ≤ sub ∧ sub < t.sub + t.n2 then some ⟨o, i, sub - t.sub⟩ else none

/-- The object at an index and sub-index. -/
def objAt (idx sub : Nat) : Option ObjKey := ObjId.all.findSome? fun o => o.at_ idx sub

/-- Does an index exist? -/
def objIndex (idx : Nat) : Bool := ObjId.all.any fun o => (o.at_ idx o.info.sub).isSome

/-- Bits of a type of fixed size; 0 for the others. -/
def ObjTy.bits (t : ObjTy) : Nat :=
  match t with
  | .u8 => 8
  | .u16 => 16
  | .u32 => 32
  | .u64 => 64
  | .i8 => 8
  | .i16 => 16
  | .i32 => 32
  | _ => 0

/-- Is a type signed? -/
def ObjTy.signed (t : ObjTy) : Bool := t == .i8 || t == .i16 || t == .i32

/-- The rank that orders the stored values. -/
def ObjKey.rank (k : ObjKey) : Nat := Nat.pair k.o.ctorIdx (Nat.pair k.i k.j)

end Sys2Proof.Machine
end

