-- ==== Sys2Proof/Machine/Table.lean ====
section
/-! DEFINITION. Sparse tables: lists of (key, value) pairs with keys strictly rising in rank. They hold the register file,
the memory and the per-instance state, so that equal contents are equal lists. -/

namespace Sys2Proof.Machine

variable {κ α : Type}

/-- The value listed for a key. -/
def kfind [DecidableEq κ] : List (κ × α) → κ → Option α
  | [], _ => none
  | (k', v) :: t, k => if k = k' then some v else kfind t k

/-- List a value for a key, keeping the ranks rising. -/
def kinsert (rank : κ → Nat) : List (κ × α) → κ → α → List (κ × α)
  | [], k, v => [(k, v)]
  | (k', v') :: t, k, v =>
    if rank k < rank k' then (k, v) :: (k', v') :: t
    else if rank k' < rank k then (k', v') :: kinsert rank t k v
    else (k, v) :: t

/-- Take a key out of the list. -/
def kerase [DecidableEq κ] : List (κ × α) → κ → List (κ × α)
  | [], _ => []
  | (k', v') :: t, k => if k = k' then kerase t k else (k', v') :: kerase t k

/-- Store a value whose unlisted reading is `d`: the reading `d` itself is not listed. -/
def kput [DecidableEq κ] [DecidableEq α] (rank : κ → Nat) (m : List (κ × α)) (k : κ) (v d : α) : List (κ × α) :=
  if v = d then kerase m k else kinsert rank m k v

/-- The ranks rise strictly. -/
abbrev kwf (rank : κ → Nat) (m : List (κ × α)) : Prop :=
  m.Pairwise fun a b => rank a.1 < rank b.1

/-- Per-instance state: instance number and value; an instance that is not listed has the value `d`. -/
abbrev Tab (α : Type) := List (Nat × α)

/-- The state of instance `n`. -/
def Tab.get (d : α) (t : Tab α) (n : Nat) : α := (kfind t n).getD d

/-- Set the state of instance `n`. -/
def Tab.set (t : Tab α) (n : Nat) (v : α) : Tab α := kinsert id t n v

end Sys2Proof.Machine
end

