-- ==== Sys2Proof/Machine/Parts/Loop.lean ====
section
/-! DEFINITION. The state of the clocks, the control engine, the motor-side I/O and the Mitre slots that no register of
the register map holds (chapters 01 to 05). -/

namespace Sys2Proof.Machine

/-- A register field instance. -/
structure RegKey where
  r : RegId
  i : Nat
  j : Nat
deriving DecidableEq, Repr

/-- The register file: the fields that do not hold their reset value. -/
abbrev RegFile := List (RegKey × Nat)

/-- The qualification attempt that runs (Table CLK-2). -/
inductive QualAttempt where
  /-- Before T0 + 2 ms. -/
  | idle
  /-- Against the 32.768 kHz crystal. -/
  | primary
  /-- Against the 32 kHz RC. -/
  | fallback
  /-- Between a failed fall-back and the next retry. -/
  | waiting
  /-- Passed: the PLL may lock (R42). -/
  | passed
deriving DecidableEq, Repr

/-- A frequency measurement that runs (R49). -/
structure FmtrRun where
  start : Nat
  src : Nat
  ref : Nat
  pre : Nat
  nref : Nat
deriving DecidableEq, Repr

/-- Clocks and timebase. Times are root-clock counts of the model's clock `State.now`. -/
structure ClkSt where
  /-- The root PLL has locked and the dividers are released. -/
  up : Bool
  /-- The root time of T0. -/
  t0 : Nat
  /-- The root time of the alignment epoch (R36). -/
  epoch : Nat
  /-- DTIME seconds, nanoseconds and hidden fraction (R50). -/
  sec : Nat
  ns : Nat
  frac : Nat
  /-- The increment in effect, in 2^-32 ns (R51). -/
  inc : Nat
  /-- An increment written for the next CECLK. -/
  incPend : Option Nat
  /-- A step written for the next CECLK, in ns (R52). -/
  adj : Int
  /-- TB_CFG.BASE in effect on the grid. -/
  base : Nat
  /-- An accepted TB_CFG write waits for the next coincidence point (R57): the root time of the write. -/
  basePend : Option Nat
  /-- The captured epoch target in DTIME nanoseconds, and the root time of the arming (R37). -/
  epochTgt : Option Nat
  armedAt : Nat
  /-- DTIME at the last coincidence point before now, in units of 2^-32 ns (R37). -/
  coinTot : Nat
  /-- CLR_CNT written, to act at the next CECLK (R34). -/
  clrCnt : Bool
  /-- 32.768 kHz periods counted by the Veneer: VSEC × 32,768 + VSUB (R513). -/
  vticks : Nat
  /-- The count that the Veneer takes at the next 32.768 kHz edge (R54). -/
  vset : Option Nat
  /-- The crystal oscillates with regulation amplitude. -/
  lsxOk : Bool
  /-- The Veneer keeps time from the RC (R41, R45). -/
  onRc : Bool
  qual : QualAttempt
  qualGood : Nat
  /-- Root time at which the running window began. -/
  winFrom : Nat
  /-- Root time at which the running attempt may no longer run, or at which the retry begins. -/
  qualEnd : Nat
  qualFails : Nat
  /-- A primary and a fall-back have both failed since T0 (R41). -/
  qualRetried : Bool
  /-- The last monitor window was bad. -/
  monBad : Bool
  /-- Veneer ticks latched at a clock fault, and its ARG (R44). -/
  monHeld : Option (Nat × Nat)
  fmtr : Option FmtrRun
deriving DecidableEq, Repr

def ClkSt.init : ClkSt :=
  { up := false, t0 := 0, epoch := 0, sec := 0, ns := 0, frac := 0, inc := 2 * 4294967296 + 0x61861862, incPend := none,
    adj := 0, base := 2, basePend := none, epochTgt := none, armedAt := 0, coinTot := 0, clrCnt := false, vticks := 0, vset := none, lsxOk := false, onRc := false,
    qual := .idle, qualGood := 0, winFrom := 0, qualEnd := 0, qualFails := 0, qualRetried := false,
    monBad := false, monHeld := none, fmtr := none }

/-- The samples of one axis as latched at a tick (R76). -/
structure Samples where
  ia : Int
  ib : Int
  ic : Int
  pos : Int
  posmod : Nat
  pls : Int
  adc : Nat
  /-- DTIME of the tick. -/
  sec : Nat
  ns : Nat
deriving DecidableEq, Repr

def Samples.init : Samples := ⟨0, 0, 0, 0, 0, 0, 0x800, 0, 0⟩

/-- What the CE latched at t_commit (R59). -/
structure CeLat where
  /-- The axis's parameter registers as latched. -/
  regs : RegFile
  smp : Samples
  /-- Period index of the axis. -/
  idx : Nat
  iqCorr : Int
  idCorr : Int
  /-- Effective feed, 0 to 2^31 (R73). -/
  feed : Nat
  iqAdd : Int
  /-- Dictionary targets of position, speed and torque mode. -/
  tgtPos : Int
  tgtSpd : Int
  tgtTrq : Int
deriving DecidableEq, Repr

/-- The freshness of one masked guard at the axis's last latch (R72). -/
structure GuardSeen where
  g : Nat
  fresh : Bool
deriving DecidableEq, Repr

/-- A target value of a received frame: the first latch at which it may act, by root time, its object (0 position, 1 speed, 2 torque),
and the value (R306). -/
structure TargetFwd where
  due : Nat
  k : Nat
  v : Int
deriving DecidableEq, Repr

/-- The CE state of one axis. -/
structure CeAxis where
  /-- The enable is in effect. -/
  run : Bool
  /-- Hardware stopped the axis in this period: no CE work and no check (R60). -/
  stopped : Bool
  /-- Root time of that stop. -/
  stopAt : Nat
  /-- An accepted write of EN waits for the next tick. -/
  enPend : Option Bool
  /-- A period is open; it began at root time `tickAt`, lasts `per` CECLK, and is period `idx` of the axis. -/
  open_ : Bool
  tickAt : Nat
  per : Nat
  idx : Nat
  /-- The axis ran when the open period began, for the end-of-period check. -/
  ranAtTick : Bool
  /-- No run since the enable took effect (R61). -/
  first : Bool
  /-- A takeover loaded the state of R430, so the first run keeps it. -/
  preloaded : Bool
  /-- Samples latched at the tick, and the CE input bank (R76). -/
  smp : Samples
  bank : Samples
  /-- The samples latched last have been delivered, or none have been latched. -/
  delivered : Bool
  lat : Option CeLat
  /-- Root time of issue into the pipeline (R74). -/
  issuedAt : Option Nat
  /-- Duties computed by the running pipeline. -/
  duty : Int × Int × Int
  /-- Root time of the last shadow write, and the shadows that it replaced (R21). -/
  shOld : Option (Nat × Int × Int × Int)
  /-- CECLK from the tick to the completion of the shadow writes of this period. -/
  ceT : Option Nat
  /-- Set-point source in use (R69). -/
  src : Nat
  refPrev : Int
  posPrevS : Int
  ffrac : Nat
  dincPrev : Int
  rem : Int
  /-- Analog filter state y. -/
  y : Int
  plsRef : Int
  /-- Held outputs of the position and speed laws (R25). -/
  wRef : Int
  aFf : Int
  iqS : Int
  /-- Dictionary targets as forwarded to the CE (R306). -/
  tgtPos : Int
  tgtSpd : Int
  tgtTrq : Int
  /-- Targets of received frames that have not reached the CE yet, in order of forwarding. -/
  fwd : List TargetFwd
  guards : List GuardSeen
  /-- Root time at which the pads of the axis go high-Z after a disable (R81). -/
  relAt : Option Nat
  /-- What a mirror carries of the last completed run (Table PAIR-6): values in the order of the table, and period index. -/
  mir : List Nat
  mirIdx : Nat
deriving DecidableEq, Repr

def CeAxis.init : CeAxis :=
  { run := false, stopped := false, stopAt := 0, enPend := none, open_ := false, tickAt := 0, per := 0, idx := 0, ranAtTick := false,
    first := true, preloaded := false, smp := .init, bank := .init, delivered := true, lat := none,
    issuedAt := none, duty := (0x40000000, 0x40000000, 0x40000000), shOld := none, ceT := none, src := 0, refPrev := 0, posPrevS := 0,
    ffrac := 0, dincPrev := 0, rem := 0, y := 0, plsRef := 0, wRef := 0, aFf := 0, iqS := 0, tgtPos := 0, tgtSpd := 0,
    tgtTrq := 0, fwd := [], guards := [], relAt := none, mir := [], mirIdx := 0 }

/-- A target reaches the CE: 0 position, 1 speed, 2 torque. -/
def CeAxis.setTarget (a : CeAxis) (k : Nat) (v : Int) : CeAxis :=
  match k with
  | 0 => { a with tgtPos := v }
  | 1 => { a with tgtSpd := v }
  | _ => { a with tgtTrq := v }

/-- The targets of frames that are due by `now` have reached the CE. -/
def CeAxis.arrive (a : CeAxis) (now : Nat) : CeAxis :=
  { (a.fwd.filter fun f => decide (f.due ≤ now)).foldl (fun a f => a.setTarget f.k f.v) a with
    fwd := a.fwd.filter fun f => decide (now < f.due) }

/-- One half-bridge at the start of the open period: the level of its ideal signal (R79) and the root time of its last
edge (R80). -/
structure HalfBridge where
  lvl : Bool
  at_ : Nat
deriving DecidableEq, Repr

def HalfBridge.init : HalfBridge := ⟨false, 0⟩

/-- One sigma-delta channel (R91). -/
structure SdChan where
  /-- Last good sample since EN was set; none if there has been none. -/
  good : Option Int
  /-- A replacement has been reported since the last good sample. -/
  told : Bool
  /-- The channel has tripped since the over-current bit of its axis was last cleared (R92). -/
  tripped : Bool
deriving DecidableEq, Repr

def SdChan.init : SdChan := ⟨none, false, false⟩

/-- An SSI frame that runs (R95). -/
structure SsiRun where
  startAt : Nat
  /-- Root time of the tick that the frame precedes. -/
  tick : Nat
  /-- Bits of the frame with its parity bit, DIV and DLY, as they stood at its start. -/
  nb : Nat
  div : Nat
  dly : Nat
deriving DecidableEq, Repr

/-- One encoder port. -/
structure EncPort where
  a : Bool
  b : Bool
  /-- A Z edge has been taken since ZMODE was written (R94). -/
  zDone : Bool
  ssi : Option SsiRun
  /-- Last good SSI value since SSI mode was selected (R96). -/
  last : Option Nat
deriving DecidableEq, Repr

def EncPort.init : EncPort := ⟨false, false, false, none, none⟩

/-- One pulse port: the accepted levels. -/
structure PlsPort where
  a : Bool
  b : Bool
deriving DecidableEq, Repr

def PlsPort.init : PlsPort := ⟨false, false⟩

/-- The set-point ADC (R99). -/
structure AdcSt where
  /-- Channel converted last. -/
  last : Nat
  /-- Channels in conversion, oldest first; more than one only where the epoch moved within a conversion. -/
  busy : List Nat
deriving DecidableEq, Repr

def AdcSt.init : AdcSt := ⟨7, []⟩

/-- One sample of a vibration ring as the slot's input port knows it (R108). -/
structure VibStamp where
  sec : Nat
  ns : Nat
deriving DecidableEq, Repr

/-- One vibration channel of a slot: samples counted from the arming and the stamps of the newest ones, newest first. -/
structure VibChan where
  c : Nat
  stamps : List VibStamp
deriving DecidableEq, Repr

def VibChan.init : VibChan := ⟨0, []⟩

/-- A Mitre slot. -/
structure MitSlot where
  /-- Some true: an arming waits for the tick; some false: a disarming waits. -/
  armPend : Option Bool
  /-- Byte offsets of the input record and of the vibration rings in the LS of the group, as the loaded image gives them. -/
  recAddr : Nat
  ringAddr : Nat
  /-- An invocation runs; its start in root time. -/
  running : Bool
  startAt : Nat
  /-- An invocation has begun in the open period. -/
  begun : Bool
  /-- The slot was ARMED when the open period began. -/
  armedAtTick : Bool
  /-- Staging words of the invocation (R106, R110). -/
  stage : List Nat
  /-- The accepted commit of this period and its CECLK from the tick. -/
  commit : Option (List Nat)
  commitT : Nat
  /-- A matching commit has been seen in this invocation. -/
  seen : Bool
  /-- A commit of this period arrived at or after t_commit. -/
  late : Bool
  /-- Accepted-commit flag of the previous invocation. -/
  prevOk : Bool
  /-- Last accepted observation words 4 to 15. -/
  obs : List Nat
  vib : Tab VibChan
  /-- 0x2610 + n sub 03, and the bytes of weights, program and activations of the model classified last (R104). -/
  modelId : Nat
  weightBytes : Nat
  prog : Nat
  act : Nat
deriving DecidableEq, Repr

def MitSlot.init : MitSlot :=
  { armPend := none, recAddr := 0, ringAddr := 0, running := false, startAt := 0, begun := false, armedAtTick := false,
    stage := List.replicate 16 0, commit := none, commitT := 0xFFFFF, seen := false, late := false, prevOk := false,
    obs := List.replicate 12 0, vib := [], modelId := 0, weightBytes := 0, prog := 0, act := 0 }

/-- The PST fields of an axis before its last end-of-period check, and the root time of that check (R33). -/
structure PstOld where
  at_ : Nat
  vals : List Nat
deriving DecidableEq, Repr

def PstOld.init : PstOld := ⟨0, []⟩

/-- The state of the loop path. -/
structure LoopSt where
  ax : Tab CeAxis
  /-- Root time of the last issue into the CE pipeline (R74). -/
  lastIssue : Option Nat
  /-- Guards: value, seconds and nanoseconds as published (R71). -/
  gVal : Tab Nat
  gSec : Tab Nat
  gNs : Tab Nat
  /-- Half-bridges, 3 × axis + phase. -/
  hb : Tab HalfBridge
  /-- Writes of PWM_CFG.DT since the last enable, newest first: root time, and the value before (R80). -/
  dtLog : Tab (List (Nat × Nat))
  /-- Root time from which SDCLKk has been on (R89). -/
  sdClkFrom : Tab Nat
  pstOld : Tab PstOld
  sd : Tab SdChan
  enc : Tab EncPort
  pls : Tab PlsPort
  adc : AdcSt
  mit : Tab MitSlot
  /-- Base ticks since the epoch (R55): the number after that of the last one. -/
  baseTick : Nat
  /-- Level of ALIVE. -/
  alive : Bool
deriving DecidableEq, Repr

def LoopSt.init : LoopSt :=
  { ax := [], lastIssue := none, gVal := [], gSec := [], gNs := [], hb := [], dtLog := [], sdClkFrom := [], pstOld := [], sd := [], enc := [], pls := [], adc := .init,
    mit := [], baseTick := 0, alive := false }

end Sys2Proof.Machine
end

