-- ==== Sys2Proof/Machine/Parts/System.lean ====
section
/-! DEFINITION. The state of the event log, the Safety Island and the output pins that no register holds (chapters 00, 15,
20 and 23). -/

namespace Sys2Proof.Machine

/-- The links on which the part sends. -/
inductive Link where
  /-- Writes through the PCIe host window, `addr` the host address. -/
  | pcie
  /-- PCIe completions to the host, `n` the completion status. -/
  | pcieCpl
  /-- CAN frames: `n` the controller, `addr` the frame header word. -/
  | can
  /-- Ethernet frames: `n` the MAC. -/
  | eth
  /-- Dowel messages: `n` the port, `addr` the message type. -/
  | dowel
  /-- Requests through the Dowel remote window. -/
  | dwlWin
  /-- I²C transfers of the sensor command queues: `n` the bus. -/
  | i2c
deriving DecidableEq, Repr

/-- Something that the last command sent. -/
structure Tx where
  link : Link
  n : Nat
  addr : Nat
  data : List Byte
deriving DecidableEq, Repr

/-- An event record (Table SC-6). -/
structure EvRec where
  sec : Nat
  nsec : Nat
  code : Nat
  tid : Nat
  arg : Nat
deriving DecidableEq, Repr

/-- The event log 0x3400, the retained log 0x3401 and the records held in Veneer retention (R308, R309, R513). -/
structure LogSt where
  /-- The log runs. -/
  run : Bool
  /-- Records held, newest first, at most 4,096. -/
  recs : List EvRec
  /-- Next sequence number (0x3400:03), modulo 2^32. -/
  next : Nat
  /-- Overwritten records (0x3400:04). -/
  overw : Nat
  /-- EVT_OD_LOG_OVF has been raised since the log was last cleared. -/
  ovfTold : Bool
  /-- Read cursor (0x3400:05). -/
  cursor : Nat
  /-- Records held by the Veneer, oldest first, at most 32. -/
  held : List EvRec
  /-- Records that found the hold full. -/
  lost : Nat
  /-- 0x3401, oldest first. -/
  retained : List EvRec
  retIdx : Nat
  /-- Context slots whose queue overflow has been reported (R290). -/
  evqTold : List Nat
  /-- The Safety-class record that the Safety Island received last (R15). -/
  island : Option EvRec
deriving DecidableEq, Repr

def LogSt.init : LogSt :=
  { run := false, recs := [], next := 0, overw := 0, ovfTold := false, cursor := 0, held := [], lost := 0, retained := [],
    retIdx := 0, evqTold := [], island := none }

/-- A safe-state restart that runs (R477). -/
structure RestartRun where
  trigAt : Nat
deriving DecidableEq, Repr

/-- The Safety Island. -/
structure SafSt where
  /-- Restart triggers waiting to be taken: sub-index of Table SAF-3, and root time (R477, R490). -/
  trig : List (Nat × Nat)
  /-- Root time of the last reaction STO (R490). -/
  stoAt : Option Nat
  restart : Option RestartRun
  /-- Root times of the restarts started, newest first. -/
  starts : List Nat
  escalated : Bool
  /-- Root time at which the SS1 timer expires (R484). -/
  ss1End : Option Nat
  /-- Last valid watchdog kick, and the window that runs (R486). -/
  wdgLast : Option Nat
  wdgFrom : Nat
  wdgOk : Bool
  /-- Root time of the first comparison of the Clamp CRCs, from which the 10 ms count (R488). -/
  crcFrom : Option Nat
  bootDone : Bool
deriving DecidableEq, Repr

def SafSt.init : SafSt :=
  { trig := [], stoAt := none, restart := none, starts := [], escalated := false, ss1End := none, wdgLast := none, wdgFrom := 0,
    wdgOk := false, crcFrom := none, bootDone := false }

/-- The drive of the pins that the chapters name, as the part drives them; a pad that is not driven is none. -/
structure PinSt where
  stoN : Option Bool
  failN : Option Bool
  activeN : Option Bool
  /-- ALIVE toggles (R424). -/
  aliveOn : Bool
  /-- The clock pads of Table PAIR-2 are driven. -/
  clkPads : Bool
  mainEn : Bool
  pwrHold : Bool
  /-- The fan pads in a rest state: driven low (false) or released (true), by channel; outside rest FAN_STAT.D gives the pad (R456). -/
  fanRest : List Bool
  /-- Inputs: the levels of ESTOP_N and of TRIP7_N to TRIP0_N, as the last command that knew them told them. -/
  estopN : Bool
  tripN : Nat
deriving DecidableEq, Repr

def PinSt.init : PinSt :=
  { stoN := none, failN := none, activeN := none, aliveOn := false, clkPads := false, mainEn := false, pwrHold := false,
    fanRest := [], estopN := true, tripN := 0xFF }

end Sys2Proof.Machine
end

