-- ==== Sys2Proof/Machine/Parts/Fabric.lean ====
section
/-! DEFINITION. The state of the Clamp firewalls and of the fabric's outstanding requests (chapter 12). -/

namespace Sys2Proof.Machine

/-- An active Clamp entry: its four words (Table FAB-6), whether its parity bit is wrong, and whether that has been
reported (R239). -/
structure ClpEntry where
  w0 : Nat
  w1 : Nat
  w2 : Nat
  w3 : Nat
  bad : Bool
  told : Bool
deriving DecidableEq, Repr

def ClpEntry.init : ClpEntry := ⟨0, 0, 0, 0, false, false⟩

/-- A commit that waits (R236): the staging copy as it stood at GO. -/
structure ClpPend where
  tbl : Tab ClpEntry
  goAt : Nat
  atTick : Bool
  axis : Nat
deriving DecidableEq, Repr

/-- A request to the peripheral, host or Dowel window without a response yet (R226). -/
structure FabReq where
  id : Nat
  port : Nat
  tid : Nat
  addr : Nat
  len : Nat
  wr : Bool
  at_ : Nat
  timedOut : Bool
deriving DecidableEq, Repr

/-- The access-fault exception that a core has last taken (R243): of a store or a load, and at which address. -/
structure CoreExc where
  store : Bool
  addr : Nat
deriving DecidableEq, Repr

/-- Clamp instance i holds its active table in `active`, entry by entry; `own` is the Safety Island's copy (R488). `last` is
the response to the last request (Table FAB-7) and the data it returned. `crc`: the CRC that CLP_CRC shows up to a root time, until a
complete pass over the changed table has ended (R239). `portAt`: for each target port, the root time of the NCLK in which it has last
accepted a request (R225). `exc`: the exceptions of the Safety Island (0) and the application harts (1 to 4). -/
structure FabSt where
  active : Tab (Tab ClpEntry)
  own : Tab (Tab ClpEntry)
  pend : Tab (Option ClpPend)
  reqs : List FabReq
  lastResp : Nat
  lastData : List Nat
  crc : Tab (Nat × Nat)
  portAt : Tab Nat
  exc : Tab (Option CoreExc)
deriving DecidableEq, Repr

def FabSt.init : FabSt := ⟨[], [], [], [], 0, [], [], [], []⟩

end Sys2Proof.Machine
end

