-- ==== Sys2Proof/Machine/Parts/Sched.lean ====
section
/-! DEFINITION. The state of task dispatch and of the context slots that no register holds (chapter 14). -/

namespace Sys2Proof.Machine

/-- Object 0x3010: the last load (R293). -/
structure LoadRep where
  modelId : Nat
  cls : Nat
  reason : Nat
  wOver : Nat
  lsOver : Nat
  tOver : Nat
  cost : Nat
  /-- The MOL_E code with which the load failed; 0 if it did not. -/
  err : Nat
deriving DecidableEq, Repr

def LoadRep.init : LoadRep := ⟨0, 0, 0, 0, 0, 0, 0, 0⟩

/-- The resource of a running task (Table SCH-5). -/
inductive TaskRes where
  | core (t : Nat)
  | dma (cluster chan : Nat)
  | cnv (cluster : Nat)
deriving DecidableEq, Repr

/-- A task that runs. `rows`: rows of a DMA task done; `stallFrom`: stalled on a BATCH fault since that time (R264); `stalled`: root cycles of stalls before;
`fail`: the result with which it will end, 0 if none has arisen. -/
structure TaskRun where
  ch : Nat
  idx : Nat
  tid : Nat
  res : TaskRes
  startAt : Nat
  rows : Nat
  stallFrom : Option Nat
  stalled : Nat
  fail : Nat
deriving DecidableEq, Repr

/-- A channel: ring entries from the oldest incomplete one up that have completed out of order (as entry numbers), the root time
from which the head-of-line task is ready (none while it is not), and the root time at which CH_DONE last rose. -/
structure ChSt where
  comp : List Nat
  ready : Option Nat
  doneAt : Nat
deriving DecidableEq, Repr

def ChSt.init : ChSt := ⟨[], none, 0⟩

/-- A context slot beside its registers: root time of ACTIVATE, the objects 0x3100 + s sub 04 and 05, the resident weights that the
runtime streams in (fabric addresses and bytes) and the root time at which they stand (R279), and whether an end of the context waits
for the slot to become RESIDENT (R386). -/
structure CtxSt where
  actAt : Nat
  errs : Nat
  switchUs : Nat
  weights : List (Nat × List Byte)
  weightsAt : Option Nat
  ending : Bool
deriving DecidableEq, Repr

def CtxSt.init : CtxSt := ⟨0, 0, 0, [], none, false⟩

structure SchSt where
  load : LoadRep
  runs : List TaskRun
  ch : Tab ChSt
  ctx : Tab CtxSt
  /-- Channel that the TD of a cluster last served (R287). -/
  served : Tab Nat
  /-- Object 0x3000:04. -/
  switches : Nat
  /-- The root time at which a resource became idle, by its number (R287). -/
  idle : Tab Nat
  /-- Cores whose program was stopped at its time limit, while operations in flight still complete (R285). -/
  drain : List Nat
deriving DecidableEq, Repr

def SchSt.init : SchSt := ⟨.init, [], [], [], [], 0, [], []⟩

/-- The number of a resource: cores, DMA channels, CNVs. -/
def TaskRes.no (r : TaskRes) : Nat :=
  match r with
  | .core t => t
  | .dma c d => 64 + 4 * c + d
  | .cnv c => 96 + c

end Sys2Proof.Machine
end

