-- ==== Sys2Proof/Machine/Parts/Stream.lean ====
section
/-! DEFINITION. The state of the camera, current and vibration streams that no register holds (chapter 06). -/

namespace Sys2Proof.Machine

/-- An open frame. -/
structure CamFrame where
  fcnt : Nat
  fnum : Nat
  implied : Bool
  /-- Stamp. -/
  sec : Nat
  ns : Nat
  epoch : Nat
  unc : Bool
  /-- The live address and its tag; none: no commit has applied since enable. -/
  addr : Option Nat
  tag : Nat
  /-- Rows received and usable: row number and, on an ISP channel, its 16-bit pixels. -/
  rows : List (Nat × List Nat)
  /-- Rows received bad: row number and cause (Table STR-7). -/
  bad : List (Nat × Nat)
  /-- Rows that have arrived, in arrival order numbering. -/
  next : Nat
  /-- Clamp has refused a write of the frame. -/
  refused : Bool
deriving DecidableEq, Repr

/-- A pending commit: address, tag, and the root time at which the PCLK after its completion begins. -/
structure CamPend where
  addr : Nat
  tag : Nat
  due : Nat
deriving DecidableEq, Repr

/-- An entry of the applied FIFO. -/
structure CamApplied where
  fnum : Nat
  tag : Nat
  status : Nat
  fcnt : Nat
deriving DecidableEq, Repr

structure CamSt where
  frame : Option CamFrame
  pend : Option CamPend
  /-- A commit has applied since the stream was enabled; its tag. -/
  live : Bool
  tag : Nat
  /-- Applied FIFO, oldest first. -/
  fifo : List CamApplied
  /-- Address and FCNT of the last good frame since enable. -/
  good : Option (Nat × Nat)
  /-- Object 0x2410 + s. -/
  delivered : Nat
  replaced : Nat
  skipped : Nat
  corrected : Nat
  epoch : Nat
deriving DecidableEq, Repr

def CamSt.init : CamSt :=
  { frame := none, pend := none, live := false, tag := 0, fifo := [], good := none, delivered := 0, replaced := 0,
    skipped := 0, corrected := 0, epoch := 0 }

/-- A set of sensor register writes: (register, data) pairs left to send, and the root time at which the PCLK after its submission
begins. -/
structure ScqSet where
  epoch : Nat
  writes : List (Nat × Nat)
  due : Nat
deriving DecidableEq, Repr

/-- The set that is being sent: the frame at whose start it began, and whether its current write is a repeat. -/
structure ScqRun where
  set : ScqSet
  fcnt : Nat
  again : Bool
deriving DecidableEq, Repr

/-- A released set: its number, epoch and effect frame. -/
structure ScqRel where
  no : Nat
  epoch : Nat
  eff : Nat
deriving DecidableEq, Repr

structure ScqSt where
  /-- Writes appended and not yet submitted, oldest first. -/
  acc : List (Nat × Nat)
  sets : List ScqSet
  run : Option ScqRun
  /-- FCNT of the last frame of the SCQ's virtual channel. -/
  last : Nat
  /-- Released sets, newest first. -/
  rel : List ScqRel
  relNo : Nat
  /-- Failed sets, newest first, none of which a later set has replaced: the first uncertain frame, and the releases before it. -/
  unc : List (Nat × Nat)
deriving DecidableEq, Repr

def ScqSt.init : ScqSt := ⟨[], [], none, 0, [], 0, []⟩

/-- A channel of a TDM port. -/
structure TdmChan where
  last : Option Nat
  run : Nat
  good : Int
  /-- No good sample since the last replacement, or none at all. -/
  told : Bool
deriving DecidableEq, Repr

def TdmChan.init : TdmChan := ⟨none, 0, 0, true⟩

structure StrSt where
  cam : Tab CamSt
  scq : Tab ScqSt
  /-- TDM channels by stream − 40. -/
  tdm : Tab TdmChan
  /-- DTIME at the last FSYNC rising edge before now, in units of 2^-32 ns, by port. -/
  fsync : Tab Nat
  /-- The root time from which a TDM frame may open, by port: the write of TDM_CFG, or the end of the last frame. -/
  tdmFrom : Tab Nat
  /-- Samples delivered, by stream (object 0x2410 + s sub 02), and replaced vibration samples (sub 03). -/
  delivered : Tab Nat
  replaced : Tab Nat
deriving DecidableEq, Repr

def StrSt.init : StrSt := ⟨[], [], [], [], [], [], []⟩

end Sys2Proof.Machine
end

