-- ==== Sys2Proof/Machine/Parts/Memory.lean ====
section
/-! DEFINITION. The state of the scratchpad banks, the buffer pools, the ECC of the memories and the translation hardware
that no register holds (chapters 11 and 13). -/

namespace Sys2Proof.Machine

/-- Words with bit errors: scratchpad words by their 8-byte address, DRAM blocks by their 64-byte address. -/
structure EccSt where
  /-- One bit wrong. -/
  cor : List Nat
  /-- Two or more bits wrong. -/
  unc : List Nat
  /-- Corrected scratchpad words that wait for their write-back (R210). -/
  wb : List Nat
  /-- The first corrected error since the last clear has been reported. -/
  spmTold : Bool
  memTold : Bool
deriving DecidableEq, Repr

def EccSt.init : EccSt := ⟨[], [], [], false, false⟩

/-- A granted access that has not completed. -/
structure SpmFlight where
  req : SpmReq
  grantAt : Nat
  read : List Byte
  /-- The read found an error at the grant: a corrected one, or one that it cannot correct (R210, R211). -/
  corr : Bool
  bad : Bool
deriving DecidableEq, Repr

/-- A bank: the narrow write between its two grants (R207), the narrow target port granted last (R206), and the root time of the last
grant (R203). -/
structure SpmBank where
  merge : Option SpmReq
  last : Nat
  grantAt : Option Nat
deriving DecidableEq, Repr

def SpmBank.init : SpmBank := ⟨none, 0, none⟩

/-- A narrow request that waits: the TCLK that it has waited, and whether that has been reported (R208). -/
structure SpmWait where
  req : SpmReq
  n : Nat
  told : Bool
deriving DecidableEq, Repr

structure SpmSt where
  /-- Banks: LS bank b of core t is t × 16 + b; CS bank b of cluster c is 1024 + c × 32 + b. -/
  bank : Tab SpmBank
  flight : List SpmFlight
  wait : List SpmWait
  /-- A clear of the counters waits for the next TCLK. -/
  clr : Bool
  /-- Zero-fills that run: root time of the end, by cluster. -/
  initEnd : Tab (Option Nat)
deriving DecidableEq, Repr

def SpmSt.init : SpmSt := ⟨[], [], [], false, []⟩

/-- A buffer. -/
structure BpuBuf where
  alloc : Bool
  owner : Nat
  gen : Nat
deriving DecidableEq, Repr

def BpuBuf.init : BpuBuf := ⟨false, 0, 0⟩

/-- A command at the BPU port: an allocation, a free, a gift or a reclaim. -/
inductive BpuCmd where
  | alloc (tid pool : Nat)
  | free (tid pool handle : Nat)
  | give (tid pool target handle : Nat)
  | reclaim (tid : Nat)
deriving DecidableEq, Repr

structure BpuPool where
  bufs : Tab BpuBuf
  free : List Nat
  /-- The pool has had a FREE buffer since the last EVT_BPU_POOL_EMPTY. -/
  hadFree : Bool
deriving DecidableEq, Repr

def BpuPool.init : BpuPool := ⟨[], [], false⟩

structure BpuSt where
  pool : Tab BpuPool
  /-- A reclaim that runs: TID and root time of its end. -/
  reclaim : Option (Nat × Nat)
  /-- Commands that wait for it, in order of arrival, with the fabric request that waits for the answer. -/
  waiting : List (BpuCmd × Option Nat)
deriving DecidableEq, Repr

def BpuSt.init : BpuSt := ⟨[], none, []⟩

/-- A TLB entry: TID, virtual and physical page address, page size code (Table MEM-7), permissions. -/
structure TlbEnt where
  tid : Nat
  va : Nat
  pgs : Nat
  pa : Nat
  r : Bool
  w : Bool
deriving DecidableEq, Repr

/-- An engine stalled on a BATCH fault; `retry`: a resume has been written. -/
structure MmuStall where
  tid : Nat
  va : Nat
  wr : Bool
  retry : Bool
deriving DecidableEq, Repr

/-- An invalidation that runs. -/
structure MmuInv where
  tid : Nat
  base : Nat
  len : Nat
  at_ : Nat
deriving DecidableEq, Repr

structure MmuSt where
  l1 : Tab (List TlbEnt)
  l2 : Tab (List TlbEnt)
  stall : Tab (Option MmuStall)
  /-- Engine and TID pairs whose cause-0x9 record has been written. -/
  deadTold : List (Nat × Nat)
  inv : Option MmuInv
  fqTold : Bool
  /-- Root time of the last start of an invalidation, by TID (R267). -/
  invAt : Tab Nat
deriving DecidableEq, Repr

def MmuSt.init : MmuSt := ⟨[], [], [], [], none, false, []⟩

/-- DRAM: training has completed; the scrub's next block, and the root time of its last read; refresh rate codes and reported hot channels. -/
structure MemcSt where
  trained : Bool
  scrubNext : Nat
  scrubAt : Nat
  rate : Tab Nat
  hot : List Nat
  /-- Root time of the last poll of MR4. -/
  polled : Option Nat
deriving DecidableEq, Repr

def MemcSt.init : MemcSt := ⟨false, 0, 0, [], [], none⟩

end Sys2Proof.Machine
end

