-- ==== Sys2Proof/Machine/Parts/Host.lean ====
section
/-! DEFINITION. The state of the PCIe endpoint, the queue pairs and the host's allocations that no register holds
(chapters 13 and 18). -/

namespace Sys2Proof.Machine

/-- A submission queue entry (Table PCI-5): opcode, CID, LEN, PTR and the 48 PARAM bytes. -/
structure SqEntry where
  op : Nat
  cid : Nat
  len : Nat
  ptr : Nat
  param : List Byte
deriving DecidableEq, Repr

/-- A completion that waits to be written: value, CID, STATUS, and SQHD after its command. -/
structure CqEntry where
  value : Nat
  cid : Nat
  status : Nat
  sqhd : Nat
deriving DecidableEq, Repr

/-- A queue pair. -/
structure Qp where
  live : Bool
  sqBase : Nat
  cqBase : Nat
  /-- Entries. -/
  sqSize : Nat
  cqSize : Nat
  vec : Nat
  cnt : Nat
  time : Nat
  tid : Nat
  err : Bool
  sqHead : Nat
  cqTail : Nat
  phase : Bool
  /-- The command that runs, and whether it lies with the dictionary server. -/
  cur : Option SqEntry
  given : Bool
  /-- Posted CQ entries that the host has not freed. -/
  posted : Nat
  /-- Posted CQ entries not yet signalled, and the root time of the oldest. -/
  fresh : Nat
  oldest : Nat
  /-- Completions held in D3hot, oldest first. -/
  held : List CqEntry
deriving DecidableEq, Repr

def Qp.init : Qp :=
  { live := false, sqBase := 0, cqBase := 0, sqSize := 32, cqSize := 32, vec := 0, cnt := 1, time := 0, tid := 0, err := false,
    sqHead := 0, cqTail := 0, phase := true, cur := none, given := false, posted := 0, fresh := 0, oldest := 0, held := [] }

/-- An allocation of a queue pair. -/
structure MolMem where
  qp : Nat
  va : Nat
  bytes : Nat
deriving DecidableEq, Repr

/-- A hint on a range of a queue pair. -/
structure MolHint where
  qp : Nat
  va : Nat
  bytes : Nat
  hint : Hint
deriving DecidableEq, Repr

/-- A loaded model: queue pair, slot, first channel and channels, the nodes that hold its parts, and whether it is
deadline-bearing (R409). -/
structure MolModel where
  qp : Nat
  slot : Nat
  ch0 : Nat
  chs : Nat
  nodes : List Nat
  deadline : Bool
deriving DecidableEq, Repr

/-- What a batch of mol_prefetch does with a page: move it, make or refresh a replica of it, or retire its replica. -/
inductive MoveKind where
  | move | replica | retire
deriving DecidableEq, Repr

/-- A page of a batch, and the entries that map it, with what they held. -/
structure PageJob where
  page : PageMove
  kind : MoveKind
  entries : List (Nat × Nat)
deriving DecidableEq, Repr

/-- A mol_prefetch that runs: the channel it completes on, the batch that moves, the invalidations of the batch that have not begun (TID,
base, length), and the pages that have still to move. -/
structure MolMove where
  qp : Nat
  ch : Nat
  batch : List PageJob
  inv : List (Nat × Nat × Nat)
  todo : List PageJob
deriving DecidableEq, Repr

/-- A replica of a page (R272): queue pair, virtual address, size, the entries that map it, and the reference copy. -/
structure Replica where
  qp : Nat
  va : Nat
  size : Nat
  entries : List Nat
  ref_ : Nat
deriving DecidableEq, Repr

/-- The part that comes next waits: slot and channel of the one before, and the CH_DONE at which its tasks have completed. -/
structure HandWait where
  slot : Nat
  ch : Nat
  count : Nat
  next : HandOver
deriving DecidableEq, Repr

structure HostSt where
  qp : Tab Qp
  /-- Configuration space: the command register, the BARs, MSI-X Enable and Function Mask. -/
  cmd : Nat
  bars : Tab Nat
  msixEn : Bool
  msixMask : Bool
  /-- A function-level reset runs: the root time of its start. -/
  flr : Option Nat
  /-- PERST_N is asserted; root time of its last release. -/
  perst : Bool
  perstAt : Nat
  /-- PME_Turn_Off has taken the link to L2. -/
  l2 : Bool
  /-- Vectors held in D3hot, oldest first. -/
  heldVec : List Nat
  /-- Root time of the last vector 128, and the next sequence number of the log then. -/
  logAt : Option Nat
  logSeq : Nat
  /-- An inbound failure has been reported since PCIE_CNT_INB last read 0. -/
  inbTold : Bool
  mems : List MolMem
  hints : List MolHint
  models : List MolModel
  /-- TIDs taken by queue pairs and contexts, until they are retired. -/
  tids : List Nat
  /-- The mol_prefetch that runs, the replicas, and the invalidations of retired replicas that have not begun. -/
  move : Option MolMove
  replicas : List Replica
  inv : List (Nat × Nat × Nat)
  /-- Parts of split models that wait for the part before them. -/
  hands : List HandWait
deriving DecidableEq, Repr

def HostSt.init : HostSt :=
  { qp := [], cmd := 0, bars := [], msixEn := false, msixMask := false, flr := none, perst := true, perstAt := 0, l2 := false,
    heldVec := [], logAt := none, logSeq := 0, inbTold := false, mems := [], hints := [], models := [], tids := [], move := none,
    replicas := [], inv := [], hands := [] }

end Sys2Proof.Machine
end

