-- ==== Sys2Proof/Machine/Parts/Compute.lean ====
section
/-! DEFINITION. The state of Yarrow, the PPUs, the tensor cores, the CNVs and the embedding engines that no register holds
(chapters 07 to 10). -/

namespace Sys2Proof.Machine

/-- A dictionary entry: its text and its flags byte (Table YAR-3). -/
structure DictEnt where
  text : List Byte
  flags : Nat
deriving DecidableEq, Repr

/-- A tokenizer unit: the dictionary in use, whether the job at the head of the ring runs, and since when. -/
structure YarSt where
  dict : List DictEnt
  run : Bool
  startAt : Nat
deriving DecidableEq, Repr

def YarSt.init : YarSt := ⟨[], false, 0⟩

/-- A tokenizing job whose result the consumer still waits for: the unit that runs it (2: the host), its descriptor index there (for
the host: the address of its descriptor), whether its blocks belong to the range that is kept, and, once it has run, the first block
and the block after its last. -/
structure TokJob where
  unit : Nat
  key : Nat
  kept : Bool
  ran : Option (Nat × Nat)
deriving DecidableEq, Repr

/-- The look-ahead feed: first tokenized block, end of the program, DTIME at which IPOS was written, and whether the window
is withheld (R150, R151); whether new jobs go to the host, and the jobs in the order of their submission (R152). -/
structure LookSt where
  start : Nat
  progEnd : Nat
  sec : Nat
  ns : Nat
  held : Bool
  toHost : Bool
  jobs : List TokJob
deriving DecidableEq, Repr

def LookSt.init : LookSt := ⟨0, 0, 0, 0, true, false, []⟩

/-- A PPU job that runs; `ring`: it came from the ring. -/
structure PpuRun where
  ring : Bool
  job : PpuJob
  startAt : Nat
deriving DecidableEq, Repr

/-- The accumulators that a core holds: tile size, class, and one value for each, row by row (integers, or fp32 words). -/
structure Tile where
  m : Nat
  n : Nat
  isF : Bool
  acc : List Int
deriving DecidableEq, Repr

/-- A core: its accumulators, the end of its last operation, a seed that waits (the generator state from it, and the root time at
which the work in flight at its write has completed), and the last vector result (lanes, and exponents or scales of a block
write). -/
structure CoreSt where
  tile : Option Tile
  busyTo : Nat
  seed : Option (Nat × Nat)
  lanes : List Nat
  scales : List Nat
deriving DecidableEq, Repr

def CoreSt.init : CoreSt := ⟨none, 0, none, [], []⟩

/-- What a CNV layer holds in memory: weights, quantization records and biases. -/
structure CnvPar where
  w : List Byte
  q : List Byte
  b : List Byte
deriving DecidableEq, Repr

/-- A row of a plane in the line buffer: its number, and the codes of its columns from `x0` up, channel last. -/
structure CnvRow where
  no : Nat
  x0 : Nat
  codes : List Nat
deriving DecidableEq, Repr

/-- The line buffer of a CNV that is kept: the layer records, the last output row, and the rows in the partition of each layer. -/
structure CnvLb where
  layers : List (List Byte)
  last : Nat
  planes : List (List CnvRow)
deriving DecidableEq, Repr

/-- The run of a job: when it started (root time), what the layers hold in memory once it has been read, the output row that is next,
when its steps begin (TCLK after the start), the rows in the partitions, the next row that each layer computes, and the number of the
free values of the job. -/
structure CnvRun where
  start : Nat
  pars : Option (List CnvPar)
  row : Nat
  due : Nat
  planes : List (List CnvRow)
  next : List Nat
  free : Nat
deriving DecidableEq, Repr

def CnvRun.init : CnvRun := ⟨0, none, 0, 0, [], [], 0⟩

/-- A CNV: the slot bytes of the job that runs, whether it continues, how it ends if a fault has stopped it, its run, and the kept line
buffer. -/
structure CnvSt where
  job : Option (List Byte)
  cont : Bool
  stop : Option Nat
  run : CnvRun
  lb : Option CnvLb
deriving DecidableEq, Repr

def CnvSt.init : CnvSt := ⟨none, false, none, .init, none⟩

/-- A row that an update job still has to lock: its virtual address, its physical address at the start of the job, the fp32 words of
its gradient, and, in a product table, the rows whose gradients need it. -/
structure EmbGrad where
  va : Nat
  pa : Nat
  grad : List Nat
  pair : List Nat
deriving DecidableEq, Repr

/-- An embedding job that runs: its descriptor, its table descriptor, how far its start has come (0: the table descriptor is not read
yet; 1: the update is not planned yet; 2: all done), the rows that still lack a lock, and what it has counted. `end_`: STATUS 3 or 4 if
it ends so; `cause`: the cause of an invalid job; `waitFrom`: since when it waits for a lock. -/
structure EmbRun where
  desc : List Byte
  tbl : List Byte
  stage : Nat
  todo : List EmbGrad
  end_ : Nat
  cause : Nat
  skipped : Nat
  rows : Nat
  startAt : Nat
  waitFrom : Option Nat
deriving DecidableEq, Repr

/-- A lock on a row: the engine, the TID and the virtual address, the physical pieces of the row with their lengths, and what is written
to it under the lock. -/
structure EmbLock where
  e : Nat
  tid : Nat
  va : Nat
  pieces : List (Nat × Nat)
  data : List Byte
deriving DecidableEq, Repr

structure CompSt where
  yar : Tab YarSt
  look : LookSt
  ppu : Tab (Option PpuRun)
  core : Tab CoreSt
  cnv : Tab CnvSt
  emb : Tab (Option EmbRun)
  locks : List EmbLock
  /-- A seed that waits for the running job, by engine. -/
  embSeed : Tab (Option Nat)
deriving DecidableEq, Repr

def CompSt.init : CompSt := ⟨[], .init, [], [], [], [], [], []⟩

end Sys2Proof.Machine
end

