-- ==== Sys2Proof/Machine/Parts/Od.lean ====
section
/-! DEFINITION. The state of the object dictionary and of the key store that no register holds (chapters 15 and 17). -/

namespace Sys2Proof.Machine

/-- The stored values: objects that no register holds. Sorted by rank, a value equal to its default is not listed. -/
abbrev ObjFile := List (ObjKey × Nat)

/-- A flash copy of the P objects (R302): values that differ from their defaults. -/
structure OdCopy where
  seq : Nat
  valid : Bool
  vals : ObjFile
deriving DecidableEq, Repr

/-- A store that runs: its snapshot, and the request that it answers. -/
structure OdStoreRun where
  vals : ObjFile
  req : OdReq
deriving DecidableEq, Repr

/-- A record that waits for the flash copy of its counter (R368). -/
structure AuthWait where
  slot : Nat
  counter : Nat
  record : List Byte
  req : OdReq
deriving DecidableEq, Repr

/-- `key` is the AES-128 key of each key slot (OTP), `flash` its flash copy F of the counter. -/
structure OdSt where
  vals : ObjFile
  /-- 0x2820:01. -/
  image : List Byte
  /-- Requests that wait, in order of arrival. -/
  queue : List OdReq
  /-- Overflows of an interface reported since its counter was last cleared. -/
  ovfTold : List Nat
  copies : List OdCopy
  /-- Stored A objects, with the stored configuration image. -/
  aStore : ObjFile
  aImage : List Byte
  store : Option OdStoreRun
  staging : List Byte
  key : Tab (List Nat)
  flash : Tab Nat
  clean : Bool
  authSource : Nat
  auth : Option AuthWait
  /-- The last answer: the request, its abort code or 0, and the value returned. -/
  answer : Option (OdReq × Nat × List Byte)
deriving DecidableEq, Repr

def OdSt.init : OdSt :=
  { vals := [], image := [], queue := [], ovfTold := [], copies := [], aStore := [], aImage := [], store := none, staging := [],
    key := [], flash := [], clean := false, authSource := 0, auth := none, answer := none }

end Sys2Proof.Machine
end

