-- ==== Sys2Proof/Machine/Parts/Can.lean ====
section
/-! DEFINITION. The state of the CAN controllers and of the CANopen node that no register holds (chapter 16). -/

namespace Sys2Proof.Machine

/-- A write of an acceptance rule or of CANn_RXCFG: when, which field, and what it held before (R326). -/
structure RuleOld where
  at_ : Nat
  key : RegKey
  old : Nat
deriving DecidableEq, Repr

/-- A request that its abort ended before it was sent: mailbox, arbitration field, and root times of the request and of its end. -/
structure TxGone where
  mb : Nat
  key : Nat
  from_ : Nat
  till : Nat
deriving DecidableEq, Repr

/-- A controller. -/
structure CanCtl where
  /-- ROM in effect (R336). -/
  rom : Bool
  /-- Mailboxes whose running attempt is the last one (R332). -/
  aborting : List Nat
  /-- Queues whose loss has been reported since FILL was last below 32 (R328). -/
  told : List Nat
  /-- Root time of each mailbox's request, and requests that have ended unsent since the last frame (R330). -/
  reqAt : Tab Nat
  gone : List TxGone
  /-- Root time of bus-off entry. -/
  offAt : Nat
  /-- BOFF_RECOVER has been written, and when. -/
  recov : Bool
  recovAt : Nat
  /-- Rule writes that a frame on the bus may not see, newest first. -/
  hist : List RuleOld
deriving DecidableEq, Repr

def CanCtl.init : CanCtl := ⟨false, [], [], [], [], 0, false, 0, []⟩

/-- An SDO transfer that runs (R341): direction, object, bytes, next toggle bit, and root time of the last frame. -/
structure SdoRun where
  fd : Bool
  brs : Bool
  write : Bool
  idx : Nat
  sub : Nat
  buf : List Byte
  toggle : Bool
  /-- The request lies with the server. -/
  waits : Bool
  lastAt : Nat
deriving DecidableEq, Repr

/-- The CANopen node on CAN0. -/
structure NodeSt where
  /-- The runtime serves the node. -/
  up : Bool
  /-- The boot-up message has been queued since the node last started (R339). -/
  boot : Bool
  /-- State byte: 0x05, 0x04 or 0x7F; 0 before the boot-up message. -/
  nmt : Nat
  /-- Frames that wait, oldest first. -/
  tx : List CanFrame
  sdo : Option SdoRun
  /-- Transfers begun. -/
  xfer : Nat
  /-- Root time at which each consumer heartbeat was heard, and the subs that are missing. -/
  hbAt : Tab (Option Nat)
  hbMiss : List Nat
  /-- Root time of the last heartbeat sent. -/
  prodAt : Nat
  /-- Root time at which each TPDO timer started, and of each last TPDO. -/
  tpdoFrom : Tab Nat
  tpdoAt : Tab (Option Nat)
  /-- 0x1001 as last seen. -/
  errWas : Nat
deriving DecidableEq, Repr

def NodeSt.init : NodeSt :=
  { up := false, boot := false, nmt := 0, tx := [], sdo := none, xfer := 0, hbAt := [], hbMiss := [], prodAt := 0,
    tpdoFrom := [], tpdoAt := [], errWas := 0 }

structure CanSt where
  ctl : Tab CanCtl
  node : NodeSt
deriving DecidableEq, Repr

def CanSt.init : CanSt := ⟨[], .init⟩

end Sys2Proof.Machine
end

