-- ==== Sys2Proof/Machine/Parts/Eth.lean ====
section
/-! DEFINITION. The state of the MACs, gPTP and the VDP server that no register holds (chapter 17). -/

namespace Sys2Proof.Machine

/-- A frame that waits in an egress queue: destination MAC, IPv4 address and UDP port (0: none), EtherType, payload, and the
DTIME in ns before which it is not queued (R360). -/
structure EthOut where
  mac : Nat
  ip : Nat
  port : Nat
  etype : Nat
  data : List Byte
  due : Nat
deriving DecidableEq, Repr

/-- A gate entry: gates and interval in ns. -/
structure GateEnt where
  gates : Nat
  ns : Nat
deriving DecidableEq, Repr

/-- A MAC. Times of gate lists are DTIME in ns. -/
structure EthMac where
  /-- Gates that are open. -/
  gates : Nat
  /-- The operational list, its cycle and its base. -/
  oper : List GateEnt
  cycle : Nat
  base : Nat
  /-- Time of a pending activation, and the list that it brings. -/
  adminAt : Option Nat
  admin : List GateEnt
  adminCycle : Nat
  adminBase : Nat
  /-- Root time at which the line is free, the interframe gap included. -/
  freeAt : Nat
  q : Tab (List EthOut)
  /-- Credit of each shaper in kbit/s times root cycles, the root time to which it is current, and the end of the frame that the queue sends. -/
  credit : Tab Int
  creditAt : Tab Nat
  sendEnd : Tab Nat
deriving DecidableEq, Repr

def EthMac.init : EthMac :=
  { gates := 255, oper := [], cycle := 1000000, base := 0, adminAt := none, admin := [], adminCycle := 0, adminBase := 0,
    freeAt := 0, q := [], credit := [], creditAt := [], sendEnd := [] }

/-- A VDP datagram that has been accepted: MAC, source, and the bytes. -/
structure VdpIn where
  mac : Nat
  src : Nat
  ip : Nat
  port : Nat
  data : List Byte
deriving DecidableEq, Repr

/-- A session (R357). `no` names it in requests; `push` is the root time of the last event push. -/
structure VdpSess where
  no : Nat
  mac : Nat
  src : Nat
  ip : Nat
  port : Nat
  id : Nat
  seq : Nat
  ans : List Byte
  lastAt : Nat
  push : Option Nat
deriving DecidableEq, Repr

/-- A channel (R359 to R361): session, direction (0 publishes, 1 consumes, 2 pushes events), M or the class mask, and the mapping
entries. `from_` is the first cycle of a publishing channel, or the next record of an event channel; `last` the number after
the last cycle published, or the root time of the last frame consumed; `told`: a timeout has been reported. -/
structure VdpChan where
  no : Nat
  dir : Nat
  m : Nat
  map : List Nat
  from_ : Nat
  last : Nat
  told : Bool
deriving DecidableEq, Repr

/-- The servo: I of R349, Syncs in a row below LOCK_NS, root time of the last Sync, and whether a deferral has been reported. -/
structure Servo where
  i : Rat
  run : Nat
  lastAt : Nat
  deferred : Bool
deriving DecidableEq, Repr

def Servo.init : Servo := ⟨0, 0, 0, false⟩

structure EthSt where
  mac : Tab EthMac
  vdpIn : List VdpIn
  sess : List VdpSess
  /-- Sessions made so far. -/
  made : Nat
  chan : Tab (Option VdpChan)
  servo : Servo
  /-- A bad VDP frame has been reported since the counter of the MAC was last read as 0. -/
  badTold : List Nat
deriving DecidableEq, Repr

def EthSt.init : EthSt := ⟨[], [], [], 0, [], .init, []⟩

end Sys2Proof.Machine
end

