-- ==== Sys2Proof/Machine/Parts/Dwl.lean ====
section
/-! DEFINITION. The state of the Dowel ports and of the Assembly that no register holds (chapter 19). -/

namespace Sys2Proof.Machine

/-- A flit without its link sequence: bytes 0, 1 and 4 to 59 as they will be sent (Table ASM-1). -/
structure Flit where
  typ : Nat
  cont : Bool
  rsp : Bool
  src : Nat
  dst : Nat
  tag : Nat
  tid : Nat
  data : List Byte
deriving DecidableEq, Repr

/-- A flit in the retry buffer. -/
structure FlitOut where
  seq : Nat
  flit : Flit
deriving DecidableEq, Repr

/-- A port. -/
structure DwlPort where
  txSeq : Nat
  rxSeq : Nat
  out : List FlitOut
  wait : List Flit
  credReq : Nat
  credRsp : Nat
  /-- Root time at which ACK last advanced. -/
  ackAt : Nat
  /-- Replays without progress. -/
  stuck : Nat
  /-- A NAK has been sent for the next expected flit. -/
  naked : Bool
  /-- Failed trainings in a row, and the root time of the start of training or of the last attempt. -/
  fails : Nat
  trainAt : Nat
  /-- The port has been UP since it was last DOWN. -/
  wasUp : Bool
  replayTold : Bool
  /-- Flits of a message whose end has not come. -/
  part : List Flit
deriving DecidableEq, Repr

def DwlPort.init : DwlPort :=
  { txSeq := 0, rxSeq := 0, out := [], wait := [], credReq := 96, credRsp := 32, ackAt := 0, stuck := 0, naked := false, fails := 0,
    trainAt := 0, wasUp := false, replayTold := false, part := [] }

/-- A complete message that waits for its meaning: port, head of the first flit, DTIME at ingress (ns), and payload. -/
structure DwlMsg where
  port : Nat
  typ : Nat
  rsp : Bool
  src : Nat
  tag : Nat
  tid : Nat
  at_ : Nat
  data : List Byte
deriving DecidableEq, Repr

/-- A request through the remote window that has no response yet. -/
structure RemReq where
  tag : Nat
  id : Nat
  node : Nat
  wr : Bool
deriving DecidableEq, Repr

/-- A worker as the manager keeps it (Table ASM-5): state, reason, last descriptor, REPORT, REPORTs in a row of at most 100 ns
and of at most 2 µs, whether it is quarantined for time, and the root time of its last flit. -/
structure Worker where
  state : Nat
  reason : Nat
  desc : List Byte
  report : Int
  timed : Bool
  run100 : Nat
  run2us : Nat
  quarTime : Bool
  flitAt : Nat
  port : Nat
  /-- Its links as it reports them: own port, and partner node. -/
  links : List (Nat × Nat)
  /-- A HELLO waits for the first TIME report (R407). -/
  asked : Bool
deriving DecidableEq, Repr

def Worker.init : Worker :=
  { state := 0, reason := 0, desc := [], report := 0, timed := false, run100 := 0, run2us := 0, quarTime := false, flitAt := 0,
    port := 0, links := [], asked := false }

/-- A forwarded dictionary request without an answer: tag, node, the write of 0x2830:01, and root time. -/
structure FwdRun where
  tag : Nat
  node : Nat
  req : OdReq
  at_ : Nat
deriving DecidableEq, Repr

structure DwlSt where
  port : Tab DwlPort
  msgs : List DwlMsg
  reqs : List RemReq
  nextTag : Nat
  /-- Routes that wait for outstanding requests (R415): port and validity of each node. -/
  want : Option (Nat × Nat)
  /-- The manager's workers. -/
  wk : Tab Worker
  /-- A worker: the state of its last verdict, root times of its last HELLO, TIME request, and flit from node 0, and the port of
  the device that sent the last verdict. -/
  verdict : Option Nat
  helloAt : Nat
  timeAt : Nat
  mgrAt : Nat
  sent : List Byte
  held : Bool
  /-- TIME: t1 of the exchange that runs, and the offset to report. -/
  t1 : Nat
  ofs : Int
  servo : Rat
  fwd : List FwdRun
deriving DecidableEq, Repr

def DwlSt.init : DwlSt :=
  { port := [], msgs := [], reqs := [], nextTag := 0, want := none, wk := [], verdict := none, helloAt := 0, timeAt := 0,
    mgrAt := 0, sent := [], held := false, t1 := 0, ofs := 0, servo := 0, fwd := [] }

/-- An axis of a mirror (Table PAIR-6). -/
structure MirAx where
  axis : Nat
  flags : Nat
  prof : Nat
  mode : Nat
  /-- INT_D, INT_Q, INT_S, ref_src, ref_eff, ffrac, dinc_prev, pos_prev_s, ENC_POS, rem, y. -/
  vals : List Nat
  idx : Nat
deriving DecidableEq, Repr

/-- A complete MIRROR message. -/
structure Mirror where
  idx : Nat
  en : Nat
  flags : Nat
  hoTick : Nat
  epoch : Nat
  guards : List Nat
  axes : List MirAx
deriving DecidableEq, Repr

/-- A takeover or a handover that enables axes: cause, cold, axes that still have a step to make, axes enabled, axes not
armed, and the axes whose pre-roll has started (with the state of Table PAIR-5 loaded or not). -/
structure Tko where
  cause : Nat
  cold : Bool
  todo : Nat
  done : Nat
  unarmed : Nat
  pre : Nat
  loaded : Nat
deriving DecidableEq, Repr

/-- A latch of an axis: period index and ENC_POS. -/
structure EncLatch where
  idx : Nat
  pos : Int
deriving DecidableEq, Repr

structure PairSt where
  /-- Pair mode in effect. -/
  on : Bool
  /-- PEER_FAIL_N has been recognised high since T0. -/
  failHigh : Bool
  /-- Root time of the end of the last ALIVE window, and empty windows in a row. -/
  winAt : Nat
  empty : Nat
  mir : Option Mirror
  lat : Tab (List EncLatch)
  tko : Option Tko
  /-- The pending handover: tick, and whether READY has been received (active) or sent (shadow). -/
  ho : Option Nat
  ready : Bool
  linkTold : Bool
  /-- The HELLO of the pair port disagrees (R432). -/
  mismatch : Bool
  /-- The pair port has gone DOWN, and that has not been reported. -/
  portLost : Bool
deriving DecidableEq, Repr

def PairSt.init : PairSt :=
  { on := false, failHigh := false, winAt := 0, empty := 0, mir := none, lat := [], tko := none, ho := none, ready := false,
    linkTold := false, mismatch := false, portLost := false }

end Sys2Proof.Machine
end

