-- ==== Sys2Proof/Machine/Parts/Pwr.lean ====
section
/-! DEFINITION. The state of power, thermal supervision, fans, start-up and the drive profile that no register holds (chapters
15, 21 and 22). -/

namespace Sys2Proof.Machine

/-- A fan channel: start of the running attempt, last rising tach edge, and the root time since
which its speed has been valid. -/
structure FanSt where
  startAt : Nat
  edgeAt : Option Nat
  okFrom : Option Nat
deriving DecidableEq, Repr

def FanSt.init : FanSt := ⟨0, none, none⟩

structure PwrSt where
  /-- Domains that are switching: the level they switch to, and the root time at which that began; when a domain came on. -/
  sw : Tab (Option (Bool × Nat))
  onAt : Tab Nat
  fan : Tab FanSt
  /-- Windows in a row below 0.9 × the cap, root time of the last fall, and the time before which no fall happens (R453). -/
  below : Nat
  fellAt : Option Nat
  holdTo : Nat
  /-- Windows in a row above the cap at level 4, and whether that has been reported (R455). -/
  above : Nat
  aboveTold : Bool
  /-- AVS: root time of the last change, since when every monitor is above its upper margin, since when one is below its lower
  margin at VID 20, whether the limit applies, and since when the margin holds. -/
  avsAt : Nat
  avsHigh : Option Nat
  avsLow : Option Nat
  avsLimit : Bool
  avsOk : Option Nat
  /-- Root time of the last measurement of the monitors, and of the last conversion of the sensors. -/
  avsSeen : Option Nat
  thmSeen : Option Nat
  /-- Readings in a row by which a sensor differs from the mean, and sensors marked invalid. -/
  thmOff : Tab Nat
  thmBad : List Nat
  /-- Readings in a row at or above T_CRIT, EVT_THM_WARN raised, and the root time since which THM_MAX has been low. -/
  crit : Nat
  warned : Bool
  coolAt : Option Nat
  /-- The rest state was entered under R451. -/
  critRest : Bool
  /-- The device returns from STANDBY. -/
  waking : Bool
  /-- The end of the last 1 ms window that the throttle has judged (R453), and the throttle level in that window. -/
  winAt : Nat
  lastL : Nat
  /-- By cluster (0 to 7) and by engine (32 up): a window of R454, by its start, and the time that ordinary tasks or jobs which have
  ended used in it. -/
  used : Tab (Nat × Nat)
deriving DecidableEq, Repr

def PwrSt.init : PwrSt :=
  { sw := [], onAt := [], fan := [], below := 0, fellAt := none, holdTo := 0, above := 0, aboveTold := false, avsAt := 0, avsHigh := none,
    avsLow := none, avsLimit := false, avsOk := none, avsSeen := none, thmSeen := none, thmOff := [], thmBad := [], crit := 0, warned := false, coolAt := none,
    critRest := false, waking := false, winAt := 0, lastL := 0, used := [] }

/-- A copy of the bank record (R468). -/
structure BankRec where
  seq : Nat
  valid : Bool
  bank : Nat
deriving DecidableEq, Repr

/-- Start-up. -/
structure BootSt where
  /-- VDD_AO is valid; PWR_OK and POR_N are both high. -/
  vdd : Bool
  run : Bool
  /-- The straps have been latched since power-on reset; BOOT_SRC in effect. -/
  strapped : Bool
  src : Nat
  /-- Root time that stands for T0 in the timeline (T_W − 13 ms after a warm reset). -/
  t0 : Nat
  /-- S and S_R in root cycles. -/
  s : Nat
  sr : Nat
  /-- Points passed: SIF verified, 40 ms, 60 ms, DRAM trained, runtime verified, 120 ms, 150 ms, 300 ms. -/
  sif : Bool
  p40 : Bool
  p60 : Bool
  dram : Bool
  rtOk : Bool
  p120 : Bool
  p150 : Bool
  p300 : Bool
  /-- The bundle that the boot uses, and failures of DRAM training. -/
  img : List Byte
  trainFails : Nat
  failed : Bool
  /-- The cause met in the active bank, when the other bank is tried. -/
  firstCause : Option Nat
  /-- External flash: banks, bank record, boot configuration record, and the bank written last since a reset. -/
  bank : Tab (List Byte)
  recs : List BankRec
  bcr : List Byte
  written : Option Nat
  /-- OTP: ROTPK hashes, revoked root keys, and the SECURE fuse. -/
  rotpk : Tab (List Byte)
  revoked : List Nat
  fuse : Bool
  /-- Mailbox: bytes copied, the chunk that is being copied, and a restart with offset 0 is due. -/
  mb : List Byte
  mbRun : Bool
  /-- Root times of the last Dowel boot attempt and of the last byte that it brought. -/
  dwlAt : Nat
  /-- A warm reset is asserted: its cause bit of VNR_RST_CAUSE. -/
  warm : Option Nat
  /-- The bank that has been active since the last reset. -/
  act : Nat
deriving DecidableEq, Repr

def BootSt.init : BootSt :=
  { vdd := false, run := false, strapped := false, src := 0, t0 := 0, s := 0, sr := 0, sif := false, p40 := false, p60 := false,
    dram := false, rtOk := false, p120 := false, p150 := false, p300 := false, img := [], trainFails := 0, failed := false,
    firstCause := none, bank := [], recs := [], bcr := [], written := none, rotpk := [], revoked := [], fuse := false, mb := [],
    mbRun := false, dwlAt := 0, warm := none, act := 0 }

/-- The profile of an axis (R312): state (0 Not ready, 1 Switch on disabled, 2 Ready, 3 Switched on, 4 Operation enabled, 5
Quick stop active, 7 Fault), an enable refused under R315, the MIO_TRIP bits that a fault reset writes, and whether the fault is
an over-current. -/
structure ProfSt where
  st : Nat
  refused : Bool
  clear : Nat
  oc : Bool
deriving DecidableEq, Repr

def ProfSt.init : ProfSt := ⟨0, false, 0, false⟩

/-- The drive profile of the eight axes, and the axes for which a CE miss waits. -/
structure DrvSt where
  ax : Tab ProfSt
  miss : List Nat
deriving DecidableEq, Repr

def DrvSt.init : DrvSt := ⟨[], []⟩

end Sys2Proof.Machine
end

