-- ==== Sys2Proof/Machine/State.lean ====
section
/-! DEFINITION. The state of the part, its reset, and the reasons for which a command can stop. -/

namespace Sys2Proof.Machine

/-- The state. Plain data throughout. -/
structure State where
  /-- The model's clock: cycles of the 8.4 GHz root since VDD_AO was first applied, counted whether or not the PLL runs. -/
  now : Nat
  /-- The register file: every field of every register table (`RegId`). -/
  regs : RegFile
  /-- DRAM and scratchpads, by fabric address; a byte that is not listed reads 0. -/
  mem : List Host.Cell
  /-- Commands that wait, first in, first out. -/
  pending : List Instr
  /-- Counter behind the free values; the model's own. -/
  freeCtr : Nat
  /-- What the last command sent on the links, in order. -/
  tx : List Tx
  clk : ClkSt
  loop : LoopSt
  log : LogSt
  saf : SafSt
  pin : PinSt
  fab : FabSt
  sch : SchSt
  str : StrSt
  ecc : EccSt
  spm : SpmSt
  bpu : BpuSt
  mmu : MmuSt
  memc : MemcSt
  host : HostSt
  comp : CompSt
  od : OdSt
  can : CanSt
  eth : EthSt
  dwl : DwlSt
  pair : PairSt
  pwr : PwrSt
  boot : BootSt
  drv : DrvSt
deriving DecidableEq, Repr

/-- The machine right after power-on reset, with nothing commanded. -/
def State.reset : State :=
  { now := 0, regs := [], mem := [], pending := [], freeCtr := 0, tx := [], clk := .init, loop := .init, log := .init, saf := .init,
    pin := .init, fab := .init, sch := .init, str := .init, ecc := .init,
    spm := .init, bpu := .init, mmu := .init, memc := .init, host := .init,
    comp := .init, od := .init, can := .init, eth := .init, dwl := .init, pair := .init, pwr := .init, boot := .init,
    drv := .init }

/-- Reasons for a fault. No command of the table ends in one. -/
inductive Fault where
  /-- Never raised: the part reports every condition through registers, responses, events and pins. Safe. -/
  | none_
deriving DecidableEq, Repr

/-- Reasons for a refusal. -/
inductive Refusal where
  /-- Raised by `exec` for a command that has no meaning yet. Safe. -/
  | notModelled (mnemonic : String)
deriving DecidableEq, Repr

end Sys2Proof.Machine
end

