-- ==== Sys2Proof/Machine/Ops.lean ====
section
/-! DEFINITION. The named operations over the register file, memory, time, events and the Safety Island that every meaning
uses. -/

namespace Sys2Proof.Machine

/-- The outcome of a command. -/
abbrev Out := Host.Outcome State Fault Refusal

/-! Registers. -/

/-- The rank that orders the register file. -/
def RegKey.rank (k : RegKey) : Nat := Nat.pair k.r.ctorIdx (Nat.pair k.i k.j)

/-- Reset value of a field instance (R9); Table SAF-3 gives SAF_REACT its defaults. -/
def RegId.resetAt (r : RegId) (i _j : Nat) : Nat :=
  match r with
  | .safReact => if i = 7 ∨ i = 8 ∨ i = 9 then 1 else 0
  | _ => r.info.reset

/-- Read a field from a register file. -/
def rdIn (f : RegFile) (r : RegId) (i : Nat := 0) (j : Nat := 0) : Nat := (kfind f ⟨r, i, j⟩).getD (r.resetAt i j)

/-- Read a field. -/
def State.rd (s : State) (r : RegId) (i : Nat := 0) (j : Nat := 0) : Nat := rdIn s.regs r i j

/-- Set a field: the value is cut to the field's width. -/
def State.wr (s : State) (r : RegId) (v : Nat) (i : Nat := 0) (j : Nat := 0) : State :=
  { s with regs := kput RegKey.rank s.regs ⟨r, i, j⟩ (v % 2 ^ r.info.width) (r.resetAt i j) }

/-- Read a field as an int32. -/
def State.rdS (s : State) (r : RegId) (i : Nat := 0) (j : Nat := 0) : Int := s32 (s.rd r i j)

/-- Set a field from an int32. -/
def State.wrS (s : State) (r : RegId) (v : Int) (i : Nat := 0) (j : Nat := 0) : State := s.wr r (u32 v) i j

/-- Add to a counter that saturates. -/
def State.bump (s : State) (r : RegId) (k : Nat) (i : Nat := 0) (j : Nat := 0) : State :=
  s.wr r (satAdd r.info.width (s.rd r i j) k) i j

/-- Add to a counter that wraps. -/
def State.bumpW (s : State) (r : RegId) (k : Nat) (i : Nat := 0) (j : Nat := 0) : State := s.wr r (s.rd r i j + k) i j

/-- Read a bit of a field. -/
def State.rdBit (s : State) (r : RegId) (k : Nat) (i : Nat := 0) (j : Nat := 0) : Bool := bitOf (s.rd r i j) k

/-- Set or clear a bit of a field. -/
def State.wrBit (s : State) (r : RegId) (k : Nat) (b : Bool) (i : Nat := 0) (j : Nat := 0) : State :=
  s.wr r (setBit (s.rd r i j) k b) i j

/-- Is a one-bit field 1? -/
def State.on (s : State) (r : RegId) (i : Nat := 0) (j : Nat := 0) : Bool := s.rd r i j == 1

/-! Memory: DRAM and the scratchpads, by fabric address. -/

/-- What an address that is not listed reads as. -/
def memDefault : Byte := 0

/-- Read one byte. -/
def State.rd8 (s : State) (a : Nat) : Byte := (kfind s.mem a).getD memDefault

/-- Write one byte. -/
def State.wr8 (s : State) (a : Nat) (v : Byte) : State := { s with mem := kput id s.mem a v memDefault }

/-- Read `n` bytes from `a` up. -/
def State.rdBytes (s : State) (a n : Nat) : List Byte := (List.range n).map fun k => s.rd8 (a + k)

/-- Write bytes from `a` up. -/
def State.wrBytes (s : State) (a : Nat) : List Byte → State
  | [] => s
  | b :: t => (s.wr8 a b).wrBytes (a + 1) t

/-- Read a little-endian number of `n` bytes. -/
def State.rdMem (s : State) (a n : Nat) : Nat := leNat (s.rdBytes a n)

/-- Write a little-endian number of `n` bytes. -/
def State.wrMem (s : State) (a n v : Nat) : State := s.wrBytes a (leBytes n v)

/-- The canonical form of the memory. -/
abbrev memWf (m : List Host.Cell) : Prop := kwf id m ∧ ∀ c ∈ m, c.2 ≠ memDefault

/-- The canonical form of the register file. -/
abbrev regsWf (f : RegFile) : Prop :=
  kwf RegKey.rank f ∧ ∀ c ∈ f, c.2 ≠ c.1.r.resetAt c.1.i c.1.j ∧ c.2 < 2 ^ c.1.r.info.width

/-! Objects that no register holds. -/

/-- Stored form of an object value of a type: its bits. -/
def objBits (o : ObjId) (x : Int) : Nat := (x % (2 ^ o.info.ty.bits : Int)).toNat

/-- Read an object value as its bits. -/
def State.ob (s : State) (o : ObjId) (i : Nat := 0) (j : Nat := 0) : Nat :=
  (kfind s.od.vals ⟨o, i, j⟩).getD (objBits o o.info.dflt)

/-- Set an object value. -/
def State.setOb (s : State) (o : ObjId) (v : Nat) (i : Nat := 0) (j : Nat := 0) : State :=
  { s with od := { s.od with
    vals := kput ObjKey.rank s.od.vals ⟨o, i, j⟩ (v % 2 ^ o.info.ty.bits) (objBits o o.info.dflt) } }

/-! Free values (DESIGN CHOICE, log entry 3). -/

/-- Take the next free value: its index, and the state that has used it. -/
def State.fresh (s : State) : Nat × State := (s.freeCtr, { s with freeCtr := s.freeCtr + 1 })

/-- Send on a link. -/
def State.send (s : State) (l : Link) (n addr : Nat) (data : List Byte) : State := { s with tx := s.tx ++ [⟨l, n, addr, data⟩] }

/-! Per-instance state. -/

def State.ax (s : State) (n : Nat) : CeAxis := s.loop.ax.get .init n
def State.setAx (s : State) (n : Nat) (a : CeAxis) : State := { s with loop := { s.loop with ax := s.loop.ax.set n a } }
def State.slot (s : State) (n : Nat) : MitSlot := s.loop.mit.get .init n
def State.setSlot (s : State) (n : Nat) (a : MitSlot) : State := { s with loop := { s.loop with mit := s.loop.mit.set n a } }
def State.core (s : State) (c : Nat) : CoreSt := s.comp.core.get .init c
def State.setCore (s : State) (c : Nat) (x : CoreSt) : State := { s with comp := { s.comp with core := s.comp.core.set c x } }

/-! Time. -/

/-- The root-derived clocks (Table CLK-1). -/
inductive RootClk where
  | wck | dck | tclk | aclk | nclk | ceclk | siclk | pclk | canclk | sdmclk
deriving DecidableEq, Repr

/-- The divider of a clock: root cycles in its period (Table CLK-1). -/
def RootClk.divider : RootClk → Nat
  | .wck => 2
  | .dck => 8
  | .tclk => 8
  | .aclk => 5
  | .nclk => 10
  | .ceclk => 20
  | .siclk => 40
  | .pclk => 40
  | .canclk => 105
  | .sdmclk => 420

/-- Every clock of Table CLK-1. -/
def rootClks : List RootClk := [.wck, .dck, .tclk, .aclk, .nclk, .ceclk, .siclk, .pclk, .canclk, .sdmclk]

/-- Root cycles per CECLK, TCLK, NCLK, PCLK and SICLK (Table CLK-1). -/
def rootPerCe : Nat := 20
def rootPerT : Nat := 8
def rootPerN : Nat := 10
def rootPerP : Nat := 40
/-- Root cycles between coincidence points (100 ns). -/
def rootPerCoin : Nat := 840
/-- Root cycles per microsecond and per millisecond. -/
def rootPerUs : Nat := 8400
def rootPerMs : Nat := 8400000
def rootPerS : Nat := 8400000000

/-- CECLK edges since the alignment epoch, at root time `t`. -/
def ceCount (c : ClkSt) (t : Nat) : Nat := (t - c.epoch) / rootPerCe

/-- Units of 2^-32 ns in one second, and the DTIME modulus (R50). -/
def dtUnit : Nat := 4294967296
def dtSecond : Nat := 1000000000 * dtUnit
def dtModulus : Nat := 2 ^ 48 * dtSecond

/-- DTIME in units of 2^-32 ns. -/
def ClkSt.total (c : ClkSt) : Nat := c.sec * dtSecond + c.ns * dtUnit + c.frac

/-- Set DTIME from units of 2^-32 ns, modulo 2^48 s. -/
def ClkSt.setTotal (c : ClkSt) (t : Int) : ClkSt :=
  let n := (t % (dtModulus : Int)).toNat
  { c with sec := n / dtSecond, ns := n % dtSecond / dtUnit, frac := n % dtUnit }

/-- `n` CECLK edges of DTIME: a written increment and a written step act at the first of them (R50 to R52). -/
def ClkSt.advance (c : ClkSt) (n : Nat) : ClkSt :=
  if n = 0 then c
  else
    let inc := c.incPend.getD c.inc
    { c with inc := inc, incPend := none, adj := 0 }.setTotal (c.total + c.adj * dtUnit + n * inc)

/-- 32.768 kHz periods up to root time `t`: 8.4 GHz / 32.768 kHz = 8,203,125 / 32. -/
def lsxTicks (t : Nat) : Nat := t * 32 / 8203125

/-- Pads of a disabled axis that are due for release go high-Z (R81). -/
def releaseDue (n : Nat) (s : State) : State :=
  match (s.ax n).relAt with
  | none => s
  | some t =>
    if t ≤ s.now then (s.wrBit .mioPadsOn n false).setAx n { s.ax n with relAt := none } else s

/-- Clear every PST miss counter (R34). -/
def clearPst (s : State) : State := foldN 8 (fun n s => (s.wr .pstMitMiss 0 n).wr .pstCeMiss 0 n) s

/-- Return the field instances that `p` picks to their reset values. -/
def State.clearRegs (s : State) (p : RegKey → Bool) : State := { s with regs := s.regs.filter fun e => !p e.1 }

/-- Take the bytes of a range back to what an unlisted address reads as, with good ECC. -/
def State.clearMem (s : State) (lo hi : Nat) : State :=
  let out (a : Nat) : Bool := a < lo || hi ≤ a
  { s with mem := s.mem.filter fun c => out c.1,
           ecc := { s.ecc with cor := s.ecc.cor.filter out, unc := s.ecc.unc.filter out, wb := s.ecc.wb.filter out } }

/-- The bytes from `lo` up to `hi` are lost: each holds a free value. -/
def State.loseMem (s : State) (lo hi : Nat) : State :=
  let (k, s) := s.fresh
  let new : List Host.Cell := ((List.range (hi - lo)).map fun j => (lo + j, (Config.freeAt k j).setWidth 8)).filter
    fun c => c.2 != memDefault
  { s with mem := (s.mem.filter fun c => decide (c.1 < lo)) ++ new ++ s.mem.filter fun c => decide (max lo hi ≤ c.1) }

/-- The scratchpad counters clear (R213). -/
def spmClear (s : State) : State :=
  let s := s.clearRegs fun k => k.r == .lsNstall || k.r == .lsWconf || k.r == .csNstall || k.r == .csWconf
  { ((s.wr .spmEccCorr 0).wr .spmEccUnc 0).wr .spmCntClr 0 with
    spm := { s.spm with clr := false }, ecc := { s.ecc with spmTold := false } }

/-- CECLK edges in the next `dt` root cycles. -/
def ceEdges (dt : Nat) (s : State) : Nat := if s.clk.up then ceCount s.clk (s.now + dt) - ceCount s.clk s.now else 0

/-- DTIME at the last point before `now + dt` of a grid of `per` root cycles from the epoch, when the clocks move from `c` to `c'`;
`old`: at the last such point before now. -/
def gridBefore (per old : Nat) (c c' : ClkSt) (now dt : Nat) : Nat :=
  if !c.up ∨ dt = 0 then old
  else
    let q := c.epoch + (now + dt - 1 - c.epoch) / per * per
    if q < now then old
    else if q = now then c.total
    else (c'.total + dtModulus - (ceCount c (now + dt) - ceCount c q) * c'.inc % dtModulus) % dtModulus

/-- DTIME at the last coincidence point before `now + dt` (R37). -/
def coinBefore (c c' : ClkSt) (now dt : Nat) : Nat := gridBefore rootPerCoin c.coinTot c c' now dt

/-- Root cycles of a TDM frame of port q: 64 BCLK of 210 MHz / BDIV (R136). -/
def tdmLen (s : State) (q : Nat) : Nat := 64 * s.rd .tdmBdiv q * rootPerP

/-- DTIME at the last FSYNC edge of every port that runs (R117): the frames of a port fill the PCLK grid from the alignment epoch. -/
def fsyncBefore (dt : Nat) (s : State) (c : ClkSt) : Tab Nat :=
  (List.range 4).foldl (fun l q =>
    if s.on .tdmEn q then l.set q (gridBefore (tdmLen s q) (l.get 0 q) s.clk c s.now dt) else l) s.str.fsync

/-- The Veneer count after `k` more 32.768 kHz edges: a count that waits is taken at the first (R54). -/
def ClkSt.vticksAfter (c : ClkSt) (k : Nat) : Nat :=
  match c.vset with
  | some v => if k = 0 then c.vticks else v + (k - 1)
  | none => c.vticks + k

/-- The clocks move on, and the links hold nothing of the last command any more. -/
def clocksMove (dt : Nat) (s : State) : State :=
  let c := s.clk.advance (ceEdges dt s)
  let k := lsxTicks (s.now + dt) - lsxTicks s.now
  { s with now := s.now + dt, tx := [],
           clk := { c with vticks := c.vticksAfter k, vset := if k = 0 then c.vset else none,
                           coinTot := coinBefore s.clk c s.now dt },
           str := { s.str with fsync := fsyncBefore dt s c } }

/-- A pending clear of the PST counters takes effect at the first CECLK edge (R34). -/
def pstDue (edges : Nat) (s : State) : State :=
  if s.clk.clrCnt ∧ 0 < edges then ({ clearPst s with clk := { s.clk with clrCnt := false } }).wr .pstClrCnt 0 else s

/-- TCLK edges since the alignment epoch, at root time `t` (R36). -/
def tclkCount (c : ClkSt) (t : Nat) : Nat := (t - c.epoch) / rootPerT

/-- A pending clear of the scratchpad counters takes effect at the first TCLK edge (R213). -/
def spmDue (dt : Nat) (s : State) : State :=
  if s.spm.clr ∧ s.clk.up ∧ tclkCount s.clk (s.now - dt) < tclkCount s.clk s.now then spmClear s else s

/-- The clocks move on by `dt` root cycles, and what waits for one of their edges takes effect. -/
def edgesPass (dt : Nat) (s : State) : State := foldN 8 releaseDue (spmDue dt (pstDue (ceEdges dt s) (clocksMove dt s)))

/-- CECLK from the tick of the open period of axis n to now, rounded down. -/
def State.ceT (s : State) (n : Nat) : Nat := (s.now - (s.ax n).tickAt) / rootPerCe

/-! Events. -/

/-- The record of an event detected now, with DTIME. -/
def State.record (s : State) (e : Ev) (tid arg : Nat) : EvRec := ⟨s.clk.sec, s.clk.ns, e.code, tid % 1024, arg % 65536⟩

/-- Veneer seconds and nanoseconds (R513). -/
def ClkSt.veneerSec (c : ClkSt) : Nat := c.vticks / 32768
def ClkSt.veneerNs (c : ClkSt) : Nat := c.vticks % 32768 * 1000000000 / 32768

/-- A record's place among records of one DTIME (R16): class, then code. -/
def EvRec.before (a b : EvRec) : Bool :=
  let ra := (evClass a.code).rank
  let rb := (evClass b.code).rank
  ra < rb || (ra == rb && a.code ≤ b.code)

/-- Put a record into a log kept newest first: records of the same DTIME are ordered by R16. -/
def logPut (l : List EvRec) (r : EvRec) : List EvRec :=
  match l with
  | [] => [r]
  | h :: t => if h.sec = r.sec ∧ h.nsec = r.nsec ∧ !(h.before r) then h :: logPut t r else r :: h :: t

/-- Records that the log holds at most (R308). -/
def logCap : Nat := 4096

/-- Enter one record, overwriting the oldest when the log is full. -/
def LogSt.enter (l : LogSt) (r : EvRec) : LogSt :=
  if l.recs.length < logCap then { l with recs := logPut l.recs r, next := (l.next + 1) % 4294967296 }
  else { l with recs := (logPut l.recs r).dropLast, next := (l.next + 1) % 4294967296, overw := satAdd 32 l.overw 1 }

/-- Enter a record; the first overwrite since the log was cleared adds EVT_OD_LOG_OVF (R308). -/
def LogSt.enterAll (l : LogSt) (r : EvRec) : LogSt :=
  let l' := l.enter r
  if l'.overw ≠ l.overw ∧ !l.ovfTold then
    { l' with ovfTold := true }.enter { r with code := Ev.odLogOvf.code, tid := 1, arg := 0 }
  else l'

/-- The Veneer keeps a record while the log does not run (R513). -/
def LogSt.hold (l : LogSt) (r : EvRec) : LogSt :=
  if l.held.length < 32 then { l with held := l.held ++ [r] } else { l with lost := l.lost + 1 }

/-- Bytes of a record (Table SC-6). -/
def EvRec.bytes (r : EvRec) : List Byte :=
  leBytes 6 r.sec ++ leBytes 4 r.nsec ++ leBytes 2 r.code ++ leBytes 2 r.tid ++ leBytes 2 r.arg

/-- Enter a record into the log, or hold it, without delivery. HOST_EVSEQ follows the next sequence number. -/
def logRec (r : EvRec) (s : State) : State :=
  if s.log.run then
    let l := s.log.enterAll r
    ({ s with log := l }).wr .hostEvseq l.next
  else { s with log := s.log.hold { r with sec := s.clk.veneerSec, nsec := s.clk.veneerNs } }

/-- Ring address of the event queue of context slot k. -/
def State.evqBase (s : State) (k : Nat) : Nat := s.rd .ctxEvqHi k * 2 ^ 32 + s.rd .ctxEvqLo k * 16

/-- Write a record to the event queue of slot k if the slot is resident and its TID is one of `ts` (R290). -/
def evqPut (r : EvRec) (ts : List Nat) (k : Nat) (s : State) : State :=
  if s.rd .ctxState k = 2 ∧ s.rd .ctxTid k ∈ ts ∧ r.code ≠ Ev.schEvqOvf.code then
    let p := s.rd .ctxEvqProd k
    let n := 2 ^ s.rd .ctxEvqLenLog2 k
    if (p + 8192 - s.rd .ctxEvqCons k) % 8192 = n then
      let s := s.bump .ctxEvqOvf 1 k
      if k ∈ s.log.evqTold then s
      else logRec (s.record .schEvqOvf 1 k) { s with log := { s.log with evqTold := k :: s.log.evqTold } }
    else (s.wrBytes (s.evqBase k + p % n * 16) r.bytes).wr .ctxEvqProd (p + 1) k
  else s

/-- Log an event and write it to the queues of the contexts `ts`. -/
def logEvTo (e : Ev) (tid arg : Nat) (ts : List Nat) (s : State) : State :=
  let r := s.record e tid arg
  let s := if evClass e.code = .safety then { s with log := { s.log with island := some r } } else s
  foldN 64 (evqPut r ts) (logRec r s)

/-- Log an event and write it to its context's queue. -/
def logEv (e : Ev) (tid arg : Nat) (s : State) : State := logEvTo e tid arg [tid % 1024] s

/-! The Safety Island. -/

/-- Hardware stops axis n at once (R60): EN reads 0, no more CE work in the period, no check of it, pads high-Z. -/
def stopAxis (n : Nat) (s : State) : State :=
  let a := s.ax n
  let s := ((s.wr .axEn 0 n).wrBit .ceAxRun n false).wrBit .mioPadsOn n false
  (s.wr .axAnaEn 0 n).setAx n
    { a with run := false, stopped := true, stopAt := s.now, enPend := none, lat := none, issuedAt := none, guards := [], relAt := none }

/-- Every pad of the PWM goes high-Z and every axis stops. -/
def stopAll (s : State) : State := foldN 8 stopAxis s

/-- SAF_STAT.STATE: the most severe condition that holds. -/
def safStateOf (s : State) (sto : Bool) : Nat :=
  if s.saf.escalated then 4 else if sto then 3 else if s.saf.restart.isSome then 2 else if s.saf.ss1End.isSome then 1 else 0

/-- Rewrite SAF_STAT.STATE; an STO holds while a cause bit is set. -/
def updSafState (s : State) : State := s.wr .safState (safStateOf s (s.rd .safStoCause ≠ 0))

/-- STO with a cause bit of Table SAF-1 (R480). -/
def applySto (bit : Nat) (s : State) : State :=
  let s := stopAll (s.wr .safArmed 0)
  let s := ((s.wrBit .safStoCause bit true).wr .safStoDrv 0).wr .safStoPad 0
  let s := { s with pin := { s.pin with stoN := some false } }
  logEv .safSto 0 bit (updSafState s)

/-- A write of EN = 0 that waits for the next tick (R60). -/
def requestDisable (n : Nat) (s : State) : State :=
  let a := s.ax n
  let s := s.wr .axEn 0 n
  if a.run then s.setAx n { a with enPend := some false } else s.setAx n { a with enPend := none }

/-- SS1-t begins (R484): feed 0 from the next latch, torque-mode axes are disabled, the timer starts. -/
def startSs1 (s : State) : State :=
  if s.saf.ss1End.isSome then s
  else if s.rd .safArmed = 0 then logEv .safSs1 0 0 s
  else
    let s := { s with saf := { s.saf with ss1End := some (s.now + s.rd .safSs1T * rootPerMs) } }
    let s := foldN 8 (fun n s => if s.rd .axMode n = 2 ∧ s.on .axEn n then requestDisable n s else s) s
    logEv .safSs1 0 0 (updSafState (s.wr .safSs1Rem (s.rd .safSs1T)))

/-- The sub-index of Table SAF-3 for an event, if its reaction is configurable. -/
def Ev.reactIdx : Ev → Option Nat
  | .pstMitreMiss => some 0
  | .ceIntegNearWrap => some 1
  | .mioTrip => some 2
  | .mioOvercurrent => some 3
  | .mitFault => some 4
  | .bpuForeignFree => some 5
  | .fabClampBlock => some 6
  | .fabClampParity => some 7
  | .safClampCrc => some 8
  | .safWdgExpired => some 9
  | .pairTakeover => some 10
  | .pairYield => some 11
  | .pairPeerFail => some 12
  | _ => none

/-- The fixed STO cause bit of an event (R490, Table SAF-1). -/
def Ev.stoBit : Ev → Option Nat
  | .mioEstop => some 0
  | .pstCeMiss => some 1
  | .safCeFault => some 2
  | .clkMonFault => some 3
  | .thmCrit => some 4
  | .safStoReadback => some 7
  | .safEscalated => some 6
  | _ => none

/-- Do two root times fall in one SICLK? Its edges are counted from the alignment epoch. -/
def sameSi (s : State) (t u : Nat) : Bool := (t + 40 - s.clk.epoch % 40) / 40 == (u + 40 - s.clk.epoch % 40) / 40

/-- The reaction STO drops the triggers of the SICLK in which it falls (R490). -/
def stoReaction (bit : Nat) (s : State) : State :=
  applySto bit { s with saf := { s.saf with trig := s.saf.trig.filter fun x => !(sameSi s x.2 s.now), stoAt := some s.now } }

/-- The reaction RESTART, which does nothing under an STO of the same SICLK (R490). -/
def restartReaction (sub : Nat) (s : State) : State :=
  if s.saf.stoAt.any (sameSi s s.now) then s else { s with saf := { s.saf with trig := s.saf.trig ++ [(sub, s.now)] } }

/-- The reaction of the Safety Island to an event it receives (R490). -/
def react (e : Ev) (s : State) : State :=
  match e.stoBit with
  | some b => stoReaction b s
  | none =>
    match e.reactIdx with
    | none => s
    | some k =>
      match s.rd .safReact k with
      | 0 => s
      | 1 => restartReaction (k + 1) s
      | 2 => startSs1 s
      | _ => stoReaction 6 s

/-- Raise an event: a Safety event reaches the Safety Island first (R15), then the record enters the log (R14, R16), and the
reaction follows. -/
def raise (e : Ev) (tid arg : Nat) (s : State) : State := react e (logEv e tid arg s)

/-- Raise an event that is also delivered to the event queue of the contexts of TID `owner`. -/
def raiseTo (e : Ev) (tid arg owner : Nat) (s : State) : State := react e (logEvTo e tid arg [tid % 1024, owner] s)

/-- A fatal fault of a pair (R425): FAIL_N low, ACTIVE_N high, ALIVE stopped, pads high-Z. -/
def fatalFault (s : State) : State :=
  let s := if s.pair.on then s.wr .pairRole 4 else s
  stopAll { s with pin := { s.pin with failN := some false, activeN := some true, aliveOn := false } }

/-! Commands. -/

/-- READY, MOTION or FULL, by what is enabled and resident (R440). -/
def reportedState (s : State) : Nat :=
  if (List.range 64).any fun k => s.rd .ctxState k != 0 then 5
  else if (List.range 8).any fun n => (s.ax n).run || s.rd .mitState n == 2 then 4 else 3

/-- PWR_STAT.STATE and HOST_STAT.STATE take a new state. -/
def showPwrState (new : Nat) (s : State) : State :=
  raise .pwrState 0 (new + 16 * s.rd .pwrState) ((s.wr .pwrState new).wr .hostState new)

/-- Spin-up of fan f starts (R457); a channel that is stalled, or has lost its tach, goes on as it is (R459; DEDUCED, log entry 44). -/
def spinUp (f : Nat) (s : State) : State :=
  if s.on .fanEn f ∧ s.rd .fanState f < 3 then
    ((({ s with pwr := { s.pwr with fan := s.pwr.fan.set f ⟨s.now, none, none⟩ } }.wr .fanState 1 f).wr .fanRetry 0 f).wr .fanD 255 f)
  else s

/-- The reported state changes; the fans spin up on an entry into READY. -/
def enterReported (new : Nat) (s : State) : State :=
  let s := showPwrState new s
  if new = 3 then spinUp 1 (spinUp 0 s) else s

/-- The reported state follows its conditions at every change of them (R440). -/
def settle (s : State) : State :=
  if 3 ≤ s.rd .pwrState ∧ s.boot.p120 ∧ s.rd .pwrState ≠ reportedState s then enterReported (reportedState s) s else s

/-- Does a measurement that comes each period fall now? The first sets the phase. -/
def onPeriod (s : State) (last : Option Nat) (period : Nat) : Bool :=
  match last with
  | none => true
  | some t => decide (t < s.now) && (s.now - t) % period == 0

/-- The observation words after the period: those of an accepted commit, else the last ones (Table MIT-3). -/
def MitSlot.obsNow (m : MitSlot) : List Nat :=
  match m.commit with
  | some w => (w.drop 4).take 12
  | none => m.obs

/-- A Mitre slot goes from ARMED to FAULT (R114). A commit that it has accepted stays the last accepted one (R112). -/
def mitreFault (n cause : Nat) (s : State) : State :=
  if s.rd .mitState n = 2 then
    let s := (s.wr .mitState 3 n).wr .mitCause cause n
    let s := if cause = 6 then s.wr .mitImg 0 n else s
    let m := s.slot n
    let s := if m.running then s.wr .mitLastT 0xFFFFF n else s
    raise .mitFault (16 + n) (n + cause * 16) (s.setSlot n { m with running := false, obs := m.obsNow })
  else s

end Sys2Proof.Machine
end

