-- ==== Sys2Proof/Machine/Clock.lean ====
section
/-! DEFINITION. Clocks and the timebase (chapter 02): reference qualification, gating, the frequency meter, DTIME, the tick
grid. -/

namespace Sys2Proof.Machine

/-! The grid (R28, R55). -/

/-- Twice the base-tick interval in CECLK, by TB_CFG.BASE: 13,125 at 64 kHz, doubled at each lower rate. -/
def grid2 (base : Nat) : Nat := 13125 * 2 ^ base

/-- CECLK from the epoch to base tick j: floor(j × 420,000,000 / f_base). -/
def baseTime (base j : Nat) : Nat := j * grid2 base / 2

/-- The newest base tick at or before CECLK k. -/
def baseIdx (base k : Nat) : Nat := (2 * k + 1) / grid2 base

/-- Base ticks in the axis period (AXn_TB.PER). -/
def perTicks (per : Nat) : Nat := 2 ^ per

/-- CECLK from the epoch to tick i of an axis. -/
def tickTime (base per phase i : Nat) : Nat := baseTime base (i * perTicks per) + phase

/-- The shortest period of an axis in CECLK (R56). -/
def shortestPer (base per : Nat) : Nat := grid2 base * perTicks per / 2

/-- The base tick that falls at CECLK k, if one does. -/
def baseTickAt (base k : Nat) : Option Nat :=
  let j := baseIdx base k
  if baseTime base j = k then some j else none

/-- The tick of an axis that falls at CECLK k, if one does. -/
def axisTickAt (base per phase k : Nat) : Option Nat :=
  if k < phase then none
  else
    match baseTickAt base (k - phase) with
    | some j => if j % perTicks per = 0 then some (j / perTicks per) else none
    | none => none

/-- The clocks run and now is a CECLK edge. -/
def State.onCeEdge (s : State) : Bool := s.clk.up && (s.now - s.clk.epoch) % rootPerCe == 0

/-- Now is a coincidence point. -/
def State.onCoin (s : State) : Bool := s.clk.up && (s.now - s.clk.epoch) % rootPerCoin == 0

/-- Is power domain d on? -/
def State.domOn (s : State) (d : Nat) : Bool := s.rdBit .pwrDomStat d

/-- Is a block's clock running? -/
def State.clockOn (s : State) (bit : Nat) : Bool := s.rdBit .ckgEnStat bit

/-- Does the clock of the CE and of Mitre run, and does the clock of the motor I/O (Table CLK-8)? -/
def State.ceOn (s : State) : Bool := s.clockOn 0
def State.mioOn (s : State) : Bool := s.clockOn 1

/-- The tick of axis n that falls now; the CE counts the periods, and only while its clock runs (R46). -/
def State.tickNow (s : State) (n : Nat) : Option Nat :=
  if s.onCeEdge ∧ s.ceOn then axisTickAt s.clk.base (s.rd .axTbPer n) (s.rd .axTbPhase n) (ceCount s.clk s.now) else none

/-- Root time of the first tick of axis n after now, on the grid as it stands. -/
def gridNext (s : State) (n : Nat) : Nat :=
  let k := ceCount s.clk s.now
  let per := s.rd .axTbPer n
  let ph := s.rd .axTbPhase n
  let i := if k < ph then 0 else baseIdx s.clk.base (k - ph) / perTicks per + 1
  s.clk.epoch + tickTime s.clk.base per ph i * rootPerCe

/-- Is axis n enabled: an enable has taken effect and no disable since (R60)? -/
def State.enabled (s : State) (n : Nat) : Bool := (s.ax n).run

/-- Is any axis enabled? -/
def State.anyEnabled (s : State) : Bool := (List.range 8).any s.enabled

/-- Is Mitre slot n ARMED? -/
def State.armed (s : State) (n : Nat) : Bool := s.rd .mitState n == 2

/-- EVT_CLK_CFG_REJECT for an offset. -/
def clkReject (tid off : Nat) (s : State) : State := raise .clkCfgReject tid off s

/-- The grid restarts at now: base-tick and period counts begin at 0 (R37, R57). The ADC slots count from here with channel 7 as the
last; a conversion that runs goes on (R99). -/
def restartGrid (s : State) : State :=
  let s := { s with clk := { s.clk with epoch := s.now }, loop := { s.loop with baseTick := 0, adc := { AdcSt.init with busy := s.loop.adc.busy } } }
  let s := foldN 8 (fun n s => s.setAx n { s.ax n with open_ := false }) s
  raise .clkEpoch 1 0 s

/-! Reference qualification (R39 to R41). -/

/-- The good counts of Table CLK-2. -/
def qualOk (a : QualAttempt) (n : Nat) : Bool :=
  match a with
  | .primary => 48731 ≤ n && n ≤ 48925
  | .fallback => 46387 ≤ n && n ≤ 51269
  | _ => false

/-- An attempt begins now and may run for 10 ms. -/
def startAttempt (a : QualAttempt) (s : State) : State :=
  { s with clk := { s.clk with qual := a, qualGood := 0, winFrom := s.now, qualEnd := s.now + 10 * rootPerMs } }

/-- The first attempt of a round: primary with the crystal, else the fall-back in its place. -/
def startRound (s : State) : State :=
  if s.on .ckgLsxPresent then startAttempt .primary s
  else startAttempt .fallback { s with clk := { s.clk with onRc := true } }

/-- An attempt has failed (Table CLK-2). -/
def failAttempt (s : State) : State :=
  let c := { s.clk with qualFails := s.clk.qualFails + 1 }
  match c.qual with
  | .primary => startAttempt .fallback { s with clk := c }
  | _ => { s with clk := { c with qual := .waiting, qualRetried := true, qualEnd := s.now + 100 * rootPerMs } }

/-- The reference passes (R40, R41). A pass against the crystal takes the Veneer off no RC (DESIGN CHOICE, log entry 46). -/
def passQual (s : State) : State :=
  let c := s.clk
  let rc := c.qual == .fallback
  let s := { s with clk := { c with qual := .passed, onRc := c.onRc || rc } }
  let s := ((s.wr .ckgQualGood 4).wr .ckgQualRef (b2n rc)).wr .ckgQualFails (min c.qualFails 255)
  let s := if rc then raise .clkLsxAbsent 0 0 s else s
  if c.qualRetried then raise .clkXoQualFail 0 (min c.qualFails 65535) s else s

/-- T0 has been, and the PLL has not locked since: at start-up, after a clock fault, or in a wake from STANDBY. -/
def startingUp (s : State) : Bool := s.boot.run && !s.clk.up && (s.rd .pwrState != 2 || s.pwr.waking)

def lsxPresenceJudge (regulated : Bool) (s : State) : State :=
  if startingUp s ∧ s.clk.qual = .idle ∧ s.now = s.clk.t0 + 2 * rootPerMs then
    startRound { s.wr .ckgLsxPresent (b2n regulated) with clk := { s.clk with lsxOk := regulated } }
  else s

def qualWindowEnd (count : Nat) (s : State) : State :=
  if s.clk.qual = .primary ∨ s.clk.qual = .fallback then
    let s := s.wr .ckgQualLastCnt (min count 65535)
    let good := if qualOk s.clk.qual count then s.clk.qualGood + 1 else 0
    let len := s.now - s.clk.winFrom
    let s := { s with clk := { s.clk with qualGood := good, winFrom := s.now } }
    if s.clk.qualEnd < s.now + (4 - good) * len then failAttempt s
    else if good = 4 then passQual s
    else s
  else s

def qualRetry (s : State) : State :=
  if s.clk.qual = .waiting ∧ s.now = s.clk.qualEnd then startRound s else s

def lsxLost (s : State) : State :=
  if s.clk.lsxOk then
    raise .clkLsxAbsent 0 1 ({ s with clk := { s.clk with lsxOk := false, onRc := true } }.wr .ckgLsxLost 1)
  else s

/-! Clock gating (R46 to R48). -/

/-- The power domain of a CKG_EN bit (Tables CLK-8 and ARC-1). -/
def gateDomain (bit : Nat) : Nat := if bit ≤ 18 then bit + 2 else bit + 3

/-- Does cluster c hold an enabled Mitre group: a slot ARMED, or with its arming accepted (R48)? -/
def State.mitreIn (s : State) (c : Nat) : Bool :=
  (List.range 8).any fun n => s.rd .mitCluster n == c && (s.armed n || (s.slot n).armPend == some true)

/-- Bits of CKG_EN whose write of 0 is discarded (R48). -/
def gateHeld (s : State) (bit : Nat) : Bool :=
  if bit ≤ 1 then s.anyEnabled else if 3 ≤ bit ∧ bit ≤ 10 then s.anyEnabled && s.mitreIn (bit - 3) else false

/-- Is bit the bit of a cluster whose zero-fill has not ended (R212)? -/
def filling (s : State) (bit : Nat) : Bool := decide (3 ≤ bit) && decide (bit ≤ 10) && (s.spm.initEnd.get none (bit - 3)).isSome

/-- Turn a block's clock on where its domain is on; that of a cluster waits for its zero-fill. -/
def gateOn (bit : Nat) (s : State) : State :=
  if s.rdBit .ckgEn bit ∧ s.domOn (gateDomain bit) ∧ !filling s bit then s.wrBit .ckgEnStat bit true else s

def ckgEnWrite (tid : Nat) (v : Word) (s : State) : State :=
  let held := whichOf 21 fun b => !(bitOf v.toNat b) && gateHeld s b
  let w := held.foldl (fun w b => setBit w b (s.rdBit .ckgEn b)) (v.toNat % 2 ^ 21)
  let s' := foldN 21 gateOn (s.wr .ckgEn w)
  if held.isEmpty then s' else clkReject tid 0x008 s'

/-- Mitre slots of cluster c that are ARMED lose their clock or power (R114). -/
def clusterLost (c : Nat) (s : State) : State :=
  foldN 8 (fun n s => if s.rd .mitCluster n = c then mitreFault n 5 s else s) s

/-! Frequency meter (R49). -/

/-- A write of FMTR_CTRL. One with START while a measurement is pending is ignored (Table CLK-13). An NREF of 0 lies outside its
range and is discarded; the other fields of the write take effect. -/
def fmtrStart (tid : Nat) (v : Word) (s : State) : State :=
  let n := v.toNat
  if bitOf n 8 ∧ s.clk.fmtr.isSome then s
  else
    let nref := bitsOf n 12 20
    let s := (((s.wr .fmtrSrc n).wr .fmtrRef (bitsOf n 4 1)).wr .fmtrPre (bitsOf n 5 3)).wr .fmtrPort (bitsOf n 10 2)
    let s := if nref = 0 then clkReject tid 0x020 s else s.wr .fmtrNref nref
    if bitOf n 8 then
      { s with clk := { s.clk with fmtr := some ⟨s.now, s.rd .fmtrSrc, s.rd .fmtrRef, s.rd .fmtrPre, s.rd .fmtrNref⟩ } }.wr .fmtrStart 1
    else s

/-- Root cycles in a cycle of the meter's reference: 25 MHz, or nominally 20 MHz. -/
def fmtrRefPer (ref : Nat) : Nat := if ref = 0 then 336 else 420

/-- Root time at which the gate of a measurement closes: NREF cycles of its reference after the start. -/
def FmtrRun.gateEnd (r : FmtrRun) : Nat := r.start + r.nref * fmtrRefPer r.ref

/-- The gate of a measurement closes with `edges` source edges. -/
def fmtrClose (r : FmtrRun) (edges : Nat) (s : State) : State :=
  let cnt := edges / 2 ^ r.pre
  let fref := if r.ref = 0 then 25000000 else 20000000
  let ovr := 525000000 * r.nref < cnt * fref
  let s := (({ s with clk := { s.clk with fmtr := none } }).wr .fmtrStart 0).wr .fmtrOvr (b2n ovr)
  if ovr then
    let (k, s) := s.fresh
    s.wr .fmtrCnt (Config.free k).toNat
  else s.wr .fmtrCnt cnt

def fmtrDone (edges : Nat) (s : State) : State :=
  match s.clk.fmtr with
  | none => s
  | some r => if r.gateEnd ≤ s.now then fmtrClose r edges s else s

/-! Device time (R50 to R53). -/

def dtimeIncWrite (v : Word) (s : State) : State :=
  let s := s.wr .dtimeIncInt v.toNat
  { s with clk := { s.clk with incPend := some (s.rd .dtimeIncInt * dtUnit + s.rd .dtimeIncFrac) } }

def dtimeAdj (tid : Nat) (v : Word) (s : State) : State :=
  let a := s32 v.toNat
  if a ≤ -1000000000 ∨ 1000000000 ≤ a then clkReject tid 0x074 s else { s with clk := { s.clk with adj := a } }

def dtimeNsecRead (s : State) : State :=
  ((s.wr .dtimeNsec s.clk.ns).wr .dtimeSecLo s.clk.sec).wr .dtimeSecHi (s.clk.sec / 2 ^ 32)

/-! Epoch moves and the grid (R37, R56, R57). -/

/-- A write of EPOCH_SEC_HI. Arming while a move is pending replaces its target (DESIGN CHOICE, log entry 46). -/
def epochArm (tid : Nat) (v : Word) (s : State) : State :=
  let n := v.toNat
  if bitOf n 31 then
    if s.anyEnabled then clkReject tid 0x080 s
    else
      let s := (s.wr .epochSecHi n).wr .epochArm 1
      let sec := s.rd .epochSecHi * 2 ^ 32 + s.rd .epochSecLo
      { s with clk := { s.clk with epochTgt := some (sec * 1000000000 + s.rd .epochNsec), armedAt := s.now } }
  else s.wr .epochSecHi n

/-- Now is the first coincidence point after the arming at which DTIME has reached the target t (R37). -/
def epochDue (s : State) (t : Nat) : Bool :=
  s.onCoin && decide (s.clk.armedAt < s.now) && decide (t ≤ s.clk.sec * 1000000000 + s.clk.ns) &&
    (decide (s.now ≤ s.clk.armedAt + rootPerCoin) || decide (s.clk.coinTot / dtUnit < t))

/-- A pending move takes effect, also where an axis was enabled after the arming (DESIGN CHOICE, log entry 46). -/
def epochMove (s : State) : State :=
  match s.clk.epochTgt with
  | none => s
  | some t =>
    if epochDue s t then
      restartGrid ({ s with clk := { s.clk with epochTgt := none } }.wr .epochArm 0)
    else s

/-- Does every axis phase stay below its shortest period at a base tick (R56)? -/
def phasesFit (s : State) (base : Nat) : Bool :=
  (List.range 8).all fun n => s.rd .axTbPhase n < shortestPer base (s.rd .axTbPer n)

def tbCfgWrite (tid : Nat) (v : Word) (s : State) : State :=
  let b := bitsOf v.toNat 0 2
  if s.anyEnabled ∨ (List.range 8).any s.armed ∨ !phasesFit s b then clkReject tid 0x030 s
  else { s with clk := { s.clk with basePend := some s.now } }.wr .tbBase b

def tbCfgApply (s : State) : State :=
  match s.clk.basePend with
  | none => s
  | some t =>
    if s.onCoin ∧ t < s.now ∧ s.now ≤ t + rootPerCoin then restartGrid { s with clk := { s.clk with basePend := none, base := s.rd .tbBase } } else s

def axnTbWrite (tid n : Nat) (v : Word) (s : State) : State :=
  let off := 0x040 + 4 * n
  if s.enabled n ∨ s.armed n then clkReject tid off s
  else
    let per := bitsOf v.toNat 0 2
    let ph := bitsOf v.toNat 8 18
    let s' := if per = 3 then s else s.wr .axTbPer per n
    let phOk := ph < shortestPer (s'.rd .tbBase) (s'.rd .axTbPer n)
    let s' := if phOk then s'.wr .axTbPhase ph n else s'
    let s' := s'.setAx n { s'.ax n with open_ := false }
    if per = 3 ∨ !phOk then clkReject tid off s' else s'

end Sys2Proof.Machine
end

