-- ==== Sys2Proof/Machine/CeLaws.lean ====
section
/-! DEFINITION. The laws of the control engine, in the order of R64, over what the CE latched (R59). -/

namespace Sys2Proof.Machine

/-- The axis parameter registers that the CE latches (Table CE-6). -/
def isAxisParam (n : Nat) (k : RegKey) : Bool := k.r.info.slot == 3 && 0x400 ≤ k.r.info.off && k.i == n

/-- A signed parameter of the latched set. -/
def CeLat.p (l : CeLat) (n : Nat) (r : RegId) : Int := s32 (rdIn l.regs r n)

/-- An unsigned parameter of the latched set. -/
def CeLat.u (l : CeLat) (n : Nat) (r : RegId) : Nat := rdIn l.regs r n

/-- A 4-bit shift of AX_GAIN_SH, counted from [3:0] up. -/
def CeLat.sh (l : CeLat) (n k : Nat) : Nat := bitsOf (l.u n .axGainSh) (4 * k) 4

/-- Does the speed law run in this period (R25)? -/
def CeLat.spdRun (l : CeLat) (n : Nat) : Bool := l.idx % (l.u n .axNs + 1) == 0

/-- Does the position law run in this period (R25)? -/
def CeLat.posRun (l : CeLat) (n : Nat) : Bool := l.idx % ((l.u n .axNs + 1) * (l.u n .axNp + 1)) == 0

/-- Does the outermost law of the mode run? -/
def CeLat.outerRun (l : CeLat) (n : Nat) : Bool :=
  match l.u n .axMode with
  | 0 => l.posRun n
  | 1 => l.spdRun n
  | _ => true

/-- The dictionary target of the mode (Table CE-2). -/
def CeLat.target (l : CeLat) (n : Nat) : Int :=
  match l.u n .axMode with
  | 0 => l.tgtPos
  | 1 => l.tgtSpd
  | _ => l.tgtTrq

/-- The state that a first run sets before the set-point stage (R61). -/
def firstRun (l : CeLat) (a : CeAxis) : CeAxis :=
  { a with refPrev := l.smp.pos, posPrevS := l.smp.pos, ffrac := 0, dincPrev := 0, rem := 0, y := 0, plsRef := l.smp.pls }

/-- The analog chain of Table CE-2 up to y3; sign(0) counts as +1 (DESIGN CHOICE, log entry 16: only a negative ANA_DB meets it). -/
def analogIn (l : CeLat) (n : Nat) : Int :=
  let x := ((l.smp.adc : Int) - 2048) * 2 ^ 20
  let y1 := subS x (l.p n .axAnaOfs)
  let y2 := mulQ (l.p n .axAnaGain) y1 (l.u n .axAnaSh)
  let db := l.p n .axAnaDb
  if (y2.natAbs : Int) ≤ db then 0 else if 0 ≤ y2 then subS y2 db else subS y2 (-db)

/-- The result of the set-point source: the axis state, ref_src, and whether a switch took effect. -/
structure SrcOut where
  a : CeAxis
  ref : Int
  switched : Bool
deriving DecidableEq, Repr

/-- The set-point source in a run of the outermost law (R67, R69). `ref0` is ref_src before the run; `a.src` is the source that stood
at the enable or in the last such run, so a source that differs was written while the axis ran. -/
def sourceStage (l : CeLat) (n : Nat) (first : Bool) (ref0 : Int) (a : CeAxis) : SrcOut :=
  let src := l.u n .axSpsrc
  let sw := src != a.src
  let a := { a with src := src }
  if sw then
    match src with
    | 0 => if l.u n .axMode = 0 then ⟨{ a with tgtPos := a.refPrev }, a.refPrev, true⟩ else ⟨a, l.target n, true⟩
    | 1 => ⟨{ a with rem := 0, plsRef := l.smp.pls }, a.refPrev, true⟩
    | _ => ⟨{ a with y := a.refPrev }, a.refPrev, true⟩
  else
    match src with
    | 0 => ⟨a, l.target n, false⟩
    | 1 =>
      let dc := if first then 0 else wrap32 (l.smp.pls - a.plsRef)
      let num := signed 24 (l.u n .axGearNum) * dc + a.rem
      let den : Int := l.u n .axGearDen
      let q := num / den
      ⟨{ a with rem := num - q * den, plsRef := l.smp.pls }, wrap32 (ref0 + q), false⟩
    | _ =>
      let y := a.y + rne ((factorOf (l.p n .axAnaAlpha) : Int) * (analogIn l n - a.y)) 2147483648
      ⟨{ a with y := y }, y, false⟩

/-- What one run of the pipeline computes. -/
structure LawOut where
  a : CeAxis
  refSrc : Int
  refEff : Int
  intD : Int
  intQ : Int
  intS : Int
  ranS : Bool
  vlim : Bool
  duty : Int × Int × Int
  switched : Bool
deriving DecidableEq, Repr

/-- The position law (R64). -/
def positionLaw (l : CeLat) (n : Nat) (ref eff : Int) (a : CeAxis) : CeAxis × Int :=
  let dsrc := wrap32 (ref - a.refPrev)
  let acc := (l.feed : Int) * dsrc + a.ffrac
  let dinc := acc / 2147483648
  let eff := wrap32 (eff + dinc)
  let ep := wrap32 (eff - l.smp.pos)
  let w := addS (imulQ ep (l.p n .axKpP) (l.sh n 6)) (imulQ dinc (l.p n .axKvff) (l.sh n 7))
  let af := imulQ (wrap32 (dinc - a.dincPrev)) (l.p n .axKaff) (l.sh n 7)
  ({ a with refPrev := ref, ffrac := (acc - dinc * 2147483648).toNat, dincPrev := dinc, wRef := w, aFf := af }, eff)

/-- The speed law (R64): the axis state and INT_S. -/
def speedLaw (l : CeLat) (n : Nat) (intS : Int) (a : CeAxis) : CeAxis × Int :=
  let w := imulQ (wrap32 (l.smp.pos - a.posPrevS)) (l.p n .axSpdK) 0
  let es := subS a.wRef w
  let intS := addW intS (mulQ (l.p n .axKiS) es (l.sh n 5))
  let iq := addS (addS (mulQ (l.p n .axKpS) es (l.sh n 4)) intS) a.aFf
  ({ a with posPrevS := l.smp.pos, iqS := iq }, intS)

/-- The electrical angle (R64). -/
def thetaOf (l : CeLat) (n : Nat) : Nat :=
  (l.smp.posmod * l.u n .axEncK * l.u n .axPole + l.u n .axThetaOfs) % 4294967296

/-- The result of the current law. -/
structure CurOut where
  intD : Int
  intQ : Int
  vlim : Bool
  duty : Int × Int × Int
deriving DecidableEq, Repr

/-- One duty from a phase voltage and the offset. -/
def dutyOf (u off : Int) : Int := clampI (0x40000000 + u + off) 0 0x7FFFFFFF

/-- The current law (R64). -/
def currentLaw (l : CeLat) (n : Nat) (iqS intD intQ : Int) : CurOut :=
  let lim := l.p n .axIqLim
  let iqRef := clampI (addS (addS iqS l.iqCorr) l.iqAdd) (negS lim) lim
  let idRef := addS (l.p n .axIdRef) l.idCorr
  let th := thetaOf l n
  let c := cosQ th
  let sn := sinQ th
  let ia := l.smp.ia
  let ib := l.smp.ib
  let ic := l.smp.ic
  let i3 := l.u n .axI3 = 1
  let al := if i3 then mulQ (subS (subS (addS ia ia) ib) ic) k13 0 else ia
  let be := if i3 then mulQ (subS ib ic) kS3 0 else mulQ (addS (addS ia ib) ib) kS3 0
  let id := addS (mulQ al c 0) (mulQ be sn 0)
  let iq := subS (mulQ be c 0) (mulQ al sn 0)
  let ed := subS idRef id
  let eq := subS iqRef iq
  let intD := addW intD (mulQ (l.p n .axKiD) ed (l.sh n 1))
  let vd := addS (mulQ (l.p n .axKpD) ed (l.sh n 0)) intD
  let intQ := addW intQ (mulQ (l.p n .axKiQ) eq (l.sh n 3))
  let vq := addS (mulQ (l.p n .axKpQ) eq (l.sh n 2)) intQ
  let m := magQ vd vq
  let vl := l.p n .axVlim
  let hit := vl < m
  let vd := if hit then scaleQ vd vl m else vd
  let vq := if hit then scaleQ vq vl m else vq
  let va := subS (mulQ vd c 0) (mulQ vq sn 0)
  let vb := addS (mulQ vd sn 0) (mulQ vq c 0)
  let ub := addS (mulQ va (-0x40000000) 0) (mulQ vb kS32 0)
  let uc := subS (mulQ va (-0x40000000) 0) (mulQ vb kS32 0)
  let off := -((max va (max ub uc) + min va (min ub uc)) / 2)
  ⟨intD, intQ, hit, (dutyOf va off, dutyOf ub off, dutyOf uc off)⟩

/-- One run of the pipeline of axis n (R61, R64, R67). In a first run ref_src takes the latched position in every mode (DESIGN CHOICE,
log entry 16). -/
def lawRun (l : CeLat) (n : Nat) (ref0 eff0 intD intQ intS : Int) (a : CeAxis) : LawOut :=
  let first := a.first && !a.preloaded
  let mode := l.u n .axMode
  let a := if first then firstRun l a else a
  let ref0 := if first then l.smp.pos else ref0
  let eff0 := if first then l.smp.pos else eff0
  let src := if l.outerRun n then sourceStage l n first ref0 a else ⟨a, ref0, false⟩
  let ref := src.ref
  let a := src.a
  let (a, eff) := if mode = 0 ∧ l.posRun n then positionLaw l n ref eff0 a else (a, eff0)
  let a := if mode = 1 ∧ l.spdRun n then { a with wRef := fmulQ l.feed ref, aFf := 0, refPrev := ref } else a
  let ranS := mode ≤ 1 && l.spdRun n
  let (a, intS) := if ranS then speedLaw l n intS a else (a, intS)
  let a := if 2 ≤ mode then { a with iqS := ref, refPrev := ref } else a
  let cur := currentLaw l n a.iqS intD intQ
  { a := { a with first := false, preloaded := false }, refSrc := ref, refEff := eff, intD := cur.intD, intQ := cur.intQ,
    intS := intS, ranS := ranS, vlim := cur.vlim, duty := cur.duty, switched := src.switched }

end Sys2Proof.Machine
end

