-- ==== Sys2Proof/Machine/Ce.lean ====
section
/-! DEFINITION. The control engine's commands (chapter 03). -/

namespace Sys2Proof.Machine

/-- EVT_CE_CFG_REJECT for an offset of the CE block. -/
def ceReject (tid off : Nat) (s : State) : State := raise .ceCfgReject tid off s

/-- EVT_FAB_LOCKED_WRITE for a block (R7). -/
def lockedWrite (tid slot : Nat) (s : State) : State := raise .fabLockedWrite tid slot s

/-- Offset of axis n in the CE block (Table CE-6). -/
def axOff (n : Nat) : Nat := 0x400 + n * 0x100

/-! Enable and disable (R60). -/

/-- May axis n be enabled: armed, no trip, no ESTOP, and the device drives its pads (R60, R422)? -/
def enableOk (s : State) (n : Nat) : Bool :=
  s.rdBit .safArmed n && !(s.rdBit .mioTrip n) && !(s.rdBit .mioOc n) && !(s.on .mioEstop) &&
    s.rd .pairRole != 2 && s.rd .pairRole != 3

/-- A write of EN = 1. While an accepted disable still waits for its tick, it withdraws the disable (DESIGN CHOICE, log entry 16). -/
def axEnableWrite (tid n : Nat) (s : State) : State :=
  if enableOk s n then
    let a := s.ax n
    (s.wr .axEn 1 n).setAx n { a with enPend := if a.run then none else some true }
  else ceReject tid (axOff n) s

/-- Table CE-2: may a mode run from a source? -/
def srcAllowed (mode src : Nat) : Bool :=
  match src with
  | 0 => mode ≤ 2
  | 1 => mode == 0
  | 2 => mode == 1 || mode == 2
  | _ => false

/-! Guards (R71, R72). -/

/-- Publish a guard's value and stamp as one unit. -/
def publishGuard (g val sec ns : Nat) (s : State) : State :=
  { s with loop := { s.loop with gVal := s.loop.gVal.set g val, gSec := s.loop.gSec.set g sec, gNs := s.loop.gNs.set g ns } }.wr
    .gdPub 1 g

def guardPublish (g : Nat) (v : Word) (s : State) : State :=
  let s := s.wr .gdTsS v.toNat g
  publishGuard g (s.rd .gdVal g) (s.rd .gdTsS g) (s.rd .gdTsNs g) s

/-- The collision context publishes guard g over a frame captured at (sec, ns): with the earlier of that stamp and the DTIME at which
IPOS was written, and not while the window is withheld (R151). -/
def guardCollision (g sec ns : Nat) (s : State) : State :=
  let l := s.comp.look
  if l.held then s
  else
    let frame := decide (sec < l.sec) || (sec == l.sec && decide (ns ≤ l.ns))
    let s := s.wr .gdTsNs (if frame then ns else l.ns) g
    guardPublish g (BitVec.ofNat 32 (if frame then sec else l.sec)) s

def State.gVal (s : State) (g : Nat) : Int := s32 (s.loop.gVal.get 0 g)

/-- Age in ns of a guard at now, over seconds [31:0] (R72). -/
def guardAge (s : State) (g : Nat) : Int :=
  s32 ((s.clk.sec % 2 ^ 32 + 2 ^ 32 - s.loop.gSec.get 0 g) % 2 ^ 32) * 1000000000 +
    ((s.clk.ns : Int) - s.loop.gNs.get 0 g)

/-- Is a guard fresh (R72)? -/
def guardFresh (s : State) (g : Nat) : Bool :=
  s.on .gdPub g && 0 ≤ guardAge s g && guardAge s g ≤ s.rd .gdMaxAge g * 1000

/-- The feed that a FEED guard asks for (Table CE-3). -/
def guardFeed (s : State) (g : Nat) : Nat :=
  if guardFresh s g then factorOf (s.gVal g) else if s.on .gdStaleAct g then 0 else 2147483648

/-- Is a HOLD guard asserted (Table CE-3)? -/
def guardHold (s : State) (g : Nat) : Bool :=
  if guardFresh s g then 0x40000000 ≤ s.gVal g else s.on .gdStaleAct g

/-- The guards masked by axis n. -/
def maskedGuards (s : State) (n : Nat) : List Nat := whichOf 16 fun g => s.rdBit .axGuardMask g n

/-- The effective feed (R73); an SS1 acts as an asserted HOLD guard (R484). -/
def effFeed (s : State) (n mitFeed : Nat) : Nat :=
  let gs := maskedGuards s n
  let f := gs.foldl (fun f g => if s.rd .gdKind g = 0 ∨ s.rd .gdKind g = 3 then min f (guardFeed s g) else f) mitFeed
  if s.saf.ss1End.isSome ∨ gs.any (fun g => s.rd .gdKind g == 1 && guardHold s g) then 0 else f

/-- The sum of the masked IQ_ADD guards in ascending guard number (R73). -/
def iqAddOf (s : State) (n : Nat) : Int :=
  (maskedGuards s n).foldl
    (fun x g => if s.rd .gdKind g = 2 then addS x (if guardFresh s g then s.gVal g else 0) else x) 0

/-- Was guard g fresh at the last latch of the axis that had it masked? None: this is a first latch (R72). -/
def seenFresh (a : CeAxis) (g : Nat) : Option Bool := (a.guards.find? fun e => e.g == g).map (·.fresh)

/-- EVT_CE_GUARD_STALE where it is due for guard g at a latch of axis n (R72). -/
def guardStale (n g : Nat) (s : State) : State :=
  if guardFresh s g then s
  else
    match seenFresh (s.ax n) g with
    | some false => s
    | _ =>
      let future := s.on .gdPub g && guardAge s g < 0
      raise .ceGuardStale 2 (g + b2n future * 16 + n * 256) s

/-! The latch (R59). -/

/-- The words of the mailbox that the CE uses: the accepted commit, or the fall-back of Table MIT-3. -/
def mailboxOf (s : State) (n : Nat) : List Nat :=
  match if s.armed n then (s.slot n).commit else none with
  | some w => w
  | none => [0, 0, s.rd .mitFbFeed n, 0] ++ (s.slot n).obs

/-- The CE latches the mailbox words (R70, R112). -/
def latchMailbox (n : Nat) (s : State) : State :=
  let m := s.slot n
  let w := mailboxOf s n
  let ok := s.armed n && m.commit.isSome
  let s := foldN 16 (fun k s => s.wr .mitOut (w.getD k 0) n k) s
  let s := (s.wr .mitObsValid (b2n ok) n).wr .axChatter (w.getD 3 0) n
  s.setSlot n { m with armedAtTick := s.armed n, obs := if ok then m.obsNow else m.obs }

/-- Now is t_commit of the open period of axis n. -/
def atCommit (s : State) (n : Nat) : Bool :=
  let a := s.ax n
  s.onCeEdge && a.open_ && s.now + 840 * rootPerCe == a.tickAt + a.per * rootPerCe

/-- The CE latches an enabled axis. -/
def latchAxis (n : Nat) (s : State) : State :=
  let w := mailboxOf s n
  let f := effFeed s n (factorOf (s32 (w.getD 2 0)))
  let gs := maskedGuards s n
  let s := gs.foldl (fun s g => guardStale n g s) s
  let a := (s.ax n).arrive s.now
  let lat : CeLat :=
    { regs := s.regs.filter fun e => isAxisParam n e.1, smp := a.bank, idx := a.idx, iqCorr := s32 (w.getD 0 0),
      idCorr := s32 (w.getD 1 0), feed := f, iqAdd := iqAddOf s n, tgtPos := a.tgtPos, tgtSpd := a.tgtSpd,
      tgtTrq := a.tgtTrq }
  let hold := f == 0 && s.rd .axMode n < 2
  let s := ((s.wr .axFeed f n).wr .axHold (b2n hold) n).wr .axStale (b2n (gs.any fun g => !guardFresh s g)) n
  s.setAx n { a with lat := some lat, guards := gs.map fun g => ⟨g, guardFresh s g⟩ }

/-! Issue and completion (R74). -/

/-- Does an axis of a lower number wait for issue with axis n? -/
def waitsBefore (s : State) (n : Nat) : Bool :=
  (List.range n).any fun m => (s.ax m).lat.isSome && (s.ax m).issuedAt.isNone

/-- Root time from which the entry of the pipeline is free. -/
def entryFrom (s : State) : Nat :=
  match s.loop.lastIssue with
  | none => 0
  | some t => t + 72 * rootPerCe

/-- Root time of t_commit of the open period of axis n. -/
def commitTime (a : CeAxis) : Nat := a.tickAt + a.per * rootPerCe - 840 * rootPerCe

/-- Does axis n issue now: at its t_commit, or at the first free CECLK after it, in ascending axis number (R74)? -/
def issueDue (s : State) (n : Nat) : Bool :=
  s.onCeEdge && (s.ax n).issuedAt.isNone && !waitsBefore s n && s.now == max (commitTime (s.ax n)) (entryFrom s)

/-- The near-wrap test of one integrator after an update (R66): `k` is 0 d, 1 q, 2 speed. -/
def nearTest (n k : Nat) (flag : RegId) (v : Int) (s : State) : State :=
  if 0x60000000 ≤ v.natAbs then
    if s.on flag n then s else raise .ceIntegNearWrap 2 (n + k * 16) (s.wr flag 1 n)
  else if v.natAbs < 0x40000000 then s.wr flag 0 n else s

/-- A CE fault (R482): EVT_SAF_CE_FAULT, STO, and a fatal fault of a pair. -/
def ceFault (n : Nat) (crc : Bool) (s : State) : State := raise .safCeFault 0 (n + b2n crc * 16) (fatalFault s)

/-- A latched axis enters the pipeline. -/
def issueAxis (n : Nat) (l : CeLat) (s : State) : State :=
  let a := s.ax n
  let o := lawRun l n (s.rdS .axRefSrc n) (s.rdS .axRefEff n) (s.rdS .axIntD n) (s.rdS .axIntQ n) (s.rdS .axIntS n) a
  let s := ((s.wrS .axRefSrc o.refSrc n).wrS .axRefEff o.refEff n).wrS .axFeedLag (o.refSrc - o.refEff) n
  let s := ((s.wrS .axIntD o.intD n).wrS .axIntQ o.intQ n).wr .axVlimAct (b2n o.vlim) n
  let s := { s with loop := { s.loop with lastIssue := some s.now } }
  let s := s.setAx n { o.a with issuedAt := some s.now, duty := o.duty }
  let s := if o.ranS then nearTest n 2 .axNearS o.intS (s.wrS .axIntS o.intS n) else s
  let s := nearTest n 1 .axNearQ o.intQ (nearTest n 0 .axNearD o.intD s)
  let s := if o.switched ∧ l.u n .axSpsrc = 0 ∧ l.u n .axMode = 0 then s.setOb .axTgtPos (u32 o.a.tgtPos) n else s
  if o.switched then raise .ceSrcSwitch 2 (n + l.u n .axSpsrc * 16) s else s

def ceIssue (n : Nat) (ecc : Bool) (s : State) : State :=
  match (s.ax n).lat with
  | none => s
  | some l =>
    if issueDue s n then
      if ecc then ceFault n false s else issueAxis n l s
    else s

/-- The shadows of axis n, by phase. -/
def shadowsOf (s : State) (n : Nat) : Int × Int × Int := (s.rdS .pwmSh n 0, s.rdS .pwmSh n 1, s.rdS .pwmSh n 2)

/-- The CE writes the shadows of axis n. -/
def writeShadows (n : Nat) (d : Int × Int × Int) (s : State) : State :=
  ((s.wrS .pwmSh d.1 n 0).wrS .pwmSh d.2.1 n 1).wrS .pwmSh d.2.2 n 2

/-- What a mirror carries of a run of axis n that is complete (Table PAIR-6). -/
def mirrorVals (s : State) (n : Nat) (l : CeLat) : List Nat :=
  let a := s.ax n
  [s.rd .axIntD n, s.rd .axIntQ n, s.rd .axIntS n, s.rd .axRefSrc n, s.rd .axRefEff n, a.ffrac, u32 a.dincPrev,
   u32 a.posPrevS, u32 l.smp.pos, u32 a.rem, u32 a.y]

/-- The shadow writes of axis n complete, 252 CECLK after the issue. They count for the period in which the axis issued. -/
def ceShadowComplete (n : Nat) (s : State) : State :=
  let a := s.ax n
  match a.issuedAt, a.lat with
  | some t, some l =>
    if s.now = t + 252 * rootPerCe then
      (writeShadows n a.duty s).setAx n
        { a with lat := none, issuedAt := none, shOld := some (s.now, shadowsOf s n),
                 ceT := if a.tickAt ≤ t then some (s.ceT n) else a.ceT, mir := mirrorVals s n l, mirIdx := l.idx }
    else s
  | _, _ => s

/-! The end-of-period check (R27). -/

/-- The open period of axis n ends now. -/
def atPeriodEnd (s : State) (n : Nat) : Bool :=
  let a := s.ax n
  s.onCeEdge && a.open_ && s.now == a.tickAt + a.per * rootPerCe

/-- The slot counts of a period: MIT_MISS and CONSEC (R114). -/
def countSlot (n : Nat) (miss : Bool) (s : State) : State :=
  if miss then (s.bump .mitMiss 1 n).bump .mitConsec 1 n else s.wr .mitConsec 0 n

/-- The PST fields of an axis. -/
def pstFields : List RegId := [.pstPeriod, .pstMitEn, .pstAxEn, .pstMitT, .pstMitLate, .pstCeT, .pstMitMiss, .pstCeMiss]

/-- The PST fields of axis n are kept as they stand before a check (R33). -/
def keepPst (n : Nat) (s : State) : State :=
  { s with loop := { s.loop with pstOld := s.loop.pstOld.set n ⟨s.now, pstFields.map fun r => s.rd r n⟩ } }

/-- The PST registers as a read sees them: in the CECLK of a check, those before it (R33). -/
def pstView (s : State) : State :=
  foldN 8 (fun n t =>
    let o := s.loop.pstOld.get .init n
    if o.vals ≠ [] ∧ s.now < o.at_ + rootPerCe then (pstFields.zip o.vals).foldl (fun t x => t.wr x.1 x.2 n) t else t) s

/-- The PST registers of the period (R33). -/
def pstUpdate (n : Nat) (mitEn axEn : Bool) (s : State) : State :=
  let a := s.ax n
  let m := s.slot n
  let s := ((s.wr .pstPeriod a.per n).wr .pstMitEn (b2n mitEn) n).wr .pstAxEn (b2n axEn) n
  let s := (s.wr .pstMitT (if m.commit.isSome then m.commitT else 0xFFFFF) n).wr .pstMitLate (b2n m.late) n
  s.wr .pstCeT (a.ceT.getD 0xFFFFF) n

/-- The outcome of Table ARC-3. -/
def pstOutcome (n : Nat) (mitMiss ceMiss late : Bool) (s : State) : State :=
  let s := if mitMiss then s.bump .pstMitMiss 1 n else s
  if ceMiss then
    raise .pstCeMiss 0 n (fatalFault ({ s with drv := { s.drv with miss := List.range 8 } }.bump .pstCeMiss 1 n))
  else if mitMiss then raise .pstMitreMiss 0 (n + b2n late * 256) s
  else s

/-- Did the shadow writes of the axis complete before the end of its period (Table ARC-3)? -/
def ceInTime (a : CeAxis) : Bool :=
  match a.ceT with
  | some t => t < a.per
  | none => false

/-- Was axis n stopped in its period, before the CECLK of its end? One stop leaves the checks of its own CECLK as they are (R27). -/
def cutShort (s : State) (a : CeAxis) : Bool := a.ranAtTick && a.stopped && decide (a.stopAt < s.now)

/-- The check. In a period in which hardware stopped the axis the PST registers stay as they are (DESIGN CHOICE, log entry 16). -/
def endOfPeriodCheck (n : Nat) (f : CeFaultIn) (s : State) : State :=
  if atPeriodEnd s n then
    let a := s.ax n
    let m := s.slot n
    let mitEn := m.armedAtTick
    let mitMiss := mitEn && m.commit.isNone
    let s := keepPst n (s.setAx n { a with open_ := false })
    let s := if mitEn then countSlot n mitMiss s else s
    let s := if cutShort s a then s else pstUpdate n mitEn a.ranAtTick s
    let s := s.setSlot n { m with prevOk := m.commit.isSome }
    if a.ranAtTick ∧ !cutShort s a then
      let s := pstOutcome n mitMiss (!ceInTime a) m.late s
      match f with
      | .none => s
      | .sramEcc => ceFault n false s
      | .shadowCrc => ceFault n true s
    else s
  else s

def pstClrCnt (s : State) : State := { s with clk := { s.clk with clrCnt := true } }.wr .pstClrCnt 1

end Sys2Proof.Machine
end

