-- ==== Sys2Proof/Machine/Mio.lean ====
section
/-! DEFINITION. Motor-side I/O (chapter 04): PWM, trips, current sensing, encoders, pulse inputs, the set-point ADC. -/

namespace Sys2Proof.Machine

/-- EVT_MIO_CFG_REJECT for an offset of the MIO block. -/
def mioReject (tid off : Nat) (s : State) : State := raise .mioCfgReject tid off s

/-! PWM (R78 to R83). -/

/-- H = ceil(P / 2). -/
def pwmHalf (per : Nat) : Nat := (per + 1) / 2

/-- The compare value of a duty (R78). -/
def pwmCmpOf (duty : Int) (per : Nat) : Nat := (factorOf duty * pwmHalf per + 2 ^ 30) / 2 ^ 31

/-- The ideal phase signal `t` CECLK after the tick (R79). -/
def pwmIdeal (per cmp t : Nat) : Bool :=
  cmp ≠ 0 && decide (pwmHalf per - cmp ≤ t) && decide (t < per - pwmHalf per + cmp)

/-- Level of the ideal signal `t` CECLK into a period, and the CECLK (from the tick) of its last edge; with no edge in the
period so far, the edge that the period began with. `lvl` and `from_` describe the signal before the tick. -/
def idealAt (per cmp t : Nat) (lvl : Bool) (from_ : Int) : Bool × Int :=
  let e0 : Bool × Int := if pwmIdeal per cmp 0 = lvl then (lvl, from_) else (!lvl, 0)
  let up := pwmHalf per - cmp
  let dn := per - pwmHalf per + cmp
  let e1 : Bool × Int := if cmp ≠ 0 ∧ 0 < up ∧ up ≤ t then (true, (up : Int)) else e0
  if cmp ≠ 0 ∧ dn ≤ t ∧ dn < per then (false, (dn : Int)) else e1

/-- The outputs of a half-bridge (R80): on a rising edge of the ideal signal xL turns off and xH turns on DT later; on a
falling edge xH turns off and xL turns on DT later. The pair is (xH, xL), true for active. -/
def halfBridgeOut (dt : Nat) (lvl : Bool) (sinceEdge : Int) : Bool × Bool :=
  if sinceEdge < dt then (false, false) else (lvl, !lvl)

def State.hbOf (s : State) (n x : Nat) : HalfBridge := s.loop.hb.get .init (3 * n + x)
def State.setHb (s : State) (n x : Nat) (h : HalfBridge) : State :=
  { s with loop := { s.loop with hb := s.loop.hb.set (3 * n + x) h } }

/-- Are the pads of axis n driven (R83)? -/
def State.padsOn (s : State) (n : Nat) : Bool := s.rdBit .mioPadsOn n

/-- The dead-time that an edge at root time t took: a later write of PWM_CFG.DT does not change it. -/
def dtAt (cur : Nat) : List (Nat × Nat) → Nat → Nat
  | [], _ => cur
  | (w, old) :: l, t => if t ≤ w then dtAt old l t else cur

/-- A write of PWM_CFG.DT of axis n is noted. -/
def noteDt (n old : Nat) (s : State) : State :=
  { s with loop := { s.loop with dtLog := s.loop.dtLog.set n ((s.now, old) :: s.loop.dtLog.get [] n) } }

/-- The outputs (xH, xL) of phase x of axis n now; none: high-Z (R79 to R83). -/
def pwmPad (s : State) (n x : Nat) : Option (Bool × Bool) :=
  if s.padsOn n then
    let a := s.ax n
    let h := s.hbOf n x
    let t := (s.now - a.tickAt) / rootPerCe
    let from_ : Int := ((h.at_ : Int) - a.tickAt) / rootPerCe
    let (lvl, e) := idealAt (s.rd .pwmPer n) (s.rd .pwmCmp n x) t h.lvl from_
    let edge := ((a.tickAt : Int) + e * rootPerCe).toNat
    some (halfBridgeOut (dtAt (s.rd .pwmDt n) (s.loop.dtLog.get [] n) edge) lvl (t - e))
  else none

/-- The pad levels of phase x with the PWM_POL strap applied (R82). -/
def pwmPadLevel (s : State) (n x : Nat) : Option (Bool × Bool) :=
  (pwmPad s n x).map fun o => (o.1 != s.on .mioPol, o.2 != s.on .mioPol)

/-- The half-bridges carry their level and last edge over a tick, which on a rewritten grid may cut the period short. -/
def carryHb (n : Nat) (s : State) : State :=
  let a := s.ax n
  let per := s.rd .pwmPer n
  let last := min (per - 1) ((s.now - a.tickAt) / rootPerCe - 1)
  foldN 3 (fun x s =>
    let h := s.hbOf n x
    let (lvl, e) := idealAt per (s.rd .pwmCmp n x) last h.lvl (((h.at_ : Int) - a.tickAt) / rootPerCe)
    s.setHb n x ⟨lvl, ((a.tickAt : Int) + e * rootPerCe).toNat⟩) s

/-- The shadows that load now: what a write of this CECLK replaced stands for it (R21). -/
def loadingShadows (s : State) (n : Nat) : Int × Int × Int :=
  match (s.ax n).shOld with
  | some (t, d) => if t = s.now then d else shadowsOf s n
  | none => shadowsOf s n

/-- The shadows load into the live compare registers for a period of `per` CECLK (R21, R78). -/
def loadShadows (n per : Nat) (s : State) : State :=
  let d := loadingShadows s n
  let s := s.wr .pwmPer per n
  ((s.wr .pwmCmp (pwmCmpOf d.1 per) n 0).wr .pwmCmp (pwmCmpOf d.2.1 per) n 1).wr .pwmCmp (pwmCmpOf d.2.2 per) n 2

/-- All three shadows of an axis take duty 0.5 (R81), which no write of this CECLK holds back. -/
def centreShadows (n : Nat) (s : State) : State :=
  (writeShadows n (0x40000000, 0x40000000, 0x40000000) s).setAx n { s.ax n with shOld := none }

/-- An enable takes effect at the tick (R81, R61, R68): duty 0.5, pads driven, each half-bridge as after a falling edge. -/
def enableAtTick (n : Nat) (s : State) : State :=
  let s := (centreShadows n s).wrBit .ceAxRun n true
  let ok := !(s.rdBit .mioTrip n) && !(s.rdBit .mioOc n) && !(s.on .mioEstop)
  let s := (s.wrBit .mioPadsOn n ok).wr .axAnaEn (b2n (s.rd .axSpsrc n == 2)) n
  let s := foldN 3 (fun x s => s.setHb n x ⟨false, s.now⟩) s
  let s := { s with loop := { s.loop with dtLog := s.loop.dtLog.set n [] } }
  let a := s.ax n
  s.setAx n { a with run := true, stopped := false, enPend := none, first := true, preloaded := false, guards := [], relAt := none,
                     src := s.rd .axSpsrc n }

/-- A disable takes effect at the tick (R81): the last shadows run for the period, then the pads go high-Z. -/
def disableAtTick (n per : Nat) (s : State) : State :=
  let s := (s.wrBit .ceAxRun n false).wr .axAnaEn 0 n
  let a := s.ax n
  s.setAx n { a with run := false, stopped := false, enPend := none, guards := [], relAt := some (s.now + per * rootPerCe) }

/-! Sigma-delta (R89 to R92). -/

/-- OSR of a channel. -/
def osrOf (code : Nat) : Nat := 32 * 2 ^ code

/-- Running sums of `k` consecutive values. -/
def boxcar (k : Nat) (l : List Nat) : List Nat :=
  (List.range (l.length + 1 - k)).map fun i => ((l.drop i).take k).sum

/-- Output of a sinc filter of order `o` over exactly the bits it covers. -/
def sincOut (osr : Nat) : Nat → List Nat → Nat
  | 0, l => l.headD 0
  | o + 1, l => sincOut osr o (boxcar osr l)

/-- Normalise a sinc output of order `o` (R90, R92): (2v − OSR^o) × 2^(31 − o × log2 OSR), saturated. -/
def sincNorm (osr log2 o v : Nat) : Int := satQ ((2 * (v : Int) - (osr ^ o : Nat)) * 2 ^ (31 - o * log2))

/-- The longest run of equal bits. -/
def longestRun : List Bool → Nat
  | [] => 0
  | b :: t =>
    let r := (t.takeWhile (· == b)).length + 1
    max r (longestRun t)

/-- The last `k` entries of a window; entries that are not there count as missing edges. -/
def lastBits (k : Nat) (w : List (Option Bool)) : List (Option Bool) :=
  List.replicate (k - w.length) none ++ w.drop (w.length - k)

def State.sdOf (s : State) (m : Nat) : SdChan := s.loop.sd.get .init m
def State.setSd (s : State) (m : Nat) (c : SdChan) : State := { s with loop := { s.loop with sd := s.loop.sd.set m c } }

/-- Root cycles between rising edges of SDCLK: 21 CECLK (R89). -/
def sdClkPer : Nat := RootClk.sdmclk.divider

/-- Is SDCLKk driven? -/
def sdClkOn (s : State) (k : Nat) : Bool := s.clk.up && s.mioOn && s.rdBit .sdClkEn k

/-- The level that the part drives on SDCLKk: high for the first half of SDMCLK, from the alignment epoch on; low while off. -/
def sdClkLevel (s : State) (k : Nat) : Bool := sdClkOn s k && decide ((s.now - s.clk.epoch) % sdClkPer < sdClkPer / 2)

/-- Now is a rising edge of SDCLKk. -/
def sdClkEdge (s : State) (k : Nat) : Bool := sdClkOn s k && (s.now - s.clk.epoch) % sdClkPer == 0

/-- Rising edges of SDCLKk up to now, since it was switched on. -/
def sdClkEdges (s : State) (k : Nat) : Nat :=
  if sdClkOn s k then (s.now - s.clk.epoch) / sdClkPer + 1 - (s.loop.sdClkFrom.get 0 k - s.clk.epoch + sdClkPer - 1) / sdClkPer
  else 0

/-- The newest entries of a list of received bits for which the clock of channel m had an edge (R89). -/
def clocked {α : Type} (s : State) (m : Nat) (l : List α) : List α := l.drop (l.length - sdClkEdges s (s.rd .sdClksel m))

/-- A write of SD_CLK_EN: a clock that goes on counts its edges from now. -/
def noteSdClk (old : Nat) (s : State) : State :=
  foldN 4 (fun k s =>
    if s.rdBit .sdClkEn k ∧ !bitOf old k then { s with loop := { s.loop with sdClkFrom := s.loop.sdClkFrom.set k s.now } } else s) s

/-- The sample of a window of received bits (R90). -/
def sdValue (s : State) (m : Nat) (bits : List Bool) : Int :=
  let osr := osrOf (s.rd .sdOsr m)
  let q := sincNorm osr (s.rd .sdOsr m + 5) 3 (sincOut osr 3 (bits.map b2n))
  mulQ (s.rdS .sdGain m) (subS q (s.rdS .sdOfs m)) 1

/-- Latch the sample of channel m at a tick (R76, R90, R91): the sample and the state. -/
def sdLatch (m : Nat) (w : List (Option Bool)) (s : State) : Int × State :=
  let c := s.sdOf m
  if s.rd .sdEn m = 0 then (0, (s.setSd m { c with told := false }).wr .sdSample 0 m)
  else
    let osr := osrOf (s.rd .sdOsr m)
    let win := lastBits (3 * osr - 2) (clocked s m w)
    let bits := win.filterMap id
    let loss := win.any Option.isNone
    if loss ∨ s.rd .sdStuck m ≤ longestRun bits then
      let v := c.good.getD 0
      let s := s.bump (if loss then .sdReplLoss else .sdReplRange) 1 m
      let s := if c.told then s else raise .mioSdReplaced 0 (m + b2n loss * 256) s
      (v, (s.setSd m { c with told := true }).wrS .sdSample v m)
    else
      let v := sdValue s m bits
      (v, (s.setSd m { c with good := some v, told := false }).wrS .sdSample v m)

/-- The latched samples of axis n (R76). -/
def latchSamples (n : Nat) (w : List (List (Option Bool))) (s : State) : State :=
  let (ia, s) := sdLatch (3 * n) (w.getD 0 []) s
  let (ib, s) := sdLatch (3 * n + 1) (w.getD 1 []) s
  let (ic, s) := sdLatch (3 * n + 2) (w.getD 2 []) s
  let smp : Samples :=
    ⟨ia, ib, ic, s.rdS .encPos n, s.rd .encPosmod n, s.rdS .plsCnt n, s.rd .adcCode (s.rd .axAnaCh n), s.clk.sec, s.clk.ns⟩
  s.setAx n { s.ax n with smp := smp }

/-! Trips (R84 to R87, R92). -/

/-- The levels of the trip inputs are told: MIO_TRIP_IN shows them. -/
def tellPins (estopN : Bool) (tripN : Nat) (s : State) : State :=
  { (s.wr .mioTripInN tripN).wr .mioEstopInN (b2n estopN) with pin := { s.pin with estopN := estopN, tripN := tripN % 256 } }

def estopRecognised (s : State) : State :=
  let s := stopAll (tellPins false s.pin.tripN (s.wr .mioEstop 1))
  raise .mioEstop 0 0 (s.wr .safArmed 0)

def tripRecognised (n : Nat) (s : State) : State :=
  raise .mioTrip 0 n (stopAxis n (tellPins s.pin.estopN (setBit s.pin.tripN n false) (s.wrBit .mioTrip n true)))

/-- PD3 comes out of reset: a level that is low is recognised afresh (R84). -/
def recogniseAfresh (s : State) : State :=
  let t := s.pin.tripN
  let s := if s.pin.estopN then s else estopRecognised s
  tellPins s.pin.estopN t (foldN 8 (fun n s => if bitOf t n then s else tripRecognised n s) s)

/-- The values of the fast over-current filter over received bits, oldest first (R92). -/
def ocValues (osr log2 : Nat) (bits : List Bool) : List Int :=
  (List.range (bits.length + 2 - 2 * osr)).map fun i =>
    sincNorm osr log2 2 (sincOut osr 2 (((bits.drop i).take (2 * osr - 1)).map b2n))

/-- Length of the run of exceedances that ends with the last evaluation. -/
def ocRun (hi lo : Int) (vs : List Int) : Nat := (vs.reverse.takeWhile fun v => decide (hi < v) || decide (v < lo)).length

/-- Does the over-current filter of channel m run (R92)? -/
def ocRuns (s : State) (m : Nat) : Bool := s.on .sdEn m && s.on .sdOcEn m

/-- The values of the over-current filter of channel m over the bits that it has received. -/
def ocOf (s : State) (m : Nat) (bits : List Bool) : List Int :=
  ocValues (4 * 2 ^ s.rd .sdOcOsr m) (s.rd .sdOcOsr m + 2) (clocked s m bits)

/-- Has the channel tripped, with the bit of its axis still set? -/
def ocHeld (s : State) (m : Nat) : Bool := s.rdBit .mioOc (m / 3) && (s.sdOf m).tripped

/-- Has the run of channel m reached OC_CNT (R92)? -/
def ocReached (s : State) (m : Nat) (vs : List Int) : Bool :=
  s.rd .sdOcCnt m + 1 ≤ ocRun (s.rdS .sdOcHi m) (s.rdS .sdOcLo m) vs

def overcurrentTrip (ch : Nat) (bits : List Bool) (s : State) : State :=
  let n := ch / 3
  let vs := ocOf s ch bits
  if sdClkEdge s (s.rd .sdClksel ch) ∧ ocRuns s ch ∧ !ocHeld s ch ∧ ocReached s ch vs then
    let low := (vs.getLast?.getD 0) < s.rdS .sdOcLo ch
    let s := s.setSd ch { s.sdOf ch with tripped := true }
    raise .mioOvercurrent 0 (ch + b2n low * 32) (stopAxis n (s.wrBit .mioOc n true))
  else s

/-- Is the over-current filter of channel m outside its thresholds at its last evaluation? -/
def ocOutside (s : State) (m : Nat) (bits : List Bool) : Bool :=
  ocRuns s m && 0 < ocRun (s.rdS .sdOcHi m) (s.rdS .sdOcLo m) (ocOf s m bits)

/-- Is every over-current filter of axis n within its thresholds? -/
def ocWithin (s : State) (oc : List (List Bool)) (n : Nat) : Bool :=
  (List.range 3).all fun x => !ocOutside s (3 * n + x) (oc.getD (3 * n + x) [])

/-- The over-current bit of axis n is cleared, and its channels may trip again (R92). -/
def clearOc (n : Nat) (s : State) : State :=
  foldN 3 (fun x s => s.setSd (3 * n + x) { s.sdOf (3 * n + x) with tripped := false }) (s.wrBit .mioOc n false)

def mioTripClear (v : Word) (l : TripLive) (s : State) : State :=
  let s := tellPins l.estopN l.tripN.toNat s
  let s := foldN 8 (fun n s => if bitOf v.toNat n ∧ bitOf l.tripN.toNat n then s.wrBit .mioTrip n false else s) s
  let s := foldN 8 (fun n s => if bitOf v.toNat (8 + n) ∧ ocWithin s l.oc n then clearOc n s else s) s
  if bitOf v.toNat 16 ∧ l.estopN then s.wr .mioEstop 0 else s

/-! Encoders (R93 to R97). -/

def State.encOf (s : State) (p : Nat) : EncPort := s.loop.enc.get .init p
def State.setEnc (s : State) (p : Nat) (e : EncPort) : State := { s with loop := { s.loop with enc := s.loop.enc.set p e } }
def State.plsOf (s : State) (p : Nat) : PlsPort := s.loop.pls.get .init p
def State.setPls (s : State) (p : Nat) (e : PlsPort) : State := { s with loop := { s.loop with pls := s.loop.pls.set p e } }

/-- The count of one accepted edge in quadrature (R93): +1 when A leads B. -/
def quadStep (a b a' b' : Bool) : Int :=
  if a = a' ∧ b = b' then 0
  else if a ≠ a' then (if a' = b then -1 else 1)
  else (if b' = a then 1 else -1)

/-- Add to the position and to the position modulo ENC_CPR (R94). -/
def encAdd (p : Nat) (d : Int) (s : State) : State :=
  let cpr := s.rd .axEncCpr p
  (s.wrS .encPos (s.rdS .encPos p + d) p).wr .encPosmod ((((s.rd .encPosmod p : Int) + d) % (cpr : Int)).toNat) p

/-- The filter of R93: a level is accepted after FILT + 1 equal consecutive samples. -/
def accepted (filt held : Nat) : Bool := filt + 1 ≤ held

/-- An edge of A or B. The accepted levels are low at reset, and no level is followed while the port is not in ABZ mode (DESIGN CHOICE,
log entry 46). -/
def encEdge (p : Nat) (a b : Bool) (held : Nat) (s : State) : State :=
  if s.mioOn ∧ s.rd .encMode p = 1 ∧ accepted (s.rd .encFilt p) held then
    let e := s.encOf p
    let s := s.setEnc p { e with a := a, b := b }
    if e.a ≠ a ∧ e.b ≠ b then raise .mioEncError 0 p (s.bump .encQerr 1 p)
    else
      let d := quadStep e.a e.b a b
      encAdd p (if s.on .encDir p then -d else d) s
  else s

def encZEdge (p held : Nat) (s : State) : State :=
  let z := s.rd .encZmode p
  if s.mioOn ∧ s.rd .encMode p = 1 ∧ z ≠ 0 ∧ accepted (s.rd .encFilt p) held then
    let e := s.encOf p
    let s := s.wr .encZpos (s.rd .encPos p) p
    let s := if z = 3 ∨ (z = 2 ∧ !e.zDone) then s.wr .encPosmod 0 p else s
    s.setEnc p { e with zDone := true }
  else s

def encCprWrite (tid n : Nat) (v : Word) (s : State) : State :=
  if s.on .ceLock then lockedWrite tid 3 s
  else if v.toNat = 0 then ceReject tid (axOff n + 0x40) s
  else (s.wr .axEncCpr v.toNat n).wr .encPosmod 0 n

/-- A bad SSI frame (R96): `why` is 1 not ready, 2 parity, 3 late. -/
def ssiBad (p why : Nat) (s : State) : State :=
  raise .mioEncError 0 (p + why * 256) ((s.bump .encSsierr 1 p).setEnc p { s.encOf p with ssi := none })

/-- Root time of the end of the period of axis n. -/
def nextTick (s : State) (n : Nat) : Nat := (s.ax n).tickAt + (s.ax n).per * rootPerCe

def ssiFrameStart (p : Nat) (level : Bool) (s : State) : State :=
  let t := gridNext s p
  if s.mioOn ∧ s.ceOn ∧ s.onCeEdge ∧ s.rd .encMode p = 2 ∧ s.now + s.rd .ssiLead p * rootPerCe = t then
    if level then
      s.setEnc p { s.encOf p with ssi := some ⟨s.now, t, s.rd .ssiBits p + 1 + s.rd .ssiPar p, s.rd .ssiDiv p, s.rd .ssiDly p⟩ }
    else ssiBad p 1 s
  else s

/-- Root time at which bit j of a frame is sampled: DLY CECLK after the (j + 1)-th rising edge of ENCn_CLK (R95). -/
def SsiRun.sampleAt (r : SsiRun) (j : Nat) : Nat := r.startAt + ((2 * j + 1) * r.div + r.dly) * rootPerCe

/-- The level of ENCn_CLK: idle high; a frame starts with a falling edge, and each bit takes 2 × DIV CECLK (R95). -/
def ssiClk (s : State) (p : Nat) : Bool :=
  match (s.encOf p).ssi with
  | none => true
  | some r =>
    let k := (s.now - r.startAt) / rootPerCe / r.div
    k % 2 == 1 || decide (2 * r.nb ≤ k)

/-- Gray to binary. -/
def grayDecode (w n : Nat) : Nat := (List.range w).foldl (fun x k => x ^^^ (n >>> (k + 1))) n % 2 ^ w

/-- Number of one bits. -/
def popcount (w n : Nat) : Nat := (whichOf w (bitOf n)).length

/-- A good SSI frame of value `v` (R96). -/
def ssiGood (p bits v : Nat) (s : State) : State :=
  let e := s.encOf p
  let s := (s.wr .ssiRaw v p).setEnc p { e with ssi := none, last := some v }
  match e.last with
  | none => (s.wr .encPos v p).wr .encPosmod (v % s.rd .axEncCpr p) p
  | some w => encAdd p (signed bits (v + 2 ^ bits - w % 2 ^ bits)) s

/-- The last bit of a frame has been sampled. A frame that is both late and of bad parity is reported late (DESIGN CHOICE, log entry
46). -/
def ssiJudge (p : Nat) (data : Word) (parity : Bool) (r : SsiRun) (s : State) : State :=
  let bits := s.rd .ssiBits p + 1
  let raw := data.toNat % 2 ^ bits
  if r.tick < s.now + 8 * rootPerCe then ssiBad p 3 s
  else if s.on .ssiPar p ∧ (popcount bits raw + b2n parity) % 2 = 1 then ssiBad p 2 s
  else ssiGood p bits (if s.on .ssiGray p then grayDecode bits raw else raw) s

def ssiFrameEnd (p : Nat) (data : Word) (parity : Bool) (s : State) : State :=
  match (s.encOf p).ssi with
  | none => s
  | some r => if s.mioOn ∧ s.now = r.sampleAt (r.nb - 1) then ssiJudge p data parity r s else s

/-! Pulse inputs (R98). -/

/-- An edge of a pulse port. The accepted levels are low at reset, and none is followed while the port is off (DESIGN CHOICE, log entry
46). -/
def pulseEdge (p : Nat) (a b : Bool) (held : Nat) (s : State) : State :=
  let e := s.plsOf p
  let s' := s.setPls p ⟨a, b⟩
  let dir (d : Int) : Int := if s.on .plsDirinv p then -d else d
  if !s.mioOn ∨ !accepted (s.rd .plsFilt p) held then s
  else
    match s.rd .plsMode p with
    | 1 => if !e.a ∧ a then s'.wrS .plsCnt (s.rdS .plsCnt p + dir (if e.b then 1 else -1)) p else s'
    | 2 =>
      if e.a ≠ a ∧ e.b ≠ b then raise .mioEncError 0 (p + 1024) (s'.bump .plsErr 1 p)
      else s'.wrS .plsCnt (s.rdS .plsCnt p + dir (quadStep e.a e.b a b)) p
    | _ => s

/-! The set-point ADC (R99). -/

/-- The next enabled channel after `last`, in ascending order with wrap. -/
def nextAdc (en last : Nat) : Option Nat := ((List.range 8).map fun k => (last + 1 + k) % 8).find? (bitOf en)

/-- Now is the start of an ADC slot: 210 PCLK from the epoch. -/
def atAdcSlot (s : State) : Bool := s.clk.up && s.mioOn && (s.now - s.clk.epoch) % (210 * rootPerP) == 0

def adcSlot (s : State) : State :=
  if atAdcSlot s then
    match nextAdc (s.rd .adcEn) s.loop.adc.last with
    | none => s
    | some c => { s with loop := { s.loop with adc := ⟨c, s.loop.adc.busy ++ [c]⟩ } }
  else s

/-- The code of an input of `v` nanovolts. -/
def adcCodeOf (v : Int) : Nat := min 4095 (max 0 (v * 4096 / 1800000000)).toNat

def adcConversionDone (nanovolts : Int) (s : State) : State :=
  match s.loop.adc.busy with
  | [] => s
  | c :: l =>
    if !s.mioOn then s
    else { s with loop := { s.loop with adc := { s.loop.adc with busy := l } } }.wr .adcCode (adcCodeOf nanovolts) c

end Sys2Proof.Machine
end

