-- ==== Sys2Proof/Machine/Clamp.lean ====
section
/-! DEFINITION. The Clamp firewalls: entries, the allow rule, validation, commits and the table CRC (chapter 12). -/

namespace Sys2Proof.Machine

/-! Entries (Table FAB-6). -/

def ClpEntry.v (e : ClpEntry) : Bool := bitOf e.w0 0 && !e.bad
def ClpEntry.r (e : ClpEntry) : Bool := bitOf e.w0 1
def ClpEntry.w (e : ClpEntry) : Bool := bitOf e.w0 2
def ClpEntry.excl (e : ClpEntry) : Bool := bitOf e.w0 3
def ClpEntry.tlo (e : ClpEntry) : Nat := bitsOf e.w0 8 10
def ClpEntry.thi (e : ClpEntry) : Nat := bitsOf e.w0 18 10
def ClpEntry.base (e : ClpEntry) : Nat := bitsOf e.w2 0 8 * 2 ^ 32 + e.w1
def ClpEntry.limit (e : ClpEntry) : Nat := bitsOf e.w2 8 8 * 2 ^ 32 + e.w3

/-- The defined bits of word k of an entry. -/
def clpMask (k : Nat) : Nat :=
  match k with
  | 0 => 0x0FFFFF0F
  | 2 => 0x0000FFFF
  | _ => 0xFFFFFFFF

/-- An entry from its fields. -/
def ClpEntry.make (r w excl : Bool) (tlo thi base limit : Nat) : ClpEntry :=
  { w0 := 1 + 2 * b2n r + 4 * b2n w + 8 * b2n excl + tlo % 1024 * 256 + thi % 1024 * 2 ^ 18, w1 := base % 2 ^ 32,
    w2 := base / 2 ^ 32 % 256 + limit / 2 ^ 32 % 256 * 256, w3 := limit % 2 ^ 32, bad := false, told := false }

/-- Entries of Clamp instance i (Table FAB-5). -/
def clpEntries (i : Nat) : Nat :=
  match i with
  | 0 => 1024
  | 1 => 512
  | 10 => 128
  | 11 => 128
  | _ => 64

/-- Bytes of a granule. -/
def clpGran (i : Nat) : Nat := if i = 0 then 4 else 4096

/-- First word of the table window of instance i, counted from FAB offset 0x4000. -/
def clpWord0 (i : Nat) : Nat :=
  match i with
  | 0 => 0
  | 1 => 0x1000
  | 10 => 0x2000
  | 11 => 0x2200
  | _ => 0x1800 + (i - 2) * 0x100

/-- Address bases of Table FAB-2. -/
def lsBase (core : Nat) : Nat := 0x1000000000 + core * 0x80000
def csBase (cluster : Nat) : Nat := 0x1004000000 + cluster * 0x400000
def perBase (slot : Nat) : Nat := 0x2000000000 + slot * 0x10000
def dwlBase : Nat := 0x3000000000
def hostBase : Nat := 0x8000000000

/-- The targets of instance i: first and last byte of each range. -/
def clpTargets (i : Nat) : List (Nat × Nat) :=
  match i with
  | 0 => [(0x2000000000, 0x2000FFFFFF)]
  | 1 => [(0, 0x07FFFFFFFF)]
  | 10 => [(hostBase, 0xFFFFFFFFFF)]
  | 11 => [(dwlBase, 0x3FFFFFFFFF)]
  | _ => [(lsBase (8 * (i - 2)), lsBase (8 * (i - 2) + 8) - 1), (csBase (i - 2), csBase (i - 1) - 1)]

/-- Last byte that an entry covers. -/
def ClpEntry.last (i : Nat) (e : ClpEntry) : Nat := e.limit / clpGran i * clpGran i + clpGran i - 1

/-- First byte that an entry covers. -/
def ClpEntry.first (i : Nat) (e : ClpEntry) : Nat := e.base / clpGran i * clpGran i

/-! The check (R234, R238, R239). -/

def State.clpTab (s : State) (i : Nat) : Tab ClpEntry := s.fab.active.get [] i

/-- Set the active table of instance i and NVALID. -/
def State.setClp (s : State) (i : Nat) (t : Tab ClpEntry) : State :=
  { s with fab := { s.fab with active := s.fab.active.set i t } }.wr .clpNvalid ((t.filter fun (e : Nat × ClpEntry) => e.2.v).length) i

/-- Does an entry touch a byte range? -/
def ClpEntry.touches (i lo hi : Nat) (e : ClpEntry) : Bool := e.first i ≤ hi && lo ≤ e.last i

/-- Does an entry match a request (R234)? -/
def ClpEntry.grants (i tid lo hi : Nat) (wr : Bool) (e : ClpEntry) : Bool :=
  e.v && e.first i ≤ lo && hi ≤ e.last i && e.tlo ≤ tid && tid ≤ e.thi && (if wr then e.w else e.r)

/-- Does a byte range touch a valid exclusive entry? -/
def clpExcl (i : Nat) (t : Tab ClpEntry) (lo hi : Nat) : Bool := t.any fun e => e.2.v && e.2.excl && e.2.touches i lo hi

/-- Is a request allowed by a table (R234)? -/
def clpAllows (i : Nat) (t : Tab ClpEntry) (tid lo hi : Nat) (wr : Bool) : Bool :=
  if clpExcl i t lo hi then t.any fun e => e.2.excl && e.2.touches i lo hi && e.2.grants i tid lo hi wr
  else tid == 0 || t.any fun e => e.2.grants i tid lo hi wr

/-- Entries found with bad parity for the first time raise EVT_FAB_CLAMP_PARITY (R239). -/
def clpParity (i tid : Nat) (s : State) : State :=
  (s.clpTab i).foldl
    (fun s e =>
      if e.2.bad ∧ !e.2.told then
        raise .fabClampParity tid (i + e.1 * 16) (s.setClp i ((s.clpTab i).set e.1 { e.2 with told := true }))
      else s) s

/-- Flip bit b of a word. -/
def flipBit (n b : Nat) : Nat := setBit n b (!bitOf n b)

/-! The CRC of a table (R239). -/

/-- One byte into a reflected CRC-32 with polynomial `poly`. -/
def crcByte (poly c b : Nat) : Nat :=
  (List.range 8).foldl (fun c _ => if c % 2 = 1 then (c / 2) ^^^ poly else c / 2) (c ^^^ b)

/-- CRC-32C of bytes: polynomial 0x82F63B78 reflected, initial and final 0xFFFF_FFFF. -/
def crc32c (l : List Nat) : Nat := (l.foldl (crcByte 0x82F63B78) 0xFFFFFFFF) ^^^ 0xFFFFFFFF

/-- Bytes of a word, little-endian, as numbers. -/
def wordBytes (w : Nat) : List Nat := [w % 256, w / 256 % 256, w / 65536 % 256, w / 16777216 % 256]

/-- The CRC of a table of instance i. -/
def clpCrcOf (i : Nat) (t : Tab ClpEntry) : Nat :=
  crc32c ((List.range (clpEntries i)).flatMap fun k =>
    let e := t.get .init k
    wordBytes e.w0 ++ wordBytes e.w1 ++ wordBytes e.w2 ++ wordBytes e.w3)

/-- What CLP_CRC of instance i shows (R239). -/
def shownCrc (s : State) (i : Nat) : Nat :=
  let h := s.fab.crc.get (0, 0) i
  if s.now < h.2 then h.1 else clpCrcOf i (s.clpTab i)

/-- The table of instance i is about to change: what CLP_CRC shows stays up to root time t. -/
def holdCrc (i t : Nat) (s : State) : State := { s with fab := { s.fab with crc := s.fab.crc.set i (shownCrc s i, t) } }

/-- Root cycles of a pass over the table of instance i: one entry per NCLK. -/
def passLen (i : Nat) : Nat := clpEntries i * rootPerN

/-- The end of the first complete pass that begins now or later, of the passes that follow one another from the alignment epoch
(DESIGN CHOICE, log 8). -/
def passEnd (s : State) (i : Nat) : Nat := s.clk.epoch + (ceilDiv (s.now - s.clk.epoch) (passLen i) + 1) * passLen i

def clpUpset (u : ClpUpset) (s : State) : State :=
  let e := (s.clpTab u.inst).get .init u.entry
  let k := u.bit / 32 % 4
  let b := u.bit % 32
  if u.entry < clpEntries u.inst ∧ bitOf (clpMask k) b then
    let e := { e with bad := !e.bad, told := false }
    let e :=
      match k with
      | 0 => { e with w0 := flipBit e.w0 b }
      | 1 => { e with w1 := flipBit e.w1 b }
      | 2 => { e with w2 := flipBit e.w2 b }
      | _ => { e with w3 := flipBit e.w3 b }
    (holdCrc u.inst (s.now + passLen u.inst) s).setClp u.inst ((s.clpTab u.inst).set u.entry e)
  else s

/-! Commits (R236, R237). -/

/-- Entry e of the staging copy of instance i. -/
def stagedEntry (s : State) (i e : Nat) : ClpEntry :=
  let k := clpWord0 i + 4 * e
  ⟨s.rd .clpStage k, s.rd .clpStage (k + 1), s.rd .clpStage (k + 2), s.rd .clpStage (k + 3), false, false⟩

/-- Stage an entry. -/
def stageEntry (i e : Nat) (x : ClpEntry) (s : State) : State :=
  let k := clpWord0 i + 4 * e
  (((s.wr .clpStage x.w0 k).wr .clpStage x.w1 (k + 1)).wr .clpStage x.w2 (k + 2)).wr .clpStage x.w3 (k + 3)

/-- The staging copy of instance i, entries that are not all zero. -/
def stagedTable (s : State) (i : Nat) : Tab ClpEntry :=
  ((List.range (clpEntries i)).map fun e => (e, stagedEntry s i e)).filter fun e => e.2 != .init

/-- The first case of R237 that entry e of a table meets; 0 if none. -/
def clpCause (i : Nat) (t : Tab ClpEntry) (k : Nat) (e : ClpEntry) : Nat :=
  if !e.v then 0
  else if e.limit < e.base ∨ e.thi < e.tlo then 1
  else if e.base % clpGran i ≠ 0 ∨ e.limit % clpGran i ≠ 0 then 2
  else if !((clpTargets i).any fun r => r.1 ≤ e.base && e.last i ≤ r.2) then 3
  else if e.excl ∧ t.any fun x =>
      decide (x.1 < k) && x.2.v && x.2.excl && x.2.touches i (e.first i) (e.last i) && (x.2.tlo != e.tlo || x.2.thi != e.thi)
    then 4
  else if e.excl ∧ i = 0 ∧ e.touches 0 (perBase 0) (perBase 1 - 1) then 5
  else 0

/-- The first offending entry and its case, in ascending index (R237). -/
def clpOffence (i : Nat) (t : Tab ClpEntry) : Option (Nat × Nat) :=
  (t.map fun e => (e.1, clpCause i t e.1 e.2)).find? fun x => x.2 != 0

/-- FAB offset of word 0 of entry e of instance i. -/
def clpEntryOff (i e : Nat) : Nat := 0x4000 + 4 * clpWord0 i + 16 * e

/-- EVT_FAB_CFG_REJECT. -/
def fabReject (tid off : Nat) (s : State) : State := raise .fabCfgReject tid off s

/-- Set the commit that waits at instance i. -/
def State.setClpPend (s : State) (i : Nat) (p : Option ClpPend) : State :=
  { s with fab := { s.fab with pend := s.fab.pend.set i p } }

/-- A write of CLP_COMMIT (R236); while a commit waits, only GO is discarded (R512). -/
def clampGo (tid i : Nat) (v : Word) (s : State) : State :=
  let w := (s.wr .clpCommitAtTick (bitsOf v.toNat 1 1) i).wr .clpCommitAxis (bitsOf v.toNat 2 3) i
  if !bitOf v.toNat 0 then w
  else
  match s.fab.pend.get none i with
  | some _ => fabReject tid (0x1000 + i * 0x20) w
  | none =>
    let s := w
    (s.wr .clpCommitGo 1 i).setClpPend i
      (some ⟨stagedTable s i, s.now, s.on .clpCommitAtTick i, s.rd .clpCommitAxis i⟩)

/-- The active table becomes `t`, and the Safety Island's copy `own`. -/
def activateClamp (i : Nat) (t own : Tab ClpEntry) (s : State) : State :=
  let s := holdCrc i (passEnd s i) { s with fab := { s.fab with own := s.fab.own.set i own } }
  raise .fabClampCommit 0 i (s.setClp i t)

/-- A commit takes effect or is rejected: validation has ended, and with AT_TICK a tick of the axis has come. -/
def clampActivate (i : Nat) (s : State) : State :=
  match s.fab.pend.get none i with
  | none => s
  | some p =>
    if s.now < p.goAt + clpEntries i * rootPerN then s
    else
      match clpOffence i p.tbl with
      | some (e, c) =>
        let s := ((s.setClpPend i none).wr .clpCommitGo 0 i).wr .clpRej 1 i
        fabReject 0 (clpEntryOff i e) (s.wr .clpCause c i)
      | none =>
        if p.atTick ∧ (s.tickNow p.axis).isNone then s
        else activateClamp i p.tbl p.tbl (((s.setClpPend i none).wr .clpCommitGo 0 i).wr .clpRej 0 i)

/-- The Safety Island puts entries into the lowest entries of instance i that are not valid, in its table (staging copy,
active table and own copy) at once, and the commit is reported. -/
def islandInstall (i : Nat) (l : List ClpEntry) (s : State) : State :=
  let free := (List.range (clpEntries i)).filter fun e => !(bitOf (stagedEntry s i e).w0 0) && !((s.clpTab i).get .init e).v
  let put := free.zip l
  let s := put.foldl (fun s p => stageEntry i p.1 p.2 s) s
  let add (t : Tab ClpEntry) := put.foldl (fun (t : Tab ClpEntry) p => t.set p.1 p.2) t
  activateClamp i (add (s.clpTab i)) (add (s.fab.own.get [] i)) s

/-- The Safety Island removes the entries of instance i that `p` picks. -/
def islandRemove (i : Nat) (p : ClpEntry → Bool) (s : State) : State :=
  let gone := (s.clpTab i).filter fun e => p e.2
  let s := gone.foldl (fun s e => stageEntry i e.1 .init s) s
  activateClamp i ((s.clpTab i).filter fun e => !p e.2) ((s.fab.own.get [] i).filter fun e => !p e.2) s

end Sys2Proof.Machine
end

