-- ==== Sys2Proof/Machine/Ecc.lean ====
section
/-! DEFINITION. ECC of the scratchpads and of DRAM (R210, R211, R246, R247). -/

namespace Sys2Proof.Machine

/-- Scratchpad addresses. -/
def isSpm (a : Nat) : Bool := 0x1000000000 ≤ a && a < 0x1006000000

/-- The ECC unit of an address: 8 bytes in a scratchpad, 64 bytes in DRAM. -/
def eccUnit (a : Nat) : Nat := if isSpm a then 8 else 64

/-- The unit that holds an address. -/
def eccBase (a : Nat) : Nat := a / eccUnit a * eccUnit a

/-- The ECC units that a range touches. -/
def eccUnits (a n : Nat) : List Nat :=
  let u := eccUnit a
  (List.range ((a % u + n + u - 1) / u)).map fun k => a / u * u + k * u

/-- ARG of the scratchpad ECC events (Table SPM-7). -/
def spmArg (a : Nat) : Nat :=
  if a < 0x1004000000 then (a - 0x1000000000) / 0x80000 + (a % 0x80000) / 0x8000 * 256
  else 32768 + (a - 0x1004000000) / 0x400000 + (a % 0x400000) / 0x20000 * 256

/-- DRAM channel of an address (R244). -/
def dramCh (a : Nat) : Nat := a / 256 % 8

/-- A single-bit error has been corrected. -/
def eccCorrected (tid b : Nat) (s : State) : State :=
  if isSpm b then
    let s := s.bump .spmEccCorr 1
    let s := { s with ecc := { s.ecc with wb := if b ∈ s.ecc.wb then s.ecc.wb else s.ecc.wb ++ [b] } }
    if s.ecc.spmTold then s else raise .spmEccCorr tid (spmArg b) { s with ecc := { s.ecc with spmTold := true } }
  else
    let s := (s.bump .memcEccCorr 1).bump .memcChCorr 1 (dramCh b)
    let s := { s with ecc := { s.ecc with cor := s.ecc.cor.filter (· != b) } }
    if s.ecc.memTold then s else raise .memEccCorr tid (dramCh b) { s with ecc := { s.ecc with memTold := true } }

/-- Does core t belong to slot n as configured? -/
def mitHasCore (s : State) (n t : Nat) : Bool := s.rd .mitCluster n == t / 8 && s.rdBit .mitCores (t % 8) n

/-- Does CS bank b of cluster c belong to slot n as configured? -/
def mitHasBank (s : State) (n c b : Nat) : Bool :=
  s.rd .mitCluster n == c && s.rd .mitWbankBase n ≤ b && b < s.rd .mitWbankBase n + s.rd .mitWbanks n

/-- Does a scratchpad address lie in the LS of the cores of slot n, or in its CS banks? -/
def mitOwns (s : State) (n a : Nat) : Bool :=
  if a < 0x1004000000 then mitHasCore s n ((a - 0x1000000000) / 0x80000)
  else mitHasBank s n ((a - 0x1004000000) / 0x400000) (a % 0x400000 / 0x20000)

/-- An error of two or more bits has been found; `scrub`: by a scrub read. In the memory of an ARMED slot it is cause 1 of R114,
whoever met it. -/
def eccUncorr (tid b : Nat) (scrub : Bool) (s : State) : State :=
  if isSpm b then
    let s := ((s.bump .spmEccUnc 1).wr .spmEccAddrLo (b / 8)).wr .spmEccAddrHi (b / 2 ^ 32)
    foldN 8 (fun n s => if mitOwns s n b then mitreFault n 1 s else s) (raise .spmEccUncorr tid (spmArg b) s)
  else
    let s := ((s.bump .memcEccUnc 1).wr .memcEccAddrLo (b / 64)).wr .memcEccAddrHi (b / 2 ^ 32)
    raise .memEccUncorr tid (dramCh b + b2n scrub * 256) ((s.wr .memcEccCh (dramCh b)).wr .memcEccSrc (b2n scrub))

/-- Read the unit at `b`: true if it is uncorrectable. -/
def eccReadUnit (tid : Nat) (x : Bool × State) (b : Nat) : Bool × State :=
  let s := x.2
  if b ∈ s.ecc.unc then (true, eccUncorr tid b false s)
  else if b ∈ s.ecc.cor then (x.1, eccCorrected tid b s)
  else (x.1, s)

/-- The ECC of a read of `n` bytes: true if any unit is uncorrectable. -/
def eccRead (tid a n : Nat) (s : State) : Bool × State := (eccUnits a n).foldl (eccReadUnit tid) (false, s)

/-- Is the unit at `b` wholly inside a range? -/
def eccWhole (a n b : Nat) : Bool := a ≤ b && b + eccUnit b ≤ a + n

/-- Units get the ECC of what they hold now. -/
def eccFresh (us : List Nat) (s : State) : State :=
  let out (b : Nat) : Bool := !us.contains b
  { s with ecc := { s.ecc with cor := s.ecc.cor.filter out, unc := s.ecc.unc.filter out, wb := s.ecc.wb.filter out } }

/-- The ECC of a write of `n` bytes: whole units are repaired, the others are read first, merged and given new ECC (R207); true if a
unit found uncorrectable makes the write fail. -/
def eccWrite (tid a n : Nat) (s : State) : Bool × State :=
  let us := eccUnits a n
  let (bad, s) := (us.filter fun b => !eccWhole a n b).foldl (eccReadUnit tid) (false, s)
  if bad then (true, s) else (false, eccFresh us s)

/-- Write bytes with their ECC: true if the write fails. -/
def eccPut (tid a : Nat) (l : List Byte) (s : State) : Bool × State :=
  let (bad, s) := eccWrite tid a l.length s
  (bad, if bad then s else s.wrBytes a l)

/-- Read bytes with their ECC: true if the read fails. -/
def eccGet (tid a n : Nat) (s : State) : Bool × List Byte × State :=
  let (bad, s) := eccRead tid a n s
  (bad, s.rdBytes a n, s)

/-! Banks (R202, R203). -/

/-- The bank of an address: LS bank b of core t is t × 16 + b, CS bank b of cluster c is 1024 + c × 32 + b (R202). -/
def bankOf (a : Nat) : Nat :=
  if a < 0x1004000000 then (a - 0x1000000000) / 0x80000 * 16 + a % 0x80000 / 0x8000
  else 1024 + (a - 0x1004000000) / 0x400000 * 32 + a % 0x400000 / 0x20000

def State.bank (s : State) (k : Nat) : SpmBank := s.spm.bank.get .init k
def State.setBank (s : State) (k : Nat) (b : SpmBank) : State := { s with spm := { s.spm with bank := s.spm.bank.set k b } }

/-- Root time at which the TCLK of now began. -/
def tclkStart (s : State) : Nat := s.now - (s.now - s.clk.epoch) % rootPerT

/-- Has the bank granted an access in this TCLK? -/
def bankTaken (s : State) (k : Nat) : Bool :=
  match (s.bank k).grantAt with
  | some t => decide (tclkStart s ≤ t)
  | none => false

/-- The bank grants an access in this TCLK. -/
def takeBank (k : Nat) (s : State) : State := s.setBank k { s.bank k with grantAt := some s.now }

/-- An upset strikes: a second one in a unit makes it uncorrectable. -/
def upset (u : Upset) (s : State) : State :=
  let b := eccBase u.addr
  if b ∈ s.ecc.unc then s
  else if u.double ∨ b ∈ s.ecc.cor then
    { s with ecc := { s.ecc with unc := b :: s.ecc.unc, cor := s.ecc.cor.filter (· != b) } }
  else { s with ecc := { s.ecc with cor := b :: s.ecc.cor } }

def upsets (l : List Upset) (s : State) : State := l.foldl (fun s u => upset u s) s

end Sys2Proof.Machine
end

