-- ==== Sys2Proof/Machine/Mitre.lean ====
section
/-! DEFINITION. Mitre slots: loading, arming, the invocation, the commit (chapter 05). -/

namespace Sys2Proof.Machine

/-- Offset of slot n in the MIT block (Table MIT-4). -/
def mitOff (n : Nat) : Nat := 0x100 + n * 0x100

/-- EVT_MIT_CFG_REJECT for an offset. -/
def mitReject (tid off : Nat) (s : State) : State := raise .mitCfgReject tid off s

/-- TID of slot n (Table ARC-6). -/
def mitTid (n : Nat) : Nat := 16 + n

/-- Is the configuration of a slot held: ARMED, FAULT, or an arming waits (R103)? -/
def mitHeld (s : State) (n : Nat) : Bool := 2 ≤ s.rd .mitState n || (s.slot n).armPend == some true

/-! What a slot reserves (R100). -/

/-- Is core t reserved by a slot that is not OFF? -/
def coreReserved (s : State) (t : Nat) : Bool := (List.range 8).any fun n => s.rd .mitState n != 0 && mitHasCore s n t

/-- Is CS bank b of cluster c reserved by a slot that is not OFF? -/
def bankReserved (s : State) (c b : Nat) : Bool := (List.range 8).any fun n => s.rd .mitState n != 0 && mitHasBank s n c b

/-- Does core t belong to an ARMED slot, and to which? -/
def armedSlotOf (s : State) (t : Nat) : Option Nat := (List.range 8).find? fun n => s.armed n && mitHasCore s n t

/-- Cores set in CORES. -/
def mitCoreCount (s : State) (n : Nat) : Nat := popcount 8 (s.rd .mitCores n)

/-- Does slot n share a core or a bank with slot m (R100)? -/
def mitOverlap (s : State) (n m : Nat) : Bool :=
  (List.range 8).any (fun j => mitHasCore s n (8 * s.rd .mitCluster n + j) && mitHasCore s m (8 * s.rd .mitCluster n + j)) ||
    (List.range 32).any fun b => mitHasBank s n (s.rd .mitCluster n) b && mitHasBank s m (s.rd .mitCluster n) b

/-- R100 for an arm request. -/
def mitShapeOk (s : State) (n : Nat) : Bool :=
  s.rd .mitCores n != 0 && s.rd .mitWbankBase n + s.rd .mitWbanks n ≤ 32 &&
    (List.range 8).all fun m => m == n || s.rd .mitState m == 0 || !mitOverlap s n m

/-- Does core t carry an ordinary context or task? A context slot that is not FREE has it in its mask, or its TC_STAT says
that work runs. -/
def coreCarries (s : State) (t : Nat) : Bool :=
  s.rd .tcState t == 1 ||
    (List.range 64).any fun k =>
      s.rd .ctxState k != 0 && (if t < 32 then s.rdBit .ctxCoresLo t k else s.rdBit .ctxCoresHi (t - 32) k)

/-- The three checks of R104: bytes over for weights and LS, and TCLK over. -/
structure MitFit where
  w : Nat
  ls : Nat
  t : Nat
deriving DecidableEq, Repr

/-- The largest MIT_WCET that passes the third check of R104 against a shortest period; none if no value does. -/
def maxWcet (pMin : Nat) : Option Nat :=
  if 1261 ≤ pMin ∧ 24 ≤ (pMin - 1261) * 5 / 2 then some ((pMin - 1261) * 5 / 2 - 24) else none

/-- Does a WCET pass the third check of R104? -/
def wcetFits (wcet pMin : Nat) : Bool := 420 + ceilDiv ((wcet + 24) * 2) 5 + 841 ≤ pMin

/-- Bytes of the vibration rings that MIT_VIB selects: 2 × L words a channel (R108). -/
def vibRingBytes (s : State) (n : Nat) : Nat := popcount 8 (s.rd .mitVibCh n) * (2 * (s.rd .mitVibLen n + 1)) * 4

/-- The LS image: program, input record, vibration ring, activations, and two state buffers (R104). -/
def lsImageOf (s : State) (n prog act : Nat) : Nat := prog + 1024 + vibRingBytes s n + act + 2 * s.rd .mitStateSz n

/-- What a model is over by. -/
def mitFit (s : State) (n weightBytes prog act wcet : Nat) : MitFit :=
  let p := shortestPer (s.rd .tbBase) (s.rd .axTbPer n)
  ⟨weightBytes - s.rd .mitWbanks n * 131072, lsImageOf s n prog act - mitCoreCount s n * 524288,
    if wcetFits wcet p then 0 else match maxWcet p with
      | some m => wcet - m
      | none => wcet + 1⟩

/-- Fits (R104)? -/
def MitFit.ok (f : MitFit) : Bool := f.w == 0 && f.ls == 0 && f.t == 0

/-! Commands on a slot (R103, Table MIT-1). -/

def mitreLoaded (tid n recAddr ringAddr : Nat) (s : State) : State :=
  if s.rd .mitState n ≤ 1 then
    ((s.wr .mitState 1 n).wr .mitImg 1 n).setSlot n { s.slot n with recAddr := recAddr, ringAddr := ringAddr }
  else mitReject tid (mitOff n) s

/-- The conditions of R100 and R103 for an arm request. -/
def armOk (s : State) (n : Nat) : Bool :=
  let m := s.slot n
  s.rd .mitState n == 1 && s.on .mitImg n && mitShapeOk s n &&
    ((List.range 8).all fun j => !(s.rdBit .mitCores j n) || !(coreCarries s (8 * s.rd .mitCluster n + j))) &&
    s.clockOn (s.rd .mitCluster n + 3) && (mitFit s n m.weightBytes m.prog m.act (s.rd .mitWcet n)).ok

def mitreArmRequest (tid n : Nat) (s : State) : State :=
  if s.on .mitArm n then s
  else if armOk s n then (s.wr .mitArm 1 n).setSlot n { s.slot n with armPend := some true }
  else mitReject tid (mitOff n) s

def mitreDisarm (n : Nat) (s : State) : State :=
  let m := s.slot n
  let s := s.wr .mitArm 0 n
  if 2 ≤ s.rd .mitState n then s.setSlot n { m with armPend := some false } else s.setSlot n { m with armPend := none }

def mitreUnload (n : Nat) (s : State) : State :=
  if s.rd .mitState n = 1 ∧ (s.slot n).armPend ≠ some true then
    let free (l : Tab Nat) (t : Nat) : Tab Nat := if mitHasCore s n t then l.set t s.now else l
    ({ s with sch := { s.sch with idle := (List.range 64).foldl free s.sch.idle } }.wr .mitState 0 n).wr .mitImg 0 n
  else s

/-- Write MIT_WCET under its lock and R103. -/
def mitWcetWrite (tid n v : Nat) (s : State) : State :=
  if s.on .mitLock then lockedWrite tid 5 s
  else if mitHeld s n then mitReject tid (mitOff n + 8) s
  else s.wr .mitWcet v n

/-- Error codes of the host library (Table PCI-8). -/
def molBusy : Nat := 1
def molNomem : Nat := 2
def molRejected : Nat := 3
def molArg : Nat := 4
def molNoslot : Nat := 5

/-- A load. Into a slot that is ARMED or FAULT it fails with MOL_E_BUSY and classifies nothing. -/
def mitreModelLoad (n weightBytes prog act wcet modelId : Nat) (s : State) : State :=
  if 2 ≤ s.rd .mitState n then { s with sch := { s.sch with load := { s.sch.load with err := molBusy } } }
  else
    let f := mitFit s n weightBytes prog act wcet
    let rep : LoadRep := ⟨modelId, if f.ok then 0 else 3, if f.ok then 0 else 5, f.w, f.ls, f.t, 0, if f.ok then 0 else molRejected⟩
    let s := { s with sch := { s.sch with load := rep } }
    if f.ok then
      mitWcetWrite 1 n wcet
        (s.setSlot n { s.slot n with weightBytes := weightBytes, prog := prog, act := act, modelId := modelId })
    else raise .schMitreOversize 1 (n + (if f.w ≠ 0 then 0 else if f.ls ≠ 0 then 16 else 32)) s

/-! The LS of a group (R18, R107, R108). -/

/-- The fabric address of byte `off` of the LS of slot n: its cores in ascending order, one after the other. Every offset leads into the
LS of the group, so the loop path writes no other memory (R18). -/
def mitLs (s : State) (n off : Nat) : Nat :=
  let cores := whichOf 8 fun j => s.rdBit .mitCores j n
  lsBase (8 * s.rd .mitCluster n + cores.getD (off / 0x80000 % cores.length) 0) + off % 0x80000

/-- The input port of slot n writes bytes to the LS of its group, piece by piece where they pass from one core to the next. -/
def mitPut (n : Nat) : Nat → Nat → List Byte → State → State
  | 0, _, _, s => s
  | fuel + 1, off, l, s =>
    if l.isEmpty then s
    else
      let k := min l.length (0x80000 - off % 0x80000)
      mitPut n fuel (off + k) (l.drop k) (eccPut (mitTid n) (mitLs s n off) (l.take k) s).2

/-- Bytes that lie in at most two cores. -/
def mitWriteLs (n off : Nat) (l : List Byte) (s : State) : State := mitPut n 2 off l s

/-! Vibration rings (R108). -/

/-- L. -/
def vibLen (s : State) (n : Nat) : Nat := s.rd .mitVibLen n + 1

/-- The channels that slot n selects, ascending, as stream number − 40. -/
def vibSel (s : State) (n : Nat) : List Nat := whichOf 8 fun q => s.rdBit .mitVibCh q n

/-- Offset of ring position p of the k-th selected channel: the image gives the place of the first ring, and the rings follow each
other in ascending stream order, without a gap (DESIGN CHOICE, log entry 36). -/
def vibOff (s : State) (n k p : Nat) : Nat := (s.slot n).ringAddr / 4 * 4 + (k * 2 * vibLen s n + p) * 4

/-- The input port writes a sample of stream 40 + q with its stamp: a narrow write, which never waits and takes the bank in this TCLK
and the next (R209). -/
def vibSample (n q : Nat) (v : Int) (sec ns : Nat) (s : State) : State :=
  match (vibSel s n).idxOf? q with
  | none => s
  | some k =>
    let m := s.slot n
    let c := m.vib.get .init k
    let off := vibOff s n k (c.c % (2 * vibLen s n))
    let s := takeBank (bankOf (mitLs s n off)) (mitWriteLs n off (leBytes 4 (u32 v)) s)
    let m := s.slot n
    s.setSlot n { m with vib := m.vib.set k ⟨c.c + 1, (⟨sec, ns⟩ :: c.stamps).take (2 * vibLen s n)⟩ }

/-- The window word and stamp of a channel at the invocation of a tick with DTIME (sec, ns). -/
def vibWindow (l : Nat) (c : VibChan) (sec ns : Nat) : Nat × Nat :=
  match c.stamps.findIdx? fun x => x.sec < sec || (x.sec == sec && x.ns ≤ ns) with
  | none => (0xFFFFFFFF, 0)
  | some d =>
    let p := (c.c - 1 - d) % (2 * l)
    let written := (List.range l).countP fun k => decide ((p + 2 * l - k) % (2 * l) < c.c)
    (p + written * 65536, (c.stamps.getD d ⟨0, 0⟩).ns)

/-! The invocation (R106, R107, R109). -/

/-- The 256 words of the input record (Table MIT-2). -/
def inputRecord (s : State) (n : Nat) : List Nat :=
  let x := (s.ax n).smp
  let m := s.slot n
  let vib := (List.range 4).flatMap fun k =>
    if k < (vibSel s n).length then
      let w := vibWindow (vibLen s n) (m.vib.get .init k) x.sec x.ns
      [w.1, w.2]
    else [0, 0]
  [u32 x.ia, u32 x.ib, u32 x.ic, u32 x.pos, x.posmod, u32 x.pls, x.adc, s.rd .mitSeq n + s.rd .mitSbuf n * 65536,
    x.sec % 2 ^ 32, x.ns, b2n m.prevOk, 0, 0, 0, 0, 0] ++
    (List.range 16).map (fun g => s.loop.gVal.get 0 g) ++
    (List.range 16).flatMap (fun g => [s.loop.gSec.get 0 g, s.loop.gNs.get 0 g]) ++ vib ++ List.replicate 184 0

/-- Fall-back values of the mailbox (Table MIT-3). -/
def mitFallback (s : State) (n : Nat) : List Nat := [0, 0, s.rd .mitFbFeed n, 0] ++ (s.slot n).obs

/-- Now is t = 420 of the open period of axis n. -/
def atInvocation (s : State) (n : Nat) : Bool :=
  let a := s.ax n
  s.onCeEdge && a.open_ && s.now == a.tickAt + 420 * rootPerCe

def mitreInvocationStart (n : Nat) (s : State) : State :=
  if s.armed n ∧ atInvocation s n then
    let s := s.wr .mitSeq (s.ax n).idx n
    let s := s.setSlot n { s.slot n with running := true, begun := true, startAt := s.now, seen := false,
                                         stage := mitFallback s n }
    mitWriteLs n ((s.slot n).recAddr / 128 * 128) ((inputRecord s n).flatMap (leBytes 4)) s
  else s

/-- The end of the CECLK of t_commit has come. -/
def pastCommit (s : State) (n : Nat) : Bool :=
  let a := s.ax n
  a.open_ && a.tickAt + (a.per + 1) * rootPerCe ≤ s.now + 840 * rootPerCe

def mitreInvocationStop (n : Nat) (s : State) : State :=
  if (s.slot n).running ∧ pastCommit s n then
    (s.wr .mitLastT 0xFFFFF n).setSlot n { s.slot n with running := false }
  else s

/-! The commit (R110, R111). -/

/-- A write of MIT_MBXk. -/
def mbxWrite (tid n k v : Nat) (s : State) : State :=
  let m := s.slot n
  if tid = mitTid n ∧ s.armed n ∧ m.begun then s.setSlot n { m with stage := m.stage.set k v } else s

/-- CECLK from the tick of axis n to the first CECLK edge at or after now. -/
def commitEdge (s : State) (n : Nat) : Nat := ceilDiv (s.now - (s.ax n).tickAt) rootPerCe

/-- Root time at which a commit whose write completes now completes. -/
def commitAt (s : State) (n : Nat) : Nat := (s.ax n).tickAt + commitEdge s n * rootPerCe

/-- The invocation ends with its commit: MIT_LAST_T. -/
def endInvocation (n : Nat) (s : State) : State :=
  let m := s.slot n
  if m.running then
    (s.wr .mitLastT (ceilDiv (commitAt s n - m.startAt) rootPerT) n).setSlot n { m with running := false }
  else s

/-- A first matching commit: accepted before t_commit, else discarded (R23). -/
def firstCommit (n : Nat) (s : State) : State :=
  let m := s.slot n
  let t := commitEdge s n
  if t + 840 < (s.ax n).per then
    (s.wr .mitSbuf (1 - s.rd .mitSbuf n) n).setSlot n { m with seen := true, commit := some m.stage, commitT := t }
  else s.setSlot n { m with seen := true, late := true }

/-- Would a commit whose write completes now complete after the CECLK of t_commit? It is never made (R109). -/
def commitTooLate (s : State) (n : Nat) : Bool := (s.ax n).per < commitEdge s n + 840

def mitreCommit (tid n : Nat) (v : BitVec 16) (s : State) : State :=
  if tid = mitTid n ∧ s.armed n ∧ (s.slot n).begun ∧ (s.ax n).open_ then
    if commitTooLate s n then mitreInvocationStop n s
    else
      let s := endInvocation n s
      if v.toNat ≠ s.rd .mitSeq n then raise .mitSeqMismatch tid n (s.bump .mitSeqerr 1 n)
      else if (s.slot n).seen then raise .mitDoubleCommit tid n (s.bump .mitDcommit 1 n)
      else firstCommit n s
  else s

def mitreMissLimit (n : Nat) (s : State) : State :=
  if s.rd .mitMissLimit n ≠ 0 ∧ s.rd .mitMissLimit n ≤ s.rd .mitConsec n then mitreFault n 4 s else s

/-! Arming and disarming at a tick (R101, R103). -/

/-- Runs of consecutive cores of a mask of 8: first core and length. -/
def coreRuns (mask : Nat) : List (Nat × Nat) :=
  (List.range 8).filterMap fun j =>
    if bitOf mask j ∧ (j = 0 ∨ !(bitOf mask (j - 1))) then
      some (j, ((List.range (8 - j)).takeWhile fun k => bitOf mask (j + k)).length)
    else none

/-- The exclusive entries of slot n (R234): one for each run of cores, one for the CS run. -/
def mitEntries (s : State) (n : Nat) : List ClpEntry :=
  let c := s.rd .mitCluster n
  let mk (lo len : Nat) := ClpEntry.make true true true (mitTid n) (mitTid n) lo (lo + len - 4096)
  ((coreRuns (s.rd .mitCores n)).map fun r => mk (lsBase (8 * c + r.1)) (r.2 * 0x80000)) ++
    [mk (csBase c + s.rd .mitWbankBase n * 0x20000) (s.rd .mitWbanks n * 0x20000)]

/-- Set TC_STAT of the cores of slot n; a stopped core stays stopped. -/
def mitCores (n st tid : Nat) (s : State) : State :=
  foldN 8 (fun j s =>
    let t := 8 * s.rd .mitCluster n + j
    if s.rdBit .mitCores j n ∧ s.rd .tcState t ≠ 3 then (s.wr .tcState st t).wr .tcTid tid t else s) s

/-- The input port writes 0 to every ring position. -/
def clearRings (n : Nat) (s : State) : State :=
  mitWriteLs n (vibOff s n 0 0) (List.replicate (vibRingBytes s n) 0) s

/-- An arming takes effect at the tick; one whose slot has lost its image does not. -/
def armAtTick (n : Nat) (s : State) : State :=
  let m := s.slot n
  if s.rd .mitState n = 1 ∧ s.on .mitImg n then
    let s := (((s.wr .mitState 2 n).wr .mitCause 0 n).wr .mitSbuf 0 n).wr .mitConsec 0 n
    let s := s.setSlot n { m with armPend := none, running := false, begun := false, prevOk := false, vib := [] }
    let s := islandInstall (2 + s.rd .mitCluster n) (mitEntries s n) (mitCores n 2 (mitTid n) (clearRings n s))
    raise .mitArmed (mitTid n) (n + 8) s
  else (s.wr .mitArm 0 n).setSlot n { m with armPend := none }

/-- Take the exclusive entries of slot n out of its cluster's Clamp. -/
def dropMitEntries (n : Nat) (s : State) : State :=
  islandRemove (2 + s.rd .mitCluster n) (fun e => e.excl && e.tlo == mitTid n && e.thi == mitTid n) s

/-- A disarming takes effect at the tick. -/
def disarmAtTick (n : Nat) (s : State) : State :=
  let m := s.slot n
  let s := (s.wr .mitState 1 n).setSlot n { m with armPend := none, running := false, begun := false }
  raise .mitArmed (mitTid n) n (mitCores n 0 0 (dropMitEntries n s))

/-- What a tick does to slot n: arming and disarming, and a new period without a commit. -/
def mitreTick (n : Nat) (s : State) : State :=
  let m := s.slot n
  let s := s.setSlot n { m with begun := false, commit := none, commitT := 0xFFFFF, seen := false, late := false }
  match m.armPend with
  | some true => armAtTick n s
  | some false => disarmAtTick n s
  | none => s

end Sys2Proof.Machine
end

