-- ==== Sys2Proof/Machine/Access.lean ====
section
/-! DEFINITION. Requests on the fabric: decode, width, Clamp, gate, and the record of a failure (chapter 12). -/

namespace Sys2Proof.Machine

/-- A request. -/
structure Req where
  port : Nat
  tid : Nat
  addr : Nat
  len : Nat
  wr : Bool
deriving DecidableEq, Repr

/-- The windows of Table FAB-2. -/
inductive Win where
  | dram
  | ls (core : Nat)
  | cs (cluster : Nat)
  | per (slot : Nat)
  | dwl
  | host
deriving DecidableEq, Repr

/-- Usable capacity in bytes of a density code (R245, Table MEM-10). -/
def usableOf (dens : Nat) : Nat := 8 * 2 ^ dens * 2 ^ 30 / 32 * 31

/-- Usable DRAM capacity in bytes: MEMC_CFG.DENS sets it (R245). -/
def dramUsable (s : State) : Nat := usableOf (s.rd .memcDens)

/-- MEMC_USABLE reads U (R245). -/
def showUsable (s : State) : State := (s.wr .memcUsableLo (dramUsable s / 64)).wr .memcUsableHi (dramUsable s / 2 ^ 32)

/-- The assigned slots of Table FAB-3. -/
def slotAssigned (k : Nat) : Bool := k ≤ 34

/-- PCIE_HWIN. -/
def hostWinBase (s : State) : Nat := s.rd .pcieHwinHi * 2 ^ 32 + s.rd .pcieHwinLo * 4096

/-- Does a function-level reset run? It completes within 100 ms (R393). -/
def flrRuns (s : State) : Bool :=
  match s.host.flr with
  | none => false
  | some t => decide (s.now < t + 100 * rootPerMs)

/-- Is the host window open (R379)? -/
def hostOpen (s : State) : Bool := s.on .pcieBme && !(s.on .pcieD3) && !(flrRuns s) && s.on .pcieUp

/-- May this device reach node k through the remote window (R403)? -/
def remoteOk (s : State) (k : Nat) : Bool :=
  let serves (st : Nat) : Bool := st == 3 || st == 4
  let own := match s.rd .asmRole with
    | 1 => k == 0 || serves (s.dwl.wk.get .init k).state
    | 2 => !s.dwl.held && (match s.dwl.verdict with
      | some v => serves v
      | none => false)
    | _ => false
  own && k != s.rd .asmNode && s.rdBit .dwlRouteV k

/-- Decode an address (R222, R223, R378, R379, R403). -/
def decodeAddr (s : State) (a : Nat) : Option Win :=
  if a < 0x0800000000 then if a < dramUsable s then some .dram else none
  else if 0x1000000000 ≤ a ∧ a < 0x1002000000 then some (.ls ((a - 0x1000000000) / 0x80000))
  else if 0x1004000000 ≤ a ∧ a < 0x1006000000 then some (.cs ((a - 0x1004000000) / 0x400000))
  else if 0x2000000000 ≤ a ∧ a < 0x2001000000 then
    let k := (a - 0x2000000000) / 0x10000
    if slotAssigned k then some (.per k) else none
  else if 0x3000000000 ≤ a ∧ a < 0x4000000000 then if remoteOk s ((a - 0x3000000000) / 2 ^ 32) then some .dwl else none
  else if 0x8000000000 ≤ a ∧ a < 0x10000000000 ∧ hostOpen s ∧ hostWinBase s + (a - 0x8000000000) < 2 ^ 64 then some .host
  else none

/-- R224. -/
def widthOk (w : Win) (a len : Nat) : Bool :=
  match w with
  | .per _ => a % 4 == 0 && len == 4
  | .ls _ => 1 ≤ len && a % 8 + len ≤ 8
  | .cs _ => 1 ≤ len && a % 8 + len ≤ 8
  | _ => 1 ≤ len && a % 128 + len ≤ 128

/-- The Clamp instance of a target (Table FAB-5). -/
def clampOf (w : Win) : Nat :=
  match w with
  | .dram => 1
  | .ls t => 2 + t / 8
  | .cs c => 2 + c
  | .per _ => 0
  | .dwl => 11
  | .host => 10

/-- Table FAB-4: may a port carry a TID (R228)? -/
def tidPermitted (port tid : Nat) : Bool :=
  let ten := 24 ≤ tid && tid ≤ 1023
  match port with
  | 0 => tid == 0
  | 5 => tid == 2
  | 6 => tid == 3
  | 7 => tid == 3 || ten
  | 8 => ten
  | 17 => ten
  | 18 => tid == 1 || ten
  | 19 => tid == 1
  | 20 => tid == 1
  | 21 => tid == 1
  | 22 => tid == 1
  | p => if p ≤ 4 then tid == 1 || ten else if p ≤ 16 then (16 ≤ tid && tid ≤ 23) || ten else false

/-- The CKG_EN bit that gates an access; none: no gate (R47, R514). -/
def gateOf (w : Win) (off : Nat) : Option Nat :=
  match w with
  | .dram => some 14
  | .ls t => some (3 + t / 8)
  | .cs c => some (3 + c)
  | .dwl => some 18
  | .host => some 15
  | .per k =>
    match k with
    | 3 => some 0
    | 4 => some 1
    | 5 => some 0
    | 6 => some 12
    | 7 => some 11
    | 8 => if 0x100 ≤ off ∧ off < 0x1100 then some (3 + (off - 0x100) / 0x200) else none
    | 9 => if 0x100 ≤ off ∧ off < 0x300 then some (3 + (off - 0x100) / 0x40) else none
    | 10 => some 13
    | 20 => some 14
    | 23 => some 17
    | 24 => some 16
    | 25 => some 15
    | 26 => some 18
    | 27 => some 18
    | 30 => some 19
    | 31 => some 20
    | 32 => some 17
    | 34 => some 2
    | _ => none

/-- The hardwired checks: FAB offsets from 0x1000 up (R235), and writes of MIT_FB_FEED (R115). -/
def fabHardOk (w : Win) (off tid : Nat) (wr : Bool) : Bool :=
  match w with
  | .per 0 => off < 0x1000 || (if wr then tid == 0 else tid ≤ 1)
  | .per 5 => !(wr && tid != 0 && decide (0x114 ≤ off) && decide (off < 0x900) && off % 0x100 == 0x14)
  | _ => true

/-- Response codes (Table FAB-7). -/
def rOkay : Nat := 0
def rGated : Nat := 1
def rUnmapped : Nat := 2
def rBlocked : Nat := 3
def rData : Nat := 4
def rWidth : Nat := 5
def rTimeout : Nat := 6

/-- Is a decoded request allowed by Clamp and by the hardwired checks? -/
def clampOk (s : State) (q : Req) (w : Win) : Bool :=
  tidPermitted q.port q.tid && fabHardOk w (q.addr % 0x10000) q.tid q.wr &&
    clpAllows (clampOf w) (s.clpTab (clampOf w)) q.tid q.addr (q.addr + q.len - 1) q.wr

/-- The checks 1 to 4 of Table FAB-1. -/
def respOf (s : State) (q : Req) : Nat :=
  match decodeAddr s q.addr with
  | none => rUnmapped
  | some w =>
    if !widthOk w q.addr q.len then rWidth
    else if !clampOk s q w then rBlocked
    else
      match gateOf w (q.addr % 0x10000) with
      | some b => if s.clockOn b then rOkay else rGated
      | none => rOkay

/-- A core that receives a response other than OKAY takes an access-fault exception (R243). -/
def coreExc (q : Req) (s : State) : State :=
  if q.port ≤ 4 then { s with fab := { s.fab with exc := s.fab.exc.set q.port (some ⟨q.wr, q.addr⟩) } } else s

/-- R242: a response other than OKAY is counted and recorded. -/
def errRecord (q : Req) (resp : Nat) (s : State) : State :=
  let s := (coreExc q s).bump .fabErrCnt 1
  if s.on .fabErrValid then s
  else
    let s := ((s.wr .fabErrAddrLo q.addr).wr .fabErrAddrHi (q.addr / 2 ^ 32)).wr .fabErrTid q.tid
    (((s.wr .fabErrWr (b2n q.wr)).wr .fabErrResp resp).wr .fabErrPort q.port).wr .fabErrValid 1

/-- A blocked request (R242, R243). -/
def blockedRecord (q : Req) (i : Nat) (s : State) : State :=
  let rsvd := !tidPermitted q.port q.tid
  let ex := clpExcl i (s.clpTab i) q.addr (q.addr + q.len - 1)
  let s := s.bump .clpBlkCnt 1 i
  let s :=
    if s.on .clpBlkPend i then s
    else
      let s := ((s.wr .clpBlkAddrLo q.addr i).wr .clpBlkAddrHi (q.addr / 2 ^ 32) i).wr .clpBlkTid q.tid i
      let s := ((s.wr .clpBlkWr (b2n q.wr) i).wr .clpBlkRsvd (b2n rsvd) i).wr .clpBlkExcl (b2n ex) i
      (s.wr .clpBlkPort q.port i).wr .clpBlkPend 1 i
  let s := raise .fabClampBlock q.tid (i + b2n q.wr * 16 + b2n rsvd * 32 + b2n ex * 64) s
  if 16 ≤ q.tid ∧ q.tid < 24 then mitreFault (q.tid - 16) 2 s else s

/-- A request has failed: counters, records and events. -/
def denied (q : Req) (resp : Nat) (s : State) : State :=
  let s := errRecord q resp s
  match resp with
  | 1 => match decodeAddr s q.addr with
    | some w => raise .clkGatedAccess q.tid ((gateOf w (q.addr % 0x10000)).getD 0) s
    | none => s
  | 2 => raise .fabUnmapped q.tid q.port s
  | 3 => match decodeAddr s q.addr with
    | some w => blockedRecord q (clampOf w) s
    | none => s
  | 5 => raise .fabAccessWidth q.tid q.port s
  | _ => s

/-- The entries that a request meets with bad parity are reported (R239). -/
def parityAt (q : Req) (s : State) : State :=
  match decodeAddr s q.addr with
  | some w => clpParity (clampOf w) q.tid s
  | none => s

/-! Accesses of the engines to memory. -/

/-- Bytes that one access may take from an address (R224). -/
def chunkLen (a left : Nat) : Nat :=
  if 0x1000000000 ≤ a ∧ a < 0x1006000000 then min left (8 - a % 8) else min left (128 - a % 128)

/-- The timeout of the window of an address, in root cycles, with its bit field in EVT_FAB_TIMEOUT (R226). -/
def timeoutOf (s : State) (a : Nat) : Nat × Nat :=
  if 0x8000000000 ≤ a then (s.rd .fabToHost * rootPerUs, 1)
  else if 0x3000000000 ≤ a then (s.rd .fabToDwl * rootPerUs, 2)
  else (s.rd .fabToPer * rootPerUs, 0)

/-- A request begins to wait for its target: its number, and the state. -/
def newReq (q : Req) (s : State) : Nat × State :=
  let id := s.fab.reqs.foldl (fun m r => max m r.id) 0 + 1
  (id, { s with fab := { s.fab with reqs := s.fab.reqs ++ [⟨id, q.port, q.tid, q.addr, q.len, q.wr, s.now, false⟩] } })

/-- A request that waits has had its timeout. -/
def markTimedOut (id : Nat) (s : State) : State :=
  let mark (x : FabReq) : FabReq := if x.id = id then { x with timedOut := true } else x
  { s with fab := { s.fab with reqs := s.fab.reqs.map mark } }

/-- EVT_FAB_TIMEOUT of a request. -/
def raiseTimeout (q : Req) (s : State) : State := raise .fabTimeout q.tid (q.port + (timeoutOf s q.addr).2 * 256) s

/-- A request of an engine has had no response in time: its response may still come, and is then counted (R226). -/
def engTimeout (q : Req) (s : State) : State :=
  let (id, s) := newReq q s
  raiseTimeout q (markTimedOut id s)

/-- A write leaves for the host or for another node. -/
def sendChunk (q : Req) (l : List Byte) (s : State) : State :=
  match decodeAddr s q.addr with
  | some .host => s.send .pcie q.tid (hostWinBase s + (q.addr - hostBase)) l
  | some .dwl => s.send .dwlWin q.tid (q.addr - dwlBase) l
  | _ => s

/-- Does the outside answer a request of an engine in time? The spec leaves it to the outside: a free value. -/
def answersInTime (k : Nat) : Bool := !bitOf (Config.free k).toNat 0

/-- Write a chunk that has passed checks 1 to 4: the response of the target. A write to the host is posted (R378). -/
def putChunk (q : Req) (l : List Byte) (s : State) : Nat × State :=
  match decodeAddr s q.addr with
  | some .host => (rOkay, sendChunk q l s)
  | some .dwl =>
    let (k, s) := (sendChunk q l s).fresh
    if answersInTime k then (rOkay, s) else (rTimeout, engTimeout q s)
  | _ =>
    let (bad, s) := eccWrite q.tid q.addr q.len s
    if bad then (rData, s) else (rOkay, s.wrBytes q.addr l)

/-- Write bytes from an address up, access by access; the response is the first that is not OKAY, and nothing is written
from there on. -/
def engWrite (port tid : Nat) : Nat → Nat → List Byte → State → Nat × State
  | 0, _, _, s => (rOkay, s)
  | fuel + 1, a, l, s =>
    if l.isEmpty then (rOkay, s)
    else
      let n := chunkLen a l.length
      let q : Req := ⟨port, tid, a, n, true⟩
      let s := parityAt q s
      let r := respOf s q
      if r = rOkay then
        let (r, s) := putChunk q (l.take n) s
        if r = rOkay then engWrite port tid fuel (a + n) (l.drop n) s else (r, denied q r s)
      else (r, denied q r s)

/-- Write bytes. -/
def busWrite (port tid a : Nat) (l : List Byte) (s : State) : Nat × State := engWrite port tid (l.length + 1) a l s

/-- The bytes, response and state of a read. -/
structure RdOut where
  resp : Nat
  data : List Byte
  s : State
deriving DecidableEq, Repr

/-- A read that leaves the device: the outside answers with free bytes, or not in time. -/
def farChunk (q : Req) (s : State) : RdOut :=
  let (k, s) := s.fresh
  if answersInTime k then ⟨rOkay, (List.range q.len).map fun j => (Config.freeAt k j).setWidth 8, s⟩
  else ⟨rTimeout, List.replicate q.len 0, engTimeout q s⟩

/-- A chunk that has passed checks 1 to 4. -/
def getChunk (q : Req) (s : State) : RdOut :=
  match decodeAddr s q.addr with
  | some .host => farChunk q s
  | some .dwl => farChunk q s
  | _ =>
    let (bad, s) := eccRead q.tid q.addr q.len s
    if bad then ⟨rData, List.replicate q.len 0, s⟩ else ⟨rOkay, s.rdBytes q.addr q.len, s⟩

/-- Read bytes from an address up, access by access; the first response that is not OKAY ends the read. -/
def engRead (port tid : Nat) : Nat → Nat → Nat → List Byte → State → RdOut
  | 0, _, _, acc, s => ⟨rOkay, acc, s⟩
  | fuel + 1, a, left, acc, s =>
    if left = 0 then ⟨rOkay, acc, s⟩
    else
      let n := chunkLen a left
      let q : Req := ⟨port, tid, a, n, false⟩
      let s := parityAt q s
      let r := respOf s q
      if r = rOkay then
        let o := getChunk q s
        if o.resp = rOkay then engRead port tid fuel (a + n) (left - n) (acc ++ o.data) o.s
        else ⟨o.resp, acc, denied q o.resp o.s⟩
      else ⟨r, acc, denied q r s⟩

/-- Read `n` bytes. -/
def busRead (port tid a n : Nat) (s : State) : RdOut := engRead port tid (n + 1) a n [] s

/-! MSI-X and notifications (R388 to R390). -/

/-- Signal a vector: held in D3hot, set pending while masked, else a memory write. -/
def msix (v : Nat) (s : State) : State :=
  if s.on .pcieD3 then { s with host := { s.host with heldVec := s.host.heldVec ++ [v] } }
  else if !s.host.msixEn ∨ !hostOpen s then s
  else if s.host.msixMask ∨ s.rdBit .msixTable 0 (4 * v + 3) then s.wrBit .msixPba (v % 32) true (v / 32)
  else
    s.send .pcie 0 (s.rd .msixTable (4 * v + 1) * 2 ^ 32 + s.rd .msixTable (4 * v)) (leBytes 4 (s.rd .msixTable (4 * v + 2)))

/-- CH_STAT.NOTE of a channel is set and mirrored; vector 64 + ch is signalled when the mirror goes from 0 to 1. -/
def notifyCh (ch : Nat) (s : State) : State :=
  let old := if ch < 32 then s.rdBit .hostNoteLo ch else s.rdBit .hostNoteHi (ch - 32)
  let s := s.wr .chNote 1 ch
  if old then s
  else msix (64 + ch) (if ch < 32 then s.wrBit .hostNoteLo ch true else s.wrBit .hostNoteHi (ch - 32) true)

end Sys2Proof.Machine
end

