-- ==== Sys2Proof/Machine/Mmu.lean ====
section
/-! DEFINITION. Address translation: walks, TLBs, faults, invalidation, and the accesses of translating engines
(chapter 13). -/

namespace Sys2Proof.Machine

/-- EVT_MMU_CFG_REJECT for an offset. -/
def mmuReject (tid off : Nat) (s : State) : State := raise .mmuCfgReject tid off s

/-- log2 of the page size of a code (Table MEM-7). -/
def pgBits (pgs : Nat) : Nat :=
  match pgs with
  | 0 => 12
  | 1 => 16
  | 2 => 21
  | _ => 30

/-- Walk level of a page size, for the fault record. -/
def pgLevel (pgs : Nat) : Nat :=
  match pgs with
  | 2 => 2
  | 3 => 1
  | _ => 3

/-- The fabric port of an engine (Tables MEM-2, FAB-4). -/
def enginePort (e : Nat) : Nat := if e < 32 then 9 + e / 4 else if e < 38 then 7 else 8

/-! Channels (R280). -/

/-- The oldest entry that has not completed. -/
def chH (s : State) (ch : Nat) : Nat := s.rd .chDone ch % 8

/-- Entries from the head to dispatch to the tail. -/
def chQueued (s : State) (ch : Nat) : Nat := (s.rd .chTail ch + 8 - s.rd .chHead ch) % 8

/-- Does a running task belong to a channel? -/
def chRuns (s : State) (ch : Nat) : Bool := s.sch.runs.any fun r => r.ch == ch

/-- CH_STAT.STATE of a channel that is not halted. -/
def showCh (ch : Nat) (s : State) : State :=
  if s.rd .chState ch = 2 then s
  else
    let st := if s.sch.runs.any (fun r => r.ch == ch && r.stallFrom.isSome) then 3
      else if chRuns s ch ∨ chQueued s ch ≠ 0 then 1 else 0
    s.wr .chState st ch

/-! The walk (R252 to R256). -/

/-- What a translation gives: a TLB entry, or a cause and the walk level reached. -/
inductive XRes where
  | ok (e : TlbEnt)
  | fault (cause level : Nat)
deriving DecidableEq, Repr

/-- A read of the walker, as TID 1 through CLP_DRAM. -/
def walkRead (a n : Nat) (s : State) : Option Nat × State :=
  if a < 0x0800000000 then
    let o := busRead 1 1 a n s
    if o.resp = rOkay then (some (leNat o.data), o.s) else (none, o.s)
  else (none, denied ⟨1, 1, a, n, false⟩ rUnmapped s)

/-- May a leaf point at this physical address (R255): the mapped DRAM range, the Dowel remote window or the PCIe host window, open or
not? -/
def leafWindow (s : State) (pa : Nat) : Bool :=
  decide (pa < dramUsable s) || (decide (0x3000000000 ≤ pa) && decide (pa < 0x4000000000)) ||
    (decide (0x8000000000 ≤ pa) && decide (pa < 0x10000000000))

/-- A level-3 leaf: 4 KiB, or 64 KiB under R254. -/
def leafAt3 (s : State) (tid va pte : Nat) : XRes :=
  let pa := bitsOf pte 12 28 * 4096
  if bitOf pte 4 then
    let k := bitsOf va 12 4 * 4096
    if pa < k ∨ (pa - k) % 65536 ≠ 0 then .fault 4 3
    else if !leafWindow s pa then .fault 8 3
    else .ok ⟨tid, va / 65536 * 65536, 1, pa - k, bitOf pte 2, bitOf pte 3⟩
  else if !leafWindow s pa then .fault 8 3
  else .ok ⟨tid, va / 4096 * 4096, 0, pa, bitOf pte 2, bitOf pte 3⟩

/-- A leaf at level 1 or 2. -/
def leafAbove (s : State) (tid va pte level : Nat) : XRes :=
  let pgs := if level = 1 then 3 else 2
  let pa := bitsOf pte 12 28 * 4096
  if pa % 2 ^ pgBits pgs ≠ 0 then .fault 4 level
  else if !leafWindow s pa then .fault 8 level
  else .ok ⟨tid, va / 2 ^ pgBits pgs * 2 ^ pgBits pgs, pgs, pa, bitOf pte 2, bitOf pte 3⟩

/-- The first cause of Table MEM-6 that an entry meets before its address is looked at; 0 if none. -/
def pteCause (pte level : Nat) (wr : Bool) : Nat :=
  let leaf := bitOf pte 1
  if !bitOf pte 0 then 1
  else if leaf ∧ !(bitOf pte (if wr then 3 else 2)) then 2
  else if bitsOf pte 5 7 ≠ 0 ∨ bitsOf pte 40 24 ≠ 0 ∨ (level ≠ 3 ∧ bitOf pte 4) then 3
  else if (level = 0 ∧ leaf) ∨ (level = 3 ∧ !leaf) then 4
  else 0

/-- The walk from a table at `level`; `fuel` is the number of levels left. -/
def walkFrom (tid va : Nat) (wr : Bool) : Nat → Nat → Nat → State → XRes × State
  | 0, level, _, s => (.fault 4 level, s)
  | fuel + 1, level, tbl, s =>
    match walkRead (tbl + bitsOf va (39 - 9 * level) 9 * 8) 8 s with
    | (none, s) => (.fault 7 level, s)
    | (some pte, s) =>
      let c := pteCause pte level wr
      if c ≠ 0 then (.fault c level, s)
      else if level = 3 then (leafAt3 s tid va pte, s)
      else if bitOf pte 1 then (leafAbove s tid va pte level, s)
      else walkFrom tid va wr fuel (level + 1) (bitsOf pte 12 28 * 4096) s

/-- The AST base. -/
def astBase (s : State) : Nat := s.rd .mmuAstHi * 2 ^ 32 + s.rd .mmuAstLo * 4096

/-- A walk for TID t: the AST entry, then up to four levels. -/
def walk (tid va : Nat) (wr : Bool) (s : State) : XRes × State :=
  let s := s.bump .mmuCntWalk 1
  match walkRead (astBase s + tid * 16) 16 s with
  | (none, s) => (.fault 7 0, s)
  | (some ast, s) =>
    if !bitOf ast 0 then (.fault 5 0, s)
    else if bitsOf ast 3 29 ≠ 0 ∨ bitsOf ast 32 12 ≠ 0 ∨ bitsOf ast 72 56 ≠ 0 then (.fault 3 0, s)
    else walkFrom tid va wr 4 0 (bitsOf ast 64 8 * 2 ^ 32 + bitsOf ast 44 20 * 4096) s

/-! TLBs (R257, R258). -/

/-- Does an entry translate an address of a TID? -/
def TlbEnt.hits (e : TlbEnt) (tid va : Nat) : Bool := e.tid == tid && e.va ≤ va && va < e.va + 2 ^ pgBits e.pgs

/-- Put an entry into a TLB set of `cap` entries; when it is full, the entry that leaves is free. -/
def tlbPut (cap : Nat) (l : List TlbEnt) (e : TlbEnt) (s : State) : List TlbEnt × State :=
  let l := l.filter fun x => !(x.tid == e.tid && x.va == e.va && x.pgs == e.pgs)
  if l.length < cap then (l ++ [e], s)
  else
    let (k, s) := s.fresh
    (l.eraseIdx ((Config.free k).toNat % cap) ++ [e], s)

/-- The L2 set of a page. -/
def l2Set (tid va pgs : Nat) : Nat := (va / 2 ^ pgBits pgs % 512) ^^^ (tid % 512)

def setL1 (e : Nat) (l : List TlbEnt) (s : State) : State := { s with mmu := { s.mmu with l1 := s.mmu.l1.set e l } }

/-- Install in the L1 of an engine. -/
def fillL1 (e : Nat) (x : TlbEnt) (s : State) : State :=
  let (l, s) := tlbPut 64 (s.mmu.l1.get [] e) x s
  setL1 e l s

/-- Install in the L2. -/
def fillL2 (x : TlbEnt) (s : State) : State :=
  let k := l2Set x.tid x.va x.pgs
  let (l, s) := tlbPut 8 (s.mmu.l2.get [] k) x s
  { s with mmu := { s.mmu with l2 := s.mmu.l2.set k l } }

/-- Probe the L2 at all four page sizes. -/
def probeL2 (s : State) (tid va : Nat) : Option TlbEnt :=
  (List.range 4).findSome? fun pgs => (s.mmu.l2.get [] (l2Set tid va pgs)).find? fun e => e.pgs == pgs && e.hits tid va

/-- Apply the permission of an entry. -/
def permit (e : TlbEnt) (wr : Bool) : XRes := if (if wr then e.w else e.r) then .ok e else .fault 2 (pgLevel e.pgs)

/-- Translate through the L2 and the walker; a fault is never cached. -/
def xlateL2 (tid va : Nat) (wr : Bool) (s : State) : XRes × State :=
  match probeL2 s tid va with
  | some e => (permit e wr, s.bump .mmuCntL2hit 1)
  | none =>
    match walk tid va wr s with
    | (.ok e, s) => (permit e wr, fillL2 e s)
    | (.fault c l, s) => (.fault c l, s)

/-- Translate a request of engine e (R250, R257). -/
def xlate (e tid va : Nat) (wr : Bool) (s : State) : XRes × State :=
  if tid < 24 then
    if 2 ^ 40 ≤ va then (.fault 6 0, s) else (.ok ⟨tid, va / 4096 * 4096, 0, va / 4096 * 4096, true, true⟩, s)
  else if s.on .mmuDead tid then (.fault 9 0, s)
  else
    match (s.mmu.l1.get [] e).find? fun x => x.hits tid va with
    | some x => (permit x wr, s)
    | none =>
      match xlateL2 tid va wr s with
      | (.ok x, s) => (.ok x, fillL1 e x s)
      | r => r

/-- The physical address. -/
def TlbEnt.phys (e : TlbEnt) (va : Nat) : Nat := e.pa + (va - e.va)

/-! Acknowledgements of an invalidation (R266). -/

/-- Does an invalidation of a TID run? -/
def invRuns (s : State) (tid : Nat) : Bool :=
  match s.mmu.inv with
  | some i => i.tid == tid
  | none => false

/-- Does a TLB entry overlap the range of an invalidation? -/
def MmuInv.covers (i : MmuInv) (e : TlbEnt) : Bool :=
  e.tid == i.tid && (i.len == 0 || (e.va < i.base + i.len * 4096 && i.base < e.va + 2 ^ pgBits e.pgs))

/-- Engine e has acknowledged. -/
def ackBit (s : State) (e : Nat) : Bool := if e < 32 then s.rdBit .mmuInvAckLo e else s.rdBit .mmuInvAckHi (e - 32)

def setAck (e : Nat) (s : State) : State :=
  if e < 32 then s.wrBit .mmuInvAckLo e true else s.wrBit .mmuInvAckHi (e - 32) true

/-- The invalidation completes when all 40 engines have acknowledged. -/
def invDone (s : State) : State :=
  match s.mmu.inv with
  | none => s
  | some i =>
    if (List.range 40).all (ackBit s) then
      let s := { s with mmu := { s.mmu with inv := none } }.wr .mmuInvBusy 0 |>.wr .mmuInvGo 0
      if i.len = 0 then
        { s with mmu := { s.mmu with deadTold := s.mmu.deadTold.filter fun x => x.2 != i.tid } }.wr .mmuDead 0 i.tid
      else s
    else s

/-- An engine that is gated, off or stalled now acknowledges an invalidation that runs. -/
def ackIdle (e : Nat) (s : State) : State := if s.mmu.inv.isSome then invDone (setAck e s) else s

/-! Faults (R262 to R265). -/

/-- Is the policy of a TID KILL (R262)? TIDs below 24 have no address space and are killed; an AST entry that cannot be
read leaves BATCH. -/
def policyKill (tid : Nat) (s : State) : Bool :=
  tid < 24 ||
    match walkRead (astBase s + tid * 16) 4 s with
    | (some a, _) => bitOf a 1 || bitOf a 2
    | _ => false

/-- The fault record (Table MEM-8). -/
def faultRecord (s : State) (e tid va : Nat) (wr kill : Bool) (cause level : Nat) : List Byte :=
  leBytes 6 va ++ leBytes 2 0 ++ leBytes 2 tid ++ leBytes 1 e ++
    leBytes 1 (cause + b2n wr * 16 + level * 32 + b2n kill * 128) ++ leBytes 2 (s.rd .mmuGen tid) ++ leBytes 2 0 ++
    leBytes 4 s.clk.sec ++ leBytes 4 s.clk.ns ++ leBytes 8 0

/-- Records in the fault queue. -/
def fqFill (s : State) : Nat := (s.rd .mmuFqProd + 512 - s.rd .mmuFqCons) % 512

/-- Write a fault record, or count it (R263). -/
def fqPut (e tid va : Nat) (wr kill : Bool) (cause level : Nat) (s : State) : State :=
  if fqFill s = 256 then
    let s := s.bump .mmuFqOvf 1
    if s.mmu.fqTold then s else raise .mmuFqOvf tid 0 { s with mmu := { s.mmu with fqTold := true } }
  else
    let empty := fqFill s == 0
    let p := s.rd .mmuFqProd
    let a := s.rd .mmuFqHi * 2 ^ 32 + s.rd .mmuFqLo * 8192 + p % 256 * 32
    let s := ((busWrite 1 1 a (faultRecord s e tid va wr kill cause level) s).2).wr .mmuFqProd (p + 1)
    if empty ∧ !kill then raise .mmuFaultBatch tid (e + cause * 256) s else s

/-- The channels of the tasks that run on engine e. -/
def engineChs (s : State) (e : Nat) : List Nat := (s.sch.runs.filter fun r => r.res == .dma (e / 4) (e % 4) && e < 32).map (·.ch)

/-- The DMA task of engine e stalls now (R264). -/
def stallTask (e : Nat) (s : State) : State :=
  let chs := engineChs s e
  let runs := s.sch.runs.map fun (r : TaskRun) =>
    if e < 32 ∧ r.res = .dma (e / 4) (e % 4) ∧ r.stallFrom.isNone then { r with stallFrom := some s.now } else r
  chs.foldl (fun s ch => showCh ch s) { s with sch := { s.sch with runs := runs } }

/-- A fault of engine e: true if the policy kills (R264, R265). -/
def mmuFault (e tid va : Nat) (wr : Bool) (cause level : Nat) (s : State) : Bool × State :=
  let s := s.bump .mmuCntFault 1
  let kill := policyKill tid s
  if cause = 9 then
    if (e, tid) ∈ s.mmu.deadTold then (true, s)
    else
      let s := { s with mmu := { s.mmu with deadTold := (e, tid) :: s.mmu.deadTold } }
      (true, raise .mmuFaultKill tid (e + cause * 256) (fqPut e tid va wr true cause level s))
  else
    let s := fqPut e tid va wr kill cause level s
    if kill then (true, raise .mmuFaultKill tid (e + cause * 256) (if tid < 24 then s else s.wr .mmuDead 1 tid))
    else (false, ackIdle e (stallTask e { s with mmu := { s.mmu with stall := s.mmu.stall.set e (some ⟨tid, va, wr, false⟩) } }))

/-! Accesses of an engine. -/

/-- What an access gives: the fault, true if it kills; the first response other than OKAY; the bytes, 0 where a read
failed (R221). -/
structure XOut where
  fault : Option Bool
  resp : Nat
  data : List Byte
  s : State

/-- Read `left` bytes from a virtual address up. -/
def xReadGo (e tid : Nat) : Nat → Nat → Nat → Nat → List Byte → State → XOut
  | 0, _, _, r, acc, s => ⟨none, r, acc, s⟩
  | fuel + 1, va, left, r, acc, s =>
    if left = 0 then ⟨none, r, acc, s⟩
    else
      match xlate e tid va false s with
      | (.fault c l, s) =>
        let (k, s) := mmuFault e tid va false c l s
        ⟨some k, r, acc, s⟩
      | (.ok x, s) =>
        let a := x.phys va
        let n := chunkLen a left
        let o := busRead (enginePort e) tid a n s
        let l := o.data ++ List.replicate (n - o.data.length) 0
        xReadGo e tid fuel (va + n) (left - n) (if r = rOkay then o.resp else r) (acc ++ l) o.s

/-- Read `n` bytes. -/
def xRead (e tid va n : Nat) (s : State) : XOut := xReadGo e tid (n + 1) va n rOkay [] s

/-- Write bytes to a virtual address; a write that fails is discarded, and the others go on. -/
def xWriteGo (e tid : Nat) : Nat → Nat → List Byte → Nat → State → XOut
  | 0, _, _, r, s => ⟨none, r, [], s⟩
  | fuel + 1, va, l, r, s =>
    if l.isEmpty then ⟨none, r, [], s⟩
    else
      match xlate e tid va true s with
      | (.fault c lv, s) =>
        let (k, s) := mmuFault e tid va true c lv s
        ⟨some k, r, l, s⟩
      | (.ok x, s) =>
        let a := x.phys va
        let n := chunkLen a l.length
        let (r', s) := busWrite (enginePort e) tid a (l.take n) s
        xWriteGo e tid fuel (va + n) (l.drop n) (if r = rOkay then r' else r) s

/-- Write bytes. -/
def xWrite (e tid va : Nat) (l : List Byte) (s : State) : XOut := xWriteGo e tid (l.length + 1) va l rOkay s

/-! Commands. -/

def mmuXlate (v : Word) (s : State) : State :=
  let n := v.toNat
  let s := (s.wr .mmuXlateTid n).wr .mmuXlateWr (bitsOf n 16 1)
  if !bitOf n 31 then s
  else
    let tid := s.rd .mmuXlateTid
    let va := s.rd .mmuXlateVaHi * 2 ^ 32 + s.rd .mmuXlateVaLo
    let r : XRes × State :=
      if tid < 24 then
        if 2 ^ 40 ≤ va then (.fault 6 0, s) else (.ok ⟨tid, va / 4096 * 4096, 0, va / 4096 * 4096, true, true⟩, s)
      else if s.on .mmuDead tid then (.fault 9 0, s)
      else xlateL2 tid va (s.on .mmuXlateWr) s
    match r with
    | (.ok x, s) =>
      let pa := x.phys va
      let s := ((s.wr .mmuXlateDone 1).wr .mmuXlateFault 0).wr .mmuXlateCause 0
      let s := ((s.wr .mmuXlatePgs x.pgs).wr .mmuXlatePaLo (pa / 4096)).wr .mmuXlatePaHi (pa / 2 ^ 32)
      s.wr .mmuXlateGen (s.rd .mmuGen tid)
    | (.fault c _, s) =>
      ((s.wr .mmuXlateDone 1).wr .mmuXlateFault 1).wr .mmuXlateCause c

def mmuResume (tid : Nat) (s : State) : State :=
  foldN 40 (fun e s =>
    match s.mmu.stall.get none e with
    | some x => if x.tid = tid then { s with mmu := { s.mmu with stall := s.mmu.stall.set e (some { x with retry := true }) } } else s
    | none => s) s

/-- A DMA task leaves its stall: the time does not count (R285), and its channel is active again. -/
def unstallTask (e : Nat) (s : State) : State :=
  let runs := s.sch.runs.map fun (r : TaskRun) =>
    match r.stallFrom with
    | some t => if r.res = .dma (e / 4) (e % 4) then { r with stallFrom := none, stalled := r.stalled + (s.now - t) } else r
    | none => r
  (engineChs s e).foldl (fun s ch => showCh ch s) { s with sch := { s.sch with runs := runs } }

/-- The stall of engine e ends. -/
def unstall (e : Nat) (s : State) : State :=
  unstallTask e { s with mmu := { s.mmu with stall := s.mmu.stall.set e none } }

/-- The next generation (R260). -/
def nextGen (g : Nat) : Nat := if g = 0xFFFF then 1 else g + 1

/-- Is engine e gated, off or stalled, so that it acknowledges at once? -/
def ackAtOnce (s : State) (e : Nat) : Bool :=
  let bit := if e < 32 then 3 + e / 4 else if e < 38 then 11 else 13
  !s.clockOn bit || (s.mmu.stall.get none e).isSome

def mmuInvalidate (tid : Nat) (v : Word) (s : State) : State :=
  let n := v.toNat
  if !bitOf n 31 then s.wr .mmuInvTid n
  else if s.on .mmuInvBusy then mmuReject tid 0x030 (s.wr .mmuInvTid n)
  else
    let s := s.wr .mmuInvTid n
    let t := s.rd .mmuInvTid
    let i : MmuInv := ⟨t, s.rd .mmuInvBaseHi * 2 ^ 32 + s.rd .mmuInvBaseLo * 4096, s.rd .mmuInvLen, s.now⟩
    let s := ((s.wr .mmuGen (nextGen (s.rd .mmuGen t)) t).wr .mmuInvBusy 1).wr .mmuInvGo 1
    let s := ((s.wr .mmuInvTimeout 0).wr .mmuInvAckLo 0).wr .mmuInvAckHi 0
    let keep (l : List TlbEnt) : List TlbEnt := l.filter fun e => !i.covers e
    let s := { s with mmu := { s.mmu with inv := some i, invAt := s.mmu.invAt.set t s.now, l1 := s.mmu.l1.map fun e => (e.1, keep e.2),
                                          l2 := s.mmu.l2.map fun e => (e.1, keep e.2) } }
    invDone (foldN 40 (fun e s => if ackAtOnce s e then setAck e s else s) s)

/-- Has engine e an access outstanding that it translated before the invalidation: a row of its range that it holds locked? -/
def invHeld (s : State) (e : Nat) : Bool :=
  match s.mmu.inv with
  | none => true
  | some i => s.comp.locks.any fun l =>
      38 + l.e == e && i.tid == l.tid &&
        (i.len == 0 || (decide (l.va < i.base + i.len * 4096) && decide (i.base < l.va + (l.pieces.map Prod.snd).sum)))

def mmuInvAck (e : Nat) (s : State) : State := if invHeld s e then s else ackIdle e s

def mmuInvTimeout (s : State) : State :=
  match s.mmu.inv with
  | none => s
  | some i =>
    if i.at_ + 100 * rootPerUs ≤ s.now ∧ !(s.on .mmuInvTimeout) then
      raise .mmuInvTimeout 1 ((List.range 40).countP fun e => !ackBit s e) (s.wr .mmuInvTimeout 1)
    else s

/-- The L1 TLB of an engine whose clock or power goes is emptied (R259), and an invalidation has its acknowledgement (R266). -/
def emptyL1 (e : Nat) (s : State) : State := ackIdle e (setL1 e [] s)

/-! CLOCK_GATE_OFF (R46, R259). -/

/-- Engines whose clock a CKG_EN bit gates. -/
def gateEngines (bit : Nat) : List Nat :=
  if 3 ≤ bit ∧ bit ≤ 10 then (List.range 4).map fun d => 4 * (bit - 3) + d
  else if bit = 11 then [32, 33, 34, 35, 36, 37]
  else if bit = 13 then [38, 39]
  else []

/-- A block's clock stops: its L1 TLBs are emptied, and the slots of a cluster lose their clock (R114). -/
def stopClock (bit : Nat) (s : State) : State :=
  let s := (gateEngines bit).foldl (fun s e => emptyL1 e s) (s.wrBit .ckgEnStat bit false)
  if 3 ≤ bit ∧ bit ≤ 10 then clusterLost (bit - 3) s else s

/-- The CKG_EN bit of the block that an outstanding request waits for. -/
def FabReq.gate (r : FabReq) : Option Nat :=
  if 0x8000000000 ≤ r.addr then gateOf .host 0
  else if 0x3000000000 ≤ r.addr then gateOf .dwl 0
  else gateOf (.per ((r.addr - 0x2000000000) / 0x10000)) (r.addr % 0x10000)

/-- The CKG_EN bit of the block behind an initiator port (Table FAB-4). -/
def portGate (p : Nat) : Option Nat :=
  if 1 ≤ p ∧ p ≤ 4 then some 2
  else if 9 ≤ p ∧ p ≤ 16 then some (p - 6)
  else
    match p with
    | 5 => some 0
    | 6 => some 12
    | 7 => some 11
    | 8 => some 13
    | 17 => some 15
    | 18 => some 18
    | 19 => some 16
    | 20 => some 17
    | 21 => some 19
    | 22 => some 20
    | _ => none

/-- Has the block of a bit a request outstanding, as target or as initiator, that has had no response? -/
def blockWaits (s : State) (bit : Nat) : Bool :=
  s.fab.reqs.any fun r => !r.timedOut && (r.gate == some bit || portGate r.port == some bit)

def clockGateOff (bit : Nat) (s : State) : State :=
  if s.clockOn bit ∧ !(s.rdBit .ckgEn bit) ∧ !blockWaits s bit then stopClock bit s else s

end Sys2Proof.Machine
end

