-- ==== Sys2Proof/Machine/Spm.lean ====
section
/-! DEFINITION. Scratchpad banks, their counters, and the DRAM controller's commands (chapters 11 and 13). -/

namespace Sys2Proof.Machine

/-- TCLK count from the alignment epoch. -/
def tclkNo (s : State) : Nat := (s.now - s.clk.epoch) / rootPerT

/-- The row of an address. -/
def rowOf (a : Nat) : Nat := a / 128

/-- Count waiting TCLK of a bank, unless frozen (R213). -/
def bankCount (k : Nat) (wide : Bool) (n : Nat) (s : State) : State :=
  if s.on .spmCntFreeze ∨ n = 0 then s
  else if k < 1024 then s.bump (if wide then .lsWconf else .lsNstall) n (k / 16) (k % 16)
  else s.bump (if wide then .csWconf else .csNstall) n ((k - 1024) / 32) ((k - 1024) % 32)

/-- Is a request wide? -/
def SpmReq.wide (r : SpmReq) : Bool :=
  match r.who with
  | .narrow _ _ _ => false
  | _ => true

/-- The port of a wide request to a CS (Table SPM-2). -/
def SpmReq.csPort (r : SpmReq) : Nat :=
  let w := b2n r.data.isSome
  match r.who with
  | .core t => 2 * (t % 8) + w
  | .cnv _ => 16 + w
  | _ => 1

/-- The wide request that wins a bank at TCLK n (R203, R204): in an LS the read, in a CS the first port in cyclic order. -/
def wideWinner (k n : Nat) (l : List SpmReq) : Option SpmReq :=
  if k < 1024 then (l.find? fun r => r.data.isNone) <|> l.head?
  else (List.range 18).findSome? fun j => l.find? fun r => r.csPort == (n + j) % 18

/-- NCLK count from the alignment epoch. -/
def nclkNo (s : State) : Nat := (s.now - s.clk.epoch) / rootPerN

/-- A narrow request's place in its target port: one that waits comes before a new one, and new ones come in the cyclic order of their
initiator ports that starts at (m mod 23) (R225). -/
def portPlace (s : State) (r : SpmReq) : Nat :=
  match s.spm.wait.findIdx? fun w => w.req == r with
  | some i => i
  | none =>
    match r.who with
    | .narrow _ p _ => s.spm.wait.length + (p + 23 - nclkNo s % 23) % 23
    | _ => s.spm.wait.length + 23

/-- The first of a list of narrow requests. -/
def firstPlaced (s : State) (l : List SpmReq) : Option SpmReq :=
  l.foldl (fun m r => match m with
    | some x => if portPlace s r < portPlace s x then some r else some x
    | none => some r) none

/-- The narrow request that wins bank k: the pending merge, else round-robin over the target ports (R206, R207). -/
def narrowWinner (s : State) (k : Nat) (l : List SpmReq) : Option SpmReq :=
  let b := s.bank k
  match b.merge with
  | some m => if m ∈ l then some m else none
  | none => (List.range 4).findSome? fun j => firstPlaced s (l.filter fun r =>
      match r.who with
      | .narrow t _ _ => t % 4 == (b.last + 1 + j) % 4
      | _ => false)

/-- The bytes of a write, strobed over the old word. -/
def strobed (old new : List Byte) (st : Nat) : List Byte :=
  (List.range old.length).map fun j => if bitOf st j then new.getD j 0 else old.getD j 0

/-- Bytes that an access covers: a row of 128, or an aligned word of 8. -/
def SpmReq.len (r : SpmReq) : Nat := if r.wide then 128 else 8

/-- First byte that an access covers. -/
def SpmReq.base (r : SpmReq) : Nat := r.addr / r.len * r.len

/-- Is the bank free for a write-back: no grant in this TCLK, and no merge between its two grants? -/
def bankFree (s : State) (k : Nat) : Bool := !bankTaken s k && (s.bank k).merge.isNone

def spmEccWriteback (k : Nat) (s : State) : State :=
  match s.ecc.wb.find? fun a => bankOf a == k with
  | none => s
  | some a => if bankFree s k then takeBank k (eccFresh [a] s) else s

/-- Does a waiting request of a port and TID to an address have to be reported? -/
def starves (s : State) (tid addr port : Nat) (w : SpmWait) : Bool :=
  !w.told && w.req.addr == addr && decide (s.rd .spmStarveLim ≤ w.n) &&
    match w.req.who with
    | .narrow _ p t => p == port && t == tid
    | _ => false

def spmNarrowStarve (tid addr port : Nat) (s : State) : State :=
  if s.rd .spmStarveLim ≠ 0 ∧ s.spm.wait.any (starves s tid addr port) then
    let mark (w : SpmWait) : SpmWait := if starves s tid addr port w then { w with told := true } else w
    raise .spmNarrowStarve tid (spmArg addr) { s with spm := { s.spm with wait := s.spm.wait.map mark } }
  else s

/-! Zero-fill (R212). -/

/-- Is a cluster in use, so that SPM_INIT is discarded? -/
def clusterInUse (s : State) (c : Nat) : Bool :=
  ((List.range 8).any fun j => s.rd .tcState (8 * c + j) == 1 || s.rd .tcState (8 * c + j) == 2) || s.on .cnvBusy c ||
    (List.range 8).any fun n => s.armed n && s.rd .mitCluster n == c

/-- Images in the scratchpads of a cluster are gone (R103). -/
def dropImages (c : Nat) (s : State) : State := foldN 8 (fun n s => if s.rd .mitCluster n = c then s.wr .mitImg 0 n else s) s

/-- A zero-fill begins. -/
def spmInitStart (c : Nat) (s : State) : State :=
  let s := dropImages c (s.wrBit .spmInit c true)
  { s with spm := { s.spm with initEnd := s.spm.initEnd.set c (some (s.now + 1024 * rootPerT)) } }

def spmInit (tid : Nat) (v : Byte) (s : State) : State :=
  let bad := (List.range 8).any fun c => bitOf v.toNat c && clusterInUse s c
  let s' := foldN 8 (fun c s' => if bitOf v.toNat c ∧ !clusterInUse s c then spmInitStart c s' else s') s
  if bad then raise .spmCfgReject tid 0x020 s' else s'

/-- The scratchpads of a cluster hold 0, with good ECC. -/
def clearCluster (c : Nat) (s : State) : State :=
  (s.clearMem (lsBase (8 * c)) (lsBase (8 * c + 8))).clearMem (csBase c) (csBase (c + 1))

def spmInitDone (c : Nat) (s : State) : State :=
  match s.spm.initEnd.get none c with
  | none => s
  | some t =>
    if t ≤ s.now then
      let s := clearCluster c (s.wrBit .spmInit c false)
      let s := { s with spm := { s.spm with initEnd := s.spm.initEnd.set c none } }
      gateOn (3 + c) s
    else s

def spmCntClr (s : State) : State := { s.wr .spmCntClr 1 with spm := { s.spm with clr := true } }

/-! DRAM (R246 to R248). -/

/-- Root cycles between two scrub reads: a pass of every usable block takes MEMC_SCRUB_INT seconds. -/
def scrubGap (s : State) : Nat := s.rd .memcScrubInt * rootPerS / (dramUsable s / 64)

/-- Is the next block of the pass due? -/
def scrubDue (s : State) : Bool := s.memc.scrubAt + scrubGap s ≤ s.now

def memcScrubRead (u : List Upset) (s : State) : State :=
  let s := upsets u s
  if s.on .memcScrubEn ∧ s.memc.trained ∧ s.clockOn 14 ∧ scrubDue s then
    let b := s.memc.scrubNext
    let next := if b + 64 < dramUsable s then b + 64 else 0
    let s := { s with memc := { s.memc with scrubNext := next, scrubAt := s.now } }
    if b ∈ s.ecc.unc then eccUncorr 0 b true s
    else if b ∈ s.ecc.cor then eccCorrected 0 b s
    else s
  else s

def memcCntClr (s : State) : State :=
  let s := (s.wr .memcEccCorr 0).wr .memcEccUnc 0
  foldN 8 (fun c s => s.wr .memcChCorr 0 c) { s with ecc := { s.ecc with memTold := false } }

end Sys2Proof.Machine
end

