-- ==== Sys2Proof/Machine/Bpu.lean ====
section
/-! DEFINITION. The buffer pool unit (chapter 11). -/

namespace Sys2Proof.Machine

def State.pool (s : State) (p : Nat) : BpuPool := s.bpu.pool.get .init p
def State.setPool (s : State) (p : Nat) (x : BpuPool) : State := { s with bpu := { s.bpu with pool := s.bpu.pool.set p x } }
def BpuPool.buf (p : BpuPool) (i : Nat) : BpuBuf := p.bufs.get .init i

/-- Offset of pool p (Table SPM-6). -/
def poolOff (p : Nat) : Nat := 0x800 + p * 0x20

/-- EVT_BPU_CFG_REJECT for an offset. -/
def bpuReject (tid off : Nat) (s : State) : State := raise .bpuCfgReject tid off s

/-- BASE, SIZE and COUNT of a pool. -/
def poolBase (s : State) (p : Nat) : Nat := s.rd .poolBaseHi p * 2 ^ 32 + s.rd .poolBaseLo p * 128
def poolSize (s : State) (p : Nat) : Nat := (s.rd .poolSize p + 1) * 128
def poolCount (s : State) (p : Nat) : Nat := s.rd .poolCount p + 1

/-- End of the range of a pool. -/
def poolEnd (s : State) (p : Nat) : Nat := poolBase s p + poolCount s p * poolSize s p

/-- Does a range lie within DRAM, one LS or one CS (R215)? -/
def poolPlace (s : State) (a b : Nat) : Bool :=
  match decodeAddr s a with
  | some .dram => b ≤ dramUsable s
  | some (.ls t) => b ≤ lsBase (t + 1)
  | some (.cs c) => b ≤ csBase (c + 1)
  | _ => false

/-- The conditions of R215 for an enable. -/
def poolOk (s : State) (p : Nat) : Bool :=
  poolPlace s (poolBase s p) (poolEnd s p) &&
    (List.range 32).all fun q => q == p || !(s.on .poolEn q) || poolEnd s q ≤ poolBase s p || poolEnd s p ≤ poolBase s q

/-- FREE buffers: POOL_FREE, and the lowest since enable. -/
def showFree (p : Nat) (s : State) : State :=
  let n := (s.pool p).free.length
  let s := s.wr .poolFree n p
  if n < s.rd .poolLow p then s.wr .poolLow n p else s

def poolEnable (tid p : Nat) (s : State) : State :=
  if poolOk s p then
    let x := s.pool p
    let n := poolCount s p
    let bufs := x.bufs.map fun e => (e.1, { e.2 with alloc := false })
    ((s.setPool p { bufs := bufs, free := List.range n, hadFree := true }).wr .poolEn 1 p).wr .poolFree n p |>.wr .poolLow n p
  else bpuReject tid (poolOff p) s

def poolDisable (tid p : Nat) (s : State) : State :=
  if !(s.on .poolEn p) then s
  else if (s.pool p).free.length = poolCount s p then s.wr .poolEn 0 p
  else bpuReject tid (poolOff p) s

/-- The response to a request, and the data that it returns. -/
def State.respond (s : State) (resp : Nat) (data : List Byte) : State :=
  { s with fab := { s.fab with lastResp := resp, lastData := data.map (·.toNat) } }

/-- The data of a read response. -/
def State.reply (s : State) (v : Nat) : State := s.respond 0 (leBytes 4 v)

/-- A handle (Table SPM-3). -/
def mkHandle (p i g : Nat) : Nat := g + i * 256 + p * 2 ^ 24

/-- Allocate from pool p for a TID (R216). -/
def bpuAllocNow (tid p : Nat) (s : State) : State :=
  let x := s.pool p
  match s.on .poolEn p, x.free with
  | true, i :: t =>
    let b := x.buf i
    let g := if b.gen = 255 then 1 else b.gen + 1
    let s := s.setPool p { x with bufs := x.bufs.set i ⟨true, tid, g⟩, free := t }
    (showFree p s).reply (mkHandle p i g)
  | _, _ =>
    let s := (s.bump .poolEmptyCnt 1 p).reply 0
    if x.hadFree then raise .bpuPoolEmpty tid p (s.setPool p { x with hadFree := false }) else s

/-- The cause of check 1 of Table SPM-4 that a handle fails on the page of pool p; none if it passes. -/
def handleBad (s : State) (p h : Nat) (give : Option Nat) : Option Nat :=
  let q := bitsOf h 24 5
  if bitsOf h 29 3 ≠ 0 ∨ h % 256 = 0 ∨ q ≠ p then some 0
  else if !(s.on .poolEn p) then some 1
  else if poolCount s p ≤ bitsOf h 8 16 then some 0
  else
    match give with
    | some g => if 4 ≤ g ∧ g ≤ 15 then some 2 else none
    | none => none

/-- EVT_BPU_BAD_CMD. -/
def bpuBad (tid p cause : Nat) (s : State) : State := raise .bpuBadCmd tid (p + cause * 256) s

/-- A FREE (R217). -/
def bpuFreeNow (tid p h : Nat) (s : State) : State :=
  match handleBad s p h none with
  | some c => bpuBad tid p c s
  | none =>
    let x := s.pool p
    let i := bitsOf h 8 16
    let b := x.buf i
    if !b.alloc ∨ b.gen ≠ h % 256 then raiseTo .bpuDoubleFree tid p b.owner (s.bump .poolDfree 1 p)
    else if b.owner ≠ tid then raiseTo .bpuForeignFree tid p b.owner (s.bump .poolFfree 1 p)
    else showFree p (s.setPool p { bufs := x.bufs.set i { b with alloc := false }, free := x.free ++ [i], hadFree := true })

/-- A GIVE (R217). -/
def bpuGiveNow (tid p g h : Nat) (s : State) : State :=
  match handleBad s p h (some g) with
  | some c => bpuBad tid p c s
  | none =>
    let x := s.pool p
    let i := bitsOf h 8 16
    let b := x.buf i
    if !b.alloc ∨ b.gen ≠ h % 256 then bpuBad tid p 3 s
    else if b.owner ≠ tid then raiseTo .bpuForeignFree tid (p + 256) b.owner (s.bump .poolFfree 1 p)
    else s.setPool p { x with bufs := x.bufs.set i { b with owner := g } }

/-- A reclaim begins: one NCLK per buffer of the enabled pools (R219). -/
def bpuReclaimNow (tid : Nat) (s : State) : State :=
  let n := ((List.range 32).map fun p => if s.on .poolEn p then poolCount s p else 0).sum
  { s with bpu := { s.bpu with reclaim := some (tid, s.now + n * rootPerN) } }.wr .bpuReclaimBusy 1

/-- Run a command. -/
def bpuRun (c : BpuCmd) (s : State) : State :=
  match c with
  | .alloc t p => bpuAllocNow t p s
  | .free t p h => bpuFreeNow t p h s
  | .give t p g h => bpuGiveNow t p g h s
  | .reclaim t => bpuReclaimNow t s

/-- A command arrives: it waits while a reclaim runs (R219, R220). -/
def bpuCmd (c : BpuCmd) (s : State) : State :=
  if s.bpu.reclaim.isSome then { s with bpu := { s.bpu with waiting := s.bpu.waiting ++ [(c, none)] } } else bpuRun c s

/-- Free every buffer of pool p that TID g owns, in ascending index. -/
def reclaimPool (g p : Nat) (s : State) : State :=
  if s.on .poolEn p then
    let x := s.pool p
    let mine := (x.bufs.filter fun e => decide (e.1 < poolCount s p) && e.2.alloc && e.2.owner == g).map (·.1)
    if mine.isEmpty then s
    else
      let bufs := mine.foldl (fun (t : Tab BpuBuf) i => t.set i { x.buf i with alloc := false }) x.bufs
      showFree p (s.setPool p { bufs := bufs, free := x.free ++ mine, hadFree := true })
  else s

/-- The fabric request that waited for a command has its response; after TIMEOUT it is discarded and counted (R226). -/
def answered (req : Option Nat) (c : BpuCmd) (s : State) : State :=
  match req with
  | none => bpuRun c s
  | some id =>
    let late := s.fab.reqs.any fun r => r.id == id && r.timedOut
    let t := bpuRun c (s.respond 0 [])
    let t := { t with fab := { t.fab with reqs := t.fab.reqs.filter fun r => r.id != id } }
    if late then { t with fab := { t.fab with lastResp := s.fab.lastResp, lastData := s.fab.lastData } }.bump .fabLateCnt 1 else t

/-- The waiting commands run in order, up to another reclaim. -/
def bpuDrain : List (BpuCmd × Option Nat) → State → State
  | [], s => s
  | (.reclaim t, r) :: l, s => answered r (.reclaim t) { s with bpu := { s.bpu with waiting := l } }
  | (c, r) :: l, s => bpuDrain l (answered r c s)

def bpuReclaimDone (s : State) : State :=
  match s.bpu.reclaim with
  | none => s
  | some (g, t) =>
    if t ≤ s.now then
      let s := foldN 32 (reclaimPool g) s
      let w := s.bpu.waiting
      bpuDrain w ({ s with bpu := { s.bpu with reclaim := none, waiting := [] } }.wr .bpuReclaimBusy 0)
    else s

/-- BPU_INFO for the handle in BPU_INFO_H (Table SPM-6). -/
def bpuInfo (s : State) : State :=
  let h := s.rd .bpuInfoH
  let b := (s.pool (bitsOf h 24 5)).buf (bitsOf h 8 16)
  ((s.wr .bpuInfoState (b2n b.alloc)).wr .bpuInfoOwner b.owner).wr .bpuInfoGen b.gen

end Sys2Proof.Machine
end

