-- ==== Sys2Proof/Machine/Sched.lean ====
section
/-! DEFINITION. Contexts, task channels, dispatch and completion, and the classification of models (chapter 14). -/

namespace Sys2Proof.Machine

/-- EVT_SCH_CFG_REJECT for an offset. -/
def schReject (tid off : Nat) (s : State) : State := raise .schCfgReject tid off s

/-- Offsets of channel ch and of context slot k. -/
def chOff (ch : Nat) : Nat := 0x100 + ch * 0x40
def ctxOff (k : Nat) : Nat := 0x2000 + k * 0x40

/-! Shares (R275, R276). -/

/-- Does slot k hold core t in its mask? -/
def ctxHasCore (s : State) (k t : Nat) : Bool := if t < 32 then s.rdBit .ctxCoresLo t k else s.rdBit .ctxCoresHi (t - 32) k

/-- Does slot k hold a core of cluster c? -/
def ctxHasCluster (s : State) (k c : Nat) : Bool := (List.range 8).any fun j => ctxHasCore s k (8 * c + j)

/-- The ends of the LS share and of the CS share of slot k, in banks: a core has 16 and a cluster 32. -/
def ctxLsEnd (s : State) (k : Nat) : Nat := min (s.rd .ctxLsB0 k + s.rd .ctxLsNb k) 16
def ctxCsEnd (s : State) (k : Nat) : Nat := min (s.rd .ctxCsB0 k + s.rd .ctxCsNb k) 32

/-- Is LS bank b in the share of slot k? -/
def ctxLsBank (s : State) (k b : Nat) : Bool := s.rd .ctxLsB0 k ≤ b && b < ctxLsEnd s k

/-- Is CS bank b in the share of slot k? -/
def ctxCsBank (s : State) (k b : Nat) : Bool := s.rd .ctxCsB0 k ≤ b && b < ctxCsEnd s k

/-- Do the shares of two slots overlap? -/
def sharesOverlap (s : State) (k m : Nat) : Bool :=
  ((List.range 64).any (fun t => ctxHasCore s k t && ctxHasCore s m t) &&
      (List.range 16).any fun b => ctxLsBank s k b && ctxLsBank s m b) ||
    ((List.range 8).any (fun c => ctxHasCluster s k c && ctxHasCluster s m c) &&
      (List.range 32).any fun b => ctxCsBank s k b && ctxCsBank s m b)

/-- The conditions of R275. -/
def activateOk (s : State) (k : Nat) : Bool :=
  let tid := s.rd .ctxTid k
  let others := (List.range 64).filter fun m => m != k && s.rd .ctxState m != 0
  s.rd .ctxState k == 0 && 24 ≤ tid && others.all (fun m => s.rd .ctxTid m != tid) &&
    (List.range 64).any (ctxHasCore s k) && (List.range 64).all (fun t => !(ctxHasCore s k t) || !coreReserved s t) &&
    others.all (fun m => !sharesOverlap s k m) &&
    (List.range 8).all (fun c => !(ctxHasCluster s k c) || (List.range 32).all fun b => !(ctxCsBank s k b) || !bankReserved s c b) &&
    (others.map (fun m => s.rd .ctxBw m)).sum + s.rd .ctxBw k + s.rd .schBwRsv ≤ 64

/-- SCH_STAT: slots that are not FREE, and their units. -/
def showSlots (s : State) : State :=
  let l := (List.range 64).filter fun k => s.rd .ctxState k != 0
  (s.wr .schNres l.length).wr .schBwUsed (l.map fun k => s.rd .ctxBw k).sum

def State.ctx (s : State) (k : Nat) : CtxSt := s.sch.ctx.get .init k
def State.setCtx (s : State) (k : Nat) (x : CtxSt) : State := { s with sch := { s.sch with ctx := s.sch.ctx.set k x } }

def ctxActivate (tid k : Nat) (s : State) : State :=
  if activateOk s k then
    let s := { s with sch := { s.sch with switches := satAdd 32 s.sch.switches 1 } }
    showSlots (((s.setCtx k { CtxSt.init with actAt := s.now }).wr .ctxState 1 k).wr .ctxActivate 1 k)
  else schReject tid (ctxOff k + 0x18) s

/-- The Clamp entries of the shares of slot k in cluster c (R276). -/
def shareEntries (s : State) (k c : Nat) : List ClpEntry :=
  let tid := s.rd .ctxTid k
  let mk (base unit b e : Nat) := ClpEntry.make true true false tid tid (base + b * unit) (base + e * unit - 4096)
  let ls := if ctxLsEnd s k ≤ s.rd .ctxLsB0 k then [] else
    ((List.range 8).filter fun j => ctxHasCore s k (8 * c + j)).map fun j =>
      mk (lsBase (8 * c + j)) 0x8000 (s.rd .ctxLsB0 k) (ctxLsEnd s k)
  let cs := if ctxCsEnd s k ≤ s.rd .ctxCsB0 k ∨ !ctxHasCluster s k c then [] else
    [mk (csBase c) 0x20000 (s.rd .ctxCsB0 k) (ctxCsEnd s k)]
  ls ++ cs

/-- The Safety Island removes the entries of the shares of slot k. -/
def dropShares (k : Nat) (s : State) : State :=
  let tid := s.rd .ctxTid k
  foldN 8 (fun c s => if ctxHasCluster s k c then islandRemove (2 + c) (fun e => e.tlo == tid && e.thi == tid) s else s) s

/-! Channels (R280 to R284). -/

/-- Word w of ring entry i of a channel. -/
def taskWord (s : State) (ch i w : Nat) : Nat := s.rd .taskRing ch (i % 8 * 16 + w)

/-- R281: is a written tail index acceptable for a ring of n entries with oldest entry h and tail t? -/
def ringOk (n h t v : Nat) : Bool := (t + n - h % n) % n ≤ (v + n - h % n) % n

def chTailSubmit (tid ch v : Nat) (s : State) : State :=
  if ringOk 8 (chH s ch) (s.rd .chTail ch) v then showCh ch (s.wr .chTail v ch) else schReject tid (chOff ch + 4) s

/-- A decoded task descriptor (Tables SCH-3, SCH-4). -/
structure TaskDesc where
  kind : Nat
  notify : Bool
  fence : Bool
  dir : Bool
  aff : Nat
  waitCh : Nat
  waitEn : Bool
  waitCnt : Nat
  w : List Nat
deriving DecidableEq, Repr

def taskDesc (s : State) (ch i : Nat) : TaskDesc :=
  let w0 := taskWord s ch i 0
  ⟨bitsOf w0 0 4, bitOf w0 4, bitOf w0 5, bitOf w0 6, bitsOf w0 8 6, bitsOf w0 16 6, bitOf w0 23, taskWord s ch i 1,
    (List.range 16).map fun k => taskWord s ch i k⟩

def TaskDesc.word (d : TaskDesc) (k : Nat) : Nat := d.w.getD k 0

/-- A local range of a core (R158): fabric address of its first byte, if it lies in one LS or CS. -/
def localAddr (core a n : Nat) : Option Nat :=
  if a + n ≤ 0x80000 then some (lsBase core + a)
  else if 0x1000000 ≤ a ∧ a + n ≤ 0x1400000 then some (csBase (core / 8) + (a - 0x1000000))
  else none

/-- Does a local range lie inside the shares of slot k? -/
def inShares (s : State) (k a n : Nat) : Bool :=
  if a + n ≤ 0x80000 then
    s.rd .ctxLsB0 k * 0x8000 ≤ a && a + n ≤ ctxLsEnd s k * 0x8000
  else
    0x1000000 + s.rd .ctxCsB0 k * 0x20000 ≤ a && a + n ≤ 0x1000000 + ctxCsEnd s k * 0x20000

/-- Bytes that the local side of a DMA spans. -/
def dmaSpan (d : TaskDesc) : Nat := bitsOf (d.word 10) 0 16 * d.word 12 + d.word 9

/-- Are the reserved fields of a descriptor 0? -/
def taskRsvdOk (d : TaskDesc) : Bool :=
  let w0 := d.word 0
  bitOf w0 7 == false && bitsOf w0 14 2 == 0 && bitOf w0 22 == false && bitsOf w0 28 4 == 0 && d.word 3 == 0 &&
    match d.kind with
    | 1 => (List.range 10).all fun k => d.word (6 + k) == 0
    | 2 => bitsOf (d.word 10) 16 16 == 0 && (List.range 3).all fun k => d.word (13 + k) == 0
    | 3 => bitsOf (d.word 4) 4 28 == 0 && (List.range 11).all fun k => d.word (5 + k) == 0
    | _ => (List.range 12).all fun k => d.word (4 + k) == 0

/-- Is a task valid in its channel (R284)? -/
def taskValid (s : State) (ch : Nat) (d : TaskDesc) : Bool :=
  let k := s.rd .chSlot ch
  let free := s.on .chMode ch
  1 ≤ d.kind && d.kind ≤ 4 && taskRsvdOk d && (free && d.kind != 3 || ctxHasCore s k d.aff) &&
    (!d.waitEn || s.rd .chSlot d.waitCh == k) &&
    match d.kind with
    | 1 => inShares s k (d.word 4) 1 && inShares s k (d.word 5) 1
    | 2 => 1 ≤ d.word 9 && d.word 9 ≤ 65536 && (!free || 0x1000000 ≤ d.word 8) && inShares s k (d.word 8) (dmaSpan d)
    | _ => true

/-- An Assembly context: a resident slot that no queue pair owns, on a worker (R416, R418). -/
def asmSlot (s : State) (k : Nat) : Bool :=
  s.rd .asmRole == 2 && s.rd .ctxState k != 0 && !(s.host.models.any fun m => m.slot == k)

/-- Does a channel dispatch, and has it a head-of-line task (R280, R288, R418)? -/
def chLive (s : State) (ch : Nat) : Bool :=
  s.on .chEn ch && s.rd .chState ch != 2 && chQueued s ch != 0 && s.rd .ctxState (s.rd .chSlot ch) == 2 &&
    !(s.dwl.held && asmSlot s (s.rd .chSlot ch))

/-- Is the head-of-line task of a channel ready (R280, R283)? -/
def taskReady (s : State) (ch : Nat) : Bool :=
  chLive s ch &&
    let d := taskDesc s ch (s.rd .chHead ch)
    (!d.fence || s.rd .chHead ch == chH s ch) &&
      (!d.waitEn || 0 ≤ s32 ((s.rd .chDone d.waitCh + 2 ^ 32 - d.waitCnt) % 2 ^ 32))

def State.ch (s : State) (ch : Nat) : ChSt := s.sch.ch.get .init ch
def State.setCh (s : State) (ch : Nat) (x : ChSt) : State := { s with sch := { s.sch with ch := s.sch.ch.set ch x } }

/-- The first NCLK edge after now. -/
def nextNclk (s : State) : Nat := s.clk.epoch + ((s.now - s.clk.epoch) / rootPerN + 1) * rootPerN

/-- From when on a task that the state makes ready is ready: a CH_DONE that rises now is seen in the following NCLK (R283). -/
def readyFrom (s : State) (ch : Nat) : Nat :=
  let d := taskDesc s ch (s.rd .chHead ch)
  if d.waitEn ∧ (s.ch d.waitCh).doneAt = s.now then nextNclk s else s.now

/-- Note since when the head-of-line task of a channel is ready. -/
def noteHead (ch : Nat) (s : State) : State :=
  match taskReady s ch, (s.ch ch).ready with
  | true, none => s.setCh ch { s.ch ch with ready := some (readyFrom s ch) }
  | false, some _ => s.setCh ch { s.ch ch with ready := none }
  | _, _ => s

/-- Note it for every channel, as a command leaves them. -/
def noteReady (s : State) : State := foldN 64 noteHead s

/-! Resources (R286, R287, Table SCH-5). -/

/-- Is a core idle and a candidate? -/
def coreIdle (s : State) (t : Nat) : Bool := s.rd .tcState t == 0 && !coreReserved s t

def dmaIdle (s : State) (c d : Nat) : Bool := !(s.sch.runs.any fun r => r.res == .dma c d)
def cnvIdle (s : State) (c : Nat) : Bool := !(s.sch.runs.any fun r => r.res == .cnv c)

/-- The cluster whose TD starts a task on a resource. -/
def TaskRes.cluster (r : TaskRes) : Nat :=
  match r with
  | .core t => t / 8
  | .dma c _ => c
  | .cnv c => c

/-! Completion (R280, R288, R289). -/

/-- CH_DONE rises over the leading completed entries. -/
def advanceDone (ch : Nat) : Nat → State → State
  | 0, s => s
  | n + 1, s =>
    let x := s.ch ch
    let h := chH s ch
    if h ∈ x.comp then
      advanceDone ch n ((s.setCh ch { x with comp := x.comp.filter (· != h), doneAt := s.now }).bumpW .chDone 1 ch)
    else s

/-! Throttling (R454). The 1 ms windows of R453 are counted from T0 (DESIGN CHOICE, log 44). -/

/-- The start of the current window. -/
def winStart (s : State) : Nat := s.boot.t0 + (s.now - s.boot.t0) / rootPerMs * rootPerMs

/-- Time that ended tasks or jobs of cluster or engine e have used in the current window. -/
def endedUse (s : State) (e : Nat) : Nat :=
  let u := s.pwr.used.get (0, 0) e
  if u.1 = winStart s then u.2 else 0

/-- The part in the current window of a run that began at t. -/
def useSince (s : State) (t : Nat) : Nat := s.now - max t (winStart s)

/-- A task or job of cluster or engine e that began at t ends. -/
def noteUsed (e t : Nat) (s : State) : State :=
  { s with pwr := { s.pwr with used := s.pwr.used.set e (winStart s, endedUse s e + useSince s t) } }

/-- May an engine start a new job, by its own time in the window (R454)? -/
def startAllowed (s : State) (e : Nat) : Bool :=
  s.rd .pwrL == 0 || decide (4 * endedUse s e < (4 - s.rd .pwrL) * rootPerMs)

/-- Core time that the tasks of ordinary contexts have used in cluster c in the window. -/
def coreUse (s : State) (c : Nat) : Nat :=
  endedUse s c + ((s.sch.runs.filter fun r => match r.res with
    | .core t => t / 8 == c
    | _ => false).map fun r => useSince s r.startAt).sum

/-- May the TD of cluster c start a task (R454)? The window counts once for each of the cluster's eight cores (DEDUCED, log 44). -/
def tdMayStart (s : State) (c : Nat) : Bool :=
  s.rd .pwrL == 0 || decide (4 * coreUse s c < (4 - s.rd .pwrL) * (8 * rootPerMs))

/-- Channels in the order in which the TD of cluster c serves them: PRIO first, then cyclic after the channel last served. -/
def tdOrder (s : State) (c : Nat) : List Nat :=
  let last := s.sch.served.get 63 c
  (List.range 8).flatMap fun p => (List.range 64).filterMap fun j =>
    let ch := (last + 1 + j) % 64
    if s.rd .chPrio ch = 7 - p then some ch else none

/-- Does the TD of a cluster start now what it may start from root time p on? It starts a task 32 TCLK after that, on an edge of TCLK; one
that it held back because of the throttle it starts with the next window (DEDUCED, log entry 40). -/
def startsNow (s : State) (p : Nat) : Bool :=
  let q := p + 32 * rootPerT
  s.clk.up && (s.now - s.clk.epoch) % rootPerT == 0 && decide (q ≤ s.now) &&
    (decide (s.now < q + rootPerT) || s.pwr.lastL != 0 && decide (s.now < winStart s + rootPerT))

/-- Does the TD of a resource start the head-of-line task of a channel on it now? Its cluster has a clock, and R454 allows the start. -/
def resDue (s : State) (ch : Nat) (r : TaskRes) : Bool :=
  match (s.ch ch).ready with
  | none => false
  | some t => s.clockOn (3 + r.cluster) && startsNow s (max t (s.sch.idle.get 0 r.no)) && tdMayStart s r.cluster

/-- The resource on which a ready, valid task of a channel starts now (Table SCH-5). -/
def pickRes (s : State) (ch : Nat) (d : TaskDesc) : Option TaskRes :=
  let k := s.rd .chSlot ch
  let core (t : Nat) : Bool := coreIdle s t && resDue s ch (.core t)
  let dma (c x : Nat) : Bool := dmaIdle s c x && resDue s ch (.dma c x)
  let first := s.on .chMode ch
  match d.kind with
  | 1 => (((List.range 64).filter fun t => if first then ctxHasCore s k t else t == d.aff).find? core).map .core
  | 2 =>
    ((List.range 8).filter fun c => if first then ctxHasCluster s k c else c == d.aff / 8).findSome? fun c =>
      ((List.range 4).find? (dma c)).map (.dma c)
  | 3 => if cnvIdle s (d.aff / 8) && resDue s ch (.cnv (d.aff / 8)) then some (.cnv (d.aff / 8)) else none
  | _ => none

/-- The resource of a task is idle again. -/
def freeRes (r : TaskRes) (s : State) : State :=
  let s := { s with sch := { s.sch with idle := s.sch.idle.set r.no s.now } }
  match r with
  | .core t => if s.rd .tcState t = 1 then (s.wr .tcState 0 t).wr .tcTid 0 t else s
  | _ => s

/-- Ring entry i of a channel completes with a result and T (Table SCH-6). CH_STAT keeps the result that has halted the channel
(DEDUCED, log entry 40). -/
def endEntry (ch i result t : Nat) (s : State) : State :=
  let d := taskDesc s ch i
  let w0 := taskWord s ch i 0
  let s := (s.wr .taskRing (w0 - bitsOf w0 24 4 * 2 ^ 24 + result * 2 ^ 24) ch (i % 8 * 16)).wr .taskRing t ch (i % 8 * 16 + 2)
  let s := advanceDone ch 8 (s.setCh ch { s.ch ch with comp := (i % 8) :: (s.ch ch).comp })
  let s := if d.notify then notifyCh ch s else s
  if 2 ≤ result ∧ result ≤ 7 then
    let k := s.rd .chSlot ch
    let c := s.ctx k
    let s := s.setCtx k { c with errs := satAdd 32 c.errs 1 }
    let s := if s.rd .chState ch = 2 then s else ((s.wr .chState 2 ch).wr .chResult result ch).wr .chIndex i ch
    raise .schTaskError (s.rd .ctxTid k) (ch + result * 256) s
  else showCh ch s

/-- A running task ends. -/
def endRun (r : TaskRun) (result : Nat) (s : State) : State :=
  let s := match r.res with
    | .core t => noteUsed (t / 8) r.startAt s
    | _ => s
  let s := freeRes r.res { s with sch := { s.sch with runs := s.sch.runs.filter fun x => !(x.ch == r.ch && x.idx == r.idx) } }
  endEntry r.ch r.idx result ((s.now - r.startAt) / rootPerT) s

/-- A task starts on a resource. -/
def startTask (ch : Nat) (d : TaskDesc) (r : TaskRes) (s : State) : State :=
  let i := s.rd .chHead ch
  let tid := s.rd .ctxTid (s.rd .chSlot ch)
  let s := ((s.setCh ch { s.ch ch with ready := none }).wr .chHead (i + 1) ch).bump .schDispCnt 1
  let s := { s with sch := { s.sch with served := s.sch.served.set r.cluster ch,
                                        runs := s.sch.runs ++ [⟨ch, i, tid, r, s.now, 0, none, 0, 0⟩] } }
  let s :=
    match r with
    | .core t => (s.wr .tcState 1 t).wr .tcTid tid t
    | .cnv c => s.wr .cnvQTail (d.word 4 % 16 + 1) c
    | .dma _ _ => s
  showCh ch s

/-- The head-of-line task of a channel without a resource: a barrier completes, an invalid task ends with result 7. -/
def endHead (ch result : Nat) (s : State) : State :=
  let i := s.rd .chHead ch
  let s := (s.setCh ch { s.ch ch with ready := none }).wr .chHead (i + 1) ch
  endEntry ch i result 0 (if result = 1 then s.bump .schDispCnt 1 else s)

/-- What the TD of cluster c does now for a channel: end its head-of-line task at once, or start it on a resource of c. -/
def tdTake (s : State) (c ch : Nat) : Option (Nat × Option TaskRes) :=
  if chLive s ch then
    let d := taskDesc s ch (s.rd .chHead ch)
    if !taskValid s ch d then some (ch, none)
    else if !taskReady s ch then none
    else if d.kind = 4 then if ((s.ch ch).ready.map (startsNow s)).getD false then some (ch, none) else none
    else match pickRes s ch d with
      | some r => if r.cluster = c then some (ch, some r) else none
      | none => none
  else none

def taskDispatch (c : Nat) (s : State) : State :=
  match (tdOrder s c).findSome? (tdTake s c) with
  | none => s
  | some (ch, some r) => startTask ch (taskDesc s ch (s.rd .chHead ch)) r s
  | some (ch, none) => endHead ch (if taskValid s ch (taskDesc s ch (s.rd .chHead ch)) then 1 else 7) s

/-! DMA (Table SCH-4, R260). -/

/-- The physical address of a pretranslated access, if its pair holds (R260) and the address space is not dead (R265); a GEN mismatch is
counted. -/
def pairAddr (d : TaskDesc) (tid va n : Nat) (s : State) : Option Nat × State :=
  let hi := d.word 7 * 2 ^ 32 + d.word 6
  if !bitOf hi 63 ∨ s.on .mmuDead tid then (none, s)
  else if bitsOf hi 42 16 ≠ s.rd .mmuGen tid then (none, s.bump .mmuCntGenmiss 1)
  else
    let pgs := bitsOf hi 40 2
    let va0 := d.word 5 % 65536 * 2 ^ 32 + d.word 4
    let page := va0 / 2 ^ pgBits pgs * 2 ^ pgBits pgs
    let pa := bitsOf hi 12 28 * 4096 / 2 ^ pgBits pgs * 2 ^ pgBits pgs
    if page ≤ va ∧ va + n ≤ page + 2 ^ pgBits pgs then (some (pa + (va - page)), s) else (none, s)

/-- The result of a response that is not OKAY (Table SCH-6). -/
def respResult (r : Nat) : Nat := if r = rOkay then 1 else if r = rData then 3 else 5

/-- Move the bytes of one row in pieces that do not cross a 128-byte line of the remote side: a result (0 while all is well,
0x10 for a stall), and the state. -/
def dmaRowGo (r : TaskRun) (d : TaskDesc) (e : Nat) : Nat → Nat → Nat → Nat → State → Nat × State
  | 0, _, _, _, s => (0, s)
  | fuel + 1, va, loc, left, s =>
    if left = 0 then (0, s)
    else
      let n := min left (128 - va % 128)
      let port := enginePort e
      let x : XRes × State :=
        match pairAddr d r.tid va n s with
        | (some pa, s) => (.ok ⟨r.tid, va, 0, pa, true, true⟩, s)
        | (none, s) => xlate e r.tid va d.dir s
      match x with
      | (.fault c l, s) =>
        let (kill, s) := mmuFault e r.tid va d.dir c l s
        (if kill then 4 else 0x10, s)
      | (.ok t, s) =>
        let pa := t.phys va
        let rd := busRead port r.tid (if d.dir then loc else pa) n s
        if rd.resp ≠ rOkay then (respResult rd.resp, rd.s)
        else
          let (w, s) := busWrite port r.tid (if d.dir then pa else loc) rd.data rd.s
          if w ≠ rOkay then (respResult w, s)
          else dmaRowGo r d e fuel (va + n) (loc + n) (left - n) s

/-- Fabric address of the local side of a DMA of cluster c. -/
def dmaLocal (c : Nat) (d : TaskDesc) (a : Nat) : Nat :=
  if a < 0x80000 then lsBase d.aff + a else csBase c + (a - 0x1000000)

/-- Move `n` rows from row k up: the result and the rows done. -/
def dmaRows (r : TaskRun) (d : TaskDesc) (c ch : Nat) : Nat → Nat → State → Nat × Nat × State
  | 0, k, s => (0, k, s)
  | n + 1, k, s =>
    let va := (d.word 5 % 65536 * 2 ^ 32 + d.word 4 + k * d.word 11) % 2 ^ 48
    let (res, s) := dmaRowGo r d (4 * c + ch) (d.word 9) va (dmaLocal c d (d.word 8 + k * d.word 12)) (d.word 9) s
    if res = 0 then dmaRows r d c ch n (k + 1) s else (res, k, s)

/-- A run of a DMA task over up to `n` of the rows that are left. -/
def dmaRun (r : TaskRun) (n : Nat) (s : State) : Nat × Nat × State :=
  let d := taskDesc s r.ch r.idx
  match r.res with
  | .dma c x => dmaRows r d c x (min n (bitsOf (d.word 10) 0 16 + 1 - r.rows)) r.rows s
  | _ => (0, 0, s)

/-- A running DMA task has moved its rows up to row k. -/
def putRows (r : TaskRun) (k : Nat) (s : State) : State :=
  { s with sch := { s.sch with runs := s.sch.runs.map fun (x : TaskRun) => if x.ch = r.ch ∧ x.idx = r.idx then { x with rows := k } else x } }

/-- The running task at ring entry i of a channel. -/
def findRun (s : State) (ch i : Nat) : Option TaskRun := s.sch.runs.find? fun r => r.ch == ch && r.idx == i

/-- Root cycles that count against TLIM (R285). -/
def runTime (s : State) (r : TaskRun) : Nat := s.now - r.startAt - r.stalled

/-- TLIM in root cycles. -/
def tlim (s : State) : Nat := s.rd .schTlim * rootPerUs

/-- A DMA task completes, stalls or fails. -/
def completeDma (r : TaskRun) (s : State) : State :=
  let (res, k, s) := dmaRun r 65536 s
  if res = 0 then endRun r 1 s
  else if res = 0x10 then putRows r k s
  else endRun r res s

/-- A CNV task completes once its job has written back its STATUS (R282, R285). -/
def completeCnv (r : TaskRun) (s : State) : State :=
  if r.fail = 0 then s
  else endRun r (if tlim s < runTime s r then 6 else r.fail) s

/-- Has a task run past the TCLK in which it reached TLIM? In that TCLK its completion wins (Table SCH-11). -/
def pastLimit (s : State) (r : TaskRun) : Bool := decide (tlim s + rootPerT ≤ runTime s r)

def taskComplete (ch i : Nat) (s : State) : State :=
  match findRun s ch i with
  | none => s
  | some r =>
    if r.stallFrom.isSome then s
    else
      match r.res with
      | .core _ => if r.fail ≠ 0 then endRun r r.fail s else if pastLimit s r then s else endRun r 1 s
      | .dma _ _ => if pastLimit s r then s else completeDma r s
      | .cnv _ => completeCnv r s

/-- The program of a core is abandoned: the core is idle again when its operations in flight have completed (R285). -/
def abandonCore (r : TaskRun) (t : Nat) (s : State) : State :=
  let s' := endRun r 6 s
  if s.rd .tcState t = 1 ∧ s.now < (s.core t).busyTo then
    ({ s' with sch := { s'.sch with drain := t :: s'.sch.drain } }.wr .tcState 1 t).wr .tcTid r.tid t
  else s'

/-- A core that completes operations of an abandoned program is idle when they have completed. -/
def drainDue (s : State) (t : Nat) : State :=
  if (s.core t).busyTo ≤ s.now then
    let s := { s with sch := { s.sch with drain := s.sch.drain.filter (· != t), idle := s.sch.idle.set t (s.core t).busyTo } }
    if s.rd .tcState t = 1 then (s.wr .tcState 0 t).wr .tcTid 0 t else s
  else s

def taskOverrun (ch i rows : Nat) (s : State) : State :=
  match findRun s ch i with
  | none => s
  | some r =>
    if r.stallFrom.isSome ∨ r.fail ≠ 0 ∨ runTime s r < tlim s ∨ pastLimit s r then s
    else
      match r.res with
      | .core t => abandonCore r t s
      | .dma _ _ =>
        let (res, k, s) := dmaRun r rows s
        if res = 0x10 then putRows r k s
        else endRun r (if res = 0 then 6 else res) s
      | .cnv _ => s

def chResume (ch : Nat) (s : State) : State := if s.rd .chState ch = 2 then showCh ch (s.wr .chState 0 ch) else s

/-- Cancel every queued task of a channel with result 8. -/
def cancelQueued (ch : Nat) : Nat → State → State
  | 0, s => s
  | n + 1, s =>
    if chQueued s ch = 0 then s
    else
      let i := s.rd .chHead ch
      cancelQueued ch n (endEntry ch i 8 0 (s.wr .chHead (i + 1) ch))

/-! Release and termination (R274, R278). -/

/-- Does any channel of slot k hold a queued or running task? -/
def slotBusy (s : State) (k : Nat) : Bool :=
  (List.range 64).any fun ch => s.rd .chSlot ch == k && (chQueued s ch != 0 || chRuns s ch)

/-- The channels of slot k are disabled. -/
def disableChannels (k : Nat) (s : State) : State :=
  foldN 64 (fun ch s => if s.rd .chSlot ch = k then s.wr .chEn 0 ch else s) s

/-- The contents of the shares of slot k are lost (R276): each byte holds a free value. -/
def loseShares (k : Nat) (s : State) : State :=
  let lb := s.rd .ctxLsB0 k
  let cb := s.rd .ctxCsB0 k
  let le := ctxLsEnd s k
  let ce := ctxCsEnd s k
  let s := foldN 64 (fun t s => if ctxHasCore s k t then s.loseMem (lsBase t + lb * 0x8000) (lsBase t + le * 0x8000) else s) s
  foldN 8 (fun c s => if ctxHasCluster s k c then s.loseMem (csBase c + cb * 0x20000) (csBase c + ce * 0x20000) else s) s

/-- Slot k becomes FREE. -/
def freeSlot (k : Nat) (s : State) : State :=
  let s := loseShares k (dropShares k s)
  let s := s.setCtx k { s.ctx k with weights := [], weightsAt := none, ending := false }
  showSlots (((s.wr .ctxState 0 k).wr .ctxActivate 0 k).wr .ctxTerminate 0 k)

/-- Release of a context, if R278 accepts it. -/
def releaseOk (s : State) (k : Nat) : Bool := s.rd .ctxState k == 2 && !slotBusy s k

def ctxRelease (tid k : Nat) (s : State) : State :=
  if releaseOk s k then freeSlot k (disableChannels k s) else schReject tid (ctxOff k + 0x18) s

/-- A DMA task stalled on a BATCH fault is cancelled, and its engine with it. -/
def cancelStalled (k : Nat) (s : State) : State :=
  (s.sch.runs.filter fun r => s.rd .chSlot r.ch == k && r.stallFrom.isSome).foldl
    (fun s r => match r.res with
      | .dma c x => endRun r 8 { s with mmu := { s.mmu with stall := s.mmu.stall.set (4 * c + x) none } }
      | _ => s) s

def ctxTerminate (k : Nat) (s : State) : State :=
  if s.rd .ctxState k = 2 then
    let s := foldN 64 (fun ch s => if s.rd .chSlot ch = k then cancelQueued ch 8 s else s) s
    ((disableChannels k (cancelStalled k s)).wr .ctxState 3 k).wr .ctxTerminate 1 k
  else s

/-- Root cycles in which a context's share of the bandwidth carries its resident weights (R277, R279). -/
def weightTime (s : State) (k : Nat) : Nat :=
  ceilDiv (((s.ctx k).weights.map fun w => w.2.length).sum * 21) (5 * s.rd .ctxBw k)

def ctxResident (k : Nat) (s : State) : State :=
  if s.rd .ctxState k = 1 then
    let s := foldN 8 (fun c s => if ctxHasCluster s k c then islandInstall (2 + c) (shareEntries s k c) s else s) s
    let x := s.ctx k
    let s := s.setCtx k { x with switchUs := (s.now - x.actAt) / rootPerUs,
                                 weightsAt := if x.weights = [] then none else some (s.now + weightTime s k) }
    let s := raise .schCtxResident (s.rd .ctxTid k) k ((s.wr .ctxState 2 k).wr .ctxActivate 0 k)
    if x.ending then ctxTerminate k s else s
  else s

/-- A context ends (R278, R386): one that is still activating is terminated once it is RESIDENT (R274). -/
def endContext (k : Nat) (s : State) : State :=
  if s.rd .ctxState k = 1 then s.setCtx k { s.ctx k with ending := true } else ctxTerminate k s

def ctxFree (k : Nat) (s : State) : State :=
  if s.rd .ctxState k = 3 ∧ !(s.sch.runs.any fun r => s.rd .chSlot r.ch == k) then
    raise .schCtxFree (s.rd .ctxTid k) k (freeSlot k s)
  else s

/-! Fitting a model (R291 to R293). -/

/-- Clusters in the mask of a slot. -/
def ctxClusters (s : State) (k : Nat) : Nat := (whichOf 8 (ctxHasCluster s k)).length

/-- The chip capacity C. -/
def chipCapacity (s : State) : Nat :=
  33554432 - ((List.range 8).map fun n => if s.rd .mitState n = 0 then 0 else s.rd .mitWbanks n * 131072).sum

/-- Is an Assembly with a worker that is not quarantined present? -/
def assemblyThere (s : State) : Bool := (whichOf 16 fun b => b != 0 && s.rdBit .asmMember b && !s.rdBit .asmQuar b).length != 0

/-- Table SCH-7: class and reason. -/
def classify (s : State) (k : Nat) (image : ModelImage) (w aCs aLs : Nat) : Nat × Nat :=
  let ls := s.rd .ctxLsNb k * 0x8000
  let cs := s.rd .ctxCsNb k * 0x20000
  let sh := ctxClusters s k * (cs - aCs)
  if !image.ok then (3, 1)
  else if ls < aLs ∨ cs ≤ aCs then (3, 2)
  else if w ≤ sh then (0, 0)
  else if 4 * w ≤ 5 * sh then (1, 0)
  else if chipCapacity s < w ∧ assemblyThere s then (2, 0)
  else if w ≤ chipCapacity s then (3, 3)
  else (3, 4)

def modelLoad (k modelId : Nat) (image : ModelImage) (w aCs aLs : Nat) (s : State) : State :=
  let (cls, why) := classify s k image w aCs aLs
  let sh := ctxClusters s k * (s.rd .ctxCsNb k * 0x20000 - aCs)
  let cost := if cls = 1 then ceilDiv (w - sh) (2 * s.rd .ctxBw k) else 0
  let s := { s with sch := { s.sch with load := ⟨modelId, cls, why, w - sh, aLs - s.rd .ctxLsNb k * 0x8000, 0, cost, if cls = 3 then molRejected else 0⟩ } }
  if cls = 1 then raise .schFitsStreamed 1 k s
  else if cls = 3 then raise .schModelRejected 1 why s
  else s

end Sys2Proof.Machine
end

