-- ==== Sys2Proof/Machine/Yarrow.lean ====
section
/-! DEFINITION. Yarrow: the dictionary, the tokenizer, its jobs, and the look-ahead feed (chapter 07). -/

namespace Sys2Proof.Machine

/-- EVT_YAR_CFG_REJECT for an offset. -/
def yarReject (tid off : Nat) (s : State) : State := raise .yarCfgReject tid off s

/-- Offsets of a Yarrow unit and of a PPU (Table YAR-7). -/
def yarOff (u : Nat) : Nat := 0x100 + u * 0x100
def ppuOff (v : Nat) : Nat := 0x400 + v * 0x40

def State.yar (s : State) (u : Nat) : YarSt := s.comp.yar.get .init u
def State.setYar (s : State) (u : Nat) (y : YarSt) : State := { s with comp := { s.comp with yar := s.comp.yar.set u y } }

/-! Rings of descriptors. A ring lies in the runtime's memory: its accesses are those of TID 1, whose addresses are not
translated (R257). -/

/-- Read a descriptor; a failed access leaves zeros. -/
def ringRead (a n : Nat) (s : State) : List Byte × State :=
  let o := busRead 1 1 a n s
  (o.data ++ List.replicate (n - o.data.length) 0, o.s)

def ringWrite (a : Nat) (l : List Byte) (s : State) : State := (busWrite 1 1 a l s).2

/-- Bytes of a field of a descriptor as a number. -/
def fieldAt (l : List Byte) (off n : Nat) : Nat := leNat ((l.drop off).take n)

/-! The dictionary (R142, R143). -/

/-- The image address of a unit. -/
def dictAddr (s : State) (u : Nat) : Nat := s.rd .yarDictHi u * 2 ^ 32 + s.rd .yarDictLo u

/-- Does R139 accept a byte outside comments, other than "("? -/
def dictByteOk (fold : Bool) (b : Byte) : Bool :=
  let n := b.toNat
  n == 0x0A || n == 0x0D || n == 0x09 || n == 0x20 || n == 0x25 || (0x2B ≤ n && n ≤ 0x3A) || (0x41 ≤ n && n ≤ 0x5A) ||
    (fold && 0x61 ≤ n && n ≤ 0x7A)

/-- The entries of an image of `n` entries: the entries read, and the first ordinal whose layout breaks Table YAR-3. -/
def dictParse : Nat → Nat → List Byte → List DictEnt → List DictEnt × Option Nat × Nat
  | 0, _, _, acc => (acc.reverse, none, 0)
  | n + 1, k, l, acc =>
    match l with
    | len :: fl :: t =>
      let m := len.toNat
      let f := fl.toNat
      let val := bitsOf f 0 2
      let ok := 1 ≤ m && m ≤ 32 && m ≤ t.length && bitsOf f 5 3 == 0 && val ≤ 2 && bitsOf f 2 3 ≤ 6 &&
        (val == 1 || bitsOf f 2 3 == 0)
      if ok then
        let r := dictParse n (k + 1) (t.drop m) (⟨t.take m, f⟩ :: acc)
        (r.1, r.2.1, r.2.2 + m + 2)
      else (acc.reverse, some k, 0)
    | _ => (acc.reverse, some k, 0)

/-- The first ordinal that R143 rejects: a bad byte, a repeated text, or a numeric entry that does not end in A–Z. -/
def dictOffence (fold : Bool) (l : List DictEnt) : Option Nat :=
  (List.range l.length).find? fun k =>
    let e := l.getD k ⟨[], 0⟩
    let last := (e.text.getLast?.getD 0).toNat
    e.text.any (fun b => !dictByteOk fold b) || (l.take k).any (fun x => x.text == e.text) ||
      (bitsOf e.flags 0 2 != 0 && !(0x41 ≤ last && last ≤ 0x5A))

/-- Bytes of a dictionary image at most. -/
def dictMax : Nat := 2097152

/-- The image at an address: an ordinal (0xFFFF for a header error), or the entries with N and the digest. -/
def dictCheck (fold : Bool) (img : List Byte) : Nat ⊕ (List DictEnt × Nat × Nat) :=
  let n := fieldAt img 4 4
  if fieldAt img 0 2 ≠ 0x5941 ∨ fieldAt img 2 2 ≠ 1 ∨ 65264 < n ∨ fieldAt img 16 16 ≠ 0 then .inl 0xFFFF
  else
    match dictParse n 0 (img.drop 32) [] with
    | (l, some k, _) => .inl ((dictOffence fold l).getD k)
    | (l, none, bytes) =>
      if (sha256 ((img.drop 16).take (16 + bytes))).take 8 ≠ (img.drop 8).take 8 then .inl 0xFFFF
      else
        match dictOffence fold l with
        | some k => .inl k
        | none => .inr (l, n, fieldAt img 8 8)

/-- Read the entries of an image from offset `off` up, each by its length byte; an entry whose length is out of range, or that
runs past the largest image, ends the reading. `acc` holds what was read, newest first. -/
def dictEntries (a : Nat) : Nat → Nat → List (List Byte) → State → List (List Byte) × State
  | 0, _, acc, s => (acc, s)
  | n + 1, off, acc, s =>
    let (h, s) := ringRead (a + off) 2 s
    let m := (h.headD 0).toNat
    if m = 0 ∨ 32 < m ∨ dictMax < off + 2 + m then (h :: acc, s)
    else
      let (t, s) := ringRead (a + off + 2) m s
      dictEntries a n (off + 2 + m) (t :: h :: acc) s

/-- Read the image at an address: its header, and as many entries as the header gives. -/
def dictImage (a : Nat) (s : State) : List Byte × State :=
  let (h, s) := ringRead a 32 s
  let n := fieldAt h 4 4
  let (l, s) := dictEntries a (if 65264 < n then 0 else n) 32 [] s
  (h ++ l.reverse.flatten, s)

def yarDictLoad (tid u : Nat) (s : State) : State :=
  if s.rd .yarQTail u ≠ s.rd .yarQHead u then yarReject tid (yarOff u + 0x0C) s
  else
    let (img, s) := dictImage (dictAddr s u) s
    match dictCheck (s.on .yarFold u) img with
    | .inl k => raise .yarDictReject tid k s
    | .inr (l, n, d) =>
      let s := s.setYar u { s.yar u with dict := l }
      ((s.wr .yarDictValid 1 u).wr .yarDictN n u |>.wr .yarDictDigLo d u).wr .yarDictDigHi (d / 2 ^ 32) u

/-! The tokenizer (R139 to R146). Bytes are Nat. -/

/-- A token record (Table YAR-4). -/
structure Tok where
  code : Nat
  kind : Nat
  sat : Bool
  noval : Bool
  value : Nat
deriving DecidableEq, Repr

def Tok.plain (code : Nat) : Tok := ⟨code, 0, false, false, 0⟩
def Tok.counted (code n : Nat) : Tok := ⟨code, 0, false, false, n⟩
def tokRepl : Nat := 0x101
def tokCmt : Nat := 0x102

def Tok.bytes (t : Tok) : List Byte :=
  leBytes 4 (t.code + t.kind * 2 ^ 16 + b2n t.sat * 2 ^ 18 + b2n t.noval * 2 ^ 19) ++ leBytes 4 t.value

/-- Fold a–z to A–Z. -/
def foldByte (fold : Bool) (n : Nat) : Nat := if fold ∧ 0x61 ≤ n ∧ n ≤ 0x7A then n - 32 else n

/-- Is a byte matched against the dictionary (after folding)? -/
def matchable (n : Nat) : Bool := n == 0x25 || (0x2B ≤ n && n ≤ 0x3A) || (0x41 ≤ n && n ≤ 0x5A)

def isSpaceByte (n : Nat) : Bool := n == 0x0D || n == 0x09 || n == 0x20

/-- Is a byte invalid outside comments? -/
def invalidByte (fold : Bool) (n : Nat) : Bool :=
  !(n == 0x0A || isSpaceByte n || n == 0x28 || matchable (foldByte fold n))

/-- Is a byte accepted inside a comment? -/
def commentByte (n : Nat) : Bool := 0x20 ≤ n && n ≤ 0x7E

/-- Does a dictionary text equal the next bytes? -/
def textMatches (fold : Bool) : List Byte → List Nat → Bool
  | [], _ => true
  | _ :: _, [] => false
  | b :: t, n :: l => b.toNat == foldByte fold n && matchable (foldByte fold n) && textMatches fold t l

/-- The longest entry that matches: ordinal and entry (R144). -/
def longestMatch (fold : Bool) (dict : List DictEnt) (l : List Nat) : Option (Nat × DictEnt) :=
  (List.range dict.length).foldl
    (fun best k =>
      let e := dict.getD k ⟨[], 0⟩
      if textMatches fold e.text l then
        match best with
        | some (_, b) => if b.text.length < e.text.length then some (k, e) else best
        | none => some (k, e)
      else best) none

/-- The numeric field at the head of a text (R145). -/
def fieldBytes (fold : Bool) (l : List Nat) : List Nat :=
  l.takeWhile fun n => !(n == 0x0A || isSpaceByte n || n == 0x28 || (0x41 ≤ n && n ≤ 0x5A) || (fold && 0x61 ≤ n && n ≤ 0x7A))

def isDigit (n : Nat) : Bool := 0x30 ≤ n && n ≤ 0x39

def digitsVal (l : List Nat) : Nat := l.foldl (fun a n => a * 10 + (n - 0x30)) 0

/-- A well-formed field: sign and exact value; none if it is not well-formed. -/
def fieldValue (l : List Nat) : Option (Bool × Rat) :=
  let (neg, t) := match l with
    | 0x2D :: t => (true, t)
    | 0x2B :: t => (false, t)
    | t => (false, t)
  let a := t.takeWhile isDigit
  let r := t.drop a.length
  let form : Option (List Nat) := match r with
    | [] => if a.isEmpty then none else some []
    | 0x2E :: f => if f.all isDigit ∧ !(a.isEmpty ∧ f.isEmpty) then some f else none
    | _ => none
  if 24 < l.length then none
  else form.map fun f => (neg, (digitsVal (a ++ f) : Rat) / ((10 ^ f.length : Nat) : Rat))

/-- The record of an entry with a side value. -/
def valueTok (code val e : Nat) (neg : Bool) (x : Rat) : Tok :=
  if val = 1 then
    let n := roundInt ((if neg then -x else x) * ((10 ^ e : Nat) : Rat)) none
    let (m, sat) := satRange (-2147483648) 2147483647 n
    ⟨code, 1, sat, false, u32 m⟩
  else
    let (b, f) := fmtF32.round none true (.fin (if neg then -x else x) (neg && decide (x = 0)))
    ⟨code, 2, f.sat, false, b⟩

/-- Bytes of a comment that starts at "(", and whether it is well-formed (R141). -/
def commentLen : List Nat → Nat → Bool → Nat × Bool
  | [], n, _ => (n, false)
  | b :: t, n, ok =>
    if b = 0x0A then (n, false) else if b = 0x29 then (n + 1, ok) else commentLen t (n + 1) (ok && commentByte b)

/-- The tokens at the head of a text and the bytes that they take. -/
def nextToks (fold : Bool) (dict : List DictEnt) (l : List Nat) : List Tok × Nat :=
  match l with
  | [] => ([], 0)
  | b :: t =>
    if isSpaceByte b then ([], 1)
    else if b = 0x28 then
      let (n, ok) := commentLen t 1 true
      ([Tok.counted (if ok then tokCmt else tokRepl) n], n)
    else if invalidByte fold b then
      let n := (l.takeWhile (invalidByte fold)).length
      ([Tok.counted tokRepl n], n)
    else
      match longestMatch fold dict l with
      | none => ([Tok.plain (foldByte fold b)], 1)
      | some (k, e) =>
        let code := 0x110 + k
        let val := bitsOf e.flags 0 2
        let used := e.text.length
        if val = 0 then ([Tok.plain code], used)
        else
          let f := fieldBytes fold (l.drop used)
          if f.isEmpty then ([⟨code, 0, false, true, 0⟩], used)
          else
            match fieldValue f with
            | some (neg, x) => ([valueTok code val (bitsOf e.flags 2 3) neg x], used + f.length)
            | none => ([⟨code, 0, false, true, 0⟩, Tok.counted tokRepl f.length], used + f.length)

/-- A block: offset of its first byte, offset after its last, its tokens, and whether an LF ended it. -/
structure Blk where
  start : Nat
  stop : Nat
  toks : List Tok
  lf : Bool
deriving DecidableEq, Repr

/-- Cut a text into blocks: `at_` is the offset reached, `start` that of the open block. -/
def tokenizeGo (fold : Bool) (dict : List DictEnt) : Nat → Nat → Nat → List Nat → List Tok → List Blk → List Blk
  | 0, _, _, _, _, bs => bs
  | fuel + 1, at_, start, l, ts, bs =>
    match l with
    | [] => if start < at_ then bs ++ [⟨start, at_, ts, false⟩] else bs
    | b :: t =>
      if b = 0x0A then tokenizeGo fold dict fuel (at_ + 1) (at_ + 1) t [] (bs ++ [⟨start, at_ + 1, ts ++ [Tok.plain 0x100], true⟩])
      else
        let (new, n) := nextToks fold dict l
        tokenizeGo fold dict fuel (at_ + max n 1) start (l.drop (max n 1)) (ts ++ new) bs

def tokenize (fold : Bool) (dict : List DictEnt) (l : List Nat) : List Blk := tokenizeGo fold dict (l.length + 1) 0 0 l [] []

/-- The blocks that a job takes: those that the capacities hold, and whether one did not fit (R148). -/
def takeBlocks (tokCap blkCap : Nat) : List Blk → Nat → Nat → List Blk × Bool
  | [], _, _ => ([], false)
  | b :: t, nt, nb =>
    if nt + b.toks.length ≤ tokCap ∧ nb + 1 ≤ blkCap then
      let r := takeBlocks tokCap blkCap t (nt + b.toks.length) (nb + 1)
      (b :: r.1, r.2)
    else ([], true)

/-! Jobs (R147, R148). -/

def yarRing (s : State) (u : Nat) : Nat := s.rd .yarQHi u * 2 ^ 32 + s.rd .yarQLo u

/-- Text bytes of the queued jobs of a unit that have not started. -/
def yarQueued (s : State) (u : Nat) : Nat × State :=
  let h := s.rd .yarQHead u
  let first := if (s.yar u).run then (h + 1) % 32 else h
  let n := (s.rd .yarQTail u + 32 - first) % 32
  (List.range n).foldl
    (fun (x : Nat × State) k =>
      let (d, s) := ringRead (yarRing x.2 u + (first + k) % 32 * 64) 64 x.2
      (x.1 + fieldAt d 8 4, s)) (0, s)

/-- Does a host connection exist (R152)? -/
def hostConnected (s : State) : Bool := s.on .pcieReady && s.on .hostEn

/-- New jobs go to the host once Q exceeds the high watermark, and return once it falls below the low one (R152). -/
def routeJobs (s : State) : State :=
  let q := s.rd .yarQbytes 0 + s.rd .yarQbytes 1
  let up := decide (s.ob .laHigh < q)
  let down := decide (q < s.ob .laLow)
  { s with comp := { s.comp with look := { s.comp.look with toHost := up || (s.comp.look.toHost && !down) } } }

/-- YAR_QBYTES follows the ring. -/
def showQbytes (u : Nat) (s : State) : State :=
  let (n, s) := yarQueued s u
  routeJobs (s.wr .yarQbytes (min n 0xFFFFFFFF) u)

/-- Jobs take their places in the order of submission. -/
def addJobs (l : List TokJob) (s : State) : State :=
  { s with comp := { s.comp with look := { s.comp.look with jobs := s.comp.look.jobs ++ l } } }

/-- The descriptors from ring index `h` up to the tail `v`, as jobs of unit u. -/
def newJobs (u h v : Nat) : List TokJob :=
  (List.range ((v + 32 - h % 32) % 32)).map fun k => ⟨u, (h + k) % 32, true, none⟩

/-- The runtime sends jobs to the host while it routes new ones there (R152). -/
def hostSubmit (l : List Nat) (s : State) : State :=
  if s.comp.look.toHost ∧ hostConnected s then addJobs (l.map fun a => ⟨2, a, true, none⟩) s else s

def yarQSubmit (tid u v : Nat) (host : List Nat) (s : State) : State :=
  let t := s.rd .yarQTail u
  let s :=
    if ringOk 32 (s.rd .yarQHead u) t v then showQbytes u (addJobs (newJobs u t v) (s.wr .yarQTail v u))
    else yarReject tid (yarOff u + 0x24) s
  if tid = 1 then hostSubmit host s else s

def yarJobStart (u : Nat) (s : State) : State :=
  let y := s.yar u
  if s.on .yarEn u ∧ s.clockOn 11 ∧ !y.run ∧ s.rd .yarQHead u ≠ s.rd .yarQTail u ∧ startAllowed s (32 + u) then
    showQbytes u (s.setYar u { y with run := true, startAt := s.now })
  else s

/-- The window is withheld while too few blocks beyond IPOS are tokenized (R151). -/
def showWindow (s : State) : State :=
  let i := s.ob .ipos
  let w := min (min (s.ob .laWindow) 4096) (s.comp.look.progEnd - i)
  let held := decide (s.ob .tokEnd - i < min (s.ob .laMin) w)
  { s with comp := { s.comp with look := { s.comp.look with held := held } } }

/-- Results reach the consumer in the order of submission (R152): each job at the front that has run extends the tokenized range, if
its blocks belong to the range kept and begin in it or at its end. -/
def deliverJobs : Nat → State → State
  | 0, s => showWindow s
  | fuel + 1, s =>
    match s.comp.look.jobs with
    | ⟨_, _, kept, some (b, e)⟩ :: t =>
      let s := { s with comp := { s.comp with look := { s.comp.look with jobs := t } } }
      deliverJobs fuel (if kept ∧ b ≤ s.ob .tokEnd ∧ s.ob .tokEnd < e then s.setOb .tokEnd e else s)
    | _ => showWindow s

/-- The first job of a unit with a key that has not run has run, over the blocks from b up to e. -/
def jobRan (u key b e : Nat) (s : State) : State :=
  let l := s.comp.look.jobs
  let hit (j : TokJob) : Bool := j.unit == u && j.key == key && j.ran.isNone
  let l' := match l.findIdx? hit with
    | some i => l.modify i fun j => { j with ran := some (b, e) }
    | none => l
  deliverJobs l.length { s with comp := { s.comp with look := { s.comp.look with jobs := l' } } }

/-- The write-back fields of a descriptor. -/
def yarBack (a status consumed ntok nblk : Nat) (s : State) : State :=
  ringWrite (a + 52) (leBytes 4 consumed ++ leBytes 4 ntok ++ leBytes 4 nblk) (ringWrite (a + 51) (leBytes 1 status) s)

/-- The job at the head of a unit ends: write-back, and the next job's turn. It has made the blocks from `blk0` up. -/
def yarEnd (u status consumed ntok nblk blk0 : Nat) (s : State) : State :=
  let h := s.rd .yarQHead u
  let s := yarBack (yarRing s u + h * 64) status consumed ntok nblk s
  let s := noteUsed (32 + u) (s.yar u).startAt s
  let s := showQbytes u ((s.setYar u { s.yar u with run := false }).wr .yarQHead (h + 1) u)
  jobRan u h blk0 (blk0 + nblk) s

/-- A job killed by a translation fault: what it reports as consumed and written is not stated, so free. It adds no blocks to the
tokenized range. -/
def yarKilled (u : Nat) (s : State) : State :=
  let (k, s) := s.fresh
  let h := s.rd .yarQHead u
  let s := jobRan u h 0 0 s
  yarEnd u 4 (Config.freeAt k 0).toNat (Config.freeAt k 1).toNat (Config.freeAt k 2).toNat 0 s

/-- What a job has made: its blocks, and whether a capacity or trailing bytes ended it early. -/
structure YarMade where
  tid : Nat
  blk0 : Nat
  bs : List Blk
  full : Bool
  trailing : Bool
deriving DecidableEq, Repr

def YarMade.toks (m : YarMade) : List Tok := m.bs.flatMap Blk.toks
def YarMade.repl (m : YarMade) : Nat := (m.toks.filter fun t => t.code == tokRepl).length
def YarMade.consumed (m : YarMade) : Nat := (m.bs.getLast?.map Blk.stop).getD 0
def YarMade.status (m : YarMade) : Nat := if m.full ∨ m.trailing then 2 else 1

/-- The counters take what a job has made (R141, R145, R153). -/
def yarCount (u : Nat) (m : YarMade) (s : State) : State :=
  ((s.bump .yarCntTok m.toks.length u).bump .yarCntRepl m.repl u).bump .yarCntSat (m.toks.filter Tok.sat).length u

/-- How the work on a descriptor ends. -/
inductive YarOut where
  | stalled | killed | mismatch
  | made (m : YarMade)
deriving DecidableEq, Repr

/-- The work on the descriptor at `a` with the dictionary and the configuration of unit u (R138 to R148): the text is read and the
token records and the block table are written. -/
def yarWork (u a : Nat) (s : State) : YarOut × State :=
  let e := 32 + u
  let (d, s) := ringRead a 64 s
  let tid := fieldAt d 48 2 % 1024
  let digest := s.rd .yarDictDigHi u * 2 ^ 32 + s.rd .yarDictDigLo u
  if !(s.on .yarDictValid u) ∨ fieldAt d 40 8 ≠ digest then (.mismatch, s)
  else
    let t := xRead e tid (fieldAt d 0 8 % 2 ^ 48) (fieldAt d 8 4) s
    match t.fault with
    | some kill => (if kill then .killed else .stalled, t.s)
    | none =>
      let final := bitOf (fieldAt d 50 1) 0
      let all := tokenize (t.s.on .yarFold u) (s.yar u).dict (t.data.map BitVec.toNat)
      let whole := if final then all else all.filter Blk.lf
      let (bs, full) := takeBlocks (fieldAt d 24 4) (fieldAt d 36 4) whole 0 0
      let w := xWrite e tid (fieldAt d 16 8 % 2 ^ 48) (bs.flatMap fun b => b.toks.flatMap Tok.bytes) t.s
      match w.fault with
      | some kill => (if kill then .killed else .stalled, w.s)
      | none =>
        let firsts := bs.foldl (fun (x : Nat × List Byte) b => (x.1 + b.toks.length, x.2 ++ leBytes 4 x.1 ++ leBytes 4 b.start)) (0, [])
        let w := xWrite e tid (fieldAt d 28 8 % 2 ^ 48) firsts.2 w.s
        match w.fault with
        | some kill => (if kill then .killed else .stalled, w.s)
        | none => (.made ⟨tid, fieldAt d 12 4, bs, full, decide (whole.length < all.length)⟩, w.s)

/-- The output of a job of a unit has been written. -/
def yarFinish (u : Nat) (m : YarMade) (s : State) : State :=
  let h := s.rd .yarQHead u
  let s := yarEnd u m.status m.consumed m.toks.length m.bs.length m.blk0 (yarCount u m s)
  let s := if 0 < m.repl then raise .yarRepl m.tid (u + h * 256) s else s
  if m.full then raise .yarJobPartial m.tid (u + h * 256) s else s

def yarUnitDone (u : Nat) (s : State) : State :=
  if !(s.yar u).run ∨ (s.mmu.stall.get none (32 + u)).isSome then s
  else
    match yarWork u (yarRing s u + s.rd .yarQHead u * 64) s with
    | (.stalled, s) => s
    | (.killed, s) => yarKilled u s
    | (.mismatch, s) => yarEnd u 3 0 0 0 0 s
    | (.made m, s) => yarFinish u m s

/-- A job ends on the host: the same records, write-back fields and counts as on a unit (R153). -/
def yarHostDone (u a : Nat) (s : State) : State :=
  if s.comp.look.jobs.any fun j => j.unit == 2 && j.key == a && j.ran.isNone then
    match yarWork u a s with
    | (.mismatch, s') => jobRan 2 a 0 0 ((yarBack a 3 0 0 0 s').setOb .hostJobs (s.ob .hostJobs + 1))
    | (.made m, s') =>
      let s' := yarBack a m.status m.consumed m.toks.length m.bs.length (yarCount u m s')
      jobRan 2 a m.blk0 (m.blk0 + m.bs.length) (s'.setOb .hostJobs (s.ob .hostJobs + 1))
    | _ => s
  else s

/-! The look-ahead feed (R150, R151). -/

def iposWrite (v : Nat) (progEnd : Nat) (s : State) : State :=
  let l := s.comp.look
  let inside := l.start ≤ v ∧ v < s.ob .tokEnd
  let s := s.setOb .ipos v
  let s := { s with comp := { s.comp with look := { l with start := v, progEnd := progEnd, sec := s.clk.sec, ns := s.clk.ns } } }
  if inside then showWindow s
  else
    let drop (j : TokJob) : TokJob := { j with kept := false }
    let s := { s with comp := { s.comp with look := { s.comp.look with jobs := s.comp.look.jobs.map drop } } }
    showWindow (raise .yarLaResync 1 (v % 65536) (s.setOb .tokEnd v))

end Sys2Proof.Machine
end

