-- ==== Sys2Proof/Machine/Tensor.lean ====
section
/-! DEFINITION. The tensor cores: array operations, vector instructions, numeric flags and exceptions (chapter 08). -/

namespace Sys2Proof.Machine

/-! Stored elements. -/

/-- Bytes of `n` packed elements. -/
def packedLen (c n : Nat) : Nat := ceilDiv (n * eltBits c) 8

/-- Element codes of packed bytes (R155): the element with the lower index of a byte sits in bits [3:0]. -/
def unpackElts (c : Nat) (l : List Byte) (n : Nat) : List Nat :=
  if eltBits c = 4 then (List.range n).map fun k => bitsOf (l.getD (k / 2) 0).toNat (k % 2 * 4) 4
  else (List.range n).map fun k => fieldAt l (k * (eltBits c / 8)) (eltBits c / 8)

/-- Pack element codes; `pad` is the upper half of a last byte that holds one 4-bit element. -/
def packElts (c pad : Nat) (l : List Nat) : List Byte :=
  if eltBits c = 4 then
    (List.range ((l.length + 1) / 2)).map fun k => BitVec.ofNat 8 (l.getD (2 * k) 0 % 16 + l.getD (2 * k + 1) pad % 16 * 16)
  else l.flatMap fun x => leBytes (eltBits c / 8) x

/-- Elements that share an exponent or scale. -/
def blockLen (c : Nat) : Nat := if c = 14 then 16 else if c = 15 then 32 else 0

/-- Decode packed elements, with the exponents or scales of a block format. -/
def decodeElts (c : Nat) (l scales : List Byte) (n : Nat) : List Fl :=
  let u := unpackElts c l n
  if blockLen c = 0 then u.map (decodeElt c)
  else (List.range n).map fun k => decodeBlk c (u.getD k 0) (scales.getD (k / blockLen c) 0).toNat

/-! Local accesses: the Clamp of the cluster checks them (R232), and ECC applies (R210, R211). -/

/-- A local access fails: blocked, or uncorrectable. -/
inductive LocFail where
  | blocked | ecc
deriving DecidableEq, Repr

/-- Check an access of `n` bytes row by row: none if the cluster's port may carry the TID (R228) and Clamp allows all of it. -/
def localCheck (cl tid : Nat) (wr : Bool) : Nat → Nat → Nat → State → Option LocFail × State
  | 0, _, _, s => (none, s)
  | fuel + 1, a, left, s =>
    if left = 0 then (none, s)
    else
      let n := min left (128 - a % 128)
      let q : Req := ⟨9 + cl, tid, a, n, wr⟩
      let s := parityAt q s
      if tidPermitted q.port tid && clpAllows (2 + cl) (s.clpTab (2 + cl)) tid a (a + n - 1) wr then localCheck cl tid wr fuel (a + n) (left - n) s
      else (some .blocked, blockedRecord q (2 + cl) s)

/-- Read local bytes at a fabric address. -/
def localRead (cl tid a n : Nat) (s : State) : Except LocFail (List Byte) × State :=
  match localCheck cl tid false (n + 1) a n s with
  | (some f, s) => (.error f, s)
  | (none, s) =>
    let (bad, s) := eccRead tid a n s
    if bad then (.error .ecc, s) else (.ok (s.rdBytes a n), s)

/-- Write local bytes at a fabric address. -/
def localWrite (cl tid a : Nat) (l : List Byte) (s : State) : Option LocFail × State :=
  match localCheck cl tid true (l.length + 1) a l.length s with
  | (some f, s) => (some f, s)
  | (none, s) =>
    let (bad, s) := eccWrite tid a l.length s
    if bad then (some .ecc, s) else (none, s.wrBytes a l)

/-! Exceptions, flags and counters (R170, R171). -/

/-- Record how the task on a core will end. -/
def failTask (r : TaskRes) (code : Nat) (s : State) : State :=
  { s with sch := { s.sch with runs := s.sch.runs.map fun (x : TaskRun) => if x.res = r ∧ x.fail = 0 then { x with fail := code } else x } }

/-- Does work run on a core: a task that has neither failed nor been stopped, or the invocation of an ARMED slot? -/
def coreWorks (s : State) (c : Nat) : Bool :=
  match s.rd .tcState c with
  | 1 => !(s.sch.runs.any fun r => r.res == .core c && r.fail != 0) && !s.sch.drain.contains c
  | 2 =>
    match armedSlotOf s c with
    | some n => (s.slot n).running
    | none => false
  | _ => false

/-- A core stops (R171). -/
def stopCore (c cause pc : Nat) (s : State) : State :=
  let tid := s.rd .tcTid c
  let slot := armedSlotOf s c
  let s := ((s.wr .tcState 3 c).wr .tcExcCause cause c).wr .tcExcPc pc c
  let s := match slot with
    | some n => mitreFault n 3 s
    | none => failTask (.core c) 2 s
  raise .tenException tid (c + cause * 256) s

/-- A local access of a core has failed: a blocked one ends the task with result 5 (Clamp has stopped a slot already), an
uncorrectable one with result 3, or faults the slot with cause 1 (R211). -/
def coreFail (c : Nat) (f : LocFail) (s : State) : State :=
  match f, armedSlotOf s c with
  | .blocked, none => failTask (.core c) 5 s
  | .blocked, some _ => s
  | .ecc, none => failTask (.core c) 3 s
  | .ecc, some n => mitreFault n 1 s

/-- Set a flag of a core that raises an event when it goes from 0 to 1. -/
def setNumFlag (r : RegId) (e : Ev) (c : Nat) (s : State) : State :=
  if s.on r c then s else raise e (s.rd .tcTid c) c (s.wr r 1 c)

/-- Count and flag the conditions of one element. -/
def coreFlags (c : Nat) (f : NumFlags) (s : State) : State :=
  let s := if f.inf then s.wr .tcFlagInf 1 c else s
  let s := if f.n2i then s.wr .tcFlagNanToInt 1 c else s
  let s := if f.blk then s.wr .tcFlagBlockNan 1 c else s
  let s := if f.nan then setNumFlag .tcFlagNan .tenNan c (s.bump .tcCntNan 1 c) else s
  if f.sat then setNumFlag .tcFlagSat .tenSat c (s.bump .tcCntSat 1 c) else s

/-- The trap that an element takes, if any (R170). -/
def trapOf (s : State) (c : Nat) (f : NumFlags) : Option Nat :=
  if f.nan ∧ s.on .tcTrapNan c then some 5 else if f.sat ∧ s.on .tcTrapSat c then some 6 else none

/-- Flag the elements in order, up to the first that traps: its index and cause. -/
def flagAll (c pc : Nat) : List NumFlags → Nat → State → Option Nat × State
  | [], _, s => (none, s)
  | f :: t, k, s =>
    let s := coreFlags c f s
    match trapOf s c f with
    | some cause => (some k, stopCore c cause pc s)
    | none => flagAll c pc t (k + 1) s

/-! The array operation (R157 to R163). -/

/-- An array descriptor (Table TEN-3). -/
structure ArrDesc where
  fa : Nat
  fb : Nat
  fo : Nat
  sr : Bool
  satf : Bool
  acc : Bool
  wr : Bool
  m : Nat
  n : Nat
  k : Nat
  astr : Nat
  bstr : Nat
  ostr : Nat
  aaddr : Nat
  baddr : Nat
  oaddr : Nat
  qaddr : Nat
  saaddr : Nat
  sbaddr : Nat
deriving DecidableEq, Repr

def arrDesc (d : List Byte) : ArrDesc :=
  let w := fieldAt d 0 4
  { fa := bitsOf w 0 4, fb := bitsOf w 4 4, fo := bitsOf w 8 4, sr := bitOf w 12, satf := bitOf w 13, acc := bitOf w 14,
    wr := bitOf w 15, m := bitsOf w 16 5 + 1, n := bitsOf w 24 5 + 1, k := fieldAt d 4 2 + 1, astr := fieldAt d 6 2,
    bstr := fieldAt d 8 2, ostr := fieldAt d 10 2, aaddr := fieldAt d 12 4, baddr := fieldAt d 16 4, oaddr := fieldAt d 20 4,
    qaddr := fieldAt d 24 4, saaddr := fieldAt d 28 4, sbaddr := fieldAt d 32 4 }

/-- Bytes that rows with a stride span. -/
def spanOf (rows stride bytes : Nat) : Nat := (rows - 1) * stride + bytes

/-- Is K a multiple of the block of a format? -/
def blockOk (c k : Nat) : Bool := blockLen c == 0 || k % blockLen c == 0

/-- Does a range lie inside one local window? -/
def localOk (core a n : Nat) : Bool := (localAddr core a n).isSome

/-- Are the exponents or scales of an operand inside a local window? -/
def scalesOk (core c rows k a : Nat) : Bool := blockLen c == 0 || localOk core a (rows * (k / blockLen c))

/-- R159. -/
def arrValid (s : State) (c : Nat) (d : ArrDesc) : Bool :=
  (classI d.fa && classI d.fb || classF d.fa && classF d.fb) && d.fo < 14 && blockOk d.fa d.k && blockOk d.fb d.k &&
    localOk c d.aaddr (spanOf d.m d.astr (packedLen d.fa d.k)) && localOk c d.baddr (spanOf d.n d.bstr (packedLen d.fb d.k)) &&
    scalesOk c d.fa d.m d.k d.saaddr && scalesOk c d.fb d.n d.k d.sbaddr &&
    (!d.wr || localOk c d.oaddr (spanOf d.m d.ostr (packedLen d.fo d.n)) && (d.qaddr == 0 || localOk c d.qaddr (8 * d.n))) &&
    (!d.acc || match (s.core c).tile with
      | some t => t.m == d.m && t.n == d.n && t.isF == classF d.fa
      | none => false)

/-- Read rows of a matrix: element bytes and scale bytes by row. -/
def readRows (core tid fmt k stride addr saddr : Nat) : Nat → Nat → List (List Byte × List Byte) → State →
    Except LocFail (List (List Byte × List Byte)) × State
  | 0, _, acc, s => (.ok acc, s)
  | n + 1, i, acc, s =>
    match localRead (core / 8) tid ((localAddr core (addr + i * stride) 0).getD 0) (packedLen fmt k) s with
    | (.error f, s) => (.error f, s)
    | (.ok l, s) =>
      if blockLen fmt = 0 then readRows core tid fmt k stride addr saddr n (i + 1) (acc ++ [(l, [])]) s
      else
        let b := k / blockLen fmt
        match localRead (core / 8) tid ((localAddr core (saddr + i * b) 0).getD 0) b s with
        | (.error f, s) => (.error f, s)
        | (.ok e, s) => readRows core tid fmt k stride addr saddr n (i + 1) (acc ++ [(l, e)]) s

/-- Add exact products to an integer accumulator, saturating at 48 bits (R160): the sum, and whether it saturated. -/
def accInt : List (Int × Int) → Int × Bool → Int × Bool
  | [], a => a
  | (x, y) :: t, a =>
    let (n, f) := satRange (-140737488355328) 140737488355327 (a.1 + x * y)
    accInt t (n, a.2 || f)

/-- Add products to an fp32 accumulator in groups of four (R161), with the conditions. -/
def accFloat : Nat → List (Fl × Fl) → Fl × NumFlags → Fl × NumFlags
  | 0, _, a => a
  | fuel + 1, l, a =>
    if l.isEmpty then a
    else
      let g := l.take 4
      let ps := g.map fun p => p.1.mul p.2
      let r := rnd32 (Fl.sum (a.1 :: ps))
      let anyNan := a.1.isNan || g.any fun p => p.1.isNan || p.2.isNan
      let f : NumFlags := { NumFlags.none with nan := r.isNan && !anyNan,
                                               inf := r.isInf && a.1.isFin && ps.all Fl.isFin }
      accFloat fuel (l.drop 4) (r, a.2.or f)

/-- A quantization record (R162): QM, QS and ZP. -/
structure Quant where
  qm : Nat
  qs : Nat
  zp : Int
deriving DecidableEq, Repr

def quantOf (l : List Byte) (j : Nat) : Quant := ⟨fieldAt l (8 * j) 4, fieldAt l (8 * j + 4) 1 % 32, signed 16 (fieldAt l (8 * j + 6) 2)⟩

/-- The scaled value of an accumulator, before the last rounding. -/
def scaledAcc (isF : Bool) (q : Option Quant) (acc : Int) : Fl × NumFlags :=
  if isF then
    let a := f32 (u32 acc)
    match q with
    | none => (a, .none)
    | some q =>
      let m := f32 q.qm
      let r := rnd32 (a.mul m)
      (r, { NumFlags.none with nan := r.isNan && !a.isNan && !m.isNan, inf := r.isInf && a.isFin && m.isFin })
  else
    match q with
    | none => (.fin acc false, .none)
    | some q => (.fin ((acc : Rat) * (s32 q.qm : Rat) / ((2 ^ (31 + q.qs) : Nat) : Rat)) false, .none)

/-- An accumulator becomes an output element (R162, R165): its code and conditions. -/
def outElt (isF : Bool) (fo : Nat) (q : Option Quant) (r : Option Nat) (satf : Bool) (acc : Int) : Nat × NumFlags :=
  let (x, f) := scaledAcc isF q acc
  let zp := (q.map Quant.zp).getD 0
  match intRange fo with
  | none =>
    let (b, g) := convElt fo r satf x
    (b, f.or g)
  | some (lo, hi, _) =>
    match x with
    | .nan => (unsigned (eltBits fo) (satRange lo hi zp).1, f.or { NumFlags.none with n2i := true })
    | .inf neg => (unsigned (eltBits fo) (if neg then lo else hi), f.or { NumFlags.none with sat := true })
    | .fin v _ =>
      let (n, sat) := satRange lo hi (roundInt v r + zp)
      (unsigned (eltBits fo) n, f.or { NumFlags.none with sat := sat })

/-- Generator values for `n` elements from a state, and the state after. -/
def srRun : Nat → Nat → List Nat × Nat
  | 0, st => ([], st)
  | n + 1, st =>
    let st := srStep st
    let (l, e) := srRun n st
    (st % 65536 :: l, e)

/-- Are the elements of an instruction with the SR request rounded stochastically (R164, R167)? -/
def srOn (s : State) (c : Nat) (req : Bool) : Bool := req && s.on .tcSrEn c && (armedSlotOf s c).isNone

/-- The generator state that the next operation steps: that of a seed that waits for earlier work, else the current one (R172). -/
def srState (s : State) (c : Nat) : Nat :=
  match (s.core c).seed with
  | some (v, _) => v
  | none => s.rd .tcSrSeed c

def setSrState (c e : Nat) (s : State) : State :=
  match (s.core c).seed with
  | some (_, t) => s.setCore c { s.core c with seed := some (e, t) }
  | none => s.wr .tcSrSeed e c

/-- Generator values for the `n` output elements of an operation with the SR request, used if rounding is stochastic. The generator
steps for each of them, but not in an ARMED slot (R164, R167). -/
def srDraw (c n : Nat) (req : Bool) (s : State) : List (Option Nat) × State :=
  if req ∧ (armedSlotOf s c).isNone then
    let (l, e) := srRun n (srState s c)
    (if srOn s c req then l.map some else List.replicate n none, setSrState c e s)
  else (List.replicate n none, s)

/-- TCLK per k-step times 1/s in units of half TCLK (Table TEN-2). -/
def stepHalf (c : Nat) : Nat :=
  match eltBits c with
  | 4 => 1
  | 8 => 2
  | 16 => 8
  | _ => if c = 12 then 16 else 32

/-- R163: TCLK of an array operation; `wait`: of its waits before grant in the scratchpads. -/
def arrTime (d : ArrDesc) (wait : Nat) : Nat :=
  ceilDiv (d.k * max (stepHalf d.fa) (stepHalf d.fb)) 2 + 16 + wait + (if 0x1000000 ≤ d.aaddr then 3 else 0) +
    (if 0x1000000 ≤ d.baddr then 3 else 0)

/-- The accumulators after the operation, row by row, with their conditions. -/
def arrAcc (d : ArrDesc) (old : Nat → Int) (as bs : List (List Byte × List Byte)) : List (Int × NumFlags) :=
  if classF d.fa then
    let av := as.map fun p => decodeElts d.fa p.1 p.2 d.k
    let bv := bs.map fun p => decodeElts d.fb p.1 p.2 d.k
    (List.range (d.m * d.n)).map fun x =>
      let ps := (av.getD (x / d.n) []).zip (bv.getD (x % d.n) [])
      let (r, f) := accFloat (d.k + 1) ps (f32 (u32 (old x)), .none)
      ((f32Of r : Int), f)
  else
    let av := as.map fun p => (unpackElts d.fa p.1 d.k).map (rawInt d.fa)
    let bv := bs.map fun p => (unpackElts d.fb p.1 d.k).map (rawInt d.fb)
    (List.range (d.m * d.n)).map fun x =>
      let (r, f) := accInt ((av.getD (x / d.n) []).zip (bv.getD (x % d.n) [])) (old x, false)
      (r, { NumFlags.none with sat := f })

/-- Write the output rows. -/
def writeRows (core tid : Nat) (d : ArrDesc) (pad : Nat) (codes : List Nat) : Nat → Nat → State → Option LocFail × State
  | 0, _, s => (none, s)
  | n + 1, i, s =>
    let row := (codes.drop (i * d.n)).take d.n
    if row.isEmpty then (none, s)
    else
      match localWrite (core / 8) tid ((localAddr core (d.oaddr + i * d.ostr) 0).getD 0) (packElts d.fo pad row) s with
      | (some f, s) => (some f, s)
      | (none, s) => writeRows core tid d pad codes n (i + 1) s

/-- The accumulators become outputs: flags, the writes of the elements before the first trap, and the count. -/
def arrFinish (c pc wait : Nat) (d : ArrDesc) (qs : List Byte) (acc : List (Int × NumFlags)) (s : State) : State :=
  let tid := s.rd .tcTid c
  let isF := classF d.fa
  let x := s.core c
  let s := s.setCore c { x with tile := some ⟨d.m, d.n, isF, acc.map Prod.fst⟩,
                                busyTo := max s.now (x.busyTo - 16 * rootPerT) + arrTime d wait * rootPerT }
  let (rs, s) := srDraw c acc.length (d.sr && d.wr) s
  let out : List (Nat × NumFlags) :=
    if d.wr then
      (List.range acc.length).map fun k =>
        let (a, f) := acc.getD k (0, .none)
        let q := if d.qaddr = 0 then none else some (quantOf qs (k % d.n))
        let (b, g) := outElt isF d.fo q (rs.getD k none) d.satf a
        (b, f.or g)
    else acc.map fun a => (0, a.2)
  let (trap, s) := flagAll c pc (out.map Prod.snd) 0 s
  let codes := if d.wr then (out.map Prod.fst).take (trap.getD out.length) else []
  let (k, s) := s.fresh
  match writeRows c tid d ((Config.free k).toNat % 16) codes d.m 0 s with
  | (some f, s) => coreFail c f s
  | (none, s) => if trap.isSome then s else s.bumpW .tcArrayOps 1 c

def tenArrayOp (c pc : Nat) (desc : List Byte) (wait : Nat) (s : State) : State :=
  if !coreWorks s c then s
  else
    let d := arrDesc desc
    if !arrValid s c d then stopCore c 4 pc s
    else
      let tid := s.rd .tcTid c
      let old : Nat → Int := if d.acc then match (s.core c).tile with
        | some t => fun k => t.acc.getD k 0
        | none => fun _ => 0
        else fun _ => 0
      match readRows c tid d.fa d.k d.astr d.aaddr d.saaddr d.m 0 [] s with
      | (.error f, s) => coreFail c f s
      | (.ok as, s) =>
        match readRows c tid d.fb d.k d.bstr d.baddr d.sbaddr d.n 0 [] s with
        | (.error f, s) => coreFail c f s
        | (.ok bs, s) =>
          let q : Except LocFail (List Byte) × State :=
            if d.wr ∧ d.qaddr ≠ 0 then localRead (c / 8) tid ((localAddr c d.qaddr 0).getD 0) (8 * d.n) s else (.ok [], s)
          match q with
          | (.error f, s) => coreFail c f s
          | (.ok qs, s) => arrFinish c pc wait d qs (arrAcc d old as bs) s

/-! The vector unit (R168, R169). -/

/-- Conditions of an fp32 result from its operands. -/
def f32Flags (r : Fl) (ops : List Fl) : NumFlags :=
  { NumFlags.none with nan := r.isNan && ops.all (fun a => !a.isNan), inf := r.isInf && ops.all Fl.isFin }

/-- Round an exact result to fp32 with its conditions. -/
def f32Lane (r : Option Nat) (x : Fl) (ops : List Fl) : Nat × NumFlags :=
  let b := (fmtF32.round r false x).1
  (b, f32Flags (f32 b) ops)

/-- min or max: a NaN beside a number, and zeros of two signs, leave the choice open. -/
def minMaxLane (isMin : Bool) (a b : Nat) (fr : Nat) : Nat × NumFlags :=
  let x := f32 a
  let y := f32 b
  if x.isNan ∧ y.isNan then (fmtF32.nanCode, .none)
  else if x.isNan ∨ y.isNan then
    (if fr % 2 = 0 then (fmtF32.nanCode, .none) else (if x.isNan then b else a, .none))
  else if x.isZero ∧ y.isZero then (if fr % 2 = 0 then a else b, .none)
  else
    let lt : Bool := match x, y with
      | .inf n, _ => n
      | _, .inf n => !n
      | .fin u _, .fin v _ => decide (u < v)
      | _, _ => false
    (if lt = isMin then a else b, .none)

/-- Ordered comparison of two numbers; false beside a NaN. -/
def fltLane (orEq : Bool) (a b : Fl) : Bool :=
  match a, b with
  | .nan, _ => false
  | _, .nan => false
  | .inf n, .inf m => if orEq then n || !m else n && !m
  | .inf n, _ => n
  | _, .inf m => !m
  | .fin u _, .fin v _ => if orEq then decide (u ≤ v) else decide (u < v)

/-- Equality of two numbers. -/
def feqLane (a b : Fl) : Bool := fltLane true a b && fltLane true b a

/-- A saturating result. -/
def satLane (x : Int) : Nat × NumFlags :=
  let (n, f) := satRange (-2147483648) 2147483647 x
  (u32 n, { NumFlags.none with sat := f })

/-- A transcendental lane. -/
def vfnLane (f a : Nat) : Nat × NumFlags :=
  let r := vfnWord f a
  (r, f32Flags (f32 r) [f32 a])

/-- Shift amounts of the width or more leave the lane open. -/
def shiftLane (b x fr : Nat) : Nat × NumFlags := (if b < 32 then x else fr, .none)

/-- An fp32 word with a canonical NaN. -/
def canon32 (a : Nat) : Nat := if (f32 a).isNan then fmtF32.nanCode else a

/-- One lane of an instruction other than a conversion from or to a block format; `fr` is a free word. -/
def vecLane (op : VecOp) (r : Option Nat) (a b c fr : Nat) : Nat × NumFlags :=
  let x := f32 a
  let y := f32 b
  match op with
  | .fadd => f32Lane r (x.add y) [x, y]
  | .fsub => f32Lane r (x.sub y) [x, y]
  | .fmul => f32Lane r (x.mul y) [x, y]
  | .fmin => minMaxLane true a b fr
  | .fmax => minMaxLane false a b fr
  | .feq => ((Config.cmpWord (feqLane x y)).toNat, .none)
  | .flt => ((Config.cmpWord (fltLane false x y)).toNat, .none)
  | .fle => ((Config.cmpWord (fltLane true x y)).toNat, .none)
  | .fselect => (if c = (Config.cmpWord true).toNat then canon32 a else if c = (Config.cmpWord false).toNat then canon32 b else fr, .none)
  | .ffma => f32Lane r (Fl.add (x.mul y) (f32 c)) [x, y, f32 c]
  | .iadd => (u32 (s32 a + s32 b), .none)
  | .isub => (u32 (s32 a - s32 b), .none)
  | .imul => (u32 (s32 a * s32 b), .none)
  | .ishl => shiftLane b (a * 2 ^ (b % 32) % 2 ^ 32) fr
  | .ishr => shiftLane b (a / 2 ^ (b % 32)) fr
  | .isar => shiftLane b (u32 (s32 a / 2 ^ (b % 32))) fr
  | .iand => (a &&& b, .none)
  | .ior => (a ||| b, .none)
  | .ixor => (a ^^^ b, .none)
  | .inot => (0xFFFFFFFF - a, .none)
  | .iadds => satLane (s32 a + s32 b)
  | .isubs => satLane (s32 a - s32 b)
  | .qadds => satLane (s32 a + s32 b)
  | .qsubs => satLane (s32 a - s32 b)
  | .qaddw => (u32 (s32 a + s32 b), .none)
  | .qmul sh => satLane (rne (s32 a * s32 b * 2 ^ sh) 2147483648)
  | .qsin => (u32 (sinQ a), .none)
  | .qcos => (u32 (cosQ a), .none)
  | .recip => vfnLane 0 a
  | .rsqrt => vfnLane 1 a
  | .exp2 => vfnLane 2 a
  | .log2 => vfnLane 3 a
  | .exp => vfnLane 4 a
  | .tanh => vfnLane 5 a
  | .sigmoid => vfnLane 6 a
  | _ => (a, .none)

/-- TCLK of a vector instruction (Table TEN-5). -/
def vecTime (op : VecOp) : Nat :=
  match op with
  | .ffma => 6
  | .qsin => 8
  | .qcos => 8
  | .convert _ _ => 6
  | .recip => 12
  | .rsqrt => 12
  | .exp2 => 12
  | .log2 => 12
  | .exp => 12
  | .tanh => 12
  | .sigmoid => 12
  | _ => 4

/-- The exception cause of an instruction that stops the core (Table TEN-6). -/
def vecStop (op : VecOp) : Option Nat :=
  match op with
  | .illegal => some 1
  | .badLocal => some 2
  | .misaligned => some 3
  | .convert src dst =>
    if (src < 16) && (dst < 16) then none else some 1
  | _ => none

/-- The source lanes of a conversion; lanes of a block format have their exponents or scales in `e`, one for each block. -/
def vecSource (src : Nat) (a e : List Nat) : List Fl :=
  (List.range 64).map fun i =>
    if blockLen src = 0 then decodeElt src (a.getD i 0) else decodeBlk src (a.getD i 0) (e.getD (i / blockLen src) 0 % 256)

/-- A conversion of 64 lanes: codes with conditions, and the exponents or scales of a block write (R165, R166). -/
def vecConvert (src dst : Nat) (rs : List (Option Nat)) (a e : List Nat) : List (Nat × NumFlags) × List Nat :=
  let x := vecSource src a e
  let n := blockLen dst
  if n = 0 then ((List.range 64).map fun i => convElt dst (rs.getD i none) false (x.getD i .zero), [])
  else
    let parts := (List.range (64 / n)).map fun k =>
      writeBlock dst (fun j => rs.getD (k * n + j) none) ((x.drop (k * n)).take n)
    (parts.flatMap Prod.snd, parts.map Prod.fst)

def tenVectorOp (c pc : Nat) (op : VecOp) (sr : Bool) (a b e : List Nat) (s : State) : State :=
  if !coreWorks s c then s
  else
    match vecStop op with
    | some cause => stopCore c cause pc s
    | none =>
      let (rs, s) := srDraw c 64 sr s
      let (k, s) := s.fresh
      let (out, scales) : List (Nat × NumFlags) × List Nat :=
        match op with
        | .convert src dst => vecConvert src dst rs a e
        | _ =>
          ((List.range 64).map fun i =>
            vecLane op (rs.getD i none) (a.getD i 0) (b.getD i 0) (e.getD i 0) (Config.freeAt k i).toNat, [])
      let x := s.core c
      let s := s.setCore c { x with lanes := out.map Prod.fst, scales := scales,
                                    busyTo := max x.busyTo (s.now + vecTime op * rootPerT) }
      (flagAll c pc (out.map Prod.snd) 0 s).2

/-! Restart and seed (R171, R172). -/

def tcRestart (c : Nat) (s : State) : State :=
  if s.rd .tcState c = 3 then
    ({ s with sch := { s.sch with idle := s.sch.idle.set c s.now } }.wr .tcState 0 c).wr .tcTid 0 c
  else s

def tcSrSeedWrite (c v : Nat) (s : State) : State :=
  let v := if v = 0 then 1 else v
  let t := (s.core c).busyTo
  if t ≤ s.now then (s.wr .tcSrSeed v c).setCore c { s.core c with seed := none }
  else s.setCore c { s.core c with seed := some (v, t) }

def tcSrSeedLoad (c : Nat) (s : State) : State :=
  match (s.core c).seed with
  | none => s
  | some (v, t) => if t ≤ s.now then (s.wr .tcSrSeed v c).setCore c { s.core c with seed := none } else s

end Sys2Proof.Machine
end

