-- ==== Sys2Proof/Machine/Ppu.lean ====
section
/-! DEFINITION. The preprocessing units (R147, R154). The spec gives the operations of a job but no layout of its descriptor but
that of Table YAR-5: its TID and its STATUS stand where a Yarrow descriptor has them, and the rest of the job is an operand of its
start (DEDUCED, log entry 14). -/

namespace Sys2Proof.Machine

def State.ppuRun (s : State) (v : Nat) : Option PpuRun := s.comp.ppu.get none v
def State.setPpu (s : State) (v : Nat) (r : Option PpuRun) : State :=
  { s with comp := { s.comp with ppu := s.comp.ppu.set v r } }

def ppuQSubmit (tid v t : Nat) (s : State) : State :=
  if ringOk 32 (s.rd .ppuQHead v) (s.rd .ppuQTail v) t then s.wr .ppuQTail t v else yarReject tid (ppuOff v + 0x08) s

/-- The engine number of a unit (Table MEM-2). -/
def ppuEngine (v : Nat) : Nat := 34 + v

/-- The chain has one to four operations, on format codes. -/
def ppuJobOk (j : PpuJob) : Bool := 1 ≤ j.ops.length && j.ops.length ≤ 4 && j.fmt < 16 && 1 ≤ j.ch

/-- The descriptor at the head of the ring of a unit. -/
def ppuDesc (s : State) (v : Nat) : Nat := s.rd .ppuQHi v * 2 ^ 32 + s.rd .ppuQLo v + s.rd .ppuQHead v * 64

def ppuJobStart (v : Nat) (stream : Bool) (j : PpuJob) (s : State) : State :=
  if s.clockOn 11 ∧ (s.ppuRun v).isNone ∧ ppuJobOk j ∧ startAllowed s (ppuEngine v) then
    if stream then s.setPpu v (some ⟨false, { j with tid := 3 }, s.now⟩)
    else if s.rd .ppuQHead v = s.rd .ppuQTail v then s
    else
      let (d, s) := ringRead (ppuDesc s v) 64 s
      s.setPpu v (some ⟨true, { j with tid := fieldAt d 48 2 % 1024 }, s.now⟩)
  else s

/-- A tensor inside the chain: format, width, height, channels, and one datum for each element, channel last; none: an
operation could not produce it. -/
structure PpuTen where
  fmt : Nat
  w : Nat
  h : Nat
  ch : Nat
  elts : List (Option Fl)

/-- Element (y, x, c); none outside. -/
def PpuTen.at_ (t : PpuTen) (y x c : Nat) : Option Fl :=
  if x < t.w ∧ y < t.h ∧ c < t.ch then (t.elts.getD ((y * t.w + x) * t.ch + c) none) else none

/-- The elements of a block format after its rounding: block by block along the tensor (R166). -/
def blockRound (c : Nat) (l : List Fl) : List Fl :=
  let n := blockLen c
  (List.range (ceilDiv l.length n)).flatMap fun k =>
    let p := writeBlock c (fun _ => none) ((l.drop (k * n)).take n)
    p.2.map fun e => decodeBlk c e.1 p.1

/-- Exact results rounded to a format (R165); an element that was not produced stays so. -/
def toFmt (c : Nat) (l : List (Option Fl)) : List (Option Fl) :=
  if blockLen c = 0 then l.map fun a => a.map fun a => decodeElt c (convElt c none false a).1
  else (l.zip (blockRound c (l.map fun a => a.getD .zero))).map fun p => p.1.map fun _ => p.2

/-- CONVERT: round to the new format. -/
def ppuConvert (code : Nat) (t : PpuTen) : PpuTen := { t with fmt := code, elts := toFmt code t.elts }

/-- AFFINE. -/
def ppuAffine (scale offset : List Nat) (t : PpuTen) : PpuTen :=
  { t with fmt := 13, elts := (List.range t.elts.length).map fun k =>
      (t.elts.getD k none).map fun a =>
        let x := rnd32 a
        let m := x.mul (f32 (scale.getD (k % t.ch) 0))
        let o := f32 (offset.getD (k % t.ch) 0)
        rnd32 ((if Config.affineFused then m else rnd32 m).add o) }

/-- The average of the elements that a CROP joins; none if one lies outside the frame. -/
def cropAvg (t : PpuTen) (y x c dy dx : Nat) : Option Fl :=
  let l := (List.range (dy * dx)).map fun k => t.at_ (y + k / dx) (x + k % dx) c
  if l.any Option.isNone then none
  else some ((Fl.sum (l.filterMap id)).div (.ofInt (dy * dx : Nat)))

/-- CROP: decimation factors are 1 to 8. -/
def ppuCrop (x0 y0 w h dx dy : Nat) (t : PpuTen) : PpuTen :=
  let dx := min (max dx 1) 8
  let dy := min (max dy 1) 8
  let w' := w / dx
  let h' := h / dy
  { t with w := w', h := h', elts := toFmt t.fmt ((List.range (w' * h' * t.ch)).map fun k =>
      let p := k / t.ch
      cropAvg t (y0 + p / w' * dy) (x0 + p % w' * dx) (k % t.ch) dy dx) }

/-- WINDOW: the last L samples of a ring along the width times the window; `next`: the samples written so far (STR_WIDX). A sample
that the ring does not hold cannot be produced. -/
def ppuWindow (l : Nat) (table : List Nat) (next : Nat) (t : PpuTen) : PpuTen :=
  let l := min l 4096
  { t with fmt := 13, w := l, h := 1, elts := (List.range (l * t.ch)).map fun k =>
      let i := k / t.ch
      if next + i < l ∨ t.w + i < l then none
      else (t.at_ 0 ((next + i - l) % t.w) (k % t.ch)).map fun a => rnd32 ((rnd32 a).mul (f32 (table.getD i 0))) }

/-- DEPTH: z = F × B / d; d = 0 gives 0. -/
def ppuDepth (f b : Nat) (t : PpuTen) : PpuTen :=
  { t with fmt := 13, elts := t.elts.map fun a => a.map fun d =>
      if d.isZero then Fl.zero else rnd32 (((f32 f).mul (f32 b)).div d) }

/-- One operation; `widx`: samples written to the ring of a stream. -/
def ppuStep (widx : Nat → Nat) (t : PpuTen) (op : PpuOp) : PpuTen :=
  match op with
  | .convert code => ppuConvert code t
  | .affine scale offset => ppuAffine scale offset t
  | .crop x0 y0 w h dx dy => ppuCrop x0 y0 w h dx dy t
  | .window l table k => ppuWindow l table (widx k) t
  | .depth f b => ppuDepth f b t

/-- Bytes of the result, and of its block exponents or scales; an element that was not produced is written as 0. -/
def ppuBytes (t : PpuTen) : List Byte × List Byte :=
  let v := t.elts.map fun a => a.getD .zero
  if t.fmt < 14 then (packElts t.fmt 0 (v.map fun a => (convElt t.fmt none false a).1), [])
  else
    let n := blockLen t.fmt
    let parts := (List.range (ceilDiv v.length n)).map fun k => writeBlock t.fmt (fun _ => none) ((v.drop (k * n)).take n)
    (packElts t.fmt 0 (parts.flatMap fun p => p.2.map Prod.fst), parts.map fun p => BitVec.ofNat 8 p.1)

/-- The job ends with a STATUS: a queued one has it written back. -/
def ppuEnd (v status : Nat) (r : PpuRun) (s : State) : State :=
  let s := noteUsed (ppuEngine v) r.startAt (s.setPpu v none)
  if r.ring then (ringWrite (ppuDesc s v + 51) (leBytes 1 status) s).wr .ppuQHead (s.rd .ppuQHead v + 1) v else s

def ppuJobDone (v : Nat) (s : State) : State :=
  match s.ppuRun v with
  | none => s
  | some r =>
    let j := r.job
    let e := ppuEngine v
    if (s.mmu.stall.get none e).isSome then s
    else
      let n := j.w * j.h * j.ch
      let x := xRead e j.tid j.src (packedLen j.fmt n) s
      match x.fault with
      | some kill => if kill then ppuEnd v 4 r x.s else x.s
      | none =>
        let sc := xRead e j.tid j.srcScale (if blockLen j.fmt = 0 then 0 else ceilDiv n (blockLen j.fmt)) x.s
        match sc.fault with
        | some kill => if kill then ppuEnd v 4 r sc.s else sc.s
        | none =>
          let t : PpuTen := ⟨j.fmt, j.w, j.h, j.ch, (decodeElts j.fmt x.data sc.data n).map some⟩
          let t := j.ops.foldl (ppuStep fun k => s.rd .strWidx (k - 16)) t
          let (out, scales) := ppuBytes t
          let w := xWrite e j.tid j.dst out sc.s
          match w.fault with
          | some kill => if kill then ppuEnd v 4 r w.s else w.s
          | none =>
            let w := xWrite e j.tid j.dstScale scales w.s
            match w.fault with
            | some kill => if kill then ppuEnd v 4 r w.s else w.s
            | none =>
              let bad := (t.elts.filter Option.isNone).length
              let s := ppuEnd v 1 r (w.s.bump .ppuCntErr bad v)
              if 0 < bad then raise .ppuElemError j.tid v s else s

end Sys2Proof.Machine
end

