-- ==== Sys2Proof/Machine/Cnv.lean ====
section
/-! DEFINITION. The direct convolution engines (chapter 09), and the completion of scratchpad accesses (R205, R211). -/

namespace Sys2Proof.Machine

def State.cnv (s : State) (c : Nat) : CnvSt := s.comp.cnv.get .init c
def State.setCnv (s : State) (c : Nat) (x : CnvSt) : State := { s with comp := { s.comp with cnv := s.comp.cnv.set c x } }

/-- EVT_CNV_DESC_INVALID: cause and slot are recorded (R178, R281). -/
def cnvInvalid (tid c cause slot : Nat) (s : State) : State :=
  raise .cnvDescInvalid tid (c + cause * 16 + slot * 256) ((s.wr .cnvErrCause cause c).wr .cnvErrSlot slot c)

def cnvQSubmit (tid c v : Nat) (s : State) : State :=
  if ringOk 16 (s.rd .cnvQHead c) (s.rd .cnvQTail c) v then s.wr .cnvQTail v c else cnvInvalid tid c 6 v s

/-! Job and layers (Tables CNV-1, CNV-2). -/

structure CnvHdr where
  nl : Nat
  cont : Bool
  keep : Bool
  tag : Nat
  tid : Nat
  r0 : Nat
  nr : Nat
  ox0 : Nat
  wo : Nat
  iaddr : Nat
  istr : Nat
  ostr : Nat
  oaddr : Nat
deriving DecidableEq, Repr

def cnvHdr (l : List Byte) : CnvHdr :=
  let b := fieldAt l 0 1
  { nl := bitsOf b 0 2 + 1, cont := bitOf b 2, keep := bitOf b 3, tag := fieldAt l 1 1, tid := fieldAt l 2 2 % 1024,
    r0 := fieldAt l 4 2, nr := fieldAt l 6 2, ox0 := fieldAt l 8 2, wo := fieldAt l 10 2, iaddr := fieldAt l 12 4,
    istr := fieldAt l 16 2, ostr := fieldAt l 18 2, oaddr := fieldAt l 20 4 }

structure CnvLayer where
  kh : Nat
  kw : Nat
  sy : Nat
  sx : Nat
  dy : Nat
  dx : Nat
  fi : Nat
  fw : Nat
  fo : Nat
  dw : Bool
  relu : Bool
  cin : Nat
  cout : Nat
  w : Nat
  h : Nat
  pt : Nat
  pb : Nat
  pl : Nat
  pr : Nat
  lines : Nat
  padv : Nat
  waddr : Nat
  qaddr : Nat
  baddr : Nat
deriving DecidableEq, Repr

def cnvLayer (l : List Byte) : CnvLayer :=
  let b0 := fieldAt l 0 1
  let b1 := fieldAt l 1 1
  let b2 := fieldAt l 2 1
  let b3 := fieldAt l 3 1
  let b12 := fieldAt l 12 1
  let b13 := fieldAt l 13 1
  { kh := bitsOf b0 0 4, kw := bitsOf b0 4 4, sy := bitsOf b1 0 2 + 1, sx := bitsOf b1 2 2 + 1, dy := bitsOf b1 4 2 + 1,
    dx := bitsOf b1 6 2 + 1, fi := bitsOf b2 0 4, fw := bitsOf b2 4 4, fo := bitsOf b3 0 4, dw := bitOf b3 4, relu := bitOf b3 5,
    cin := fieldAt l 4 2, cout := fieldAt l 6 2, w := fieldAt l 8 2, h := fieldAt l 10 2, pt := bitsOf b12 0 4, pb := bitsOf b12 4 4,
    pl := bitsOf b13 0 4, pr := bitsOf b13 4 4, lines := bitsOf (fieldAt l 14 1) 0 5, padv := fieldAt l 16 2,
    waddr := fieldAt l 20 4, qaddr := fieldAt l 24 4, baddr := fieldAt l 28 4 }

def CnvLayer.ey (l : CnvLayer) : Nat := (l.kh - 1) * l.dy + 1
def CnvLayer.ex (l : CnvLayer) : Nat := (l.kw - 1) * l.dx + 1
/-- Output size (R176); 0 where the kernel does not fit. -/
def CnvLayer.outW (l : CnvLayer) : Nat := if l.w + l.pl + l.pr < l.ex then 0 else (l.w + l.pl + l.pr - l.ex) / l.sx + 1
def CnvLayer.outH (l : CnvLayer) : Nat := if l.h + l.pt + l.pb < l.ey then 0 else (l.h + l.pt + l.pb - l.ey) / l.sy + 1

/-- A job: header, layer records as stored, and decoded. -/
structure CnvJob where
  hdr : CnvHdr
  recs : List (List Byte)
  ls : List CnvLayer

def cnvJob (l : List Byte) : CnvJob :=
  let h := cnvHdr l
  let recs := (List.range h.nl).map fun k => (l.drop (32 + 32 * k)).take 32
  ⟨h, recs, recs.map cnvLayer⟩

def CnvLayer.zero : CnvLayer := cnvLayer []
def CnvJob.layer (j : CnvJob) (k : Nat) : CnvLayer := j.ls.getD k .zero
def CnvJob.last (j : CnvJob) : CnvLayer := j.ls.getLast?.getD .zero

/-! Validity (R175 to R178). -/

def cnvFmtOk (c : Nat) : Bool := [2, 3, 4, 6, 8, 9, 10, 11].contains c

/-- Cause 0x1: a field out of range, or a reserved byte or bit that is not 0. -/
def CnvLayer.rangeOk (l : CnvLayer) (r : List Byte) : Bool :=
  1 ≤ l.kh && l.kh ≤ 9 && 1 ≤ l.kw && l.kw ≤ 9 && 1 ≤ l.cin && l.cin ≤ 4096 && 1 ≤ l.cout && l.cout ≤ 4096 && 1 ≤ l.w &&
    l.w ≤ 8192 && 1 ≤ l.h && l.h ≤ 8192 && l.pt ≤ 8 && l.pb ≤ 8 && l.pl ≤ 8 && l.pr ≤ 8 && 1 ≤ l.lines && l.lines ≤ 16 &&
    fieldAt r 15 1 == 0 && fieldAt r 18 2 == 0

def CnvJob.rangeOk (j : CnvJob) (raw : List Byte) : Bool :=
  let h := j.hdr
  1 ≤ h.nr && h.nr ≤ 8192 && 1 ≤ h.wo && h.wo ≤ 4096 && fieldAt raw 25 3 == 0 &&
    (List.range h.nl).all (fun k => (j.layer k).rangeOk (j.recs.getD k [])) && h.r0 + h.nr ≤ j.last.outH && h.ox0 + h.wo ≤ j.last.outW

/-- Cause 0x2. -/
def CnvJob.fmtOk (j : CnvJob) : Bool :=
  j.ls.all (fun l => cnvFmtOk l.fi && cnvFmtOk l.fw && cnvFmtOk l.fo) &&
    (j.ls.all (fun l => classI l.fi && classI l.fw && classI l.fo) || j.ls.all (fun l => classF l.fi && classF l.fw && classF l.fo)) &&
    (List.range (j.hdr.nl - 1)).all fun k => (j.layer k).fo == (j.layer (k + 1)).fi

/-- Cause 0x4. -/
def CnvJob.chainOk (j : CnvJob) : Bool :=
  j.ls.all (fun l => !l.dw || l.cout == l.cin) &&
    (List.range (j.hdr.nl - 1)).all fun k =>
      let a := j.layer k
      let b := j.layer (k + 1)
      b.w == a.outW && b.h == a.outH && b.cin == a.cout

/-- The unclipped input width of layer k (from 0) for WO output columns of the last layer: back through the layers. -/
def CnvJob.width (j : CnvJob) (k : Nat) : Nat :=
  ((List.range j.hdr.nl).reverse.takeWhile fun i => k ≤ i).foldl (fun w i => (w - 1) * (j.layer i).sx + (j.layer i).ex) j.hdr.wo

/-- Cause 0x3. -/
def CnvJob.bufOk (j : CnvJob) : Bool :=
  j.ls.all (fun l => l.ey + l.sy ≤ l.lines) && (j.ls.map CnvLayer.lines).sum ≤ 16 &&
    (List.range j.hdr.nl).all fun k => j.width k * (j.layer k).cin ≤ 4096

/-- Bytes of a format. -/
def eltBytes (c : Nat) : Nat := eltBits c / 8

/-- Is a local range inside the CS window? -/
def csOk (a n : Nat) : Bool := 0x1000000 ≤ a && a + n ≤ 0x1400000

/-- Weights of a layer. -/
def CnvLayer.weights (l : CnvLayer) : Nat := if l.dw then l.cout * l.kh * l.kw else l.cout * l.kh * l.kw * l.cin

/-- Half-open ranges are given as (first, count). The rows of a layer's input that rows [a, a + n) of its output need,
clipped to the image. -/
def inRows (l : CnvLayer) (a n : Nat) : Nat × Nat :=
  if n = 0 then (a, 0)
  else
  let lo := a * l.sy - l.pt
  let hi := min l.h ((a + n - 1) * l.sy + l.ey - l.pt)
  (lo, hi - lo)

def inCols (l : CnvLayer) (a n : Nat) : Nat × Nat :=
  if n = 0 then (a, 0)
  else
  let lo := a * l.sx - l.pl
  let hi := min l.w ((a + n - 1) * l.sx + l.ex - l.pl)
  (lo, hi - lo)

/-- Output rows that layer k computes for rows [a, a + n) of the last layer. -/
def CnvJob.rowsOf (j : CnvJob) (k a n : Nat) : Nat × Nat :=
  ((List.range j.hdr.nl).reverse.takeWhile fun i => k < i).foldl (fun x i => inRows (j.layer i) x.1 x.2) (a, n)

/-- Output columns that layer k computes. -/
def CnvJob.colsOf (j : CnvJob) (k : Nat) : Nat × Nat :=
  ((List.range j.hdr.nl).reverse.takeWhile fun i => k < i).foldl (fun x i => inCols (j.layer i) x.1 x.2) (j.hdr.ox0, j.hdr.wo)

/-- Cause 0x5: every range that the layers read or write lies in the CS window; a band that lies in padding reads no line. -/
def CnvJob.addrOk (j : CnvJob) : Bool :=
  let h := j.hdr
  let f := j.layer 0
  let (r, n) := inRows f (j.rowsOf 0 h.r0 h.nr).1 (j.rowsOf 0 h.r0 h.nr).2
  let (x, m) := inCols f (j.colsOf 0).1 (j.colsOf 0).2
  let ib := f.cin * eltBytes f.fi
  let ob := j.last.cout * eltBytes j.last.fo
  (n == 0 || m == 0 || csOk (h.iaddr + r * h.istr + x * ib) ((n - 1) * h.istr + m * ib)) &&
    csOk (h.oaddr + h.r0 * h.ostr + h.ox0 * ob) ((h.nr - 1) * h.ostr + h.wo * ob) &&
    j.ls.all fun l => csOk l.waddr (l.weights * eltBytes l.fw) && (l.qaddr == 0 || csOk l.qaddr (8 * l.cout)) &&
      (l.baddr == 0 || csOk l.baddr (4 * l.cout))

/-- The cause of an invalid job; 0 for a valid one. -/
def CnvJob.cause (j : CnvJob) (raw : List Byte) : Nat :=
  if !j.rangeOk raw then 1
  else if !j.fmtOk then 2
  else if !j.chainOk then 4
  else if !j.bufOk then 3
  else if !j.addrOk then 5
  else 0

/-! Arithmetic (R179, R180). -/

/-- Element (y, x, ch) of the input of a layer; PADV outside the image. An element that a kept row does not hold (a job that continues
with other columns than those of the job before) is a free value. -/
def cnvIn (l : CnvLayer) (g : Nat) (rows : List CnvRow) (y x : Int) (ch : Nat) : Nat :=
  if y < 0 ∨ (l.h : Int) ≤ y ∨ x < 0 ∨ (l.w : Int) ≤ x then l.padv % 2 ^ eltBits l.fi
  else
    let held := match rows.find? fun r => r.no == y.toNat with
      | some r => if r.x0 ≤ x.toNat then r.codes[(x.toNat - r.x0) * l.cin + ch]? else none
      | none => none
    match held with
    | some v => v
    | none => (Config.freeAt g ((y.toNat * 8192 + x.toNat) * 4096 + ch)).toNat % 2 ^ eltBits l.fi

/-- The pairs (input, weight) of output element (r, j, o), in the order of R179. -/
def cnvTaps (l : CnvLayer) (p : CnvPar) (g : Nat) (rows : List CnvRow) (r j o : Nat) : List (Nat × Nat) :=
  let ws := unpackElts l.fw p.w l.weights
  (List.range (l.kh * l.kw)).flatMap fun t =>
    let ky := t / l.kw
    let kx := t % l.kw
    let y : Int := (r * l.sy + ky * l.dy : Nat) - (l.pt : Int)
    let x : Int := (j * l.sx + kx * l.dx : Nat) - (l.pl : Int)
    if l.dw then [(cnvIn l g rows y x o, ws.getD (o * l.kh * l.kw + t) 0)]
    else (List.range l.cin).map fun c => (cnvIn l g rows y x c, ws.getD ((o * l.kh * l.kw + t) * l.cin + c) 0)

/-- max(v, ZP) for integers, with ZP in the range of the format; max(v, +0) for floats, where −0 becomes +0 and NaN passes. -/
def cnvRelu (l : CnvLayer) (zp : Int) (code : Nat) : Nat :=
  if !l.relu then code
  else if classF l.fo then
    let a := decodeElt l.fo code
    if a.isNan then code else if a.neg then 0 else code
  else
    let z := match intRange l.fo with
      | some (lo, hi, _) => (satRange lo hi zp).1
      | none => zp
    if rawInt l.fo code < z then unsigned (eltBits l.fo) z else code

/-- One output element. -/
def cnvElt (l : CnvLayer) (p : CnvPar) (g : Nat) (rows : List CnvRow) (r j o : Nat) : Nat × NumFlags :=
  let taps := cnvTaps l p g rows r j o
  let bias := if l.baddr = 0 then 0 else fieldAt p.b (4 * o) 4
  let q := if l.qaddr = 0 then none else some (quantOf p.q o)
  let isF := classF l.fi
  let (a, f) : Int × NumFlags :=
    if isF then
      let (x, f) := accFloat (taps.length + 1) (taps.map fun t => (decodeElt l.fi t.1, decodeElt l.fw t.2)) (f32 bias, .none)
      ((f32Of x : Int), f)
    else
      let (x, sat) := accInt (taps.map fun t => (rawInt l.fi t.1, rawInt l.fw t.2)) (s32 bias, false)
      (x, { NumFlags.none with sat := sat })
  let (b, h) := outElt isF l.fo q none false a
  (cnvRelu l ((q.map Quant.zp).getD 0) b, f.or h)

/-- One output row of a layer over a range of columns. -/
def cnvRow (l : CnvLayer) (p : CnvPar) (g : Nat) (rows : List CnvRow) (r : Nat) (cols : Nat × Nat) : CnvRow × List NumFlags :=
  let es := (List.range (cols.2 * l.cout)).map fun k => cnvElt l p g rows r (cols.1 + k / l.cout) (k % l.cout)
  (⟨r, cols.1, es.map Prod.fst⟩, es.map Prod.snd)

/-- Flags and counters of the engine. -/
def cnvFlags (tid c : Nat) (f : NumFlags) (s : State) : State :=
  let s := if f.inf then s.wrBit .cnvFlags 1 true c else s
  let s := if f.n2i then s.wrBit .cnvFlags 3 true c else s
  let s := if f.nan ∧ !(s.rdBit .cnvFlags 0 c) then raise .cnvNan tid c (s.wrBit .cnvFlags 0 true c) else s
  if f.sat then
    let s := s.bump .cnvCntSat 1 c
    if s.rdBit .cnvFlags 2 c then s else raise .cnvSat tid c (s.wrBit .cnvFlags 2 true c)
  else s

/-! Time (R184). -/

/-- Steps at a position of a layer. -/
def CnvLayer.steps (l : CnvLayer) : Nat :=
  if l.dw then l.kh * l.kw * ceilDiv l.cin 8 else l.kh * l.kw * ceilDiv l.cin 16 * ceilDiv l.cout 8

/-- 1 for 8-bit formats, 4 for 16-bit formats, by the widest of the job. -/
def CnvJob.slow (j : CnvJob) : Nat :=
  if j.ls.any fun l => eltBits l.fi == 16 || eltBits l.fw == 16 || eltBits l.fo == 16 then 4 else 1

/-- Rows of layer k that a job computes: all of the band's, or, where it continues, those after the previous band. -/
def CnvJob.newRows (j : CnvJob) (cont : Bool) (k : Nat) : Nat × Nat :=
  let (a, n) := j.rowsOf k j.hdr.r0 j.hdr.nr
  if cont ∧ 0 < j.hdr.r0 then
    let (b, m) := j.rowsOf k (j.hdr.r0 - 1) 1
    let lo := max a (b + m)
    (lo, a + n - lo)
  else (a, n)

/-- Input lines that must be loaded before the first step. -/
def CnvJob.firstLines (j : CnvJob) (cont : Bool) : Nat :=
  let f := j.layer 0
  let (a, n) := j.newRows cont 0
  if n = 0 then 0
  else
    let (x, m) := inRows f a 1
    if cont then
      let (y, k) := if a = 0 then (0, 0) else inRows f (a - 1) 1
      x + m - max x (y + k)
    else m

def CnvJob.time (j : CnvJob) (cont : Bool) : Nat :=
  let f := j.layer 0
  let line := (inCols f (j.colsOf 0).1 (j.colsOf 0).2).2 * f.cin * eltBytes f.fi
  80 + ceilDiv line 128 * j.firstLines cont +
    j.slow * ((List.range j.hdr.nl).map fun k => (j.newRows cont k).2 * (j.colsOf k).2 * (j.layer k).steps).sum

/-! Running a job (R174, R181 to R185). -/

/-- Fabric address of a local CS address. -/
def csAddr (c a : Nat) : Nat := csBase c + (a - 0x1000000)

/-- Local address of a slot of the ring. -/
def cnvSlot (s : State) (c k : Nat) : Nat := 0x1000000 + s.rd .cnvQAddr c * 128 + k * 160

/-- Read the parameters of a layer. -/
def readPar (c tid : Nat) (l : CnvLayer) (s : State) : Except LocFail CnvPar × State :=
  match localRead c tid (csAddr c l.waddr) (l.weights * eltBytes l.fw) s with
  | (.error f, s) => (.error f, s)
  | (.ok w, s) =>
    match (if l.qaddr = 0 then (.ok [], s) else localRead c tid (csAddr c l.qaddr) (8 * l.cout) s : Except LocFail (List Byte) × State) with
    | (.error f, s) => (.error f, s)
    | (.ok q, s) =>
      match (if l.baddr = 0 then (.ok [], s) else localRead c tid (csAddr c l.baddr) (4 * l.cout) s : Except LocFail (List Byte) × State) with
      | (.error f, s) => (.error f, s)
      | (.ok b, s) => (.ok ⟨w, q, b⟩, s)

def readPars (c tid : Nat) : List CnvLayer → List CnvPar → State → Except LocFail (List CnvPar) × State
  | [], acc, s => (.ok acc, s)
  | l :: t, acc, s =>
    match readPar c tid l s with
    | (.error f, s) => (.error f, s)
    | (.ok p, s) => readPars c tid t (acc ++ [p]) s

/-- Read input row y of a job. -/
def readLine (c : Nat) (j : CnvJob) (y : Nat) (s : State) : Except LocFail CnvRow × State :=
  let f := j.layer 0
  let cols := inCols f (j.colsOf 0).1 (j.colsOf 0).2
  let b := f.cin * eltBytes f.fi
  match localRead c j.hdr.tid (csAddr c (j.hdr.iaddr + y * j.hdr.istr + cols.1 * b)) (cols.2 * b) s with
  | (.error e, s) => (.error e, s)
  | (.ok l, s) => (.ok ⟨y, cols.1, unpackElts f.fi l (cols.2 * f.cin)⟩, s)

/-- Take the input lines from row y up into the first partition, those that are not in it yet (R181). -/
def loadLines (c : Nat) (j : CnvJob) : Nat → Nat → List CnvRow → State → Except LocFail (List CnvRow) × State
  | 0, _, ls, s => (.ok ls, s)
  | n + 1, y, ls, s =>
    if ls.any fun x => x.no == y then loadLines c j n (y + 1) ls s
    else
      match readLine c j y s with
      | (.error e, s) => (.error e, s)
      | (.ok r, s) => loadLines c j n (y + 1) (ls ++ [r]) s

/-! An output row of the last layer needs, layer by layer, the rows that its layers have not computed yet. -/

/-- The rows [first, first + count) that layer k computes for output row r, when its next row is `lo`. -/
def CnvJob.rowsFor (j : CnvJob) (next : List Nat) (r k : Nat) : Nat × Nat :=
  let (a, n) := j.rowsOf k r 1
  let lo := next.getD k 0
  (lo, a + n - lo)

/-- TCLK that the steps of output row r take. -/
def CnvJob.rowTime (j : CnvJob) (next : List Nat) (r : Nat) : Nat :=
  j.slow * ((List.range j.hdr.nl).map fun k => (j.rowsFor next r k).2 * (j.colsOf k).2 * (j.layer k).steps).sum

/-- The last rows of a partition: the ring of its lines. -/
def ringRows (lines : Nat) (l : List CnvRow) : List CnvRow := l.drop (l.length - lines)

/-- The rows of layer k for output row r, put into the partition of the next layer; with the conditions of their elements. -/
def layerRows (j : CnvJob) (ps : List CnvPar) (x : CnvRun) (k : Nat) (a : List (List CnvRow) × List NumFlags) :
    List (List CnvRow) × List NumFlags :=
  let (lo, n) := j.rowsFor x.next x.row k
  let out := (List.range n).map fun i =>
    cnvRow (j.layer k) (ps.getD k ⟨[], [], []⟩) x.free (a.1.getD k []) (lo + i) (j.colsOf k)
  (a.1.set (k + 1) (a.1.getD (k + 1) [] ++ out.map Prod.fst), a.2 ++ out.flatMap Prod.snd)

/-- The steps of the next output row are done: the row is written at once (R181), and each partition keeps the lines of its ring. -/
def cnvRowDone (c : Nat) (j : CnvJob) (ps : List CnvPar) (s : State) : State :=
  let x := (s.cnv c).run
  let o := foldN j.hdr.nl (layerRows j ps x) (x.planes ++ [[]], [])
  let s := o.2.foldl (fun s f => cnvFlags j.hdr.tid c f s) s
  let codes := (o.1.getD j.hdr.nl []).flatMap CnvRow.codes
  let ob := j.last.cout * eltBytes j.last.fo
  match localWrite c j.hdr.tid (csAddr c (j.hdr.oaddr + x.row * j.hdr.ostr + j.hdr.ox0 * ob)) (packElts j.last.fo 0 codes) s with
  | (some _, s) => s.setCnv c { s.cnv c with stop := some 1 }
  | (none, s) =>
    let kept := (List.range j.hdr.nl).map fun k => ringRows (j.layer k).lines (o.1.getD k [])
    let next := (List.range j.hdr.nl).map fun k => (j.rowsFor x.next x.row k).1 + (j.rowsFor x.next x.row k).2
    s.setCnv c { s.cnv c with run := { x with row := x.row + 1, due := x.due + j.rowTime x.next x.row, planes := kept, next := next } }

/-- The steps of the next output row begin: what the layers hold in memory is read before the first, and the lines that the row needs
enter the partition. -/
def cnvRowBegin (c : Nat) (j : CnvJob) (s : State) : State :=
  let x := (s.cnv c).run
  let p : Except LocFail (List CnvPar) × State := match x.pars with
    | some ps => (.ok ps, s)
    | none => readPars c j.hdr.tid j.ls [] s
  match p with
  | (.error _, s) => s.setCnv c { s.cnv c with stop := some 1 }
  | (.ok ps, s) =>
    let (lo, n) := j.rowsFor x.next x.row 0
    let (y, m) := inRows (j.layer 0) lo n
    match loadLines c j m y (x.planes.getD 0 []) s with
    | (.error _, s) => s.setCnv c { s.cnv c with stop := some 1 }
    | (.ok ls, s) => s.setCnv c { s.cnv c with run := { x with pars := some ps, planes := x.planes.set 0 ls } }

/-- The job runs up to TCLK `el` after its start (R184): at most `n` more output rows. -/
def cnvGo (c : Nat) (j : CnvJob) (el : Nat) : Nat → State → State
  | 0, s => s
  | n + 1, s =>
    let x := (s.cnv c).run
    if (s.cnv c).stop.isSome ∨ j.hdr.r0 + j.hdr.nr ≤ x.row ∨ el < x.due then s
    else
      let s := cnvRowBegin c j s
      match (s.cnv c).stop, (s.cnv c).run.pars with
      | none, some ps => if el < x.due + j.rowTime x.next x.row then s else cnvGo c j el n (cnvRowDone c j ps s)
      | _, _ => s

/-- The cause of the invalid job in slot k; 0 for a valid one (R178). -/
def cnvCause (s : State) (c k : Nat) (raw : List Byte) : Nat := if csOk (cnvSlot s c k) 160 then (cnvJob raw).cause raw else 5

/-- The engine works on the job that runs, up to now (R181, R184). -/
def cnvDue (c : Nat) (s : State) : State :=
  match (s.cnv c).job with
  | none => s
  | some raw =>
    if cnvCause s c (s.rd .cnvQHead c) raw = 0 then
      let j := cnvJob raw
      cnvGo c j ((s.now - (s.cnv c).run.start) / rootPerT) j.hdr.nr s
    else s

/-- Can a job continue from the line buffer (R183)? -/
def cnvContinues (s : State) (c : Nat) (j : CnvJob) : Bool :=
  match (s.cnv c).lb with
  | some lb => s.on .cnvLbValid c && s.rd .cnvLbTag c == j.hdr.tag && s.rd .cnvTid c == j.hdr.tid && 0 < j.hdr.r0 &&
      lb.last == j.hdr.r0 - 1 && lb.layers == j.recs
  | none => false

/-- The line buffer holds nothing. -/
def dropLb (c : Nat) (s : State) : State :=
  (s.wr .cnvLbValid 0 c).setCnv c { s.cnv c with lb := none }

/-- The bytes of a slot as they stand; none past the CS window. -/
def cnvPeek (s : State) (c a : Nat) : List Byte := (s.rdBytes (csAddr c a) (min 160 (0x1400000 - a)))

/-- Read the slot at the head with the TID of its job (R173); a slot that leaves the CS window is read as far as the window goes. -/
def cnvFetch (c : Nat) (s : State) : Except LocFail (List Byte) × State :=
  let a := cnvSlot s c (s.rd .cnvQHead c)
  let raw := cnvPeek s c a
  localRead c (cnvHdr raw).tid (csAddr c a) raw.length s

/-- A job begins: its run starts from the kept rows, or from nothing. -/
def cnvBegin (c : Nat) (raw : List Byte) (stop : Option Nat) (s : State) : State :=
  let j := cnvJob raw
  let cont := j.hdr.cont && cnvContinues s c j
  let (g, s) := s.fresh
  let planes := if cont then (((s.cnv c).lb).map CnvLb.planes).getD [] else List.replicate j.hdr.nl []
  let f := j.layer 0
  let line := (inCols f (j.colsOf 0).1 (j.colsOf 0).2).2 * f.cin * eltBytes f.fi
  let run : CnvRun :=
    ⟨s.now, none, j.hdr.r0, 80 + ceilDiv line 128 * j.firstLines cont, planes,
      (List.range j.hdr.nl).map fun k => (j.newRows cont k).1, g⟩
  let s := s.setCnv c { s.cnv c with job := some raw, cont := cont, stop := stop, run := run }
  (s.wr .cnvBusy 1 c).wr .cnvTid j.hdr.tid c

def cnvJobStart (c : Nat) (s : State) : State :=
  if s.on .cnvEn c ∧ s.clockOn (3 + c) ∧ !(s.on .cnvBusy c) ∧ s.rd .cnvQHead c ≠ s.rd .cnvQTail c then
    match cnvFetch c s with
    | (.ok raw, s) => cnvBegin c raw none s
    | (.error _, s) => cnvBegin c (cnvPeek s c (cnvSlot s c (s.rd .cnvQHead c))) (some 1) s
  else s

/-- Write back a field of the slot at the head, where it lies in the CS window. -/
def cnvPut (c tid k : Nat) (l : List Byte) (s : State) : Option LocFail × State :=
  let a := cnvSlot s c (s.rd .cnvQHead c) + k
  if csOk a l.length then localWrite c tid (csAddr c a) l s else (none, s)

/-- Write back STATUS and T. -/
def cnvStatus (c tid status t : Nat) (s : State) : Option LocFail × State :=
  match cnvPut c tid 24 (leBytes 1 status) s with
  | (some e, s) => (some e, s)
  | (none, s) => cnvPut c tid 28 (leBytes 4 t) s

/-- A job ends: the head moves on, and a task that ran it can complete. -/
def cnvEnd (c t result : Nat) (s : State) : State :=
  let s := ((s.wr .cnvBusy 0 c).wr .cnvLastT t c).bumpW .cnvJobs 1 c
  failTask (.cnv c) result ((s.wr .cnvQHead (s.rd .cnvQHead c + 1) c).setCnv c { s.cnv c with job := none, stop := none, run := .init })

/-- The end of a job that a failed access has stopped (R185, R211). -/
def cnvStopEnd (c tid t : Nat) (s : State) : State :=
  raise .cnvJobStopped tid (c + s.rd .cnvQHead c * 256) (cnvEnd c t 5 (dropLb c s))

/-- A job stops on a failed access: STATUS 4; no T is stated for it. -/
def cnvStopped (c tid : Nat) (s : State) : State :=
  let (k, s) := s.fresh
  let t := (Config.free k).toNat
  cnvStopEnd c tid t (cnvStatus c tid 4 t s).2

/-- An invalid job ends with STATUS 3 (R178); no T is stated for it. A write-back that Clamp blocks stops it as well. -/
def cnvRefused (c tid cause : Nat) (s : State) : State :=
  let (k, s) := s.fresh
  let t := (Config.free k).toNat
  let slot := s.rd .cnvQHead c
  match cnvStatus c tid 3 t s with
  | (none, s) => cnvInvalid tid c cause slot (cnvEnd c t 7 (dropLb c s))
  | (some _, s) => cnvInvalid tid c cause slot (cnvStopEnd c tid t s)

/-- A job that has written its rows ends after `t` TCLK (R182 to R184). -/
def cnvComplete (c t : Nat) (j : CnvJob) (s : State) : State :=
  let x := s.cnv c
  let reload := j.hdr.cont && !x.cont
  match cnvStatus c j.hdr.tid (if reload then 2 else 1) t s with
  | (some _, s) => cnvStopEnd c j.hdr.tid t s
  | (none, s) =>
    let s := if reload then s.bump .cnvCntReload 1 c else s
    let s := if j.hdr.keep then
        ((s.wr .cnvLbValid 1 c).wr .cnvLbTag j.hdr.tag c).setCnv c
          { s.cnv c with lb := some ⟨j.recs, j.hdr.r0 + j.hdr.nr - 1, x.run.planes⟩ }
      else dropLb c s
    cnvEnd c t 1 s

def cnvJobDone (c wait : Nat) (s : State) : State :=
  let x := s.cnv c
  match x.job with
  | none => s
  | some raw =>
    let j := cnvJob raw
    let cause := cnvCause s c (s.rd .cnvQHead c) raw
    let t := j.time x.cont + wait
    if x.stop.isSome then cnvStopped c j.hdr.tid s
    else if cause ≠ 0 then cnvRefused c j.hdr.tid cause s
    else if x.run.row = j.hdr.r0 + j.hdr.nr ∧ s.now = x.run.start + t * rootPerT then cnvComplete c t j s
    else s

end Sys2Proof.Machine
end

