-- ==== Sys2Proof/Machine/Pass.lean ====
section
/-! DEFINITION. The time that passes before a command, and what the machine does in it by itself. -/

namespace Sys2Proof.Machine

/-- The resident weights of a context stand: the runtime has streamed them in under the TID of the context, at its share (R279). -/
def weightsDue (s : State) (k : Nat) : State :=
  let x := s.ctx k
  match x.weightsAt with
  | some t =>
    if t ≤ s.now ∧ s.rd .ctxState k = 2 then
      let put (s : State) (w : Nat × List Byte) : State := (localWrite ((w.1 - csBase 0) / 0x400000) (s.rd .ctxTid k) w.1 w.2 s).2
      let s := x.weights.foldl put s
      s.setCtx k { s.ctx k with weights := [], weightsAt := none, switchUs := (t - x.actAt) / rootPerUs }
    else s
  | none => s

/-- `dt` root cycles pass: the tasks that are ready wait from now on (R287), the clocks move on, the convolution engines work (R181,
R184), stopped cores drain (R285), and resident weights arrive (R279). -/
def elapse (dt : Nat) (s : State) : State :=
  let s := foldN 8 cnvDue (edgesPass dt (noteReady s))
  let s := s.sch.drain.foldl drainDue s
  (s.sch.ctx.map Prod.fst).foldl weightsDue s

/-- A command: time passes, then the effect. -/
def after (dt : Nat) (s : State) (f : State → State) : Out := .next (settle (f (elapse dt s)))

end Sys2Proof.Machine
end

