-- ==== Sys2Proof/Machine/Emb.lean ====
section
/-! DEFINITION. The embedding engines (chapter 10). An update job reads its keys and gradients at its start, sums the gradient of each
row, and then makes its read-modify-writes row by row under the row's lock (log entry 15). -/

namespace Sys2Proof.Machine

def State.embRun (s : State) (e : Nat) : Option EmbRun := s.comp.emb.get none e
def State.setEmb (s : State) (e : Nat) (r : Option EmbRun) : State :=
  { s with comp := { s.comp with emb := s.comp.emb.set e r } }

def embRing (s : State) (e : Nat) : Nat := s.rd .embQHi e * 2 ^ 32 + s.rd .embQLo e

/-- EVT_EMB_JOB_INVALID: cause and slot are recorded (R199, R281). -/
def embInvalid (tid e cause slot : Nat) (s : State) : State :=
  raise .embJobInvalid tid (e + cause * 16 + slot * 256) ((s.wr .embErrCause cause e).wr .embErrSlot slot e)

def embQSubmit (tid e v : Nat) (s : State) : State :=
  if ringOk 32 (s.rd .embQHead e) (s.rd .embQTail e) v then s.wr .embQTail v e else embInvalid tid e 5 v s

/-- EMB_Q_SUBMIT (R187, R281). -/
def execEmbQSubmit (dt tid : Nat) (e : Fin 2) (v : BitVec 5) (s : State) : Out := after dt s (embQSubmit tid e v.toNat)

/-! Descriptors (Tables EMB-1, EMB-2). -/

structure EmbDesc where
  op : Nat
  xfmt : Nat
  tid : Nat
  n : Nat
  tbl : Nat
  keys : Nat
  bags : Nat
  nb : Nat
  data : Nat
deriving DecidableEq, Repr

def embDesc (l : List Byte) : EmbDesc :=
  let b := fieldAt l 0 1
  { op := bitsOf b 0 2, xfmt := bitsOf b 2 4, tid := fieldAt l 2 2 % 1024, n := fieldAt l 4 4, tbl := fieldAt l 8 6,
    keys := fieldAt l 16 6, bags := fieldAt l 24 6, nb := fieldAt l 32 4, data := fieldAt l 40 6 }

structure EmbTbl where
  mode : Nat
  comb : Nat
  h : Nat
  vfmt : Nat
  opt : Nat
  d : Nat
  stride : Nat
  updEng : Nat
  sr : Bool
  base : Nat
  base2 : Nat
  rows : Nat
  m : Nat
  seeds : List Nat
  lr : Nat
  b1 : Nat
  b2 : Nat
  eps : Nat
  clip : Nat
deriving DecidableEq, Repr

def embTbl (l : List Byte) : EmbTbl :=
  let b0 := fieldAt l 0 1
  let b1 := fieldAt l 1 1
  let b6 := fieldAt l 6 1
  { mode := bitsOf b0 0 2, comb := bitsOf b0 2 2, h := bitsOf b0 4 2 + 1, vfmt := bitsOf b1 0 4, opt := bitsOf b1 4 4,
    d := fieldAt l 2 2 % 1024 + 1, stride := fieldAt l 4 2, updEng := bitsOf b6 0 1, sr := bitOf b6 1, base := fieldAt l 8 6,
    base2 := fieldAt l 16 6, rows := fieldAt l 24 4, m := fieldAt l 28 4,
    seeds := (List.range 4).map fun k => fieldAt l (32 + 8 * k) 8, lr := fieldAt l 64 4, b1 := fieldAt l 68 4,
    b2 := fieldAt l 72 4, eps := fieldAt l 76 4, clip := fieldAt l 80 4 }

def embFmtOk (c : Nat) : Bool := c == 10 || c == 11 || c == 13

/-- Bytes of the optimizer state of a row (R189). -/
def EmbTbl.stateLen (t : EmbTbl) : Nat :=
  match t.opt with
  | 2 => 4 * t.d
  | 3 => 4
  | 4 => 8 * t.d
  | _ => 0

def EmbTbl.valLen (t : EmbTbl) : Nat := t.d * eltBytes t.vfmt
def EmbTbl.rowLen (t : EmbTbl) : Nat := 16 + t.valLen + t.stateLen

/-- Are the reserved bytes of a range 0? -/
def zeros (l : List Byte) (off n : Nat) : Bool := fieldAt l off n == 0

/-- Cause 0x1 of R199: a field out of range, or a reserved byte that is not 0. -/
def embRangeOk (dl tl : List Byte) : Bool :=
  let d := embDesc dl
  let t := embTbl tl
  (d.op == 1 || d.op == 2) && embFmtOk d.xfmt && 1 ≤ d.n && d.n ≤ 65536 && zeros dl 36 4 && zeros dl 56 8 &&
    t.mode ≤ 2 && t.comb ≤ 2 && embFmtOk t.vfmt && t.opt ≤ 4 && t.stride % 64 == 0 && t.stride ≤ 8192 && t.rowLen ≤ t.stride &&
    1 ≤ t.rows && (t.mode != 2 || 1 ≤ t.m) && zeros tl 7 1 && zeros tl 84 44

/-- The cause of an invalid job, but for its bags; 0 if none. -/
def embCause (e : Nat) (dl tl : List Byte) : Nat :=
  let d := embDesc dl
  let t := embTbl tl
  if !embRangeOk dl tl then 1
  else if (t.comb = 2 ∧ t.mode ≠ 2) ∨ (d.op = 2 ∧ d.nb ≠ 0) then 2
  else if d.op = 2 ∧ (t.updEng ≠ e ∨ t.opt = 0) then 4
  else 0

/-- Do the bag offsets ascend from the first to N? -/
def bagsOk (n : Nat) (l : List Nat) : Bool :=
  l.getLast?.getD 0 == n && (List.range (l.length - 1)).all fun k => l.getD k 0 ≤ l.getD (k + 1) 0

/-! Keys and rows (R190). -/

def u64 (x : Nat) : Nat := x % 2 ^ 64

/-- The hash h_j of a key. -/
def embHash (t : EmbTbl) (j k : Nat) : Nat :=
  let x := k ^^^ t.seeds.getD j 0
  let x := x ^^^ (x / 2 ^ 31)
  let x := u64 (x * 0xA24BAED4963EE407)
  let x := x ^^^ (x / 2 ^ 29)
  x / 2 ^ 32 * t.rows / 2 ^ 32

/-- Virtual addresses of the rows of a key, in ascending j, Q before R; none if it is out of range. -/
def keyRows (t : EmbTbl) (k : Nat) : Option (List Nat) :=
  match t.mode with
  | 0 => if k < t.rows then some [t.base + k * t.stride] else none
  | 1 => some ((List.range t.h).map fun j => t.base + embHash t j k * t.stride)
  | _ => if k / t.m < t.rows then some [t.base + k / t.m * t.stride, t.base2 + k % t.m * t.stride] else none

/-! fp32 vectors. -/

def vAdd (a b : List Fl) : List Fl := (a.zip b).map fun p => rnd32 (p.1.add p.2)
def vMul (a b : List Fl) : List Fl := (a.zip b).map fun p => rnd32 (p.1.mul p.2)
def vDiv (a : List Fl) (n : Nat) : List Fl := a.map fun x => rnd32 (x.div (.ofInt n))

/-- The values of a row, widened to fp32. -/
def rowVals (t : EmbTbl) (l : List Byte) : List Fl := decodeElts t.vfmt (l.drop 16) [] t.d

/-- The key vector of the rows of a key (R191). -/
def keyVec (t : EmbTbl) (rows : List (List Fl)) : List Fl :=
  match rows with
  | [] => List.replicate t.d .zero
  | r :: rs =>
    if t.comb = 2 then rs.foldl vMul r
    else
      let sum := rs.foldl vAdd r
      if t.comb = 1 ∧ t.mode ≠ 0 then vDiv sum rows.length else sum

/-! Reading. -/

/-- A row as read: its virtual address, its bytes, its physical address, and whether its ECC was uncorrectable. -/
structure RowRead where
  va : Nat
  data : List Byte
  pa : Nat
  bad : Bool
deriving DecidableEq, Repr

/-- Read a row; `wr`: for an update. A fault gives its kind. -/
def readRow (e tid len va : Nat) (wr : Bool) (s : State) : Except Bool RowRead × State :=
  match xlate (38 + e) tid (va % 2 ^ 48) wr s with
  | (.fault c l, s) =>
    let (k, s) := mmuFault (38 + e) tid (va % 2 ^ 48) wr c l s
    (.error k, s)
  | (.ok x, s) =>
    let o := xRead (38 + e) tid (va % 2 ^ 48) len s
    match o.fault with
    | some k => (.error k, o.s)
    | none => (.ok ⟨va, o.data, x.phys (va % 2 ^ 48), o.resp == rData⟩, o.s)

/-- Read the rows at the addresses given, each once. -/
def readRowsOf (e tid len : Nat) (wr : Bool) : List Nat → List RowRead → State → Except Bool (List RowRead) × State
  | [], acc, s => (.ok acc, s)
  | a :: t, acc, s =>
    if acc.any fun r => r.va == a then readRowsOf e tid len wr t acc s
    else
      match readRow e tid len a wr s with
      | (.error k, s) => (.error k, s)
      | (.ok r, s) => readRowsOf e tid len wr t (acc ++ [r]) s

def rowOf? (rs : List RowRead) (a : Nat) : RowRead := (rs.find? fun r => r.va == a).getD ⟨a, [], 0, false⟩

/-- Numbers of `w` bytes at an address. -/
def readNums (e tid a w n : Nat) (s : State) : Except Bool (List Nat) × State :=
  let o := xRead (38 + e) tid a (w * n) s
  match o.fault with
  | some k => (.error k, o.s)
  | none => (.ok ((List.range n).map fun k => fieldAt o.data (w * k) w), o.s)

/-! The end of a job (R187, R198, R199). -/

/-- A seed that waits is loaded (R200). -/
def embSeedLoad (e : Nat) (s : State) : State :=
  match s.comp.embSeed.get none e with
  | none => s
  | some v => { s.wr .embSrSeed (if v = 0 then 1 else v) e with comp := { s.comp with embSeed := s.comp.embSeed.set e none } }

/-- STATUS, SKIPPED and ROWS are written back, and the head moves on. -/
def embEnd (e status skipped rows : Nat) (s : State) : State :=
  let h := s.rd .embQHead e
  let a := embRing s e + h * 64
  let s := ringWrite (a + 48) (leBytes 4 skipped ++ leBytes 4 rows) (ringWrite (a + 1) (leBytes 1 status) s)
  let s := noteUsed (38 + e) ((s.embRun e).map (·.startAt) |>.getD s.now) s
  embSeedLoad e (((s.wr .embBusy 0 e).wr .embQHead (h + 1) e).setEmb e none)

/-- An invalid job or a killed one. -/
def embDead (e status cause : Nat) (d : EmbDesc) (s : State) : State :=
  let slot := s.rd .embQHead e
  let (k, s) := s.fresh
  let s := embEnd e status (if status = 3 then 0 else (Config.freeAt k 0).toNat) (if status = 3 then 0 else (Config.freeAt k 1).toNat) s
  if status = 3 then embInvalid d.tid e cause slot s else s

/-! Update (R192 to R194). -/

/-- The gradients that a key sends to its rows, in ascending j. -/
def keyGrads (t : EmbTbl) (g : List Fl) (rows : List RowRead) : List (List Fl) :=
  match t.mode with
  | 0 => [g]
  | 1 => List.replicate t.h (if t.comb = 1 then vDiv g t.h else g)
  | _ =>
    match t.comb with
    | 0 => [g, g]
    | 1 => [vDiv g 2, vDiv g 2]
    | _ => [vMul g (rowVals t (rows.getD 1 ⟨0, [], 0, false⟩).data), vMul g (rowVals t (rows.getD 0 ⟨0, [], 0, false⟩).data)]

/-- Add a gradient to the sum of a row, in order of arrival; rows are told apart by physical address. -/
def addGrad (pa : Nat) (g : List Fl) : List (Nat × List Fl) → List (Nat × List Fl)
  | [] => [(pa, g)]
  | x :: t => if x.1 = pa then (pa, vAdd x.2 g) :: t else x :: addGrad pa g t

/-- fp32 words at an offset of a row. -/
def f32sAt (l : List Byte) (off n : Nat) : List Fl := (List.range n).map fun k => f32 (fieldAt l (off + 4 * k) 4)

/-- A value inside the sequence of R193, whether every input on the way to it is finite, and whether a NaN or an infinity has arisen
on that way from finite inputs (R194). -/
structure Trk where
  x : Fl
  fin : Bool
  nan : Bool
  inf : Bool

def Trk.of (x : Fl) : Trk := ⟨x, x.isFin, false, false⟩

/-- One fp32 operation of the sequence: the exact result, rounded once. -/
def Trk.ap (f : Fl → Fl → Fl) (a b : Trk) : Trk :=
  let r := rnd32 (f a.x b.x)
  let fin := a.fin && b.fin
  ⟨r, fin, a.nan || b.nan || (fin && r.isNan), a.inf || b.inf || (fin && r.isInf)⟩

def Trk.add (a b : Trk) : Trk := .ap Fl.add a b
def Trk.sub (a b : Trk) : Trk := .ap Fl.sub a b
def Trk.mul (a b : Trk) : Trk := .ap Fl.mul a b
def Trk.div (a b : Trk) : Trk := .ap Fl.div a b
def Trk.sqrt (a : Trk) : Trk :=
  let r := sqrt32 a.x
  ⟨r, a.fin, a.nan || (a.fin && r.isNan), a.inf⟩

/-- min(max(g, −CLIP), CLIP) for finite g; CLIP = 0 disables it. -/
def clipFl (clip : Fl) (g : Fl) : Fl :=
  match clip, g with
  | .fin c _, .fin x _ =>
    if c = 0 then g
    else if (if x < -c then -c else x) > c then clip
    else if x < -c then clip.negate
    else g
  | .inf true, _ => clip
  | _, _ => g

/-- A row after its update: P1, P2, optimizer state, and values (fp32). -/
structure RowNew where
  p1 : Trk
  p2 : Trk
  st : List Trk
  w : List Trk

/-- All values of an updated row. -/
def RowNew.all (n : RowNew) : List Trk := n.w ++ n.st ++ [n.p1, n.p2]

/-- The sequence of R193 on a row. -/
def rowUpdate (t : EmbTbl) (l : List Byte) (g : List Fl) : RowNew :=
  let lr := Trk.of (f32 t.lr)
  let b1 := Trk.of (f32 t.b1)
  let b2 := Trk.of (f32 t.b2)
  let eps := Trk.of (f32 t.eps)
  let g := g.map fun x => Trk.of (clipFl (f32 t.clip) x)
  let p1 := Trk.of (f32 (fieldAt l 4 4))
  let p2 := Trk.of (f32 (fieldAt l 8 4))
  let p1 := if t.opt = 4 then p1.mul b1 else p1
  let p2 := if t.opt = 4 then p2.mul b2 else p2
  let w := (rowVals t l).map Trk.of
  let off := 16 + t.valLen
  let state (o : Nat) : List Trk := (f32sAt l o t.d).map Trk.of
  let one := Trk.of (Fl.ofInt 1)
  let step (w g a : Trk) : Trk := w.sub ((lr.mul g).div (a.sqrt.add eps))
  match t.opt with
  | 1 => ⟨p1, p2, [], (w.zip g).map fun x => x.1.sub (lr.mul x.2)⟩
  | 2 =>
    let a := ((state off).zip g).map fun x => x.1.add (x.2.mul x.2)
    ⟨p1, p2, a, (w.zip (g.zip a)).map fun x => step x.1 x.2.1 x.2.2⟩
  | 3 =>
    let sq := g.map fun x => x.mul x
    let sum := match sq with
      | [] => Trk.of Fl.zero
      | x :: xs => xs.foldl Trk.add x
    let a := (Trk.of (f32 (fieldAt l off 4))).add (sum.div (Trk.of (.ofInt t.d)))
    ⟨p1, p2, [a], (w.zip g).map fun x => step x.1 x.2 a⟩
  | _ =>
    let m := ((state off).zip g).map fun x => (b1.mul x.1).add ((one.sub b1).mul x.2)
    let v := ((state (off + 4 * t.d)).zip g).map fun x => (b2.mul x.1).add ((one.sub b2).mul (x.2.mul x.2))
    ⟨p1, p2, m ++ v, (w.zip (m.zip v)).map fun x =>
      x.1.sub (lr.mul ((x.2.1.div (one.sub p1)).div ((x.2.2.div (one.sub p2)).sqrt.add eps)))⟩

/-- The new values in VFMT, with generator values for the elements (R193). -/
def rowVfmt (t : EmbTbl) (n : RowNew) (rs : List (Option Nat)) : List (Nat × NumFlags) :=
  (List.range t.d).map fun k => convElt t.vfmt (rs.getD k none) false (n.w.getD k (Trk.of .zero)).x

/-- Bytes of an updated row. -/
def rowBytes (l : List Byte) (vfmt : Nat) (n : RowNew) (vals : List (Nat × NumFlags)) : List Byte :=
  leBytes 4 ((fieldAt l 0 4 + 1) % 2 ^ 32) ++ leBytes 4 (f32Of n.p1.x) ++ leBytes 4 (f32Of n.p2.x) ++ (l.drop 12).take 4 ++
    vals.flatMap (fun v => leBytes (eltBytes vfmt) v.1) ++ n.st.flatMap fun x => leBytes 4 (f32Of x.x)

/-- Is a summed gradient finite? -/
def gradFinite (g : List Fl) : Bool := g.all Fl.isFin

/-- An update job is planned: the rows to update with their gradients, and what it skips. `ks`: keys with their gradients. The rows
of a composed table come in ascending address order, so that every pair takes its locks in that order (R195). -/
def planUpdate (e : Nat) (r : EmbRun) (ks : List (Nat × List Fl)) (rs : List RowRead) (s : State) : State :=
  let t := embTbl r.tbl
  let d := embDesc r.desc
  let slot := s.rd .embQHead e
  let range := (ks.filter fun k => (keyRows t k.1).isNone).length
  let prod := t.mode == 2 && t.comb == 2
  let badPa := (rs.filter RowRead.bad).map RowRead.pa
  let pairs := ks.filterMap fun k => (keyRows t k.1).map fun l => l.map fun a => (rowOf? rs a).pa
  let partner := pairs.flatMap fun pas => if prod ∧ pas.any (fun p => badPa.contains p) then pas.filter fun p => !badPa.contains p else []
  let sums := ks.foldl
    (fun acc k =>
      match keyRows t k.1 with
      | some l =>
        let rows := l.map (rowOf? rs)
        (rows.zip (keyGrads t k.2 rows)).foldl (fun acc x => addGrad x.1.pa x.2 acc) acc
      | none => acc) []
  let live := sums.filter fun x => !badPa.contains x.1 && !partner.contains x.1
  let nonfin := live.filter fun x => !gradFinite x.2
  let todo := (live.filter fun x => gradFinite x.2).map fun x =>
    let mates := if prod then (pairs.filter fun p => p.contains x.1).flatten.eraseDups.filter (· != x.1) else []
    (⟨((rs.find? fun y => y.pa == x.1).map RowRead.va).getD 0, x.1, x.2.map f32Of, mates⟩ : EmbGrad)
  let todo := if t.mode = 2 then todo.mergeSort fun a b => decide (a.pa ≤ b.pa) else todo
  let s := (s.bump .embSkipRange range e).bump .embSkipNonfinite nonfin.length e
  let s := s.bump .embCntEcc badPa.length e
  let s := if 0 < range then raise .embKeyRange d.tid (e + slot * 256) s else s
  let s := if nonfin.isEmpty then s else raise .embUpdateNonfinite d.tid (e + slot * 256) s
  let s := badPa.foldl (fun s _ => raise .embRowEcc d.tid e s) s
  s.setEmb e (some { r with stage := 2, todo := todo,
                            skipped := range + nonfin.length + badPa.length + partner.eraseDups.length })

/-- A translation fault ends a job as killed, or stalls it where it stands (R186, R264, R265). -/
def embDie (e : Nat) (r : EmbRun) (kill : Bool) (s : State) : State :=
  if kill then s.setEmb e (some { r with end_ := 4, todo := [] }) else s

/-- The rows of an update, by address: the values of the rows of a product table, which its gradients need (R192), else only where
each row lies. -/
def updateRows (e tid : Nat) (t : EmbTbl) (l : List Nat) (s : State) : Except Bool (List RowRead) × State :=
  readRowsOf e tid (if t.mode = 2 ∧ t.comb = 2 then t.rowLen else 0) true l [] s

/-- Read the keys and gradients of an update job, and plan it. -/
def startUpdate (e : Nat) (r : EmbRun) (s : State) : State :=
  let d := embDesc r.desc
  let t := embTbl r.tbl
  match readNums e d.tid d.keys 8 d.n s with
  | (.error k, s) => embDie e r k s
  | (.ok keys, s) =>
    match readNums e d.tid d.data (eltBytes d.xfmt) (d.n * t.d) s with
    | (.error k, s) => embDie e r k s
    | (.ok gs, s) =>
      let ks := (List.range d.n).map fun k =>
        (keys.getD k 0, ((gs.drop (k * t.d)).take t.d).map (decodeElt d.xfmt))
      match updateRows e d.tid t (keys.flatMap fun k => (keyRows t k).getD []) s with
      | (.error k, s) => embDie e r k s
      | (.ok rs, s) => planUpdate e r ks rs s

/-- The start of a job from where it stands: the table descriptor is read once, and an update is planned. -/
def embGo (e : Nat) (r : EmbRun) (s : State) : State :=
  let d := embDesc r.desc
  if r.stage = 0 then
    let o := xRead (38 + e) d.tid d.tbl 128 s
    match o.fault with
    | some kill => embDie e r kill o.s
    | none =>
      let cause := embCause e r.desc o.data
      let r := { r with tbl := o.data, stage := if cause = 0 ∧ d.op = 2 then 1 else 2, end_ := if cause = 0 then 0 else 3, cause := cause }
      let s := o.s.setEmb e (some r)
      if r.stage = 1 then startUpdate e r s else s
  else if r.stage = 1 ∧ r.end_ = 0 then startUpdate e r s
  else s

def embJobStart (e : Nat) (s : State) : State :=
  if s.on .embEn e ∧ s.clockOn 13 ∧ (s.mmu.stall.get none (38 + e)).isNone then
    match s.embRun e with
    | some r => embGo e r s
    | none =>
      if s.rd .embQHead e ≠ s.rd .embQTail e ∧ startAllowed s (38 + e) then
        let (dl, s) := ringRead (embRing s e + s.rd .embQHead e * 64) 64 s
        let r : EmbRun := ⟨dl, [], 0, [], 0, 0, 0, 0, s.now, none⟩
        embGo e r (((s.setEmb e (some r)).wr .embBusy 1 e).wr .embTid (embDesc dl).tid e)
      else s
  else s

/-- EMB_JOB_START (R186, R187, R192, R199, R454): the descriptor and the table descriptor are read, and an update is planned; a start
that has stalled on a fault goes on after its retry. -/
def execEmbJobStart (dt : Nat) (e : Fin 2) (s : State) : Out := after dt s (embJobStart e)

/-! Row locks (R195). -/

/-- Is the row at a physical address locked? -/
def rowLocked (s : State) (pa : Nat) : Bool := s.comp.locks.any fun l => (l.pieces.map Prod.fst).head? == some pa

/-- A job begins to wait for a lock. -/
def lockWaits (e : Nat) (r : EmbRun) (s : State) : State := s.setEmb e (some { r with waitFrom := some (r.waitFrom.getD s.now) })

/-- A job waits no longer: the NCLK of its wait are counted. -/
def lockTaken (e : Nat) (r : EmbRun) (s : State) : State :=
  match r.waitFrom with
  | some t => (s.bump .embCntLockwait ((s.now - t) / rootPerN) e).setEmb e (some { r with waitFrom := none })
  | none => s

/-- The physical pieces of a row, page by page. -/
def rowPieces (e tid : Nat) : Nat → Nat → Nat → List (Nat × Nat) → State → Except Bool (List (Nat × Nat)) × State
  | 0, _, _, acc, s => (.ok acc, s)
  | fuel + 1, va, left, acc, s =>
    if left = 0 then (.ok acc, s)
    else
      match xlate (38 + e) tid (va % 2 ^ 48) true s with
      | (.fault c l, s) =>
        let (k, s) := mmuFault (38 + e) tid (va % 2 ^ 48) true c l s
        (.error k, s)
      | (.ok x, s) =>
        let n := min left (x.va + 2 ^ pgBits x.pgs - va % 2 ^ 48)
        rowPieces e tid fuel (va + n) (left - n) (acc ++ [(x.phys (va % 2 ^ 48), n)]) s

/-- Read the pieces of a row: the bytes, and whether one is uncorrectable. -/
def readPieces (tid : Nat) (l : List (Nat × Nat)) (s : State) : List Byte × Bool × State :=
  l.foldl (fun x p =>
    let o := busRead 8 tid p.1 p.2 x.2.2
    (x.1 ++ o.data ++ List.replicate (p.2 - o.data.length) 0, x.2.1 || o.resp == rData, o.s)) ([], false, s)

/-- Write the pieces of a row. -/
def writePieces (tid : Nat) (l : List (Nat × Nat)) (data : List Byte) (s : State) : State :=
  (l.foldl (fun (x : List Byte × State) p => (x.1.drop p.2, (busWrite 8 tid p.1 (x.1.take p.2) x.2).2)) (data, s)).2

/-- The read-modify-write of a locked row whose bytes have been read (R193, R194): what is written. -/
def rowMake (e : Nat) (t : EmbTbl) (l : List Byte) (g : List Fl) (s : State) : List Byte × State :=
  let (gen, st) := if t.sr then srRun t.d (s.rd .embSrSeed e) else ([], s.rd .embSrSeed e)
  let s := if t.sr then s.wr .embSrSeed st e else s
  let n := rowUpdate t l g
  let vals := rowVfmt t n (gen.map some)
  let s := if n.all.any Trk.nan then s.wrBit .embFlags 0 true e else s
  let s := if n.all.any Trk.inf || (n.w.zip vals).any fun v => v.1.fin && v.2.2.inf then s.wrBit .embFlags 1 true e else s
  (rowBytes l t.vfmt n vals, s)

/-- A row whose read is uncorrectable is not written, and its lock is released; nor are rows whose gradients need it (R198). -/
def rowLost (e : Nat) (r : EmbRun) (w : EmbGrad) (rest : List EmbGrad) (s : State) : State :=
  let d := embDesc r.desc
  let keep := rest.filter fun x => !w.pair.contains x.pa
  let s := s.setEmb e (some { r with todo := keep, skipped := r.skipped + 1 + (rest.length - keep.length), waitFrom := none })
  raise .embRowEcc d.tid e (s.bump .embCntEcc 1 e)

def embRowLockGrant (e : Nat) (s : State) : State :=
  match s.embRun e with
  | none => s
  | some r =>
    match r.todo with
    | [] => s
    | w :: rest =>
      let d := embDesc r.desc
      let t := embTbl r.tbl
      if (s.mmu.stall.get none (38 + e)).isSome then s
      else
        match rowPieces e d.tid (t.rowLen + 1) w.va t.rowLen [] s with
        | (.error k, s) => embDie e r k s
        | (.ok ps, s) =>
          if 128 ≤ s.comp.locks.length ∨ rowLocked s ((ps.map Prod.fst).headD 0) = true then lockWaits e r s
          else
            let s := lockTaken e r s
            let (l, bad, s) := readPieces d.tid ps s
            if bad then rowLost e r w rest s
            else
              let (data, s) := rowMake e t l (w.grad.map f32) s
              let s := s.setEmb e (some { r with todo := rest, rows := r.rows + 1, waitFrom := none })
              { s with comp := { s.comp with locks := s.comp.locks ++ [⟨e, d.tid, w.va, ps, data⟩] } }

/-- EMB_ROW_LOCK_GRANT (R186, R193 to R195, R198): the next row of the update is translated, locked, read and updated, or the job begins
to wait for its lock. -/
def execEmbRowLockGrant (dt : Nat) (e : Fin 2) (s : State) : Out := after dt s (embRowLockGrant e)

def embRowWriteAck (e addr : Nat) (s : State) : State :=
  match s.comp.locks.find? fun l => l.e == e && (l.pieces.map Prod.fst).head? == some addr with
  | none => s
  | some l =>
    let s := { s with comp := { s.comp with locks := s.comp.locks.filter (· != l) } }
    (writePieces l.tid l.pieces l.data s).bump .embCntRows 1 e

/-- EMB_ROW_WRITE_ACK (R195): the write of the row at a physical address is acknowledged, and its lock is released. -/
def execEmbRowWriteAck (dt : Nat) (e : Fin 2) (addr : Nat) (s : State) : Out := after dt s (embRowWriteAck e addr)

/-! The end of a job (R187, R191, R198, R199). -/

/-- The bags of a gather: start and end of each. -/
def bagList (d : EmbDesc) (offs : List Nat) : List (Nat × Nat) :=
  if d.bags = 0 then (List.range d.n).map fun k => (k, 1)
  else (List.range d.nb).map fun b => (offs.getD b 0, offs.getD (b + 1) 0 - offs.getD b 0)

/-- The vector of a bag. -/
def bagVec (t : EmbTbl) (kv : List (List Fl)) (b : Nat × Nat) : List Fl :=
  match (kv.drop b.1).take b.2 with
  | [] => List.replicate t.d .zero
  | x :: xs => xs.foldl vAdd x

/-- A gather with its keys, bags and rows read: the output is written and the job ends. Every row of every key is one read. -/
def gatherOut (e : Nat) (d : EmbDesc) (t : EmbTbl) (keys offs : List Nat) (rs : List RowRead) (s : State) : State :=
  let slot := s.rd .embQHead e
  let kv := keys.map fun k =>
    match keyRows t k with
    | none => List.replicate t.d Fl.zero
    | some l => keyVec t (l.map fun a => let r := rowOf? rs a; if r.bad then List.replicate t.d Fl.zero else rowVals t r.data)
  let out := (bagList d offs).flatMap fun b => (bagVec t kv b).flatMap fun x => leBytes (eltBytes d.xfmt) (convElt d.xfmt none false x).1
  let w := xWrite (38 + e) d.tid d.data out s
  match w.fault with
  | some kill => if kill then embDead e 4 0 d w.s else w.s
  | none =>
    let range := (keys.filter fun k => (keyRows t k).isNone).length
    let reads := (keys.flatMap fun k => (keyRows t k).getD []).map (rowOf? rs)
    let bad := (reads.filter RowRead.bad).length
    let s := ((w.s.bump .embSkipRange range e).bump .embCntEcc bad e).bump .embCntRows (reads.length - bad) e
    let s := embEnd e (if range + bad = 0 then 1 else 2) (range + bad) (reads.length - bad) s
    let s := if 0 < range then raise .embKeyRange d.tid (e + slot * 256) s else s
    (reads.filter RowRead.bad).foldl (fun s _ => raise .embRowEcc d.tid e s) s

/-- A gather: read and combine, unless a row that it reaches is locked. -/
def gatherDone (e : Nat) (r : EmbRun) (s : State) : State :=
  let d := embDesc r.desc
  let t := embTbl r.tbl
  let die (k : Bool) (s : State) : State := if k then embDead e 4 0 d s else s
  match readNums e d.tid d.keys 8 d.n s with
  | (.error k, s) => die k s
  | (.ok keys, s) =>
    match (if d.bags = 0 then (.ok [], s) else readNums e d.tid d.bags 4 (d.nb + 1) s : Except Bool (List Nat) × State) with
    | (.error k, s) => die k s
    | (.ok offs, s) =>
      if d.bags ≠ 0 ∧ !bagsOk d.n offs then embDead e 3 3 d s
      else
        match readRowsOf e d.tid t.rowLen false (keys.flatMap fun k => (keyRows t k).getD []) [] s with
        | (.error k, s) => die k s
        | (.ok rs, s') =>
          if rs.any fun x => rowLocked s x.pa then lockWaits e r s
          else gatherOut e d t keys offs rs (lockTaken e r s')

def embJobDone (e : Nat) (s : State) : State :=
  match s.embRun e with
  | none => s
  | some r =>
    let d := embDesc r.desc
    if (s.mmu.stall.get none (38 + e)).isSome ∨ s.comp.locks.any (fun l => l.e == e) then s
    else if r.end_ ≠ 0 then embDead e r.end_ r.cause d s
    else if r.stage < 2 then s
    else if d.op = 1 then gatherDone e r s
    else if !r.todo.isEmpty then s
    else embEnd e (if r.skipped = 0 then 1 else 2) r.skipped r.rows s

/-- EMB_JOB_DONE (R187, R191, R195, R198, R199): a gather is made here, or begins to wait for a lock; an update has written its
rows. `u`: the upsets that have struck the words that it reads. -/
def execEmbJobDone (dt : Nat) (e : Fin 2) (u : List Upset) (s : State) : Out := after dt s fun s => embJobDone e (upsets u s)

def embSrSeedWrite (e : Nat) (v : Word) (s : State) : State :=
  let s := { s with comp := { s.comp with embSeed := s.comp.embSeed.set e (some v.toNat) } }
  if (s.embRun e).isNone then embSeedLoad e s else s

/-- EMB_SR_SEED_WRITE (R200). -/
def execEmbSrSeedWrite (dt : Nat) (e : Fin 2) (v : Word) (s : State) : Out := after dt s (embSrSeedWrite e v)

end Sys2Proof.Machine
end

