-- ==== Sys2Proof/Machine/Stream.lean ====
section
/-! DEFINITION. Camera streams, the sensor command queues, and the sample rings (chapter 06). -/

namespace Sys2Proof.Machine

def State.cam (s : State) (k : Nat) : CamSt := s.str.cam.get .init k
def State.setCam (s : State) (k : Nat) (c : CamSt) : State := { s with str := { s.str with cam := s.str.cam.set k c } }
def State.scq (s : State) (p : Nat) : ScqSt := s.str.scq.get .init p
def State.setScq (s : State) (p : Nat) (c : ScqSt) : State := { s with str := { s.str with scq := s.str.scq.set p c } }

/-- EVT_STR_CFG_REJECT for an offset. -/
def strReject (tid off : Nat) (s : State) : State := raise .strCfgReject tid off s

/-- Is stream k enabled (R118)? -/
def strOn (s : State) (k : Nat) : Bool := if k < 32 then s.rdBit .strEnLo k else s.rdBit .strEnHi (k - 32)

/-- Do the clocks of Campion and the CSI-2 ports run (Table CLK-8)? -/
def camOn (s : State) : Bool := s.rdBit .ckgEnStat 12

/-- The root time at which the next PCLK begins. -/
def pclkNext (s : State) : Nat := s.clk.epoch + ((s.now - s.clk.epoch) / rootPerP + 1) * rootPerP

/-- A write by the stream hardware: port 6, TID 3. -/
def strWrite (a : Nat) (l : List Byte) (s : State) : Nat × State := busWrite 6 3 a l s

/-! Pixels (R119, R121). -/

/-- Bit depth of a RAW data type (Table STR-2). -/
def rawBits (dt : Nat) : Option Nat :=
  match dt with
  | 0x2A => some 8
  | 0x2B => some 10
  | 0x2C => some 12
  | 0x2D => some 14
  | 0x2E => some 16
  | _ => none

/-- Bytes of a line of `w` pixels. -/
def lineBytes (dt w : Nat) : Nat :=
  match dt with
  | 0x1E => 2 * w
  | 0x24 => 3 * w
  | _ => match rawBits dt with
    | some b => w * b / 8
    | none => w

/-- The pixels of one packed group of bytes. -/
def unpackGroup (b : Nat) (g : List Nat) : List Nat :=
  let x (k : Nat) := g.getD k 0
  match b with
  | 8 => [x 0]
  | 10 => (List.range 4).map fun k => x k * 4 + bitsOf (x 4) (2 * k) 2
  | 12 => (List.range 2).map fun k => x k * 16 + bitsOf (x 2) (4 * k) 4
  | 14 =>
    let low := x 4 + x 5 * 256 + x 6 * 65536
    (List.range 4).map fun k => x k * 64 + bitsOf low (6 * k) 6
  | _ => [x 0 * 256 + x 1]

/-- Bytes of one packed group. -/
def groupBytes (b : Nat) : Nat :=
  match b with
  | 8 => 1
  | 10 => 5
  | 12 => 3
  | 14 => 7
  | _ => 2

/-- Unpack a line to 16-bit pixels: p << (16 − b). -/
def unpackLine (b : Nat) (l : List Byte) : List Nat :=
  let n := l.length / groupBytes b
  (List.range n).flatMap fun g =>
    (unpackGroup b (((l.drop (g * groupBytes b)).take (groupBytes b)).map BitVec.toNat)).map (· * 2 ^ (16 - b))

/-- Pack a component value into one group of a RAW line. -/
def packGroup (b v : Nat) : List Nat :=
  match b with
  | 8 => [v % 256]
  | 10 => let p := v % 1024; List.replicate 4 (p / 4) ++ [p % 4 * 85]
  | 12 => let p := v % 4096; List.replicate 2 (p / 16) ++ [p % 16 * 17]
  | 14 =>
    let p := v % 16384
    let low := p % 64 * 266305
    List.replicate 4 (p / 64) ++ [low % 256, low / 256 % 256, low / 65536]
  | _ => [v / 256 % 256, v % 256]

/-- A colour plane source: pixel of row r and column c; a row that was not received good has free pixels. -/
structure Plane where
  w : Nat
  h : Nat
  rows : List (Nat × List Nat)
  draw : Nat

/-- Mirror a coordinate at the edges, so that a neighbour outside is the one inside (R121). -/
def mirror (n : Nat) (x : Int) : Nat :=
  if x < 0 then (-x).toNat else if (n : Int) ≤ x then (2 * (n : Int) - 2 - x).toNat else x.toNat

def Plane.px (p : Plane) (r c : Int) : Nat :=
  let r := mirror p.h r
  let c := mirror p.w c
  match p.rows.find? fun x => x.1 == r with
  | some x => x.2.getD c 0
  | none => (Config.freeAt p.draw (r * 16384 + c)).toNat % 65536

/-- The colour of a pixel: 0 R, 1 G, 2 B, by CMP_CFG.BAYER. -/
def bayerAt (pat : Nat) (r c : Int) : Nat :=
  let k := (r % 2 * 2 + c % 2).toNat
  match pat with
  | 0 => [0, 1, 1, 2].getD k 0
  | 1 => [1, 0, 2, 1].getD k 0
  | 2 => [1, 2, 0, 1].getD k 0
  | _ => [2, 1, 1, 0].getD k 0

/-- Bilinear demosaic of one colour over the 3 × 3 window, times 4 (R121, Table STR-3). -/
def demosaic4 (pat : Nat) (p : Plane) (r c : Nat) (ch : Nat) : Nat :=
  if bayerAt pat r c = ch then 4 * p.px r c
  else
    let at_ := [(-1, -1), (-1, 0), (-1, 1), (0, -1), (0, 1), (1, -1), (1, 0), (1, 1)].filter
      fun (d : Int × Int) => bayerAt pat (r + d.1) (c + d.2) == ch
    (at_.map fun d => p.px (r + d.1) (c + d.2)).sum * 4 / at_.length

/-- White-balance gain of a colour. -/
def wbGain (s : State) (port ch : Nat) : Nat :=
  match ch with
  | 0 => s.rd .cmpWbR port
  | 1 => s.rd .cmpWbG port
  | _ => s.rd .cmpWbB port

/-- Colour matrix entry. -/
def ccmAt (s : State) (port i j : Nat) : Int :=
  signed 16 (match i, j with
    | 0, 0 => s.rd .cmpC00 port
    | 0, 1 => s.rd .cmpC01 port
    | 0, _ => s.rd .cmpC02 port
    | 1, 0 => s.rd .cmpC10 port
    | 1, 1 => s.rd .cmpC11 port
    | 1, _ => s.rd .cmpC12 port
    | _, 0 => s.rd .cmpC20 port
    | _, 1 => s.rd .cmpC21 port
    | _, _ => s.rd .cmpC22 port)

/-- The RGB16 values of a pixel after white balance and colour matrix; the exact product is rounded once, at the matrix. -/
def rgb16At (s : State) (port : Nat) (p : Plane) (r c : Nat) : List Nat :=
  let wb (ch : Nat) : Nat := min (demosaic4 (s.rd .cmpBayer port) p r c ch * wbGain s port ch) (0xFFFF * 16384)
  (List.range 3).map fun i =>
    let x := (List.range 3).foldl (fun (x : Int) j => x + ccmAt s port i j * wb j) 0
    min 0xFFFF (max 0 (rne x (2 ^ 26))).toNat

/-- RGB888 of a 16-bit value. -/
def to8 (v : Nat) : Nat := min 255 (rne v 256).toNat

/-- Output bytes of a pixel by OUTFMT. -/
def outPixel (fmt : Nat) (rgb : List Nat) : List Nat :=
  match fmt with
  | 0 => rgb.flatMap fun v => [v % 256, v / 256]
  | 1 => rgb.map to8
  | _ => [(77 * to8 (rgb.getD 0 0) + 150 * to8 (rgb.getD 1 0) + 29 * to8 (rgb.getD 2 0) + 128) / 256]

/-- Is the channel the ISP channel of its port? -/
def camIsp (s : State) (k : Nat) : Bool := s.rd .camMode k == 0

/-- A filled output row (R132). -/
def fillRow (s : State) (k : Nat) : List Byte :=
  let w := s.rd .camW k
  let v := s.rd .camFill k
  let l : List Nat :=
    if camIsp s k then
      (List.range w).flatMap fun _ => match s.rd .camOutfmt k with
        | 0 => [v % 256, v / 256, v % 256, v / 256, v % 256, v / 256]
        | 1 => [v % 256, v % 256, v % 256]
        | _ => [v % 256]
    else
      match rawBits (s.rd .camDt k) with
      | some b => (List.range (lineBytes (s.rd .camDt k) w / groupBytes b)).flatMap fun _ => packGroup b v
      | none => List.replicate (lineBytes (s.rd .camDt k) w) (v % 256)
  l.map (BitVec.ofNat 8)

/-! Commits and the applied FIFO (R123 to R125). -/

/-- The registers show the oldest entry. -/
def showApplied (k : Nat) (s : State) : State :=
  let e := (s.cam k).fifo.headD ⟨0, 0, 0, 0⟩
  (((s.wr .camAppFnum e.fnum k).wr .camAppTag e.tag k).wr .camAppStatus e.status k).wr .camAppFcnt e.fcnt k

/-- Enter a record into the applied FIFO. -/
def pushApplied (k : Nat) (e : CamApplied) (s : State) : State :=
  let c := s.cam k
  if c.fifo.length < 16 then showApplied k (s.setCam k { c with fifo := c.fifo ++ [e] })
  else raise .camAppliedOvf 3 k (s.bump .camAovf 1 k)

def camCommit (tid k : Nat) (tag : Byte) (s : State) : State :=
  let a := s.rd .camAddrHi k * 2 ^ 32 + s.rd .camAddrLo k
  if a % 128 ≠ 0 then strReject tid (0x11C + k * 0x80) s
  else
    let c := s.cam k
    let s :=
      match c.pend with
      | none => s
      | some p =>
        pushApplied k ⟨0, p.tag, 3, 0⟩ (raise .camCommitReplaced 3 (k + p.tag * 256) (s.bump .camCrepl 1 k))
    let s := s.setCam k { s.cam k with pend := some ⟨a, tag.toNat, pclkNext s⟩ }
    (s.wr .camPendP 1 k).wr .camPendTag tag.toNat k

def camAppliedPop (k : Nat) (s : State) : State :=
  showApplied k (s.setCam k { s.cam k with fifo := (s.cam k).fifo.drop 1 })

/-- A pending commit that completed in an earlier PCLK becomes live at a Frame Start. -/
def applyCommit (k fnum : Nat) (implied : Bool) (fcnt : Nat) (s : State) : State :=
  let c := s.cam k
  match c.pend with
  | none => s
  | some p =>
    if p.due ≤ s.now then
      let s := s.setCam k { c with pend := none, live := true, tag := p.tag }
      let s := ((s.wr .camPendP 0 k).wr .camLiveLo p.addr k).wr .camLiveHi (p.addr / 2 ^ 32) k
      pushApplied k ⟨if implied then 0 else fnum, p.tag, if implied then 2 else 1, fcnt⟩ s
    else s

/-! The sensor command queue (R127 to R131). -/

/-- SCQ_STAT.SETS and FREE. -/
def showScq (p : Nat) (s : State) : State :=
  let q := s.scq p
  let run := match q.run with
    | some r => r.set.writes.length
    | none => 0
  let held := q.acc.length + run + (q.sets.map fun x => x.writes.length).sum
  (s.wr .scqSets (q.sets.length + b2n q.run.isSome) p).wr .scqFree (64 - held) p

def scqEntry (tid p : Nat) (v : Word) (s : State) : State :=
  if s.rd .scqFree p = 0 then strReject tid (0x1804 + p * 0x20) s
  else showScq p (s.setScq p { s.scq p with acc := (s.scq p).acc ++ [(bitsOf v.toNat 0 16, bitsOf v.toNat 16 16)] })

def scqSubmit (tid p : Nat) (epoch : Byte) (s : State) : State :=
  if 4 ≤ s.rd .scqSets p then strReject tid (0x1808 + p * 0x20) s
  else
    let q := s.scq p
    showScq p (s.setScq p { q with acc := [], sets := q.sets ++ [⟨epoch.toNat, q.acc, pclkNext s⟩] })

/-- The I²C transfer of one register write (R128). -/
def scqSend (p : Nat) (w : Nat × Nat) (s : State) : State :=
  s.send .i2c (s.rd .scqBus p) (s.rd .scqAddr p)
    (beBytes (s.rd .scqAw p + 1) w.1 ++ beBytes (s.rd .scqDw p + 1) w.2)

/-- Release a set now (R129): the effect frame, and lateness against the frame in which it started. -/
def scqRelease (p : Nat) (r : ScqRun) (s : State) : State :=
  let q := s.scq p
  let eff := (q.last + 1 + s.rd .scqD p) % 2 ^ 32
  let s := s.setScq p { q with run := none, rel := ⟨q.relNo, r.set.epoch, eff⟩ :: q.rel, relNo := q.relNo + 1 }
  let s := showScq p (s.wr .scqEffectFcnt eff p)
  if q.last ≠ r.fcnt then raise .scqLate 3 (p + r.set.epoch * 256) s else s

/-- Start the oldest set submitted in an earlier PCLK, at the Frame Start of frame `fcnt` (R128). -/
def scqStart (p fcnt : Nat) (s : State) : State :=
  let q := s.scq p
  match q.run, q.sets with
  | none, x :: t =>
    if s.on .scqEn p ∧ x.due ≤ s.now then
      let r : ScqRun := ⟨x, fcnt, false⟩
      let s := showScq p (s.setScq p { q with sets := t, run := some r })
      match x.writes with
      | [] => scqRelease p r s
      | w :: _ => scqSend p w s
    else s
  | _, _ => s

def scqWriteAck (p : Nat) (s : State) : State :=
  let q := s.scq p
  match q.run with
  | none => s
  | some r =>
    match r.set.writes with
    | [] => s
    | [_] => scqRelease p r s
    | _ :: w :: t =>
      let r' : ScqRun := { r with set := { r.set with writes := w :: t }, again := false }
      scqSend p w (showScq p (s.setScq p { q with run := some r' }))

def scqWriteNack (p : Nat) (s : State) : State :=
  let q := s.scq p
  match q.run with
  | none => s
  | some r =>
    match r.set.writes with
    | [] => s
    | w :: _ =>
      if r.again then
        let s := s.setScq p { q with run := none, unc := ((q.last + 1 + s.rd .scqD p) % 2 ^ 32, q.relNo) :: q.unc }
        raise .scqNack 3 (p + r.set.epoch * 256) (showScq p (s.wr .scqUncertain 1 p))
      else scqSend p w (s.setScq p { q with run := some { r with again := true } })

/-- Is frame a at or before frame b? -/
def fcntLe (a b : Nat) : Bool := (b + 2 ^ 32 - a) % 2 ^ 32 < 2 ^ 31

/-- The epoch at a Frame Start of the SCQ's channel (R130, R131). -/
def scqEpochAt (p fcnt : Nat) (s : State) : State :=
  let q := s.scq p
  let e := q.rel.find? fun r => fcntLe r.eff fcnt
  let q := { q with last := fcnt }
  match e with
  | none => s.setScq p q
  | some r =>
    let q := { q with rel := q.rel.filter (fun x => r.no ≤ x.no), unc := q.unc.filter fun u => decide (r.no < u.2) }
    let s := (s.setScq p q).wr .scqEpoch r.epoch p
    if q.unc.isEmpty then s.wr .scqUncertain 0 p else s

/-- Does frame `fcnt` of the SCQ's channel carry the uncertain flag? -/
def scqUncAt (s : State) (p fcnt : Nat) : Bool := (s.scq p).unc.any fun u => fcntLe u.1 fcnt

/-! Frames (R126, R132 to R134). -/

/-- The stamp: DTIME now minus CAM_TS_OFS. -/
def camStamp (s : State) (k : Nat) : Nat × Nat :=
  let c := s.clk.setTotal ((s.clk.total : Int) - s.rdS .camTsOfs k * (dtUnit : Int))
  (c.sec, c.ns)

/-- FLAGS of a frame record (Table STR-6). -/
def camFlags (f : CamFrame) (skip noref fe : Bool) : Nat :=
  b2n skip + 2 * b2n noref + 4 * b2n f.implied + 8 * b2n fe + 16 * b2n f.unc + 32 * b2n f.addr.isNone

/-- Rows of a frame to be replaced, ascending, with their cause (Table STR-7). -/
def badRows (h : Nat) (f : CamFrame) : List (Nat × Nat) :=
  (List.range h).filterMap fun r =>
    if f.rows.any (fun x => x.1 == r) then none
    else some (r, match f.bad.find? fun x => x.1 == r with
      | some b => b.2
      | none => 3)

/-- Bytes of an output row. -/
def outRowBytes (s : State) (k : Nat) : Nat :=
  if camIsp s k then s.rd .camW k * (match s.rd .camOutfmt k with
    | 0 => 6
    | 1 => 3
    | _ => 1)
  else lineBytes (s.rd .camDt k) (s.rd .camW k)

/-- Write one row of the frame; a refusal is noted. -/
def putRow (k a row : Nat) (l : List Byte) (x : Bool × State) : Bool × State :=
  if x.1 then x
  else
    let (r, s) := strWrite (a + row * x.2.rd .camStride k) l x.2
    (r != rOkay, s)

/-- A pixel after black level (Table STR-3). -/
def blackSub (black v : Nat) : Nat := v - black

/-- The ISP output of the rows received good, after black level. -/
def putIsp (k a : Nat) (f : CamFrame) (x : Bool × State) : Bool × State :=
  let (d, s) := x.2.fresh
  let black := s.rd .cmpBlack (k / 4)
  let pl : Plane := ⟨s.rd .camW k, s.rd .camH k, f.rows.map fun r => (r.1, r.2.map (blackSub black)), d⟩
  f.rows.foldl (fun x r =>
    let l := (List.range pl.w).flatMap fun c => outPixel (s.rd .camOutfmt k) (rgb16At s (k / 4) pl r.1 c)
    putRow k a r.1 (l.map (BitVec.ofNat 8)) x) (x.1, s)

/-- The replacement of one row: the row above as it stands, or the fill value. -/
def putReplacement (k a row : Nat) (x : Bool × State) : Bool × State :=
  let s := x.2
  if s.on .camReplMode k ∨ row = 0 then putRow k a row (fillRow s k) x
  else putRow k a row (s.rdBytes (a + (row - 1) * s.rd .camStride k) (outRowBytes s k)) x

/-- Saturating sum of 32 bits. -/
def sum32 (l : List Nat) : Nat := min l.sum 0xFFFFFFFF

/-- The 2 × 2 quads of a grid cell whose rows were received and none of whose pixels is 0xFFFF before black level. -/
def cellQuads (w h : Nat) (rows : List (Nat × List Nat)) (i j : Nat) : List (Nat × Nat) :=
  let cw := w / 32
  let chh := h / 32
  (List.range chh).flatMap fun y => (List.range cw).filterMap fun x =>
    let r := 2 * (i * chh + y)
    let c := 2 * (j * cw + x)
    let get (r : Nat) : Option (List Nat) := (rows.find? fun e => e.1 == r).map (·.2)
    match get r, get (r + 1) with
    | some a, some b =>
      if a.getD c 0 = 0xFFFF ∨ a.getD (c + 1) 0 = 0xFFFF ∨ b.getD c 0 = 0xFFFF ∨ b.getD (c + 1) 0 = 0xFFFF then none
      else some (r, c)
    | _, _ => none

/-- The four words of a grid cell. -/
def cellWords (s : State) (k : Nat) (rows : List (Nat × List Nat)) (i j : Nat) : List Nat :=
  let black := s.rd .cmpBlack (k / 4)
  let pat := s.rd .cmpBayer (k / 4)
  let qs := cellQuads (s.rd .camW k) (s.rd .camH k) rows i j
  let px (r c : Nat) : Nat := blackSub black (((rows.find? fun e => e.1 == r).map fun e => e.2.getD c 0).getD 0)
  let sum (ch : Nat) : Nat := sum32 (qs.flatMap fun q =>
    ([(0, 0), (0, 1), (1, 0), (1, 1)] : List (Nat × Nat)).filterMap fun d =>
      if bayerAt pat (q.1 + d.1 : Nat) (q.2 + d.2 : Nat) = ch then some (px (q.1 + d.1) (q.2 + d.2)) else none)
  [sum 0, sum 1, sum 2, qs.length]

/-- The statistics record (Table STR-4). -/
def statsRecord (s : State) (k : Nat) (f : CamFrame) (flags : Nat) : List Byte :=
  let black := s.rd .cmpBlack (k / 4)
  let pat := s.rd .cmpBayer (k / 4)
  let hch := s.rd .camStatsHch k
  let vals := f.rows.flatMap fun r => (r.2.zipIdx).filterMap fun x =>
    if hch = 0 ∨ bayerAt pat (r.1 : Nat) (x.2 : Nat) + 1 = hch then some (blackSub black x.1 / 256) else none
  let hist := (List.range 256).map fun b => sum32 [vals.countP fun v => v == b]
  let cells := (List.range 256).flatMap fun c => cellWords s k f.rows (c / 16) (c % 16)
  leBytes 4 f.fcnt ++ leBytes 2 f.fnum ++ leBytes 1 f.epoch ++ leBytes 1 flags ++ leBytes 2 f.rows.length ++
    List.replicate 54 0 ++ hist.flatMap (leBytes 4) ++ cells.flatMap (leBytes 4)

/-- The frame record (Table STR-6). -/
def frameRecord (f : CamFrame) (flags bad ref addr : Nat) : List Byte :=
  leBytes 4 f.fcnt ++ leBytes 2 f.fnum ++ leBytes 1 f.epoch ++ leBytes 1 flags ++ leBytes 2 bad ++ leBytes 1 f.tag ++
    leBytes 1 0 ++ leBytes 4 ref ++ leBytes 5 addr ++ leBytes 3 0 ++ leBytes 4 f.ns ++ leBytes 4 f.sec

/-- Write the frame's records and count RIDX. -/
def putRecords (k : Nat) (f : CamFrame) (flags bad ref addr : Nat) (s : State) : State :=
  let i := s.rd .camRidx k
  let s :=
    if camIsp s k then
      let a := s.rd .camStatsHi k * 2 ^ 32 + s.rd .camStatsLo k * 8192
      (strWrite (a + i % (s.rd .camStatsN k + 1) * 8192) (statsRecord s k f flags) s).2
    else s
  let a := s.rd .camRecHi k * 2 ^ 32 + s.rd .camRecLo k * 32
  let s := (strWrite (a + i % (s.rd .camRecN k + 1) * 32) (frameRecord f flags bad ref addr) s).2
  s.wr .camRidx (i + 1) k

/-- The data of a closed frame: written or skipped. -/
def closeData (k : Nat) (f : CamFrame) (bad : List (Nat × Nat)) (s : State) : Bool × State :=
  match f.addr with
  | none => (true, s)
  | some a =>
    if f.refused ∨ s.rd .camMaxbad k < bad.length then (true, s)
    else
      let x := if camIsp s k then putIsp k a f (false, s) else (false, s)
      bad.foldl (fun x b => putReplacement k a b.1 x) x

/-- A frame of stream k closes; `fe`: by an implied Frame End. -/
def closeFrame (k : Nat) (fe : Bool) (s : State) : State :=
  match (s.cam k).frame with
  | none => s
  | some f =>
    let bad := badRows (s.rd .camH k) f
    let tooMany := decide (s.rd .camMaxbad k < bad.length)
    let (skip, s) := closeData k f bad s
    let refused := f.addr.isSome && skip && !tooMany
    let s := s.setCam k { s.cam k with frame := none }
    let c := s.cam k
    if skip then
      let s := s.setCam k { c with skipped := satAdd 32 c.skipped 1 }
      let s := raise .camFrameSkipped 3 (k + 16 * b2n f.addr.isNone + 32 * b2n refused) s
      match c.good with
      | some (a, n) =>
        if f.addr = some a then putRecords k f (camFlags f true true fe) bad.length 0 0 s
        else putRecords k f (camFlags f true false fe) bad.length n a s
      | none => putRecords k f (camFlags f true true fe) bad.length 0 0 s
    else
      let a := f.addr.getD 0
      let s := s.setCam k { c with good := some (a, f.fcnt), delivered := satAdd 32 c.delivered 1,
                                   replaced := satAdd 32 c.replaced bad.length }
      let s := match bad with
        | [] => s
        | b :: _ => raise .camLineReplaced 3 (k + b.2 * 16) s
      putRecords k f (camFlags f false false fe) bad.length f.fcnt a s

/-- A Frame Start of stream k is processed; `implied`: by a long packet (R133). -/
def openFrame (k fnum : Nat) (implied : Bool) (s : State) : State :=
  let s := if (s.cam k).frame.isSome then raise .camBoundary 3 (k + 32) (closeFrame k true s) else s
  let s := if implied then raise .camBoundary 3 (k + 16) s else s
  let p := k / 4
  let fcnt := s.rd .camFcnt k
  let s := applyCommit k fnum implied fcnt (s.wr .camFcnt (fcnt + 1) k)
  let own := s.rd .scqVc p = k % 4
  let s := if own then scqEpochAt p fcnt s else s
  let st := if implied then (s.clk.sec, s.clk.ns) else camStamp s k
  let unc := scqUncAt s p (if own then fcnt else (s.scq p).last)
  let c := s.cam k
  let addr := if c.live then some (s.rd .camLiveHi k * 2 ^ 32 + s.rd .camLiveLo k) else none
  let f : CamFrame := ⟨fcnt, if implied then 0 else fnum, implied, st.1, st.2, s.rd .scqEpoch p, unc, addr, c.tag, [], [], 0, false⟩
  let s := s.setCam k { c with frame := some f, epoch := s.rd .scqEpoch p }
  if own then scqStart p fcnt s else s

/-- A packet is dropped (R120). -/
def csiDrop (p : Nat) (s : State) : State := s.bump .csiErrDrop 1 p

/-- A packet that is not lost counts a corrected header, for the port and for its stream if that is enabled (Table STR-7). -/
def csiCorrected (k : Nat) (hdr : CamHdr) (s : State) : State :=
  if hdr = .corrected then
    let s := s.bump .csiErrCorr 1 (k / 4)
    if strOn s k then s.setCam k { s.cam k with corrected := satAdd 32 (s.cam k).corrected 1 } else s
  else s

/-- A packet of port p and virtual channel vc comes in; `lost` and `take` say what becomes of it. With the PHY off or without its
clocks the port takes nothing. Packets on a virtual channel that is not enabled are all dropped, and `extra` of them came with this
one (R120). -/
def csiPacket (p vc : Nat) (h : CamHead) (extra : Nat) (lost take : State → State) (s : State) : State :=
  let k := 4 * p + vc
  if s.on .csiEn p ∧ camOn s = true then
    let s := s.wr .csiUlps 0 p
    let s := if strOn s k then s else s.bump .csiErrDrop h.shorts p
    let s :=
      if h.hdr = .lost then lost (s.bump .csiErrUncorr 1 p)
      else
        let s := csiCorrected k h.hdr s
        if strOn s k then take s else s.bump .csiErrDrop (1 + extra) p
    if h.ulps then s.wr .csiUlps 1 p else s
  else s

def camFrameStart (p vc : Nat) (fnum : BitVec 16) (h : CamHead) (s : State) : State :=
  csiPacket p vc h 0 id (openFrame (4 * p + vc) fnum.toNat false) s

def camFrameEnd (p vc : Nat) (h : CamHead) (s : State) : State :=
  csiPacket p vc h 0 id (closeFrame (4 * p + vc) false) s

/-- A line takes its row (R132). -/
def takeLine (k row : Nat) (crcOk : Bool) (l : List Byte) (s : State) : State :=
  match (s.cam k).frame with
  | none => s
  | some f =>
    let f := { f with next := f.next + 1 }
    let f0 := { f with rows := f.rows.filter (fun x => x.1 != row), bad := f.bad.filter (fun x => x.1 != row) }
    let put (f : CamFrame) (s : State) : State := s.setCam k { s.cam k with frame := some f }
    if s.rd .camH k ≤ row then put f (csiDrop (k / 4) s)
    else if !crcOk then put { f0 with bad := (row, 1) :: f0.bad } s
    else if l.length ≠ lineBytes (s.rd .camDt k) (s.rd .camW k) then put { f0 with bad := (row, 2) :: f0.bad } s
    else if camIsp s k then
      let px := match rawBits (s.rd .camDt k) with
        | some b => unpackLine b l
        | none => l.map fun b => b.toNat * 256
      put { f0 with rows := f0.rows ++ [(row, px)] } s
    else
      match f.addr with
      | none => put { f0 with rows := f0.rows ++ [(row, [])] } s
      | some a =>
        let (ref, s) := putRow k a row l (f.refused, s)
        put { f0 with rows := f0.rows ++ [(row, [])], refused := ref } s

/-- A long packet of an enabled channel: of the stream's data type it is a line, by arrival order or by its Line Start number. -/
def camLine (k : Nat) (dt_ : BitVec 6) (line : Option Nat) (crcOk : Bool) (l : List Byte) (s : State) : State :=
  if dt_.toNat ≠ s.rd .camDt k then csiDrop (k / 4) s
  else
    let s := if (s.cam k).frame.isNone then openFrame k 0 true s else s
    let next := match (s.cam k).frame with
      | some f => f.next
      | none => 0
    if s.on .camLnum k then
      match line with
      | some n => if n = 0 then csiDrop (k / 4) s else takeLine k (n - 1) crcOk l s
      | none => csiDrop (k / 4) s
    else takeLine k next crcOk l s

/-- A lost long packet of the stream's data type leaves its row missing (Table STR-7). -/
def camLost (k : Nat) (dt_ : BitVec 6) (s : State) : State :=
  match (s.cam k).frame with
  | some f => if strOn s k ∧ dt_.toNat = s.rd .camDt k then s.setCam k { s.cam k with frame := some { f with next := f.next + 1 } } else s
  | none => s

def camLinePacket (p vc : Nat) (dt_ : BitVec 6) (line : Option Nat) (h : CamHead) (crcOk : Bool) (l : List Byte)
    (s : State) : State :=
  csiPacket p vc h (b2n line.isSome) (camLost (4 * p + vc) dt_) (camLine (4 * p + vc) dt_ line crcOk l) s

/-! Sample rings (R135 to R137). -/

/-- Write a sample of stream k into its ring if the stream is enabled. -/
def ringSample (k : Nat) (v : Int) (ns : Nat) (repl : Bool) (s : State) : State :=
  if strOn s k then
    let i := k - 16
    let n := s.rd .strWidx i
    let a := s.rd .ringHi i * 2 ^ 32 + s.rd .ringLo i * 8 + n % 2 ^ s.rd .ringLenLog2 i * 8
    let s := (strWrite a (leBytes 8 (u32 v + ns % 2 ^ 30 * 2 ^ 32 + b2n repl * 2 ^ 63)) s).2
    let s := s.wr .strWidx (n + 1) i
    { s with str := { s.str with delivered := s.str.delivered.set k (satAdd 32 (s.str.delivered.get 0 k) 1) } }
  else s

/-- The current samples of axis n go to S(16 + 3n + c) (R76, R135). -/
def deliverCurrents (n : Nat) (s : State) : State :=
  let x := (s.ax n).smp
  [x.ia, x.ib, x.ic].zipIdx.foldl
    (fun s e => ringSample (16 + 3 * n + e.2) e.1 x.ns (s.sdOf (3 * n + e.2)).told s) s

/-- One slot of a TDM frame: the checked sample of stream 40 + j. -/
def tdmChannel (q h : Nat) (w : Word) (s : State) : State :=
  let j := 2 * q + h
  let c := s.str.tdm.get .init j
  let raw := w.toNat
  let run := if c.last = some raw then c.run + 1 else 1
  let flagBad := s.on .tdmVflagEn q && bitOf raw (s.rd .tdmVflagBit q) != s.on .tdmVflagPol q
  let stuck := s.rd .tdmStuckRun q != 0 && s.rd .tdmStuckRun q ≤ run
  let bad := flagBad || stuck
  let v := if s.on .tdmVflagEn q then s32 (setBit raw (s.rd .tdmVflagBit q) false) else s32 raw
  let c' : TdmChan := ⟨some raw, run, if bad then c.good else v, bad⟩
  let s := { s with str := { s.str with tdm := s.str.tdm.set j c' } }
  let c0 := s.clk.setTotal (s.str.fsync.get (0 : Nat) q : Nat)
  let s :=
    if bad then
      let s := if h = 0 then s.bump .tdmRepl0 1 q else s.bump .tdmRepl1 1 q
      let s := { s with str := { s.str with replaced := s.str.replaced.set (40 + j) (satAdd 32 (s.str.replaced.get 0 (40 + j)) 1) } }
      if c.told then s else raise .vibReplaced 3 (j + 256 * b2n (!flagBad)) s
    else s
  let out := if bad then c.good else v
  let s := ringSample (40 + j) out c0.ns bad s
  foldN 8 (fun n s => if s.armed n ∧ strOn s (40 + j) then vibSample n j out c0.sec c0.ns s else s) s

/-- Does a whole TDM frame of port q end now (R136)? The frames fill the PCLK grid from the alignment epoch: FSYNC rises every
64 × BDIV PCLK. -/
def tdmEnds (s : State) (q : Nat) : Bool :=
  let f := max s.clk.epoch (s.str.tdmFrom.get 0 q)
  s.on .tdmEn q && s.clk.up && decide ((s.now - s.clk.epoch) % tdmLen s q = 0) && decide (f + tdmLen s q ≤ s.now)

def tdmFrame (q : Nat) (a b : Word) (s : State) : State :=
  if tdmEnds s q then
    let s := if strOn s (40 + 2 * q) then tdmChannel q 0 a s else s
    let s := if strOn s (41 + 2 * q) then tdmChannel q 1 b s else s
    { s with str := { s.str with tdmFrom := s.str.tdmFrom.set q s.now } }
  else s

/-- A camera stream that is enabled now begins without a live address, a good frame or frame counts (R123, R125). -/
def camEnable (k : Nat) (s : State) : State :=
  (s.setCam k { s.cam k with frame := none, live := false, tag := 0, good := none }).wr .camFcnt 0 k

end Sys2Proof.Machine
end

