-- ==== Sys2Proof/Machine/Takeover.lean ====
section
/-! DEFINITION. The steps of a takeover or handover at the ticks and latches of an axis (chapter 20). -/

namespace Sys2Proof.Machine

def setTko (t : Option Tko) (s : State) : State := { s with pair := { s.pair with tko := t } }

/-- The entry of axis n in the newest mirror. -/
def mirAxis (s : State) (n : Nat) : Option MirAx := s.pair.mir.bind fun m => m.axes.find? fun x => x.axis == n

/-- Value k of an axis of a mirror, in the order of Table PAIR-6. -/
def MirAx.val (x : MirAx) (k : Nat) : Nat := x.vals.getD k 0

/-- May the newest mirror be applied warm (R430, R432)? -/
def mirrorWarm (s : State) : Bool := s.rd .pairMirrorAge ≤ s.ob .pairMaxAge && !s.pair.mismatch

/-- d of R430: the own latch of the mirrored run less the mirrored ENC_POS; the last d where that latch is not kept. -/
def encDelta (s : State) (n : Nat) (x : MirAx) : Nat :=
  match (s.pair.lat.get [] n).find? fun l => l.idx == x.idx with
  | some l => u32 (l.pos - s32 (x.val 8))
  | none => s.rd .pairEncDelta n

/-- The target object of the mode is set to the new ref_src. -/
def takeTarget (n mode ref : Nat) (s : State) : State :=
  let a := { s.ax n with fwd := [] }
  match mode with
  | 0 => (s.setOb .axTgtPos ref n).setAx n { a with tgtPos := s32 ref }
  | 1 => (s.setOb .axTgtVel ref n).setAx n { a with tgtSpd := s32 ref }
  | _ => (s.setOb .axTgtTorque (ref / 65536) n).setAx n { a with tgtTrq := s32 ref }

/-- The CE loads the state of R430 for axis n. -/
def loadMirror (n : Nat) (x : MirAx) (s : State) : State :=
  let warm := mirrorWarm s
  let mode := bitsOf x.flags 1 2
  let d := encDelta s n x
  let own := u32 (s.ax n).bank.pos
  let add (v : Nat) : Nat := if mode = 0 then (v + d) % 2 ^ 32 else v
  let ref := if warm then add (x.val 3) else own
  let eff := if warm then add (x.val 4) else own
  let ps := if warm then add (x.val 7) else own
  let keep (k : Nat) : Nat := if warm then x.val k else 0
  let s := ((s.wr .pairEncDelta d n).wr .axMode mode n).wr .axSpsrc (bitsOf x.flags 3 2) n
  let s := ((s.wr .axIntD (keep 0) n).wr .axIntQ (keep 1) n).wr .axIntS (keep 2) n
  let s := ((s.wr .axRefSrc ref n).wr .axRefEff eff n).wrS .axFeedLag (s32 ref - s32 eff) n
  let a := s.ax n
  let a := { a with ffrac := keep 5, dincPrev := s32 (keep 6), posPrevS := s32 ps, refPrev := s32 ref, rem := s32 (x.val 9),
                    y := if warm then s32 (x.val 10) else a.y, plsRef := a.bank.pls, first := true, preloaded := true,
                    src := bitsOf x.flags 3 2 }
  let s := (s.setAx n a).setOb .axModeObj x.mode n
  if warm then takeTarget n mode ref s else takeTarget n 0 own s

/-- The pre-roll latch of axis n (Table PAIR-5): the state is loaded, and the laws run. -/
def preRollLatch (n : Nat) (s : State) : State :=
  match s.pair.tko, mirAxis s n with
  | some t, some x =>
    if bitOf t.pre n ∧ !bitOf t.loaded n then
      let cold := t.cold || !mirrorWarm s
      latchAxis n (loadMirror n x (setTko (some { t with cold := cold, loaded := setBit t.loaded n true }) s))
    else s
  | _, _ => s

/-- The takeover or handover is complete when no axis is left. -/
def finishTko (s : State) : State :=
  match s.pair.tko with
  | none => s
  | some t =>
    if t.todo = 0 ∧ s.rd .pairRole = 3 then
      let s := ((setTko none s).wr .pairRole 1).bump .pairTkoCnt 1
      let s := (s.wr .pairTkoCause t.cause).wr .pairTkoCold (b2n t.cold)
      let s := if t.unarmed = 0 then s else raise .pairNotArmed 1 t.unarmed s
      if t.cause = 3 then raise .pairHandover 1 0 s else raise .pairTakeover 1 (t.cause + 4 * b2n t.cold + 256 * t.done) s
    else s

/-- The enabling tick of axis n (R427): the computed shadows stand, and the axis is in Operation enabled. What the pre-roll latch saw of
the guards stands, so that latch is the first one of R72 (DESIGN CHOICE, log entry 16). -/
def enablingTick (n : Nat) (t : Tko) (s : State) : State :=
  let left := setBit t.todo n false
  if s.rdBit .safArmed n then
    let ok := !(s.rdBit .mioTrip n) && !(s.rdBit .mioOc n) && !(s.on .mioEstop)
    let s := ((s.wr .axEn 1 n).wrBit .ceAxRun n true).wrBit .mioPadsOn n ok
    let s := s.wr .axAnaEn (b2n (s.rd .axSpsrc n == 2)) n
    let s := foldN 3 (fun x s => s.setHb n x ⟨false, s.now⟩) s
    let s := s.setAx n { s.ax n with run := true, stopped := false, enPend := none, relAt := none }
    let s := { s with drv := { s.drv with ax := s.drv.ax.set n ⟨4, false, 0, false⟩ } }
    finishTko (setTko (some { t with todo := left, done := setBit t.done n true }) s)
  else finishTko (setTko (some { t with todo := left, unarmed := setBit t.unarmed n true }) s)

/-- A tick of axis n in a takeover: its pre-roll starts, or the axis is enabled. -/
def tickTakeover (n : Nat) (s : State) : State :=
  match s.pair.tko with
  | none => s
  | some t =>
    if !bitOf t.todo n then s
    else if !bitOf t.pre n then setTko (some { t with pre := setBit t.pre n true }) s
    else if bitOf t.loaded n ∧ s.rd .pairRole = 3 then enablingTick n t s
    else s

/-- The last 16 latches of an axis are kept (R430). -/
def keepLatch (n i : Nat) (s : State) : State :=
  if s.pair.on then
    let l := ⟨i, (s.ax n).smp.pos⟩ :: (s.pair.lat.get [] n)
    { s with pair := { s.pair with lat := s.pair.lat.set n (l.take 16) } }
  else s

end Sys2Proof.Machine
end

