-- ==== Sys2Proof/Machine/Tick.lean ====
section
/-! DEFINITION. The axis tick, the delivery of samples and the latch of the control engine (chapters 01 and 03 to 06). -/

namespace Sys2Proof.Machine

/-- CECLK of period i of axis n. -/
def periodLen (s : State) (n i : Nat) : Nat :=
  let t := tickTime s.clk.base (s.rd .axTbPer n) (s.rd .axTbPhase n)
  t (i + 1) - t i

/-- An enable or a disable that waits takes effect at the tick (R60, R81). -/
def enableTick (n per : Nat) (s : State) : State :=
  match (s.ax n).enPend with
  | some true => enableAtTick n s
  | some false => disableAtTick n per s
  | none => s

/-- Do shadow writes of the last period complete in this CECLK or later (R21)? -/
def inPipe (s : State) (a : CeAxis) : Bool :=
  match a.issuedAt with
  | some t => s.now ≤ t + 252 * rootPerCe
  | none => false

/-- Period i of axis n opens. -/
def openPeriod (n i per : Nat) (s : State) : State :=
  let a := s.ax n
  let a := if inPipe s a then a else { a with lat := none, issuedAt := none }
  s.setAx n { a with open_ := true, tickAt := s.now, per := per, idx := i, ranAtTick := a.run, stopped := false, ceT := none }

/-- The motor I/O at a tick, while its clock runs: the shadows load, and the samples are latched and wait for their delivery. -/
def motorTick (n per : Nat) (sd : List (List (Option Bool))) (s : State) : State :=
  if s.mioOn then
    let s := latchSamples n sd (loadShadows n per s)
    s.setAx n { s.ax n with delivered := false }
  else s

def axisTick (n : Nat) (sd : List (List (Option Bool))) (s : State) : State :=
  match s.tickNow n with
  | none => s
  | some i =>
    let per := periodLen s n i
    let s := enableTick n per (carryHb n s)
    let s := tickTakeover n s
    let s := motorTick n per sd s
    keepLatch n i (openPeriod n i per (mitreTick n s))

/-- Samples of axis n wait for their delivery, and now is t = 353 after their tick, whatever has become of the grid since. -/
def atDelivery (s : State) (n : Nat) : Bool :=
  let a := s.ax n
  s.onCeEdge && s.mioOn && !a.delivered && s.now == a.tickAt + 353 * rootPerCe

def sampleDelivery (n : Nat) (s : State) : State :=
  if atDelivery s n then
    deliverCurrents n (s.setAx n { s.ax n with bank := (s.ax n).smp, delivered := true })
  else s

def ceLatch (n : Nat) (s : State) : State :=
  if atCommit s n ∧ (s.ax n).lat.isNone then
    let s := if (s.ax n).run ∧ !(s.ax n).stopped then latchAxis n s else preRollLatch n s
    latchMailbox n s
  else s

end Sys2Proof.Machine
end

