-- ==== Sys2Proof/Machine/Supervise.lean ====
section
/-! DEFINITION. Power caps and throttling, adaptive voltage, thermal supervision and fans (chapter 21; R249). -/

namespace Sys2Proof.Machine

/-- EVT_PWR_CFG_REJECT for an offset. -/
def pwrReject (tid off : Nat) (s : State) : State := raise .pwrCfgReject tid off s

/-! Caps (R452). -/

/-- Sensors that are valid. -/
def validSensors (s : State) : List Nat := whichOf 12 fun k => s.on .thmValid k

/-- Does cap level 1 apply (Table PWR-6)? -/
def capLevel1 (s : State) : Bool :=
  s.rd .fanState 0 == 4 || s.rd .fanState 1 == 4 || !s.memc.hot.isEmpty || (validSensors s).length < 9 || s.pwr.avsLimit

/-- Does cap level 2 apply? -/
def capLevel2 (s : State) : Bool := s.rd .fanState 0 == 3 || s.rd .fanState 1 == 3

/-- The package cap in W (R3). -/
def packageCap : Nat := if Config.orderXb then 26 else 32

/-- The caps that apply, by bit of CAP_SRC. -/
def capsOf (s : State) : List (Nat × Nat) :=
  [(0, s.rd .pwrCapUser), (1, packageCap)] ++ (if capLevel1 s then [(2, 20)] else []) ++ (if capLevel2 s then [(3, 12)] else [])

/-- The effective cap. -/
def effCapOf (s : State) : Nat := (capsOf s).foldl (fun m c => min m c.2) 32

/-- The effective cap follows its sources (R452). -/
def updCap (s : State) : State :=
  let e := effCapOf s
  let src := (capsOf s).foldl (fun b c => if c.2 = e then setBit b c.1 true else b) 0
  let s' := (s.wr .pwrCap e).wr .pwrCapSrc src
  if s.rd .pwrCap = e then s' else raise .pwrCapChange 0 e s'

/-! Throttling (R453, R455). -/

/-- Tm in units of 0.125 °C (R2, R450). -/
def tmax : Int := if Config.orderXb then 1000 else 880

/-- THM_MAX in units of 0.125 °C. -/
def State.thm (s : State) : Int := signed 12 (s.rd .thmMax)

/-- A window that raises L. -/
def throttleUp (s : State) : State :=
  let w := s.pwr
  let hold :=
    match w.fellAt with
    | some t => if s.now ≤ t + 10 * rootPerMs then s.now + rootPerS else w.holdTo
    | none => w.holdTo
  { s with pwr := { w with below := 0, holdTo := hold } }.wr .pwrL (min 4 (s.rd .pwrL + 1))

/-- A window that does not. -/
def throttleDown (low : Bool) (s : State) : State :=
  let n := if low then s.pwr.below + 1 else 0
  if 100 ≤ n ∧ s.pwr.holdTo ≤ s.now ∧ 0 < s.rd .pwrL then
    { s with pwr := { s.pwr with below := 0, fellAt := some s.now } }.wr .pwrL (s.rd .pwrL - 1)
  else { s with pwr := { s.pwr with below := n } }

def throttleLevel (est : Nat) (s : State) : State :=
  let cap := s.rd .pwrCap * 1000
  let n := if s.rd .pwrL = 4 ∧ cap < est then s.pwr.above + 1 else 0
  let s := { s with pwr := { s.pwr with above := n, aboveTold := s.pwr.aboveTold && !(decide (est < cap)) } }
  let s := s.wr .pwrEst (min est 65535)
  if cap < est ∨ tmax - 40 ≤ s.thm then throttleUp s
  else throttleDown (10 * est < 9 * cap && s.thm < tmax - 64) s

/-- A window ends now; each is judged once. -/
def throttleWindow (est : Nat) (s : State) : State :=
  if winStart s = s.now ∧ s.pwr.winAt < s.now then throttleLevel est { s with pwr := { s.pwr with winAt := s.now, lastL := s.rd .pwrL } } else s

/-- THROTTLE_WINDOW (R453); `est`: PWR_EST of the window in mW, as the estimator gives it. -/
def execThrottleWindow (dt est : Nat) (s : State) : Out := after dt s (throttleWindow est)

def pwrCapUnmet (s : State) : State :=
  if 10 ≤ s.pwr.above ∧ !s.pwr.aboveTold then
    raise .pwrCapUnmet 0 (s.rd .pwrEst / 100) { s with pwr := { s.pwr with aboveTold := true } }
  else s

/-- PWR_CAP_UNMET (R455). -/
def execPwrCapUnmet (dt : Nat) (s : State) : Out := after dt s pwrCapUnmet

/-! Adaptive voltage (R447, R448). -/

/-- Set since when a condition has held. -/
def sinceWhen (b : Bool) (old : Option Nat) (now : Nat) : Option Nat := if b then some (old.getD now) else none

/-- Has a condition held for `t` root cycles? -/
def heldFor (o : Option Nat) (t now : Nat) : Bool :=
  match o with
  | some x => x + t ≤ now
  | none => false

/-- The AVS limit lifts once the margin has held for 1 s. -/
def avsLift (s : State) : State :=
  if s.pwr.avsLimit ∧ heldFor s.pwr.avsOk rootPerS s.now then updCap { s with pwr := { s.pwr with avsLimit := false } } else s

/-- Is the voltage adapted: by the Safety Island after ROM start, and not in STANDBY (R447)? -/
def avsOn (s : State) : Bool := s.domOn 1 && s.boot.run && decide (3 ≤ s.rd .pwrState)

def avsMonitor (low high : Bool) (s : State) : State :=
  if !(avsOn s && onPeriod s s.pwr.avsSeen rootPerMs) then s else
  let w := { s.pwr with avsSeen := some s.now }
  let v := s.rd .pwrVid
  let w := { w with avsHigh := sinceWhen high w.avsHigh s.now, avsLow := sinceWhen (low && v == 20) w.avsLow s.now,
                    avsOk := sinceWhen (!low) w.avsOk s.now }
  let free := w.avsAt + 200 * rootPerUs ≤ s.now
  let s := { s with pwr := w }
  let s :=
    if low ∧ v < 20 ∧ free then { s with pwr := { w with avsAt := s.now, avsHigh := none } }.wr .pwrVid (v + 1)
    else if !low ∧ heldFor w.avsHigh (100 * rootPerMs) s.now ∧ 0 < v ∧ free then
      { s with pwr := { w with avsAt := s.now, avsHigh := none } }.wr .pwrVid (v - 1)
    else s
  avsLift s

/-- AVS_MONITOR (R448); `low`: a monitor reads below its lower margin; `high`: every monitor reads above its upper margin. -/
def execAvsMonitor (dt : Nat) (low high : Bool) (s : State) : Out := after dt s (avsMonitor low high)

def avsLimit (s : State) : State :=
  if avsOn s ∧ s.rd .pwrVid = 20 ∧ heldFor s.pwr.avsLow (10 * rootPerMs) s.now ∧ !s.pwr.avsLimit then
    updCap (raise .pwrAvsLimit 0 0 { s with pwr := { s.pwr with avsLimit := true, avsOk := none } })
  else s

/-- AVS_LIMIT (R448). -/
def execAvsLimit (dt : Nat) (s : State) : Out := after dt s avsLimit

/-! Fans (R456 to R460). -/

def State.fan (s : State) (f : Nat) : FanSt := s.pwr.fan.get .init f
def State.setFan (s : State) (f : Nat) (x : FanSt) : State := { s with pwr := { s.pwr with fan := s.pwr.fan.set f x } }

/-- Does supervision run: READY, MOTION or FULL, with the runtime started (R456, Table BOOT-5)? -/
def fansOn (s : State) : Bool := 3 ≤ s.rd .pwrState && s.boot.p120

/-- The time without an edge after which a tach is lost (R458). -/
def tachLimit (s : State) (f : Nat) : Nat := max (250 * rootPerMs) (90 * rootPerS / s.rd .fanMinRpm f)

/-- The duty curve (R460); with T_HI equal to T_LO the quotient is a free value. -/
def fanCurve (f : Nat) (s : State) : Nat × State :=
  let lo : Int := signed 12 (s.rd .thmTLo)
  let hi : Int := signed 12 (s.rd .thmTHi)
  let dmin := s.rd .fanDmin f
  if hi = lo then
    let (k, s) := s.fresh
    (dmin + (Config.free k).toNat % (256 - dmin), s)
  else
    let q := (Int.fdiv ((255 - (dmin : Int)) * (s.thm - lo)) (hi - lo))
    ((max (dmin : Int) (min 255 (dmin + q))).toNat, s)

/-- Drive the duty that holds for channel f. -/
def fanDuty (f : Nat) (s : State) : State :=
  if !(s.on .fanEn f) ∨ !fansOn s then s
  else if s.rd .fanState f ≠ 2 ∨ 3 ≤ s.rd .fanState (1 - f) then s.wr .fanD 255 f
  else
    let (d, s) := fanCurve f s
    s.wr .fanD d f

/-- Spin-up starts (R457). -/
def fanStart (f : Nat) (s : State) : State :=
  if s.on .fanEn f ∧ fansOn s then
    let s := s.setFan f ⟨s.now, none, none⟩
    updCap (((s.wr .fanState 1 f).wr .fanRetry 0 f).wr .fanD 255 f)
  else s

/-- A channel is disabled: its pad is high-Z. -/
def fanStop (f : Nat) (s : State) : State := updCap (((s.wr .fanState 0 f).wr .fanD 0 f).wr .fanRetry 0 f)

def fanEnable (f : Nat) (s : State) : State := fanStart f (s.wr .fanEn 1 f)

/-- FAN_ENABLE (R457). -/
def execFanEnable (dt : Nat) (f : Fin 2) (s : State) : Out := after dt s (fanEnable f)

/-- A speed is shown on channel f. -/
def fanSpeed (f rpm : Nat) (s : State) : State :=
  let x := s.fan f
  let ok := s.rd .fanMinRpm f ≤ rpm
  let s := s.wr .fanRpm (min rpm 65535) f
  match s.rd .fanState f with
  | 1 => if ok ∧ s.now ≤ x.startAt + 2 * rootPerS then fanDuty (1 - f) (fanDuty f (s.wr .fanState 2 f)) else s
  | 2 => s
  | 0 => s
  | _ => s.setFan f { x with okFrom := sinceWhen ok x.okFrom s.now }

def fanTachEdge (f : Nat) (s : State) : State :=
  if s.on .fanEn f ∧ fansOn s then
    let x := s.fan f
    let gap := match x.edgeAt with
      | some t => decide (tachLimit s f ≤ s.now - t)
      | none => false
    let s' := s.setFan f { x with edgeAt := some s.now, okFrom := if gap then none else x.okFrom }
    match x.edgeAt with
    | some t => if t < s.now then fanSpeed f (30 * rootPerS / (s.now - t)) s' else s'
    | none => s'
  else s

/-- FAN_TACH_EDGE (R456). -/
def execFanTachEdge (dt : Nat) (f : Fin 2) (s : State) : Out := after dt s (fanTachEdge f)

def fanSpinupTimeout (f : Nat) (s : State) : State :=
  if fansOn s ∧ s.rd .fanState f = 1 ∧ s.now = (s.fan f).startAt + 2 * rootPerS ∧ s.rd .fanRetry f = 3 then
    let s := raise .fanStall 0 f (s.wr .fanState 3 f)
    fanDuty (1 - f) (updCap s)
  else s

/-- FAN_SPINUP_TIMEOUT (R457): after the third retry the channel is stalled; before it, the next attempt is due later. -/
def execFanSpinupTimeout (dt : Nat) (f : Fin 2) (s : State) : Out := after dt s (fanSpinupTimeout f)

def fanSpinupRetry (f : Nat) (s : State) : State :=
  let x := s.fan f
  if fansOn s ∧ s.rd .fanState f = 1 ∧ s.now = x.startAt + 5 * rootPerS ∧ s.rd .fanRetry f < 3 then
    ((s.setFan f { x with startAt := s.now }).wr .fanD 255 f).wr .fanRetry (s.rd .fanRetry f + 1) f
  else s

/-- FAN_SPINUP_RETRY (R457). -/
def execFanSpinupRetry (dt : Nat) (f : Fin 2) (s : State) : Out := after dt s (fanSpinupRetry f)

/-- Has channel f shown no edge for the time of R458? -/
def tachSilent (s : State) (f : Nat) : Bool :=
  match (s.fan f).edgeAt with
  | some t => t + tachLimit s f ≤ s.now
  | none => (s.fan f).startAt + tachLimit s f ≤ s.now

def fanTachLost (f : Nat) (s : State) : State :=
  if fansOn s ∧ s.rd .fanState f = 2 ∧ tachSilent s f then
    let s := raise .fanTachLost 0 f (s.setFan f { s.fan f with okFrom := none } |>.wr .fanState 4 f)
    fanDuty (1 - f) (fanDuty f (updCap s))
  else s

/-- FAN_TACH_LOST (R458). -/
def execFanTachLost (dt : Nat) (f : Fin 2) (s : State) : Out := after dt s (fanTachLost f)

def fanRecovered (f : Nat) (s : State) : State :=
  if fansOn s ∧ 3 ≤ s.rd .fanState f ∧ heldFor (s.fan f).okFrom (10 * rootPerS) s.now ∧ !tachSilent s f then
    let s := raise .fanRecovered 0 f (s.wr .fanState 2 f)
    fanDuty (1 - f) (fanDuty f (updCap s))
  else s

/-- FAN_RECOVERED (R459). -/
def execFanRecovered (dt : Nat) (f : Fin 2) (s : State) : Out := after dt s (fanRecovered f)

/-! Thermal sensors (R449, R450). -/

/-- Mark sensor k invalid. -/
def sensorFail (k : Nat) (s : State) : State :=
  if k ∈ s.pwr.thmBad then s
  else raise .thmSensorFail 0 k ({ s with pwr := { s.pwr with thmBad := k :: s.pwr.thmBad } }.wr .thmValid 0 k)

/-- Does a reading differ by more than 25 °C from the mean of the others? -/
def farOff (x : Int) (others : List Int) : Bool :=
  !others.isEmpty && decide (200 * (others.length : Int) < (x * others.length - others.sum).natAbs)

/-- The readings of the sensors that are not marked invalid, with their numbers. -/
def goodReadings (s : State) (l : List Int) : List (Nat × Int) :=
  (List.range 12).filterMap fun k => if k ∈ s.pwr.thmBad then none else some (k, l.getD k 0)

/-- Judge sensor k among the good readings. -/
def judgeSensor (good : List (Nat × Int)) (k : Nat) (s : State) : State :=
  match good.find? (fun p => p.1 == k) with
  | none => s
  | some p =>
    let n := if farOff p.2 ((good.filter fun q => q.1 != k).map Prod.snd) then s.pwr.thmOff.get 0 k + 1 else 0
    let s := { s with pwr := { s.pwr with thmOff := s.pwr.thmOff.set k n } }
    if 10 ≤ n then sensorFail k s else s

/-- THM_MAX and its thresholds (R450): `m` is the highest valid reading, `k` its sensor. -/
def thmThresholds (k : Nat) (m : Int) (s : State) : State :=
  let s := s.wr .thmMax (unsigned 12 m)
  let w := s.pwr
  let hot := tmax - 80 ≤ m
  let warned := w.warned && tmax - 104 ≤ m
  let s := { s with pwr := { w with warned := warned || hot, crit := if tmax + 40 ≤ m then w.crit + 1 else 0,
                                    coolAt := sinceWhen (decide (m ≤ tmax - 160)) w.coolAt s.now } }
  if hot ∧ !warned then raise .thmWarn 0 k s else s

def thmConversion (l : List Int) (s : State) : State :=
  if s.domOn 1 ∧ onPeriod s s.pwr.thmSeen (100 * rootPerUs) then
    let s := { s with pwr := { s.pwr with thmSeen := some s.now } }
    let s := foldN 12 (fun k s => s.wr .thmT (unsigned 12 (l.getD k 0)) k) s
    let s := foldN 12 (fun k s => if l.getD k 0 < -400 ∨ 1200 < l.getD k 0 then sensorFail k s else s) s
    let good := goodReadings s l
    let s := foldN 12 (fun k s => judgeSensor good k s) s
    let good := goodReadings s l
    let s := foldN 12 (fun k s => s.wr .thmValid (b2n (!(decide (k ∈ s.pwr.thmBad)))) k) s
    let s :=
      match good with
      | [] =>
        let (k, s) := s.fresh
        s.wr .thmMax (Config.free k).toNat
      | h :: t =>
        let top := t.foldl (fun m p => if m.2 < p.2 then p else m) h
        thmThresholds top.1 top.2 s
    fanDuty 1 (fanDuty 0 (updCap s))
  else s

/-- THM_CONVERSION (R449, R450, R460): the twelve readings in units of 0.125 °C; with no valid sensor THM_MAX is a free
value. -/
def execThmConversion (dt : Nat) (l : List Int) (s : State) : Out := after dt s (thmConversion l)

/-! DRAM temperature (R249, R452). -/

/-- A channel is reported hot for the first time since it was not. -/
def dramHot (ch : Nat) (b : Bool) (s : State) : State :=
  if b then
    if ch ∈ s.memc.hot then s
    else raise .memDramHot 0 ch { s with memc := { s.memc with hot := ch :: s.memc.hot } }
  else { s with memc := { s.memc with hot := s.memc.hot.filter (· != ch) } }

def memcMr4Poll (codes : List Nat) (hot : BitVec 8) (s : State) : State :=
  if s.memc.trained ∧ s.clockOn 14 ∧ onPeriod s s.memc.polled (16 * rootPerMs) then
    let s := { s with memc := { s.memc with polled := some s.now } }
    let s := foldN 8 (fun ch s => { s with memc := { s.memc with rate := s.memc.rate.set ch (codes.getD ch 0 % 8) } }) s
    let s := s.wr .memcTemp ((List.range 8).foldl (fun m ch => max m (s.memc.rate.get 0 ch)) 0)
    updCap (foldN 8 (fun ch s => dramHot ch (bitOf hot.toNat ch) s) s)
  else s

/-- MEMC_MR4_POLL (R249): the MR4 refresh-rate code of each channel, and the channels above the operating limit. -/
def execMemcMr4Poll (dt : Nat) (codes : List Nat) (hot : BitVec 8) (s : State) : Out := after dt s (memcMr4Poll codes hot)

end Sys2Proof.Machine
end

