-- ==== Sys2Proof/Machine/Drive.lean ====
section
/-! DEFINITION. The drive profile of the axes (chapter 15): modes, the state machine, the statusword, targets and faults. -/

namespace Sys2Proof.Machine

/-- Abort codes of Table OD-2 and of the transfer level. -/
def abNoIndex : Nat := 0x06020000
def abNoSub : Nat := 0x06090011
def abWriteOnly : Nat := 0x06010001
def abReadOnly : Nat := 0x06010002
def abNoAccess : Nat := 0x06010000
def abCheck : Nat := 0x08000020
def abSize : Nat := 0x06070010
def abHigh : Nat := 0x06090031
def abLow : Nat := 0x06090032
def abValue : Nat := 0x06090030
def abState : Nat := 0x08000022
def abFlash : Nat := 0x06060000
def abNoMap : Nat := 0x06040041
def abMapLen : Nat := 0x06040042
def abQueue : Nat := 0x05040005

def State.prof (s : State) (n : Nat) : ProfSt := s.drv.ax.get .init n
def State.setProf (s : State) (n : Nat) (p : ProfSt) : State := { s with drv := { s.drv with ax := s.drv.ax.set n p } }

/-- 0x6060 of axis n. -/
def profMode (s : State) (n : Nat) : Int := signed 8 (s.ob .axModeObj n)

/-- AX_CTRL.MODE and SPSRC of a mode (Table OD-8). -/
def modeRow (m : Int) : Option (Nat × Nat) :=
  if m = 8 then some (0, 0)
  else if m = 9 then some (1, 0)
  else if m = 10 then some (2, 0)
  else if m = -1 then some (0, 1)
  else if m = -2 then some (1, 2)
  else if m = -3 then some (2, 2)
  else none

/-! Statusword (R316). -/

/-- The state that the statusword shows: Operation enabled only while AX_RUN reads 1 (R313). -/
def shownState (s : State) (n : Nat) : Nat :=
  let st := (s.prof n).st
  if st = 4 ∧ !(s.rdBit .ceAxRun n) then 3 else st

/-- Bits [3:0], [5] and [6] of a state (Table OD-10). -/
def stateBits (st : Nat) : Nat :=
  match st with
  | 0 => 0
  | 1 => 0x40
  | 2 => 0x21
  | 3 => 0x23
  | 4 => 0x27
  | 5 => 0x07
  | _ => 0x08

/-- The statusword of axis n. -/
def statusword (s : State) (n : Nat) : Nat :=
  let near := s.on .axNearD n || s.on .axNearQ n || s.on .axNearS n
  let follow := shownState s n == 4 && s.rd .axSpsrc n == 0
  stateBits (shownState s n) + 16 * b2n (s.rdBit .safArmed n) + 128 * b2n ((s.prof n).refused || near || s.on .axStale n) + 512 +
    2048 * b2n (s.on .axVlimAct n) + 4096 * b2n follow + 16384 * b2n (s.on .axHold n)

/-! Targets (R306, R311, R314). -/

/-- The value of a target object of axis n in the scale of the CE: 0 position, 1 speed, 2 torque. -/
def targetVal (s : State) (n k : Nat) : Int :=
  match k with
  | 0 => s32 (s.ob .axTgtPos n)
  | 1 => s32 (s.ob .axTgtVel n)
  | _ => s32 (s.ob .axTgtTorque n * 65536)

/-- Forward the target object k of axis n to the CE at once; a frame's value on its way is older. -/
def forwardTarget (n k : Nat) (s : State) : State :=
  let a := s.ax n
  s.setAx n ({ a with fwd := a.fwd.filter (·.k != k) }.setTarget k (targetVal s n k))

/-- Forward the target object k of axis n with a frame whose reception completed at root time rx: it acts from the first latch 10 µs
after that (R306). -/
def forwardFrame (n k rx : Nat) (s : State) : State :=
  let a := (s.ax n).arrive s.now
  s.setAx n { a with fwd := a.fwd ++ [⟨rx + 10 * rootPerUs, k, targetVal s n k⟩] }

/-- Forward the target object of the mode in use, if its source is the dictionary. -/
def forwardMode (n : Nat) (s : State) : State :=
  match modeRow (profMode s n) with
  | some (m, 0) => forwardTarget n m s
  | _ => s

/-- A target object of axis n has been written: it is forwarded but in Quick stop active (R314). -/
def targetWritten (n k : Nat) (s : State) : State := if (s.prof n).st = 5 then s else forwardTarget n k s

/-- The same for a value of a received frame. -/
def targetReceived (n k rx : Nat) (s : State) : State := if (s.prof n).st = 5 then s else forwardFrame n k rx s

/-! Modes (R311, R312). -/

/-- Would the register's own conditions take MODE and SPSRC (R300, R68)? -/
def modeTaken (s : State) (n src : Nat) : Bool :=
  !(s.on .ceLock) && (src != 2 || !(s.enabled n) || s.on .axAnaEn n)

/-- A transition to a state: the refusal of R315 ends. -/
def goState (n st : Nat) (s : State) : State :=
  let p := s.prof n
  let s := if p.refused ∧ s.ob .axErrCode n = 0xFF10 then s.setOb .axErrCode 0 n else s
  s.setProf n { p with st := st, refused := false }

/-- A write of 0x6060: the abort code (0: taken) and the state. -/
def modeWrite (n : Nat) (v : Int) (s : State) : Nat × State :=
  if 4 ≤ (s.prof n).st then (abState, s)
  else if v = 0 then
    let s := s.setOb .axModeObj 0 n
    (0, if (s.prof n).st = 0 then s else goState n 0 s)
  else
    match modeRow v with
    | none => (abValue, s)
    | some (mode, src) =>
      if modeTaken s n src then
        let s := ((s.setOb .axModeObj (unsigned 8 v) n).wr .axMode mode n).wr .axSpsrc src n
        let s := forwardMode n s
        (0, if (s.prof n).st = 0 then goState n 1 s else s)
      else (abState, s)

/-! Controlwords (R312 to R315, Table OD-9). -/

/-- A row of the table of transitions: states, mask, value, next state, and EN: 0 or 1 written, 2 not written. -/
structure CwRow where
  src : List Nat
  mask : Nat
  val : Nat
  dst : Nat
  en : Nat
deriving DecidableEq, Repr

/-- Table OD-9 without the rows of faults. -/
def cwTable : List CwRow :=
  [⟨[1], 0x87, 0x06, 2, 2⟩, ⟨[2], 0x8F, 0x07, 3, 2⟩, ⟨[3], 0x8F, 0x0F, 4, 1⟩, ⟨[4], 0x8F, 0x07, 3, 0⟩, ⟨[3, 4], 0x87, 0x06, 2, 0⟩,
   ⟨[2, 3, 4, 5], 0x82, 0x00, 1, 0⟩, ⟨[2, 3], 0x86, 0x02, 1, 2⟩, ⟨[4], 0x86, 0x02, 5, 2⟩, ⟨[5], 0x8F, 0x0F, 4, 2⟩]

/-- The row that a controlword matches. -/
def cwRow (st v : Nat) : Option CwRow := cwTable.find? fun r => r.src.contains st && (v &&& r.mask) == r.val

/-- Transition 11: the dictionary becomes the source, and the hold target is forwarded (R314). -/
def quickStop (n : Nat) (s : State) : State :=
  match modeRow (profMode s n) with
  | none => s
  | some (m, _) =>
    let a := { s.ax n with fwd := [] }
    let a :=
      match m with
      | 0 => { a with tgtPos := s32 (s.rd .axRefSrc n) }
      | 1 => { a with tgtSpd := 0 }
      | _ => { a with tgtTrq := 0 }
    (s.setAx n a).wr .axSpsrc 0 n

/-- The mode's own source returns, and the target object of modes 8 to 10 is forwarded (R314). -/
def leaveQuickStop (n : Nat) (s : State) : State :=
  match modeRow (profMode s n) with
  | none => s
  | some (_, src) => forwardMode n (s.wr .axSpsrc src n)

/-- AX_CTRL.EN is written. -/
def writeEn (n en : Nat) (s : State) : State :=
  match en with
  | 0 => if s.on .axEn n ∨ s.enabled n then requestDisable n s else s
  | 1 => axEnableWrite 1 n s
  | _ => s

/-- A fault reset: the bits of the cause are written, and the state is left when they read 0 (R317, R87). -/
def faultReset (n : Nat) (l : TripLive) (s : State) : State :=
  let c := (s.prof n).clear
  let s := if c = 0 then s else mioTripClear (BitVec.ofNat 32 c) l s
  let left := (bitOf c n && s.rdBit .mioTrip n) || (bitOf c (8 + n) && s.rdBit .mioOc n) || (bitOf c 16 && s.on .mioEstop)
  if left then s
  else (goState n 1 (s.setOb .axErrCode 0 n)).setProf n ⟨1, false, 0, false⟩

/-- A controlword value is evaluated: the abort code (0: taken) and the state. -/
def controlword (n v : Nat) (l : TripLive) (s : State) : Nat × State :=
  let old := s.ob .axControl n
  let s' := s.setOb .axControl v n
  let st := (s.prof n).st
  if profMode s n = 0 then (0, s')
  else if st = 7 then (0, if !bitOf old 7 ∧ bitOf v 7 then faultReset n l s' else s')
  else
    match cwRow st v with
    | none => (0, s')
    | some r =>
      if r.en = 1 ∧ !(s.rdBit .safArmed n) then
        (0, raise .odAxisRefused 1 n ((s'.setOb .axErrCode 0xFF10 n).setProf n { s.prof n with refused := true }))
      else if r.en = 1 ∧ !enableOk s n then (abState, s)
      else
        let s' := writeEn n r.en (goState n r.dst s')
        let s' := if r.dst = 5 then quickStop n s' else s'
        (0, if st = 5 then leaveQuickStop n s' else s')

/-! Faults (R317). -/

/-- The cause of a fault of axis n and its MIO_TRIP bits; none if no condition holds. -/
def faultCause (s : State) (n : Nat) : Option (Nat × Nat) :=
  let bits := b2n (s.rdBit .mioTrip n) * 2 ^ n + b2n (s.rdBit .mioOc n) * 2 ^ (8 + n) + b2n (s.on .mioEstop) * 65536
  if s.on .mioEstop then some (0xFF02, bits)
  else if s.rdBit .mioOc n then some (0x2310, bits)
  else if s.rdBit .mioTrip n then some (0xFF01, bits)
  else if n ∈ s.drv.miss then some (0xFF03, 0)
  else none

/-- The bits of a cause that a fault reset will write besides those already known. -/
def addBits (a b : Nat) : Nat := a ||| b

def axisFaultEntry (n : Nat) (s : State) : State :=
  let s' := { s with drv := { s.drv with miss := s.drv.miss.filter (· != n) } }
  match faultCause s n with
  | none => s'
  | some (code, bits) =>
    let p := s.prof n
    if profMode s n = 0 then s'
    else if p.st = 7 then s'.setProf n { p with clear := addBits p.clear bits }
    else
      let s' := writeEn n 0 ((goState n 7 s').setOb .axErrCode code n)
      let s' := s'.setProf n ⟨7, false, bits, code == 0x2310⟩
      if p.st = 5 then leaveQuickStop n s' else s'

end Sys2Proof.Machine
end

