-- ==== Sys2Proof/Machine/Links.lean ====
section
/-! DEFINITION. Sending on the interfaces, and the answers of the dictionary server (chapters 15 to 19). -/

namespace Sys2Proof.Machine

/-- Does a period of those that began at root time t end now? -/
def every (s : State) (t period : Nat) : Bool := decide (t < s.now) && (s.now - t) % period == 0

/-! CAN0 (chapter 16). -/

def State.node (s : State) : NodeSt := s.can.node
def State.setNode (s : State) (x : NodeSt) : State := { s with can := { s.can with node := x } }

/-- The node number: NODE_ID plus 1. -/
def nodeNo (s : State) : Nat := bitsOf (s.rd .vnrStrap) 5 4 + 1

/-- Queue a frame of the node. -/
def nodeSend (f : CanFrame) (s : State) : State := s.setNode { s.node with tx := s.node.tx ++ [f] }

/-- A classical data frame. -/
def classic (id : Nat) (data : List Byte) : CanFrame := ⟨id, false, false, data.length, false, false, false, data⟩

/-- The DLC of an FD frame that holds n bytes. -/
def fdDlc (n : Nat) : Nat :=
  if n ≤ 8 then n else if n ≤ 12 then 9 else if n ≤ 16 then 10 else if n ≤ 20 then 11 else if n ≤ 24 then 12 else if n ≤ 32 then 13
  else if n ≤ 48 then 14 else 15

/-- Data bytes of a DLC (R324). -/
def dlcBytes (fd : Bool) (dlc : Nat) : Nat :=
  if dlc ≤ 8 then dlc
  else if !fd then 8
  else match dlc with
    | 9 => 12
    | 10 => 16
    | 11 => 20
    | 12 => 24
    | 13 => 32
    | 14 => 48
    | _ => 64

/-- Pad with zero bytes to n. -/
def padTo (n : Nat) (l : List Byte) : List Byte := l ++ List.replicate (n - l.length) 0

/-- An FD data frame. -/
def fdFrame (id : Nat) (brs : Bool) (data : List Byte) : CanFrame :=
  let d := fdDlc data.length
  ⟨id, false, false, d, true, brs, false, padTo (dlcBytes true d) data⟩

/-- Send eight bytes on the SDO response identifier. -/
def sdoSend (data : List Byte) (s : State) : State := nodeSend (classic (0x580 + nodeNo s) (padTo 8 data)) s

/-- Send a USDO answer: index, sub-index, a byte that tells the service apart, and its data (PRESUMED, log entry 20). -/
def usdoSend (brs : Bool) (idx sub kind : Nat) (data : List Byte) (s : State) : State :=
  nodeSend (fdFrame (0x580 + nodeNo s) brs (leBytes 2 idx ++ leBytes 1 sub ++ leBytes 1 kind ++ data)) s

/-- The answer of a service for an object: an abort. -/
def sdoAbort (fd brs : Bool) (idx sub code : Nat) (s : State) : State :=
  if fd then usdoSend brs idx sub 0x80 (leBytes 4 code) s
  else sdoSend (leBytes 1 0x80 ++ leBytes 2 idx ++ leBytes 1 sub ++ leBytes 4 code) s

/-- The transfer of the node ends. -/
def sdoEnd (s : State) : State := s.setNode { s.node with sdo := none }

/-- The answer to a download that is complete: `seg` tells a segment's answer from that of an expedited one. -/
def sdoWritten (r : SdoRun) (s : State) : State :=
  if r.fd then usdoSend r.brs r.idx r.sub (if r.buf.isEmpty then 0x60 else 0x20) [] s
  else if r.buf.isEmpty then sdoSend (leBytes 1 0x60 ++ leBytes 2 r.idx ++ leBytes 1 r.sub) s
  else sdoSend (leBytes 1 (0x20 + 16 * b2n (!r.toggle))) s

/-- The answer to an upload that is initiated: expedited up to 4 bytes (FD: up to 60), else the size. -/
def sdoRead (r : SdoRun) (v : List Byte) (s : State) : State :=
  if r.fd then
    if v.length ≤ 60 then usdoSend r.brs r.idx r.sub 0x43 v (sdoEnd s)
    else
      usdoSend r.brs r.idx r.sub 0x41 (leBytes 4 v.length)
        (s.setNode { s.node with sdo := some { r with buf := v, waits := false, toggle := false, lastAt := s.now } })
  else if v.length ≤ 4 ∧ 0 < v.length then
    sdoSend (leBytes 1 (0x43 + 4 * (4 - v.length)) ++ leBytes 2 r.idx ++ leBytes 1 r.sub ++ v) (sdoEnd s)
  else
    sdoSend (leBytes 1 0x41 ++ leBytes 2 r.idx ++ leBytes 1 r.sub ++ leBytes 4 v.length)
      (s.setNode { s.node with sdo := some { r with buf := v, waits := false, toggle := false, lastAt := s.now } })

/-- The server's answer to the transfer `xfer`; an answer to a transfer that has ended is dropped (R341). -/
def sdoReply (xfer st code : Nat) (v : List Byte) (s : State) : State :=
  match s.node.sdo with
  | none => s
  | some r =>
    if s.node.xfer = xfer ∧ r.waits then
      if st ≠ 0 then sdoAbort r.fd r.brs r.idx r.sub code (sdoEnd s)
      else if r.write then sdoWritten r (sdoEnd s)
      else sdoRead r v s
    else s

/-! Ethernet and VDP (chapter 17). -/

def State.mac (s : State) (m : Nat) : EthMac := s.eth.mac.get .init m
def State.setMac (s : State) (m : Nat) (x : EthMac) : State := { s with eth := { s.eth with mac := s.eth.mac.set m x } }

/-- Link rate of MAC m in kbit/s, and ns of a bit. -/
def linkRate (s : State) (m : Nat) : Nat := 10000 * 10 ^ s.rd .ethSpeed m
def bitNs (s : State) (m : Nat) : Nat := 100 / 10 ^ s.rd .ethSpeed m

/-- The gate of queue q of MAC m is open (R352). -/
def gateOpen (s : State) (m q : Nat) : Bool := !(s.on .tasEn m) || bitOf (s.mac m).gates q

/-- The credit of shaper q of MAC m at now (R354): it falls at the send slope while the queue sends, stays while the gate is
closed, rises at the idle slope while a frame waits or the credit is below 0, and is not kept above 0 by an empty queue. -/
def creditNow (s : State) (m q : Nat) : Int :=
  let x := s.mac m
  let idle : Int := s.rd .cbsIdle m q
  let c := x.credit.get 0 q
  let t0 := x.creditAt.get 0 q
  let e := max t0 (min (x.sendEnd.get 0 q) s.now)
  let c := c + (e - t0 : Nat) * (idle - linkRate s m)
  if !gateOpen s m q then c
  else if (x.q.get [] q).isEmpty then (if 0 < c then 0 else min 0 (c + (s.now - e : Nat) * idle))
  else c + (s.now - e : Nat) * idle

/-- Bring the credits of MAC m to now. -/
def creditUp (m : Nat) (s : State) : State :=
  foldN 8 (fun q s =>
    let x := s.mac m
    s.setMac m { x with credit := x.credit.set q (creditNow s m q), creditAt := x.creditAt.set q s.now }) s

/-- A frame enters egress queue q of MAC m. -/
def ethOut (m q : Nat) (f : EthOut) (s : State) : State :=
  let s := creditUp m s
  let x := s.mac m
  s.setMac m { x with q := x.q.set q (x.q.get [] q ++ [f]) }

/-- A VDP message (Table NET-3) from the device. -/
def vdpBytes (s : State) (op seq session status flags : Nat) (pay : List Byte) : List Byte :=
  leBytes 2 0x5644 ++ leBytes 1 1 ++ leBytes 1 op ++ leBytes 4 seq ++ leBytes 4 session ++ leBytes 2 pay.length ++
    leBytes 1 status ++ leBytes 1 (flags + 16 * s.rd .netState) ++ pay

/-- Queue a VDP datagram to a session. -/
def vdpOut (x : VdpSess) (q : Nat) (data : List Byte) (s : State) : State := ethOut x.mac q ⟨x.src, x.ip, x.port, 0x0800, data, 0⟩ s

/-- Replace the session of a number. -/
def setSess (x : VdpSess) (s : State) : State :=
  { s with eth := { s.eth with sess := s.eth.sess.map fun y => if y.no = x.no then x else y } }

def State.sessOf (s : State) (no : Nat) : Option VdpSess := s.eth.sess.find? fun x => x.no == no

/-- Answer a request of a session; the answer is kept (R357). -/
def vdpAnswer (no seq op status : Nat) (pay : List Byte) (s : State) : State :=
  match s.sessOf no with
  | none => s
  | some x =>
    let d := vdpBytes s op seq x.id status 1 pay
    vdpOut x 0 d (setSess (if x.seq = seq then { x with ans := d } else x) s)

/-! PCIe completions (chapter 18). -/

def State.qp (s : State) (q : Nat) : Qp := s.host.qp.get .init q
def State.setQp (s : State) (q : Nat) (x : Qp) : State := { s with host := { s.host with qp := s.host.qp.set q x } }

/-- HOST_STAT or HOST_QP_ERR has changed: vector 0 (Table PCI-8). -/
def hostChanged (s : State) : State := msix 0 s

/-- A queue pair goes into error (R382): `why` is 0 SQ doorbell, 1 CQ doorbell, 2 host memory. -/
def qpError (q why : Nat) (s : State) : State :=
  let s := s.setQp q { s.qp q with err := true, cur := none, given := false }
  let s := if q < 32 then s.wrBit .hostQpErrLo q true else s.wrBit .hostQpErrHi (q - 32) true
  hostChanged (raise .pciQpError 1 (q + why * 256) s)

/-- Signal the vector of a completion queue. -/
def cqSignal (q : Nat) (s : State) : State := msix (s.qp q).vec (s.setQp q { s.qp q with fresh := 0 })

/-- Bytes of a CQ entry (Table PCI-5). -/
def CqEntry.bytes (e : CqEntry) (q : Nat) (phase : Bool) : List Byte :=
  leBytes 8 e.value ++ leBytes 2 e.sqhd ++ leBytes 2 e.cid ++ leBytes 1 e.status ++ leBytes 1 (b2n phase) ++ leBytes 2 q

/-- Write a CQ entry, and signal it where coalescing asks for it (R381, R389). -/
def cqWrite (q : Nat) (e : CqEntry) (s : State) : State :=
  let x := s.qp q
  if !hostOpen s then qpError q 2 s
  else
    let s := s.send .pcie 1 (x.cqBase + 16 * x.cqTail) (e.bytes q x.phase)
    let wrap := x.cqTail + 1 = x.cqSize
    let s := s.setQp q { x with cqTail := if wrap then 0 else x.cqTail + 1, phase := x.phase != decide wrap, fresh := x.fresh + 1,
                                posted := x.posted + 1,
                                oldest := if x.fresh = 0 then s.now else x.oldest }
    if x.time = 0 ∨ x.cnt ≤ x.fresh + 1 then cqSignal q s else s

/-- The running command of queue pair q completes; in D3hot the completion is held (R395). -/
def cqPost (q cid value status : Nat) (s : State) : State :=
  let x := s.qp q
  match x.cur with
  | none => s
  | some c =>
    if x.live ∧ !x.err ∧ c.cid = cid then
      let e : CqEntry := ⟨value % 2 ^ 64, cid, status, x.sqHead⟩
      if s.on .pcieD3 then s.setQp q { x with cur := none, given := false, held := x.held ++ [e] }
      else cqWrite q e (s.setQp q { x with cur := none, given := false })
    else s

/-- A free 64-bit value. -/
def fresh64 (s : State) : Nat × State :=
  let (k, s) := s.fresh
  ((Config.freeAt k 0).toNat + (Config.freeAt k 1).toNat * 2 ^ 32, s)

/-- A dictionary answer on PCIe: values above 8 bytes, and blocks, go to PTR (Table PCI-6); VALUE is then free. -/
def pcieReply (q cid st code : Nat) (block : Bool) (v : List Byte) (s : State) : State :=
  if st = 1 then cqPost q cid code 1 s
  else if st = 2 then
    let (f, s) := fresh64 s
    cqPost q cid f 2 s
  else if v.length ≤ 8 ∧ !block then cqPost q cid (leNat v) 0 s
  else
    match (s.qp q).cur with
    | none => s
    | some c =>
      let (f, s) := fresh64 s
      if !hostOpen s then qpError q 2 s else cqPost q cid f 0 (if v.isEmpty then s else s.send .pcie 1 c.ptr v)

/-! Dowel (chapter 19). -/

def State.dport (s : State) (p : Nat) : DwlPort := s.dwl.port.get .init p
def State.setDport (s : State) (p : Nat) (x : DwlPort) : State := { s with dwl := { s.dwl with port := s.dwl.port.set p x } }

/-- The own node number on Dowel. -/
def ownNode (s : State) : Nat := s.rd .asmNode

/-- The port of the route to a node (R402). -/
def routeTo (s : State) (node : Nat) : Option Nat :=
  if s.rdBit .dwlRouteV node then some (bitsOf (s.rd .dwlRoute) (2 * node) 2) else none

/-- The 60 bytes of a flit that its CRC covers. -/
def flitHead (f : Flit) (nak crdr : Bool) (seq ack crd : Nat) : List Byte :=
  leBytes 1 (f.typ % 16 + 16 * b2n f.cont + 32 * b2n f.rsp + 64 * b2n nak + 128 * b2n crdr) ++ leBytes 1 (f.src % 16 + f.dst % 16 * 16) ++
    leBytes 1 seq ++ leBytes 1 ack ++ leBytes 2 f.tag ++ leBytes 2 (f.tid % 1024 + crd % 64 * 1024) ++ padTo 52 (f.data.take 52)

/-- The bytes of a flit (Table ASM-1). -/
def flitBytes (f : Flit) (nak crdr : Bool) (seq ack crd : Nat) : List Byte :=
  let h := flitHead f nak crdr seq ack crd
  h ++ leBytes 4 (crc32c (h.map (·.toNat)))

/-- ACK of a port: the last in-order sequence received. -/
def DwlPort.ack (x : DwlPort) : Nat := (x.rxSeq + 255) % 256

/-- Put a flit of the retry buffer on the link. -/
def flitPut (p : Nat) (o : FlitOut) (s : State) : State :=
  s.send .dowel p o.flit.typ (flitBytes o.flit false false o.seq (s.dport p).ack 0)

/-- Send an IDLE flit: NAK, and credits of a pool. -/
def idlePut (p : Nat) (nak rspPool : Bool) (crd : Nat) (s : State) : State :=
  s.send .dowel p 0 (flitBytes ⟨0, false, false, ownNode s, (s.rd .dwlPartner p), 0, 0, []⟩ nak rspPool 0 (s.dport p).ack crd)

/-- A port can send: UP. -/
def portUp (s : State) (p : Nat) : Bool := s.rd .dwlPortState p == 2

/-- Send the flits that wait while credits and the retry buffer allow (R399, R400). -/
def dwlPump (p : Nat) : Nat → State → State
  | 0, s => s
  | n + 1, s =>
    let x := s.dport p
    match x.wait.find? fun f => if f.rsp then 0 < x.credRsp else 0 < x.credReq with
    | none => s
    | some f =>
      if portUp s p ∧ x.out.length < 64 then
        let o : FlitOut := ⟨x.txSeq, f⟩
        let y := { x with txSeq := (x.txSeq + 1) % 256, out := x.out ++ [o], wait := x.wait.erase f,
                          credReq := if f.rsp then x.credReq else x.credReq - 1, credRsp := if f.rsp then x.credRsp - 1 else x.credRsp,
                          ackAt := if x.out.isEmpty then s.now else x.ackAt }
        dwlPump p n (flitPut p o (s.setDport p y))
      else s

/-- Cut a payload into flits. -/
def mkFlits (h : Flit) : Nat → List Byte → Bool → List Flit
  | 0, _, _ => []
  | n + 1, l, cont => { h with cont := cont, data := l.take 52 } :: (if l.length ≤ 52 then [] else mkFlits h n (l.drop 52) true)

/-- The shadow of a manager pair sends only IDLE flits on its Assembly ports (R419). -/
def portSilent (s : State) (p : Nat) : Bool :=
  s.rd .asmRole == 1 && (s.rd .pairRole == 2 || s.rd .pairRole == 3) && s.rd .dwlPortUse p == 1

/-- Queue flits on a port. -/
def dwlQueue (p : Nat) (l : List Flit) (s : State) : State :=
  let x := s.dport p
  if portSilent s p then s else
  dwlPump p (x.wait.length + l.length) (s.setDport p { x with wait := x.wait ++ l })

/-- Send a message on a port. -/
def dwlMsg (p typ : Nat) (rsp : Bool) (dst tag tid : Nat) (pay : List Byte) (s : State) : State :=
  dwlQueue p (mkFlits ⟨typ, false, rsp, ownNode s, dst, tag, tid, []⟩ (pay.length / 52 + 1) pay false) s

/-- Send a message to a node along the route; without a route it is dropped. -/
def dwlSend (typ : Nat) (rsp : Bool) (dst tag tid : Nat) (pay : List Byte) (s : State) : State :=
  match routeTo s dst with
  | none => s
  | some p => dwlMsg p typ rsp dst tag tid pay s

/-- A record of a forwarded request or answer (TASK subtype 1 or 2): subtype, 0, length, record (DESIGN CHOICE, log entry 21). -/
def fwdPay (sub : Nat) (record : List Byte) : List Byte := leBytes 1 sub ++ leBytes 1 0 ++ leBytes 2 record.length ++ record

/-- The answer to a forwarded request: status, abort code, value. -/
def fwdReply (tag st code : Nat) (v : List Byte) (s : State) : State :=
  dwlSend 4 false 0 tag 1 (fwdPay 2 (leBytes 4 st ++ leBytes 4 code ++ v)) s

/-! The server's answer (R294 to R299). -/

/-- Answer a request: `st` is 0 OK with a value, 1 ABORT with a code, 2 BUSY. -/
def odReply (q : OdReq) (st code : Nat) (v : List Byte) (s : State) : State :=
  let s := { s with od := { s.od with answer := some (q, if st = 2 then 0xFFFFFFFF else code, v) } }
  match q.op with
  | .process _ _ => s
  | _ =>
    match q.src with
    | .can _ _ x => sdoReply x st (if st = 2 then abQueue else code) v s
    | .vdp no seq op => vdpAnswer no seq op st (if st = 1 then leBytes 4 code else if st = 2 then [] else v) s
    | .pcie qp cid => pcieReply qp cid st code (q.op == .block) v s
    | .dowel tag => fwdReply tag st code v s

end Sys2Proof.Machine
end

