-- ==== Sys2Proof/Machine/OdObj.lean ====
section
/-! DEFINITION. The values of the dictionary's objects, and the checks of Table OD-2 (chapter 15). -/

namespace Sys2Proof.Machine

/-! Values. -/

/-- Bytes of a text. -/
def asciiOf (l : List Nat) : List Byte := l.map fun n => BitVec.ofNat 8 n

/-- Decimal digits of a number below 256. -/
def decBytes (n : Nat) : List Byte :=
  let d (k : Nat) : Nat := 48 + k % 10
  if n < 10 then asciiOf [d n] else if n < 100 then asciiOf [d (n / 10), d n] else asciiOf [d (n / 100), d (n / 10), d n]

/-- Byte k of the header of the bundle that runs (Table BOOT-6). -/
def imgByte (s : State) (k : Nat) : Nat := (s.boot.img.getD k 0).toNat

/-- Firmware version: major, minor, patch. -/
def fwMajor (s : State) : Nat := imgByte s 8
def fwMinor (s : State) : Nat := imgByte s 9
def fwPatch (s : State) : Nat := imgByte s 10

/-- The configuration digest: the first 8 bytes of the SHA-256 of the image, written first byte first. -/
def cfgDigest (s : State) : List Byte := (sha256 s.od.image).take 8

/-- 0x1001. -/
def errReg (s : State) : Nat :=
  let cur := (List.range 8).any fun n => (s.prof n).st == 7 && (s.prof n).oc
  let prof := (List.range 8).any fun n => (s.prof n).st == 7 && !(s.prof n).oc
  let comm := s.on .canPassive 0 || s.on .canOff 0 || !s.node.hbMiss.isEmpty
  b2n (cur || prof || comm) + 2 * b2n cur + 16 * b2n comm + 32 * b2n prof

/-! Emergency messages (R343). -/

/-- Does the node serve a service that Stopped and the time before boot-up shut out? -/
def nodeServes (s : State) : Bool := s.node.nmt == 5 || s.node.nmt == 0x7F

/-- COB-ID of emergency messages. -/
def emcyId (s : State) : Nat := s.ob .emcyCob ^^^ (0x80 + nodeNo s)

/-- Queue an emergency message: error code, 0x1001, and the code of the causing event. -/
def emcy (code ev : Nat) (s : State) : State :=
  if nodeServes s ∧ !bitOf (emcyId s) 31 then
    nodeSend (classic (emcyId s % 2 ^ 11) (leBytes 2 code ++ leBytes 1 (errReg s) ++ leBytes 2 ev ++ [0, 0, 0])) s
  else s

/-- 0x1001 may have changed: an emergency message tells that it is 0 again. -/
def watchErr (ev : Nat) (s : State) : State :=
  let e := errReg s
  let was := s.node.errWas
  let s := s.setNode { s.node with errWas := e }
  if e = 0 ∧ was ≠ 0 then emcy 0 ev s else s

/-- The event behind an error code of an axis. -/
def faultEvent (code : Nat) : Nat :=
  match code with
  | 0x2310 => Ev.mioOvercurrent.code
  | 0xFF01 => Ev.mioTrip.code
  | 0xFF02 => Ev.mioEstop.code
  | _ => Ev.pstCeMiss.code

/-- The axis enters Fault, and an emergency message tells it. -/
def axisFault (n : Nat) (s : State) : State :=
  let was := (s.prof n).st
  let s := axisFaultEntry n s
  if was ≠ 7 ∧ (s.prof n).st = 7 then watchErr 0 (emcy (s.ob .axErrCode n) (faultEvent (s.ob .axErrCode n)) s) else s

/-- AXIS_FAULT_ENTRY (R317, R343): through Fault reaction active into Fault. -/
def execAxisFaultEntry (dt : Nat) (n : Fin 8) (s : State) : Out := after dt s (axisFault n)

/-- The default of a COB-ID object (PRESUMED, log entry 22). -/
def cobDefault (s : State) (o : ObjId) (i : Nat) : Nat :=
  match o with
  | .emcyCob => 0x80 + nodeNo s
  | .sdoReqCob => 0x600 + nodeNo s
  | .sdoRspCob => 0x580 + nodeNo s
  | .rpdoCob => 0x200 + 0x100 * i + nodeNo s
  | .tpdoCob => 0x180 + 0x100 * i + nodeNo s
  | _ => 0

/-- Kind of a stream: 0 camera, 1 current, 2 vibration. -/
def streamKind (k : Nat) : Nat := if k < 16 then 0 else if k < 40 then 1 else 2

/-- Counters of a stream object (Table STR-11). -/
def streamCount (s : State) (k sub : Nat) : Nat :=
  match streamKind k, sub with
  | 0, 2 => (s.cam k).delivered
  | 0, 3 => (s.cam k).replaced
  | 0, 4 => (s.cam k).skipped
  | 0, 5 => (s.cam k).corrected
  | 0, 6 => s.rd .camCrepl k
  | 0, 7 => (s.cam k).epoch
  | 1, 3 => s.rd .sdReplRange (k - 16)
  | 1, 5 => s.rd .sdReplLoss (k - 16)
  | 2, 3 => s.str.replaced.get 0 k
  | _, 2 => s.str.delivered.get 0 k
  | _, _ => 0

/-- Clear subs 02 to 06 of a stream object. -/
def streamClear (k : Nat) (s : State) : State :=
  let s := { s with str := { s.str with delivered := s.str.delivered.set k 0, replaced := s.str.replaced.set k 0 } }
  match streamKind k with
  | 0 => (s.setCam k { s.cam k with delivered := 0, replaced := 0, skipped := 0, corrected := 0 }).wr .camCrepl 0 k
  | 1 => (s.wr .sdReplRange 0 (k - 16)).wr .sdReplLoss 0 (k - 16)
  | _ => s

/-- Object 0x3010. -/
def loadVal (s : State) (k : Nat) : Nat :=
  let l := s.sch.load
  match k with
  | 0 => l.modelId
  | 1 => l.cls
  | 2 => l.reason
  | 3 => l.wOver
  | 4 => l.lsOver
  | 5 => l.tOver
  | _ => l.cost

/-- A field of a worker's descriptor: flit bytes `lo` up (Table ASM-3). -/
def descBytes (d : List Byte) (lo n : Nat) : List Byte := (d.drop (lo - 8)).take n

/-- A version triple, major first, as the number of 0x2000:04. -/
def descVer (d : List Byte) (lo : Nat) : Nat := beNat (padTo 3 (descBytes d lo 3))

def State.wkr (s : State) (k : Nat) : Worker := s.dwl.wk.get .init k
def State.setWkr (s : State) (k : Nat) (w : Worker) : State := { s with dwl := { s.dwl with wk := s.dwl.wk.set k w } }

/-- Records held. -/
def logHeldN (s : State) : Nat := s.log.recs.length

/-- An object of fixed size that no register and no stored value holds. -/
def odSpecial (s : State) (o : ObjId) (i j : Nat) : Nat :=
  match o with
  | .errReg => errReg s
  | .storeAll => 1
  | .restoreAll => 1
  | .emcyCob => s.ob .emcyCob ^^^ cobDefault s o 0
  | .sdoReqCob => cobDefault s o 0
  | .sdoRspCob => cobDefault s o 0
  | .rpdoCob => s.ob .rpdoCob i ^^^ cobDefault s o i
  | .tpdoCob => s.ob .tpdoCob i ^^^ cobDefault s o i
  | .revision => 0x00B00000 + fwMajor s * 256 + fwMinor s
  | .serialLow => Config.serial.toNat % 2 ^ 32
  | .orderCode => b2n Config.orderXb
  | .serialNo => Config.serial.toNat
  | .fwVersion => fwMajor s * 65536 + fwMinor s * 256 + fwPatch s
  | .libVersion => Config.libVersion.toNat
  | .dwlVersion => Config.dowelVersion.toNat
  | .cfgDigest => beNat (cfgDigest s)
  | .pkgLimit => packageCap
  | .thmMax => unsigned 16 s.thm
  | .thmSensor => if s.on .thmValid j then unsigned 16 (signed 12 (s.rd .thmT j)) else 0x8000
  | .thmLo => unsigned 16 (signed 12 (s.rd .thmTLo))
  | .thmHi => unsigned 16 (signed 12 (s.rd .thmTHi))
  | .strKind => streamKind i
  | .strDelivered => streamCount s i 2
  | .strReplaced => streamCount s i 3
  | .strSkipped => streamCount s i 4
  | .strSecond => streamCount s i 5
  | .strCrepl => streamCount s i 6
  | .strEpoch => streamCount s i 7
  | .mitArmed => (whichOf 8 s.armed).foldl (fun m n => m + 2 ^ n) 0
  | .mitModelObj => (s.slot i).modelId
  | .mitArmObj => s.rd .mitArm i
  | .mitObs => s.rd .mitOut i (4 + j)
  | .wkrState => (s.wkr (i + 1)).state
  | .wkrReason => (s.wkr (i + 1)).reason
  | .wkrDigest => beNat (descBytes (s.wkr (i + 1)).desc 10 8)
  | .wkrFw => descVer (s.wkr (i + 1)).desc 18
  | .wkrLib => descVer (s.wkr (i + 1)).desc 21
  | .wkrEpoch => leNat (descBytes (s.wkr (i + 1)).desc 30 4)
  | .wkrOffset => unsigned 32 (s.wkr (i + 1)).report
  | .wkrSerial => leNat (descBytes (s.wkr (i + 1)).desc 44 8)
  | .pairCause => s.rd .pairTkoCause + 4 * s.rd .pairTkoCold
  | .safReactObj => s.rd .safReact j
  | .schSwitches => s.sch.switches
  | .loadModel => loadVal s 0
  | .loadClass => loadVal s (1 + j)
  | .loadOver => loadVal s (3 + j)
  | .ctxErrs => (s.ctx i).errs
  | .ctxSwitch => (s.ctx i).switchUs
  | .logHeld => logHeldN s
  | .logOldest => (s.log.next + 2 ^ 32 - logHeldN s) % 2 ^ 32
  | .logOverw => s.log.overw
  | .logCursor => s.log.cursor
  | .retCount => s.log.retained.length
  | .retIndex => s.log.retIdx
  | .authActive => (whichOf 16 fun k => s.rd .crySlotState k == 1).length
  | .authSource => s.od.authSource
  | .stageLen => s.od.staging.length
  | .axStatus => statusword s i
  | .axModeDisp => s.ob .axModeObj i
  | .axPosDemand => s.rd .axRefEff i
  | .axPosActual => u32 (s.ax i).smp.pos
  | .axFollow => u32 (s.rdS .axRefEff i - (s.ax i).smp.pos)
  | _ => s.ob o i j

/-- Is the value of an object in `vals`? -/
def ObjId.stored (o : ObjId) : Bool := o.view.isNone

/-- The value of an object of fixed size. -/
def odNum (s : State) (k : ObjKey) : Nat :=
  match k.o.view with
  | some r => s.rd r k.i k.j % 2 ^ k.o.info.ty.bits
  | none => odSpecial s k.o k.i k.j % 2 ^ k.o.info.ty.bits

/-- A record of the retained log. -/
def retBytes (s : State) : List Byte :=
  match s.log.retained[s.log.retIdx]? with
  | some r => r.bytes
  | none => List.replicate 16 0

/-- The bytes of an object's value. -/
def odBytes (s : State) (k : ObjKey) : List Byte :=
  match k.o with
  | .devName => asciiOf [84, 82, 78, 45, 52, 50, 48, 48]
  | .hwVersion => asciiOf [66, 48]
  | .stepping => asciiOf [66, 48]
  | .swVersion => decBytes (fwMajor s) ++ asciiOf [46] ++ decBytes (fwMinor s) ++ asciiOf [46] ++ decBytes (fwPatch s)
  | .cfgImage => s.od.image
  | .retRecord => retBytes s
  | .progDownload => s.boot.img
  | o => leBytes (o.info.ty.bits / 8) (odNum s k)

/-! Checks (R298). -/

/-- The value that bytes spell in the type of an object. -/
def odValue (o : ObjId) (v : List Byte) : Int :=
  if o.info.ty.signed then signed o.info.ty.bits (leNat v) else leNat v

/-- Is the size of a value right (R297)? -/
def odSizeOk (o : ObjId) (n : Nat) : Bool :=
  let t := o.info
  if t.ty.bits ≠ 0 then n * 8 == t.ty.bits
  else (match t.hi with
    | some h => decide ((n : Int) ≤ h)
    | none => true) && (match t.lo with
    | some l => decide (l ≤ (n : Int))
    | none => true)

/-- Orders 8 and 9 of Table OD-2, for objects of fixed size. -/
def odRange (o : ObjId) (v : List Byte) : Nat :=
  let t := o.info
  if t.ty.bits = 0 then 0
  else if (match t.hi with
    | some h => decide (h < odValue o v)
    | none => false) then abHigh
  else if (match t.lo with
    | some l => decide (odValue o v < l)
    | none => false) then abLow
  else 0

/-- Orders 1 to 4 and 5: does the access exist and is it allowed? -/
def odAccess (idx sub : Nat) (wr : Bool) : Nat :=
  match objAt idx sub with
  | none => if objIndex idx then abNoSub else abNoIndex
  | some k =>
    let a := k.o.info.acc
    if wr then
      if a == .ro || a == .const then abReadOnly else if a == .rwa then abNoAccess else 0
    else if a == .wo then abWriteOnly else 0

/-- An object that may be mapped: of fixed size, and of the access that the direction asks for (R305, R11). -/
def mapOk (rx : Bool) (e : Nat) : Bool :=
  match objAt (bitsOf e 16 16) (bitsOf e 8 8) with
  | none => false
  | some k =>
    let t := k.o.info
    t.ty.bits != 0 && t.ty.bits == e % 256 && (if rx then t.acc == .wo || t.acc == .rww else t.acc == .ro)

/-- The bits of the first n mapping entries of a PDO. -/
def mapBits (s : State) (o : ObjId) (i n : Nat) : Nat := ((List.range n).map fun j => s.ob o i j % 256).sum

/-- The most bits that a mapping holds: the PDO of 8 bytes or less goes in a classical frame, a longer one needs FD frames. -/
def mapLimit (s : State) : Nat := if s.on .canFdEn 0 then 512 else 64

/-- Order 10 of Table OD-2: values inside the range that are not allowed. -/
def odAllowed (s : State) (k : ObjKey) (v : Nat) : Nat :=
  match k.o with
  | .rpdoType => if v < 254 then abValue else 0
  | .tpdoType => if v < 254 then abValue else 0
  | .rmapEntry => if mapOk true v then 0 else abNoMap
  | .tmapEntry => if mapOk false v then 0 else abNoMap
  | .rmapCount => if mapLimit s < mapBits s .rmapEntry k.i v then abMapLen else 0
  | .tmapCount => if mapLimit s < mapBits s .tmapEntry k.i v then abMapLen else 0
  | .thmLo => if signed 16 v < -2048 ∨ 2047 < signed 16 v ∨ signed 12 (s.rd .thmTHi) ≤ signed 16 v then abValue else 0
  | .thmHi => if signed 16 v < -2048 ∨ 2047 < signed 16 v ∨ signed 16 v ≤ signed 12 (s.rd .thmTLo) then abValue else 0
  | .laHigh => if v ≤ s.ob .laLow then abValue else 0
  | .laLow => if s.ob .laHigh ≤ v then abValue else 0
  | _ => 0

/-- May a mapping object of PDO i be written (R305)? -/
def mapFree (s : State) (cob cnt : ObjId) (i : Nat) : Bool := bitOf (odSpecial s cob i 0) 31 && s.ob cnt i == 0

/-- Order 11 of Table OD-2: does the device state forbid a write of v? -/
def odStateBad (s : State) (k : ObjKey) (v : Nat) : Bool :=
  match k.o with
  | .rmapEntry => !mapFree s .rpdoCob .rmapCount k.i
  | .tmapEntry => !mapFree s .tpdoCob .tmapCount k.i
  | .rmapCount => !(bitOf (odSpecial s .rpdoCob k.i 0) 31 && (v == 0 || s.ob .rmapCount k.i == 0))
  | .tmapCount => !(bitOf (odSpecial s .tpdoCob k.i 0) 31 && (v == 0 || s.ob .tmapCount k.i == 0))
  | .schTlimObj => s.on .schLock
  | .asmMgrTo => s.on .dwlLock
  | .asmWkrTo => s.on .dwlLock
  | .mitArmObj => v == 1 && !(s.on .mitArm k.i) && !armOk s k.i
  | _ => false

end Sys2Proof.Machine
end

