-- ==== Sys2Proof/Machine/Od.lean ====
section
/-! DEFINITION. The dictionary server: queues, reads, writes, storing, process data, the event log's objects (chapter 15). -/

namespace Sys2Proof.Machine

/-! Queues (R294 to R296). -/

/-- The interface of a request: 0 CAN, 1 VDP, 2 PCIe, 3 Dowel. -/
def OdFrom.port (f : OdFrom) : Nat :=
  match f with
  | .can _ _ _ => 0
  | .vdp _ _ _ => 1
  | .pcie _ _ => 2
  | .dowel _ => 3

/-- Is the server ready (R296)? -/
def dictReady (s : State) : Bool := s.on .hostDictReady

/-- The refusal of an interface: BUSY on VDP and PCIe, an abort on CAN and Dowel. -/
def odTurnAway (q : OdReq) (code : Nat) (s : State) : State :=
  if q.src.port = 1 ∨ q.src.port = 2 then odReply q 2 0 [] s else odReply q 1 code [] s

/-- A request has found its queue full (R295, R410). -/
def odOverflow (q : OdReq) (s : State) : State :=
  let p := q.src.port
  if p = 3 then s.setOb .asmOvf (satAdd 32 (s.ob .asmOvf) 1)
  else
    let s := s.setOb .odOvf (satAdd 32 (s.ob .odOvf 0 p) 1) 0 p
    if p ∈ s.od.ovfTold then s else raise .odQueueOvf 1 p { s with od := { s.od with ovfTold := p :: s.od.ovfTold } }

def odReceive (q : OdReq) (s : State) : State :=
  if !dictReady s then odTurnAway q abState s
  else if 16 ≤ (s.od.queue.filter fun r => r.src.port == q.src.port).length then odTurnAway q abQueue (odOverflow q s)
  else { s with od := { s.od with queue := s.od.queue ++ [q.stamp s.now] } }

/-- OD_REQUEST_RECEIVE (R295, R296). -/
def execOdRequestReceive (dt : Nat) (q : OdReq) (s : State) : Out := after dt s (odReceive q)

/-- The request at the front, if the server can take one: a record that waits for the flash copy of its counter holds the
others back (R294, R368). -/
def odFront (s : State) : Option OdReq := if s.od.auth.isSome then none else s.od.queue.head?

/-- Take the front request off. -/
def odPop (s : State) : State := { s with od := { s.od with queue := s.od.queue.drop 1 } }

/-- Serve the front request with `f` where `p` picks it. -/
def odServe (p : OdReq → Bool) (f : OdReq → State → State) (s : State) : State :=
  match odFront s with
  | none => s
  | some q => if p q then f q (odPop s) else s

/-- Answer with an abort code, or with OK for 0. -/
def odDone (q : OdReq) (code : Nat) (s : State) : State := odReply q (if code = 0 then 0 else 1) code [] s

/-- Is a request an access to an object of `o`? -/
def OdReq.names (q : OdReq) (o : ObjId) : Bool := (objAt q.idx q.sub).any fun k => k.o == o

/-- Is a request a write, and of what? -/
def OdReq.data (q : OdReq) : Option (List Byte) :=
  match q.op with
  | .write v => some v
  | _ => none

/-- A write to an object of `o`. -/
def OdReq.writes (q : OdReq) (o : ObjId) : Bool := q.data.isSome && q.names o

/-! Reads (R299). -/

/-- A read or a block read. -/
def OdReq.isRead (q : OdReq) : Bool := q.op == .read || q.op == .block

/-- BLOCK_READ reads a DOMAIN value of at most 1,024 bytes (Table NET-4): another object is answered as a size that is
wrong. -/
def blockBad (q : OdReq) (k : ObjKey) (v : List Byte) : Bool := q.op == .block && (k.o.info.ty != .dom || 1024 < v.length)

def odRead (s : State) : State :=
  odServe (fun q => q.isRead && !(q.names .logRecord) && !(q.names .logBlock))
    (fun q s =>
      let c := odAccess q.idx q.sub false
      if c ≠ 0 then odReply q 1 c [] s
      else match objAt q.idx q.sub with
        | none => s
        | some k =>
          let v := odBytes s k
          if blockBad q k v then odReply q 1 abSize [] s else odReply q 0 0 v s) s

/-- OD_READ (R298, R299). -/
def execOdRead (dt : Nat) (s : State) : Out := after dt s odRead

/-! Writes. -/

/-- Orders 1 to 11 of Table OD-2 for a write: the abort code, 0 if it passes. -/
def odWriteCheck (s : State) (idx sub : Nat) (v : List Byte) : Nat :=
  let c := odAccess idx sub true
  if c ≠ 0 then c
  else match objAt idx sub with
    | none => abNoIndex
    | some k =>
      if !odSizeOk k.o v.length then abSize
      else if odRange k.o v ≠ 0 then odRange k.o v
      else if odAllowed s k (leNat v) ≠ 0 then odAllowed s k (leNat v)
      else if odStateBad s k (leNat v) then abState
      else 0

/-- Clear bits of the armed mask (R481): STO_N falls without a cause when it becomes 0. -/
def safDisarm (m : Nat) (s : State) : State :=
  let s := foldN 8 (fun n s => if bitOf m n then s.wrBit .safArmed n false else s) s
  if s.rd .safArmed = 0 ∧ s.rd .safStoDrv = 1 then
    stopAll (({ s with pin := { s.pin with stoN := some false } }.wr .safStoDrv 0).wr .safStoPad 0)
  else s

/-- A value that has passed the checks is written to an object without a row of its own. -/
def odApply (k : ObjKey) (v progEnd : Nat) (s : State) : State :=
  match k.o with
  | .odOvfClear =>
    let s := { s with od := { s.od with ovfTold := [] } }
    ((s.setOb .odOvf 0 0 0).setOb .odOvf 0 0 1).setOb .odOvf 0 0 2
  | .emcyCob => s.setOb .emcyCob (v ^^^ cobDefault s .emcyCob 0)
  | .rpdoCob => s.setOb .rpdoCob (v ^^^ cobDefault s .rpdoCob k.i) k.i
  | .tpdoCob => (s.setOb .tpdoCob (v ^^^ cobDefault s .tpdoCob k.i) k.i)
  | .tpdoTimer => (s.setOb .tpdoTimer v k.i).setNode { s.node with tpdoFrom := s.node.tpdoFrom.set k.i s.now }
  | .consHb => (s.setOb .consHb v 0 k.j).setNode { s.node with hbAt := s.node.hbAt.set k.j none,
                                                               hbMiss := s.node.hbMiss.filter (· != k.j) }
  | .prodHb => (s.setOb .prodHb v).setNode { s.node with prodAt := s.now }
  | .wakeEn => s.wr .pwrWakeEn (setBit v 7 true)
  | .userCap => updCap (s.wr .pwrCapUser v)
  | .thmLo => s.wr .thmTLo v
  | .thmHi => s.wr .thmTHi v
  | .fanEnable =>
    if v = 1 ∧ s.rd .fanEn k.i = 0 then fanEnable k.i s
    else if v = 0 ∧ s.rd .fanEn k.i = 1 then fanStop k.i (s.wr .fanEn 0 k.i) else s
  | .strClear => streamClear k.i s
  | .mitArmObj => if v = 1 then mitreArmRequest 1 k.i s else mitreDisarm k.i s
  | .safDisarm => safDisarm v s
  | .safSs1Req => startSs1 s
  | .ipos => iposWrite v progEnd s
  | .logCursor => { s with log := { s.log with cursor := v } }
  | .laWindow => showWindow (s.setOb .laWindow v)
  | .laMin => showWindow (s.setOb .laMin v)
  | .laHigh => routeJobs (s.setOb .laHigh v)
  | .laLow => routeJobs (s.setOb .laLow v)
  | .retIndex => { s with log := { s.log with retIdx := v } }
  | .axTgtPos => targetWritten k.i 0 (s.setOb .axTgtPos v k.i)
  | .axTgtVel => targetWritten k.i 1 (s.setOb .axTgtVel v k.i)
  | .axTgtTorque => targetWritten k.i 2 (s.setOb .axTgtTorque v k.i)
  | o =>
    match o.view with
    | some r => s.wr r v k.i k.j
    | none => s.setOb o v k.i k.j

/-- The log is emptied (Table OD-6). -/
def clearLog (s : State) : State := { s with log := { s.log with recs := [], overw := 0, ovfTold := false } }

/-- Objects whose writes have rows of their own. -/
def ownRow (o : ObjId) : Bool :=
  match o with
  | .storeAll => true
  | .restoreAll => true
  | .logClear => true
  | .axModeObj => true
  | .axControl => true
  | .stageReset => true
  | .stageChunk => true
  | .authWrite => true
  | .progControl => true
  | .asmForward => true
  | .pwrReq => true
  | _ => false

/-- A write that OD_WRITE serves. -/
def OdReq.plainWrite (q : OdReq) : Bool :=
  q.data.isSome && !((objAt q.idx q.sub).any fun k => ownRow k.o)

def odWrite (progEnd : Nat) (s : State) : State :=
  odServe OdReq.plainWrite
    (fun q s =>
      let v := q.data.getD []
      let c := odWriteCheck s q.idx q.sub v
      if c ≠ 0 then odReply q 1 c [] s
      else match objAt q.idx q.sub with
        | none => s
        | some k => odReply q 0 0 [] (odApply k (leNat v) progEnd s)) s

/-- OD_WRITE (R298 to R300); `progEnd` is the number of blocks of the part program, for a write of IPOS (R150). -/
def execOdWrite (dt progEnd : Nat) (s : State) : Out := after dt s (odWrite progEnd)

/-! Storing (R301 to R303). -/

/-- The stored form of an object: what differs from the default. -/
def odRaw (s : State) (k : ObjKey) : Nat :=
  match k.o with
  | .thmLo => odNum s k
  | .thmHi => odNum s k
  | .safReactObj => s.rd .safReact k.j
  | o => if o.stored then s.ob o k.i k.j else odNum s k

/-- Every instance of the objects of a class. -/
def objKeys (c : ObjCls) : List ObjKey :=
  (ObjId.all.filter fun o => o.info.cls == c && o.info.ty.bits != 0).flatMap fun o =>
    (List.range o.info.n1).flatMap fun i => (List.range o.info.n2).map fun j => ⟨o, i, j⟩

/-- The default of an object, in stored form. -/
def objDflt (k : ObjKey) : Nat :=
  match k.o with
  | .safReactObj => RegId.safReact.resetAt k.j 0
  | o => objBits o o.info.dflt

/-- A snapshot of the objects of a class: values that differ from their defaults. -/
def snapshot (s : State) (c : ObjCls) : ObjFile :=
  (objKeys c).foldl (fun f k => if odRaw s k = objDflt k then f else kinsert ObjKey.rank f k (odRaw s k)) []

/-- A write of a whole value to an object with a row of its own: the abort code of orders 1 to 9. -/
def ownCheck (q : OdReq) : Nat :=
  let v := q.data.getD []
  let c := odAccess q.idx q.sub true
  if c ≠ 0 then c
  else match objAt q.idx q.sub with
    | none => abNoIndex
    | some k => if !odSizeOk k.o v.length then abSize else odRange k.o v

/-- The number that a request writes. -/
def OdReq.num (q : OdReq) : Nat := leNat (q.data.getD [])

def odStore (s : State) : State :=
  odServe (fun q => q.writes .storeAll)
    (fun q s =>
      if ownCheck q ≠ 0 then odDone q (ownCheck q) s
      else if q.num ≠ 0x65766173 then odDone q abCheck s
      else if s.od.store.isSome then odDone q abState s
      else { s with od := { s.od with store := some ⟨snapshot s .p, q⟩ } }) s

/-- OD_STORE (R302). -/
def execOdStore (dt : Nat) (s : State) : Out := after dt s odStore

/-- The newest valid copy of the P objects. -/
def newestCopy (l : List OdCopy) : Option OdCopy :=
  (l.filter (·.valid)).foldl (fun m c => match m with
    | some x => if x.seq < c.seq then some c else some x
    | none => some c) none

/-- Put a new copy in the place of the older one of two. -/
def putCopy (c : OdCopy) (l : List OdCopy) : List OdCopy :=
  match newestCopy l with
  | some x => [x, c]
  | none => [c]

def odStoreDone (ok : Bool) (s : State) : State :=
  match s.od.store with
  | none => s
  | some r =>
    let s := { s with od := { s.od with store := none } }
    if ok then
      let n := match newestCopy s.od.copies with
        | some c => c.seq + 1
        | none => 1
      let s := { s with od := { s.od with copies := putCopy ⟨n, true, r.vals⟩ s.od.copies } }
      odDone r.req 0 (raise .odStored 1 n s)
    else odDone r.req abFlash (raise .odStoreFail 1 0 s)

/-- OD_STORE_DONE (R302): the flash write has completed or failed. -/
def execOdStoreDone (dt : Nat) (ok : Bool) (s : State) : Out := after dt s (odStoreDone ok)

def odRestore (s : State) : State :=
  odServe (fun q => q.writes .restoreAll)
    (fun q s =>
      if ownCheck q ≠ 0 then odDone q (ownCheck q) s
      else if q.num ≠ 0x64616F6C then odDone q abCheck s
      else odDone q 0 { s with od := { s.od with copies := s.od.copies.map fun c => { c with valid := false } } }) s

/-- OD_RESTORE_DEFAULTS (R303). -/
def execOdRestoreDefaults (dt : Nat) (s : State) : Out := after dt s odRestore

/-- The value that a file of stored values gives an object. -/
def storedVal (f : ObjFile) (k : ObjKey) : Nat := (kfind f k).getD (objDflt k)

/-- Give a P object its stored value (R301). -/
def putStored (f : ObjFile) (k : ObjKey) (s : State) : State :=
  let v := storedVal f k
  match k.o with
  | .thmLo => s.wr .thmTLo v
  | .thmHi => s.wr .thmTHi v
  | .safReactObj => s.wr .safReact v k.j
  | .axModeObj => (modeWrite k.i (signed 8 v) s).2
  | .wakeEn => s.wr .pwrWakeEn (setBit v 7 true)
  | .safSs1Time => (s.setOb .safSs1Time v).wr .safSs1T v
  | .safWdgWin => (s.setOb .safWdgWin v).wr .safWdgT v
  | .safSs1Gpio => (s.setOb .safSs1Gpio v).wr .safSs1Gpio v |>.wr .safSs1GpioEn (b2n (v ≤ 31))
  | o =>
    match o.view with
    | some r => s.wr r v k.i k.j
    | none => s.setOb o v k.i k.j

/-- The stored values of the P objects. -/
def pStored (s : State) : ObjFile :=
  match newestCopy s.od.copies with
  | some c => c.vals
  | none => []

/-! Process data (R305, R306). -/

/-- The target of a target object. -/
def ObjId.target (o : ObjId) : Option Nat :=
  match o with
  | .axTgtPos => some 0
  | .axTgtVel => some 1
  | .axTgtTorque => some 2
  | _ => none

/-- Write one value of process data that was received at root time rx; the answer is dropped. -/
def pdWrite (l : TripLive) (progEnd rx : Nat) (x : PdVal) (s : State) : State :=
  match objAt x.idx x.sub with
  | none => s
  | some k =>
    match k.o with
    | .axControl => (controlword k.i (leNat x.val) l s).2
    | .logClear => if leNat x.val = 0x7261656C then clearLog s else s
    | .stageReset => if leNat x.val = 0 then { s with od := { s.od with staging := [] } } else s
    | o =>
      if ownRow o ∨ odWriteCheck s x.idx x.sub x.val ≠ 0 then s
      else match o.target with
        | some t => targetReceived k.i t rx (s.setOb o (leNat x.val) k.i)
        | none => odApply k (leNat x.val) progEnd s

/-- The values of process data and the time of their reception, if a request carries some. -/
def OdReq.vals (q : OdReq) : Option (List PdVal × Nat) :=
  match q.op with
  | .process l t => some (l, t)
  | _ => none

def processDataForward (l : TripLive) (progEnd : Nat) (s : State) : State :=
  odServe (fun q => q.vals.isSome)
    (fun q s =>
      let (v, rx) := q.vals.getD ([], 0)
      odReply q 0 0 [] (watchErr 0 (v.foldl (fun s x => pdWrite l progEnd rx x s) s))) s

/-- PROCESS_DATA_FORWARD (R306): the content of one received PDO or cyclic frame takes effect as one unit; with the live levels
that a controlword in it needs. -/
def execProcessDataForward (dt : Nat) (l : TripLive) (progEnd : Nat) (s : State) : Out :=
  after dt s (processDataForward l progEnd)

/-! Drive profile rows (R311, R313). -/

/-- Is a request a write to an object of axis n? -/
def OdReq.axisWrite (q : OdReq) (o : ObjId) (n : Nat) : Bool :=
  q.data.isSome && (objAt q.idx q.sub).any fun k => k.o == o && k.i == n

def modeOfOperationWrite (n : Nat) (s : State) : State :=
  odServe (fun q => q.axisWrite .axModeObj n)
    (fun q s =>
      if ownCheck q ≠ 0 then odDone q (ownCheck q) s
      else
        let v := signed 8 q.num
        if v ≠ 0 ∧ (modeRow v).isNone then odDone q abValue s
        else
          let (c, s) := modeWrite n v s
          odDone q c s) s

/-- MODE_OF_OPERATION_WRITE (R311). -/
def execModeOfOperationWrite (dt : Nat) (n : Fin 8) (s : State) : Out := after dt s (modeOfOperationWrite n)

def controlwordWrite (n : Nat) (l : TripLive) (s : State) : State :=
  odServe (fun q => q.axisWrite .axControl n)
    (fun q s =>
      if ownCheck q ≠ 0 then odDone q (ownCheck q) s
      else
        let (c, s) := controlword n q.num l s
        odDone q c (watchErr 0 s)) s

/-- CONTROLWORD_WRITE (R312, R313); with the live levels that a fault reset needs (R87). -/
def execControlwordWrite (dt : Nat) (n : Fin 8) (l : TripLive) (s : State) : Out := after dt s (controlwordWrite n l)

/-! The event log (R308, R309). -/

/-- Records from the cursor onward: the sequence number of the first, and the records, oldest first. -/
def logFrom (l : LogSt) : Nat × List EvRec :=
  let d := signed 32 (l.next + 2 ^ 32 - l.cursor)
  let n := if d ≤ 0 then 0 else min d.toNat l.recs.length
  ((l.next + 2 ^ 32 - n) % 2 ^ 32, (l.recs.take n).reverse)

/-- The cursor moves past k records that begin at sequence number q. -/
def moveCursor (q k : Nat) (s : State) : State :=
  if k = 0 then s else { s with log := { s.log with cursor := (q + k) % 2 ^ 32 } }

def logReadCursor (s : State) : State :=
  odServe (fun q => q.isRead && q.names .logRecord)
    (fun q s =>
      if q.op = .block then odReply q 1 abSize [] s
      else
        let (n, l) := logFrom s.log
        match l with
        | [] => odReply q 0 0 (List.replicate 16 0) s
        | r :: _ => odReply q 0 0 r.bytes (moveCursor n 1 s)) s

/-- LOG_READ_CURSOR (R309). -/
def execLogReadCursor (dt : Nat) (s : State) : Out := after dt s logReadCursor

def logBlockRead (s : State) : State :=
  odServe (fun q => q.isRead && q.names .logBlock)
    (fun q s =>
      let (n, l) := logFrom s.log
      let l := l.take 64
      odReply q 0 0 (l.flatMap EvRec.bytes) (moveCursor n l.length s)) s

/-- LOG_BLOCK_READ (R309). -/
def execLogBlockRead (dt : Nat) (s : State) : Out := after dt s logBlockRead

def logClear (s : State) : State :=
  odServe (fun q => q.writes .logClear)
    (fun q s =>
      if ownCheck q ≠ 0 then odDone q (ownCheck q) s
      else odDone q 0 (clearLog s)) s

/-- LOG_CLEAR (R308, Table OD-6). -/
def execLogClear (dt : Nat) (s : State) : Out := after dt s logClear

/-! The staging buffer (R365). -/

def stagingReset (s : State) : State :=
  odServe (fun q => q.writes .stageReset)
    (fun q s => if ownCheck q ≠ 0 then odDone q (ownCheck q) s else odDone q 0 { s with od := { s.od with staging := [] } }) s

/-- STAGING_RESET (R365). -/
def execStagingReset (dt : Nat) (s : State) : Out := after dt s stagingReset

/-- Most bytes that the staging buffer holds. -/
def stagingMax : Nat := 16777216

def stagingChunk (s : State) : State :=
  odServe (fun q => q.writes .stageChunk)
    (fun q s =>
      if ownCheck q ≠ 0 then odDone q (ownCheck q) s
      else
        let v := q.data.getD []
        if stagingMax < s.od.staging.length + v.length then odDone q abHigh s
        else odDone q 0 { s with od := { s.od with staging := s.od.staging ++ v } }) s

/-- STAGING_CHUNK (R365). -/
def execStagingChunk (dt : Nat) (s : State) : Out := after dt s stagingChunk

end Sys2Proof.Machine
end

