-- ==== Sys2Proof/Machine/Can.lean ====
section
/-! DEFINITION. The CAN FD controllers and the CANopen node (chapter 16). -/

namespace Sys2Proof.Machine

def State.ctl (s : State) (n : Nat) : CanCtl := s.can.ctl.get .init n
def State.setCtl (s : State) (n : Nat) (c : CanCtl) : State := { s with can := { s.can with ctl := s.can.ctl.set n c } }

/-- EVT_CAN_CFG_REJECT for an offset. -/
def canReject (tid off : Nat) (s : State) : State := raise .canCfgReject tid off s

/-- Offset of controller n (Table CAN-6). -/
def canOffset (n : Nat) : Nat := 0x100 + n * 0x100

/-- Do the controllers run (R319)? -/
def canOn (s : State) : Bool := s.domOn 19 && s.clockOn 17

/-- Is controller n on the bus: out of INIT and not in bus-off? -/
def canLive (s : State) (n : Nat) : Bool := canOn s && !(s.on .canInitAck n) && !(s.on .canOff n)

/-- May controller n transmit (R331, R336)? -/
def canSends (s : State) (n : Nat) : Bool := canLive s n && !(s.ctl n).rom

/-- Bit b of a pair of 32-bit registers. -/
def pairBit (s : State) (lo hi : RegId) (b n : Nat) : Bool := if b < 32 then s.rdBit lo b n else s.rdBit hi (b - 32) n

/-- Set bit b of a pair of 32-bit registers. -/
def setPair (lo hi : RegId) (b : Nat) (v : Bool) (n : Nat) (s : State) : State :=
  if b < 32 then s.wrBit lo b v n else s.wrBit hi (b - 32) v n

/-! Elements (Table CAN-3). -/

/-- First word of mailbox b, and of element e of queue q, in the message RAM. -/
def mbWord (b : Nat) : Nat := 0x140 + b * 0x14
def qWord (q e : Nat) : Nat := (if q = 0 then 0x640 else 0x8C0) + e * 0x14

/-- A word of the message RAM. -/
def canWord (s : State) (n k : Nat) : Nat := s.rd .canRam n k

/-- Write words into the message RAM. -/
def canPut (n k : Nat) (l : List Nat) (s : State) : State := l.zipIdx.foldl (fun s e => s.wr .canRam e.1 n (k + e.2)) s

/-- The frame that an element holds. -/
def canElement (s : State) (n k : Nat) : CanFrame :=
  let w0 := canWord s n k
  let w1 := canWord s n (k + 1)
  let fd := bitOf w1 4
  let dlc := w1 % 16
  let rmt := bitOf w0 30
  let bytes := (List.range 16).flatMap fun j => leBytes 4 (canWord s n (k + 4 + j))
  ⟨if bitOf w0 29 then w0 % 2 ^ 29 else w0 % 2 ^ 11, bitOf w0 29, rmt, dlc, fd, fd && bitOf w1 5, fd && bitOf w1 6,
   if rmt then [] else bytes.take (dlcBytes fd dlc)⟩

/-- DTIME a number of root cycles ago: seconds and nanoseconds. -/
def stampAt (s : State) (ago : Nat) : Nat × Nat :=
  let edges := if s.clk.up then ceCount s.clk s.now - ceCount s.clk (s.now - ago) else 0
  let c := s.clk.setTotal ((s.clk.total : Int) - edges * s.clk.inc)
  (c.sec, c.ns)

/-- Store a received frame in an element; payload bytes beyond the length are free. -/
def putElement (n k : Nat) (f : CanFrame) (byDef : Bool) (rule ago : Nat) (s : State) : State :=
  let (c, s) := s.fresh
  let (sec, ns) := stampAt s ago
  let fill := (List.range 64).map fun j => (Config.freeAt c j).setWidth 8
  let data := f.data.take 64 ++ fill.drop (f.data.take 64).length
  let w0 := f.id % 2 ^ 29 + b2n f.ide * 2 ^ 29 + b2n f.rmt * 2 ^ 30
  let w1 := f.dlc % 16 + 16 * b2n f.fd + 32 * b2n f.brs + 64 * b2n f.esi + 128 * b2n byDef + rule % 256 * 256
  canPut n k ([w0, w1, ns, sec % 2 ^ 32] ++ (List.range 16).map fun j => leNat ((data.drop (4 * j)).take 4)) s

/-! Acceptance (R325, R326). -/

/-- A field of the rules or of CANn_RXCFG as it stood at SOF. -/
def atSof (s : State) (n ago : Nat) (r : RegId) (j : Nat) : Nat :=
  match ((s.ctl n).hist.filter fun e => e.key == ⟨r, n, j⟩ && s.now - ago ≤ e.at_).getLast? with
  | some e => e.old
  | none => s.rd r n j

/-- Where a frame goes: 0 Q0, 1 Q1, 2 discarded, 3 mailbox; the mailbox, the rule, and whether the default decided. -/
structure CanDest where
  dest : Nat
  mb : Nat
  rule : Nat
  byDef : Bool
deriving DecidableEq, Repr

/-- Does a rule match (Table CAN-4)? -/
def ruleHit (m a b id : Nat) : Bool :=
  match m with
  | 1 => (id &&& b) == (a &&& b)
  | 2 => a ≤ id && id ≤ b
  | 3 => id == a || id == b
  | _ => false

/-- The decision of rule r, if it matches. -/
def ruleOf (s : State) (n ago : Nat) (f : CanFrame) (r : Nat) : Option CanDest :=
  if f.ide then
    let w (k : Nat) := atSof s n ago .canRam (0x80 + 3 * r + k)
    if ruleHit (bitsOf (w 0) 29 2) (w 0 % 2 ^ 29) (w 1 % 2 ^ 29) f.id then some ⟨bitsOf (w 2) 0 2, bitsOf (w 2) 8 6, r, false⟩ else none
  else
    let w := atSof s n ago .canRam r
    if ruleHit (bitsOf w 22 2) (w % 2 ^ 11) (bitsOf w 11 11) f.id then some ⟨bitsOf w 24 2, bitsOf w 26 6, r, false⟩ else none

/-- Where a received frame goes. -/
def acceptFrame (s : State) (n ago : Nat) (f : CanFrame) : CanDest :=
  let g (r : RegId) := atSof s n ago r 0
  if f.rmt ∧ g (if f.ide then .canExtRmtDrop else .canStdRmtDrop) = 1 then ⟨2, 0, 0, false⟩
  else
    let k := if f.ide then min (g .canExtRules) 64 else min (g .canStdRules) 128
    match (List.range k).findSome? (ruleOf s n ago f) with
    | some d => if d.dest = 3 ∧ pairBit s .canMbdirLo .canMbdirHi d.mb n then { d with dest := 2 } else d
    | none => ⟨min 2 (g (if f.ide then .canExtDef else .canStdDef)), 0, 0, true⟩

/-- Registers of queue q. -/
def qFill (q : Nat) : RegId := if q = 0 then .canQ0Fill else .canQ1Fill
def qRd (q : Nat) : RegId := if q = 0 then .canQ0Rd else .canQ1Rd
def qWr (q : Nat) : RegId := if q = 0 then .canQ0Wr else .canQ1Wr

/-- A loss on CAN0 is told by an emergency message. -/
def lossEmcy (n : Nat) (s : State) : State := if n = 0 then emcy 0x8110 Ev.canRxLost.code s else s

/-- Store a frame in queue q (R328). -/
def putQueue (n q : Nat) (f : CanFrame) (d : CanDest) (ago : Nat) (s : State) : State :=
  if s.rd (qFill q) n = 32 then
    let s := s.bump (if q = 0 then .canRxlostQ0 else .canRxlostQ1) 1 n
    let c := s.ctl n
    let s := if q ∈ c.told then s else lossEmcy n (raise .canRxLost 0 (n + q * 256) (s.setCtl n { c with told := q :: c.told }))
    if atSof s n ago (if q = 0 then .canQ0Ovw else .canQ1Ovw) 0 = 1 then
      let e := s.rd (qRd q) n
      ((putElement n (qWord q e) f d.byDef d.rule ago s).wr (qRd q) (e + 1) n).wr (qWr q) (e + 1) n
    else s
  else
    let e := s.rd (qWr q) n
    let s := putElement n (qWord q e) f d.byDef d.rule ago s
    (s.wr (qWr q) (e + 1) n).wr (qFill q) (s.rd (qFill q) n + 1) n

/-- Store a frame in receive mailbox b (R327). -/
def putMailbox (n b : Nat) (f : CanFrame) (d : CanDest) (ago : Nat) (s : State) : State :=
  let full := pairBit s .canMbfullLo .canMbfullHi b n
  let s := putElement n (mbWord b) f d.byDef d.rule ago s
  if full then lossEmcy n (raise .canRxLost 0 (n + 512 + b * 1024) (s.bump .canCntMbovw 1 n))
  else setPair .canMbfullLo .canMbfullHi b true n s

/-- Sort a received frame. -/
def sortFrame (n : Nat) (f : CanFrame) (ago : Nat) (s : State) : State :=
  let d := acceptFrame s n ago f
  match d.dest with
  | 0 => putQueue n 0 f d ago s
  | 1 => putQueue n 1 f d ago s
  | 3 => putMailbox n d.mb f d ago s
  | _ => s

/-! Confinement (R334). -/

/-- WARN, PASSIVE and bus-off follow the counters; `rec`: REC has moved. -/
def confine (n : Nat) (rec : Bool) (s : State) : State :=
  let tec := s.rd .canTec n
  let warn := 96 ≤ tec || 96 ≤ s.rd .canRec n
  let pass := (128 ≤ tec || 128 ≤ s.rd .canRec n) && tec ≤ 255
  let was := s.on .canPassive n
  let s := (s.wr .canWarn (b2n warn) n).wr .canPassive (b2n pass) n
  let s :=
    if pass ∧ !was then
      let s := raise .canErrPassive 0 (n + 256 * b2n rec) s
      if n = 0 then emcy 0x8120 Ev.canErrPassive.code s else s
    else s
  if 255 < tec ∧ !(s.on .canOff n) then
    let s := ((s.wr .canOff 1 n).bump .canCntBoff 1 n).wr .canRecovCnt 0 n
    let s := s.setCtl n { s.ctl n with offAt := s.now, recov := false }
    raise .canBusOff 0 n (s.wr .canBus 3 n)
  else s

/-- An error moves a counter. -/
def canError (n : Nat) (e : CanErr) (s : State) : State :=
  match e with
  | .receiver => confine n true (s.wr .canRec (min 255 (s.rd .canRec n + 1)) n)
  | .receiverEight => confine n true (s.wr .canRec (min 255 (s.rd .canRec n + 8)) n)
  | .transmitter => confine n false (s.wr .canTec (min 511 (s.rd .canTec n + 8)) n)
  | .exempt => s

def canBusError (n : Nat) (e : CanErr) (s : State) : State :=
  if canLive s n then
    if (s.ctl n).rom then s.wr .canBus 3 n else watchErr 0 (canError n e s)
  else s

/-- CAN_BUS_ERROR (R334, R336). -/
def execCanBusError (dt : Nat) (n : Fin 4) (e : CanErr) (s : State) : Out := after dt s (canBusError n e)

/-- A good reception lowers REC; above 127 it goes to a value of 119 to 127 that ISO 11898-1 leaves open. -/
def recDown (n : Nat) (s : State) : State :=
  let r := s.rd .canRec n
  if r = 0 then s
  else if r ≤ 127 then confine n true (s.wr .canRec (r - 1) n)
  else
    let (k, s) := s.fresh
    confine n true (s.wr .canRec (119 + (Config.free k).toNat % 9) n)

/-! The node's receive side. -/

/-- The element at the read index of Q0 of CAN0, if the queue holds one. -/
def q0Front (s : State) : Option CanFrame :=
  if s.rd .canQ0Fill = 0 then none else some (canElement s 0 (qWord 0 (s.rd .canQ0Rd)))

/-- Release the element at the read index of a queue. -/
def releaseOne (n q : Nat) (s : State) : State :=
  let s := (s.wr (qRd q) (s.rd (qRd q) n + 1) n).wr (qFill q) (s.rd (qFill q) n - 1) n
  s.setCtl n { s.ctl n with told := (s.ctl n).told.filter (· != q) }

/-- A standard data frame with an identifier. -/
def CanFrame.std (f : CanFrame) (id : Nat) : Bool := !f.ide && !f.rmt && f.id == id

/-- An NMT frame (R340), and a frame on the SDO request identifier (R341). -/
def isNmt (f : CanFrame) : Bool := f.std 0 && !f.fd && f.dlc == 2
def isSdo (s : State) (f : CanFrame) : Bool := f.std (0x600 + nodeNo s)

/-- The values of a received PDO by its mapping; none if it carries fewer bytes. -/
def pdoVals (s : State) (i : Nat) (data : List Byte) : Option (List PdVal) :=
  let es := (List.range (s.ob .rmapCount i)).map fun j => s.ob .rmapEntry i j
  if (es.map fun e => e % 256 / 8).sum ≤ data.length then
    some (es.foldl
      (fun (a : List PdVal × List Byte) e =>
        let n := e % 256 / 8
        (a.1 ++ [⟨bitsOf e 16 16, bitsOf e 8 8, e % 256, a.2.take n⟩], a.2.drop n)) ([], data)).1
  else none

/-- The RPDO that a frame is, and its values. -/
def rpdoOf (s : State) (f : CanFrame) : Option (List PdVal) :=
  if f.ide ∨ f.rmt then none
  else
    (List.range 4).findSome? fun i =>
      let c := odSpecial s .rpdoCob i 0
      if !bitOf c 31 ∧ c % 2 ^ 11 = f.id ∧ s.ob .rmapCount i ≠ 0 then pdoVals s i f.data else none

/-- A heartbeat of a consumed node has been heard (R343). -/
def heartbeat (f : CanFrame) (s : State) : State :=
  foldN 4
    (fun j s =>
      let h := s.ob .consHb 0 j
      if bitsOf h 16 8 ≠ 0 ∧ h % 65536 ≠ 0 ∧ f.std (0x700 + bitsOf h 16 7) then
        s.setNode { s.node with hbAt := s.node.hbAt.set j (some s.now), hbMiss := s.node.hbMiss.filter (· != j) }
      else s) s

/-- What the runtime does with a frame that has no row of its own: a PDO becomes a request, a heartbeat is noted. -/
def nodeTake (f : CanFrame) (s : State) : State :=
  if !s.node.boot then s
  else
    let s := if f.id / 0x80 = 14 then watchErr 0 (heartbeat f s) else s
    match if s.node.nmt = 5 then rpdoOf s f else none with
    | some l => odReceive ⟨.can false false 0, .process l 0, 0, 0⟩ s
    | none => s

/-- The runtime takes the elements of Q0 in order, up to an NMT command or a dictionary request. -/
def nodePump : Nat → State → State
  | 0, s => s
  | k + 1, s =>
    if s.node.up then
      match q0Front s with
      | none => s
      | some f => if isNmt f ∨ isSdo s f then s else nodePump k (nodeTake f (releaseOne 0 0 s))
    else s

/-- Elements of a queue. -/
def pumpAll (s : State) : State := nodePump 32 s

def canFrameReceive (n : Nat) (f : CanFrame) (ago : Nat) (resRec : Bool) (s : State) : State :=
  if canLive s n then
    if f.fd ∧ (s.rd .canFdEn n = 0 ∨ resRec) then
      if s.rd .canPexOff n = 0 then raise .canProtocolExc 0 n ((s.bump .canCntPex 1 n).wr .canBus 3 n)
      else canBusError n .receiver s
    else
      let s := sortFrame n f ago (s.wr .canBus 0 n)
      let s := s.setCtl n { s.ctl n with hist := [] }
      let s := if (s.ctl n).rom then s else watchErr 0 (recDown n s)
      if n = 0 then pumpAll s else s
  else s

/-- CAN_FRAME_RECEIVE (R325 to R328, R337): a frame whose SOF fell `ago` root cycles back; `resRec`: its res bit is
recessive. -/
def execCanFrameReceive (dt : Nat) (n : Fin 4) (f : CanFrame) (ago : Nat) (resRec : Bool) (s : State) : Out :=
  after dt s (canFrameReceive n f ago resRec)

def canQueueRelease (tid n q a : Nat) (s : State) : State :=
  let d := (a + 32 - s.rd (qRd q) n) % 32
  if d < s.rd (qFill q) n then
    let s := (s.wr (qRd q) (a + 1) n).wr (qFill q) (s.rd (qFill q) n - d - 1) n
    s.setCtl n { s.ctl n with told := (s.ctl n).told.filter (· != q) }
  else canReject tid (canOffset n + 0x20 + 8 * q) s

/-- CAN_QUEUE_RELEASE (R329). -/
def execCanQueueRelease (dt tid : Nat) (n : Fin 4) (q : Fin 2) (a : Fin 32) (s : State) : Out :=
  after dt s (canQueueRelease tid n q a)

/-! Transmission (R330 to R333). -/

/-- The arbitration field of a frame as a number: the lower wins. -/
def arbKey (f : CanFrame) : Nat :=
  if f.ide then (f.id / 2 ^ 18 * 4 + 3) * 2 ^ 19 + f.id % 2 ^ 18 * 2 + b2n f.rmt
  else (f.id * 4 + 2 * b2n f.rmt) * 2 ^ 19

/-- Pending mailboxes. -/
def pendingMbs (s : State) (n : Nat) : List Nat := whichOf 64 fun b => pairBit s .canTxpendLo .canTxpendHi b n

/-- CANn_TXNEXT follows the pending mailboxes (R330). -/
def showTxnext (n : Nat) (s : State) : State :=
  match pendingMbs s n with
  | [] => (s.wr .canTxnextMb 0 n).wr .canTxnextValid 0 n
  | b :: t =>
    let key (b : Nat) := arbKey (canElement s n (mbWord b))
    let m := t.foldl (fun m c => if key c < key m then c else m) b
    (s.wr .canTxnextMb m n).wr .canTxnextValid 1 n

/-- The arbitration field of a pending mailbox. -/
def mbKey (s : State) (n b : Nat) : Nat := arbKey (canElement s n (mbWord b))

/-- Was mailbox b the one offered at root time t: does its frame win against every other request that was pending then (R330)? -/
def offeredAt (s : State) (n b t : Nat) : Bool :=
  let c := s.ctl n
  let beats (k m : Nat) : Bool := decide (mbKey s n b < k) || mbKey s n b == k && decide (b < m)
  pairBit s .canTxpendLo .canTxpendHi b n && decide (c.reqAt.get 0 b ≤ t) &&
    (pendingMbs s n).all (fun m => m == b || decide (t < c.reqAt.get 0 m) || beats (mbKey s n m) m) &&
    c.gone.all fun g => decide (t < g.from_) || decide (g.till ≤ t) || beats g.key g.mb

/-- Note when mailbox b was requested; a request that is pending already stays as it is. -/
def noteRequest (n b : Nat) (s : State) : State :=
  if pairBit s .canTxpendLo .canTxpendHi b n then s else s.setCtl n { s.ctl n with reqAt := (s.ctl n).reqAt.set b s.now }

def canMbSend (tid n b : Nat) (s : State) : State :=
  if pairBit s .canMbdirLo .canMbdirHi b n then
    let s := noteRequest n b s
    let s := setPair .canTxpendLo .canTxpendHi b true n s
    let s := setPair .canTxdoneLo .canTxdoneHi b false n s
    showTxnext n (setPair .canTxabtLo .canTxabtHi b false n s)
  else canReject tid (canOffset n + 0x3C) s

/-- CAN_MB_SEND (R330, R333). -/
def execCanMbSend (dt tid : Nat) (n : Fin 4) (b : Fin 64) (s : State) : Out := after dt s (canMbSend tid n b)

/-- A request ends by its abort. -/
def endAborted (n b : Nat) (s : State) : State :=
  let c := s.ctl n
  let s := s.setCtl n { c with gone := ⟨b, mbKey s n b, c.reqAt.get 0 b, s.now⟩ :: c.gone }
  let s := setPair .canTxabtLo .canTxabtHi b true n (setPair .canTxpendLo .canTxpendHi b false n s)
  showTxnext n (s.setCtl n { s.ctl n with aborting := (s.ctl n).aborting.filter (· != b) })

def canMbAbort (n b : Nat) (onBus : Bool) (s : State) : State :=
  if pairBit s .canTxpendLo .canTxpendHi b n then
    if onBus ∧ canSends s n then s.setCtl n { s.ctl n with aborting := b :: (s.ctl n).aborting } else endAborted n b s
  else s

/-- CAN_MB_ABORT (R332); `onBus`: the mailbox is being transmitted. -/
def execCanMbAbort (dt : Nat) (n : Fin 4) (b : Fin 64) (onBus : Bool) (s : State) : Out := after dt s (canMbAbort n b onBus)

/-- The frame as it goes on the bus: FD frames and bit rate switching only where CANn_CTRL lets them (PRESUMED, log entry 19), and ESI
recessive from an error-passive node. -/
def onWire (s : State) (n : Nat) (f : CanFrame) : CanFrame :=
  let fd := f.fd && s.on .canFdEn n
  { f with fd := fd, brs := fd && f.brs && s.on .canBrsEn n, esi := fd && (f.esi || s.on .canPassive n),
           data := if f.rmt then [] else f.data.take (dlcBytes fd f.dlc) }

/-- The header of a frame as the bus carries it: the first word of an element, and DLC, FD, BRS and ESI above it. -/
def canHead (f : CanFrame) : Nat :=
  f.id + b2n f.ide * 2 ^ 29 + b2n f.rmt * 2 ^ 30 + (f.dlc % 16 + 16 * b2n f.fd + 32 * b2n f.brs + 64 * b2n f.esi) * 2 ^ 32

/-- A frame has been sent: TEC falls, the loop delay of an FD frame with BRS is kept; an edge before SSP_WIN is none (R323). -/
def frameSent (n : Nat) (f : CanFrame) (delay : Nat) (s : State) : State :=
  let f := onWire s n f
  let s := s.send .can n (canHead f) f.data
  let s := if f.fd ∧ f.brs ∧ s.on .canSspEn n ∧ s.rd .canSspWin n ≤ delay then s.wr .canSspMeas (min delay 127) n else s
  let s := confine n false (s.wr .canTec (s.rd .canTec n - 1) n)
  let s := s.wr .canBus 0 n
  if s.on .canLoop n then sortFrame n f 0 s else s

/-- The frame of the node that goes first: the lowest identifier, the oldest of equals. -/
def nodeNext (l : List CanFrame) : Option CanFrame :=
  match l with
  | [] => none
  | h :: t => some (t.foldl (fun m f => if arbKey f < arbKey m then f else m) h)

/-- The boot-up message has been transmitted (R339, R340). -/
def booted (f : CanFrame) (s : State) : State :=
  if f.std (0x700 + nodeNo s) ∧ f.data = [0] then
    let s := s.setNode { s.node with boot := true, nmt := 0x7F, prodAt := s.now, errWas := errReg s }
    raise .canBootup 1 (nodeNo s) s
  else s

def canTxSuccess (n : Nat) (src : CanSrc) (ago delay : Nat) (s : State) : State :=
  if canSends s n then
    match src with
    | .mb b =>
      if offeredAt s n b (s.now - ago) then
        let f := canElement s n (mbWord b)
        let (sec, ns) := stampAt s ago
        let s := canPut n (mbWord b + 2) [ns, sec % 2 ^ 32] s
        let s := setPair .canTxdoneLo .canTxdoneHi b true n (setPair .canTxpendLo .canTxpendHi b false n s)
        let s := s.setCtl n { s.ctl n with aborting := (s.ctl n).aborting.filter (· != (b : Nat)), gone := [] }
        watchErr 0 (showTxnext n (frameSent n f delay s))
      else s
    | .node =>
      if n = 0 then
        match nodeNext s.node.tx with
        | none => s
        | some f => watchErr 0 (booted f (frameSent 0 f delay (s.setNode { s.node with tx := s.node.tx.erase f })))
      else s
  else s

/-- CAN_TX_SUCCESS (R331): SOF fell `ago` root cycles back; `delay` is the measured loop delay in CANCLK (R323). -/
def execCanTxSuccess (dt : Nat) (n : Fin 4) (src : CanSrc) (ago delay : Nat) (s : State) : Out :=
  after dt s (canTxSuccess n src ago delay)

def canTxRetry (n : Nat) (src : CanSrc) (s : State) : State :=
  match src with
  | .mb b => if (b : Nat) ∈ (s.ctl n).aborting then endAborted n b s else s
  | .node => s

/-- CAN_TX_RETRY (R331, R332): arbitration has been lost, or an error has ended the attempt. -/
def execCanTxRetry (dt : Nat) (n : Fin 4) (src : CanSrc) (s : State) : Out := after dt s (canTxRetry n src)

/-! Bus-off and restricted operation (R335, R336, R344). -/

def canBoffRecover (n : Nat) (s : State) : State :=
  if s.on .canOff n ∧ !(s.ctl n).recov then
    ((s.setCtl n { s.ctl n with recov := true, recovAt := s.now }).wr .canBoffRecover 1 n).wr .canRecovCnt 0 n
  else s

/-- CAN_BOFF_RECOVER (R335). -/
def execCanBoffRecover (dt : Nat) (n : Fin 4) (s : State) : Out := after dt s (canBoffRecover n)

/-- Root cycles of a bit of the arbitration phase (R320). -/
def arbBit (s : State) (n : Nat) : Nat :=
  (s.rd .canAPre n + 1) * (3 + s.rd .canAS1 n + s.rd .canAS2 n) * RootClk.canclk.divider

def canBoffRecovered (n : Nat) (s : State) : State :=
  if s.on .canOff n ∧ (s.ctl n).recov ∧ canOn s ∧ (s.ctl n).recovAt + 1408 * arbBit s n ≤ s.now then
    let s := ((s.wr .canTec 0 n).wr .canRec 0 n).wr .canOff 0 n
    let s := ((((s.wr .canPassive 0 n).wr .canWarn 0 n).wr .canBoffRecover 0 n).wr .canBus 0 n).wr .canRecovCnt 128 n
    let s := raise .canBoffRecovered 0 n (s.setCtl n { s.ctl n with recov := false })
    if n = 0 then watchErr Ev.canBoffRecovered.code (emcy 0x8140 Ev.canBoffRecovered.code s) else s
  else s

/-- CAN_BOFF_RECOVERED (R335): the 128th occurrence of 11 recessive bits, which the bus takes 1,408 bits for at least. -/
def execCanBoffRecovered (dt : Nat) (n : Fin 4) (s : State) : Out := after dt s (canBoffRecovered n)

def canBoffAutoRecover (s : State) : State :=
  if s.node.up ∧ s.on .canOff ∧ (s.ctl 0).offAt + 500 * rootPerMs ≤ s.now then canBoffRecover 0 s else s

/-- CAN_BOFF_AUTO_RECOVER (R344). -/
def execCanBoffAutoRecover (dt : Nat) (s : State) : Out := after dt s canBoffAutoRecover

def canRomApply (n : Nat) (s : State) : State := s.setCtl n { s.ctl n with rom := s.on .canRom n }

/-- CAN_ROM_APPLY (R336): the bus is idle. -/
def execCanRomApply (dt : Nat) (n : Fin 4) (s : State) : Out := after dt s (canRomApply n)

/-! NMT (R340). -/

/-- The node starts: its boot-up message is queued. -/
def nodeBoot (s : State) : State :=
  nodeSend (classic (0x700 + nodeNo s) [0])
    (s.setNode { s.node with boot := false, nmt := 0, sdo := none, hbAt := [], hbMiss := [], tpdoFrom := [], tpdoAt := [] })

/-- Objects 0x1000 to 0x1FFF take their stored values or defaults. -/
def resetComm (s : State) : State :=
  ((objKeys .p).filter fun k => k.o.info.idx < 0x2000).foldl (fun s k => putStored (pStored s) k s) (s.setOb .progControl 0)

/-- Enter Operational: the event timers start. -/
def enterOperational (s : State) : State :=
  s.setNode { s.node with nmt := 5, tpdoFrom := (List.range 4).foldl (fun t i => Tab.set t i s.now) s.node.tpdoFrom }

def nmtEffect (f : CanFrame) (s : State) : State :=
  let c := (f.data.getD 0 0).toNat
  let k := (f.data.getD 1 0).toNat
  if !s.node.boot ∨ (k ≠ 0 ∧ k ≠ nodeNo s) then s
  else if c = 0x01 then (if s.node.nmt = 5 then s else enterOperational s)
  else if c = 0x02 then s.setNode { s.node with nmt := 4 }
  else if c = 0x80 then s.setNode { s.node with nmt := 0x7F }
  else if c = 0x81 ∨ c = 0x82 then nodeBoot (resetComm s)
  else s

def nmtCommand (s : State) : State :=
  if s.node.up then
    match q0Front s with
    | none => s
    | some f => if isNmt f then pumpAll (nmtEffect f (releaseOne 0 0 s)) else s
  else s

/-- NMT_COMMAND (R340): the NMT command at the read index of Q0. -/
def execNmtCommand (dt : Nat) (s : State) : Out := after dt s nmtCommand

/-! SDO and USDO (R341). -/

/-- The service that a classical request carries (CiA 301). -/
def sdoDecode (d : List Byte) : SdoMsg :=
  let b := (d.getD 0 0).toNat
  let idx := leNat ((d.drop 1).take 2)
  let sub := (d.getD 3 0).toNat
  match b / 32 with
  | 0 => .downloadSeg (bitOf b 4) (bitOf b 0) ((d.drop 1).take (7 - bitsOf b 1 3))
  | 1 =>
    if bitOf b 1 then .download idx sub ((d.drop 4).take (if bitOf b 0 then 4 - bitsOf b 2 2 else 4)) else .downloadStart idx sub
  | 2 => .upload idx sub
  | 3 => .uploadSeg (bitOf b 4)
  | 4 => .abort
  | _ => .unknown

/-- A transfer begins; a running one ends without an answer. -/
def sdoStart (fd brs wr : Bool) (idx sub : Nat) (waits : Bool) (s : State) : State :=
  s.setNode { s.node with sdo := some ⟨fd, brs, wr, idx, sub, [], false, waits, s.now⟩, xfer := s.node.xfer + 1 }

/-- The source of a dictionary request of the running transfer. -/
def sdoSrc (fd brs : Bool) (s : State) : OdFrom := .can fd brs s.node.xfer

/-- Abort the running transfer; without one, the abort names no object. -/
def sdoFail (fd brs : Bool) (code : Nat) (s : State) : State :=
  match s.node.sdo with
  | some r => sdoAbort r.fd r.brs r.idx r.sub code (sdoEnd s)
  | none => sdoAbort fd brs 0 0 code s

/-- Send the next segment of an upload. -/
def sdoSegment (r : SdoRun) (s : State) : State :=
  let n := if r.fd then 60 else 7
  let v := r.buf.take n
  let last := r.buf.length ≤ n
  let r' := { r with buf := r.buf.drop n, toggle := !r.toggle, lastAt := s.now }
  let s := if last then sdoEnd s else s.setNode { s.node with sdo := some r' }
  let head := 16 * b2n r.toggle + b2n last
  if r.fd then usdoSend r.brs r.idx r.sub head v s else sdoSend (leBytes 1 (head + 2 * (7 - v.length)) ++ v) s

/-- A segment of a download arrives. -/
def sdoTakeSeg (r : SdoRun) (t last : Bool) (data : List Byte) (s : State) : State :=
  if t ≠ r.toggle then sdoFail r.fd r.brs 0x05030000 s
  else
    let r' := { r with buf := r.buf ++ data, toggle := !r.toggle, waits := last, lastAt := s.now }
    let s := s.setNode { s.node with sdo := some r' }
    if last then odReceive ⟨sdoSrc r.fd r.brs s, .write r'.buf, r.idx, r.sub⟩ s
    else if r.fd then usdoSend r.brs r.idx r.sub (0x20 + 16 * b2n t) [] s
    else sdoSend (leBytes 1 (0x20 + 16 * b2n t)) s

/-- A service arrives. -/
def sdoService (fd brs : Bool) (m : SdoMsg) (s : State) : State :=
  match m with
  | .download idx sub data =>
    let s := sdoStart fd brs true idx sub true s
    odReceive ⟨sdoSrc fd brs s, .write data, idx, sub⟩ s
  | .downloadStart idx sub =>
    let s := sdoStart fd brs true idx sub false s
    if fd then usdoSend brs idx sub 0x60 [] s else sdoSend (leBytes 1 0x60 ++ leBytes 2 idx ++ leBytes 1 sub) s
  | .upload idx sub =>
    let s := sdoStart fd brs false idx sub true s
    odReceive ⟨sdoSrc fd brs s, .read, idx, sub⟩ s
  | .downloadSeg t last data =>
    match s.node.sdo with
    | some r => if r.write ∧ !r.waits then sdoTakeSeg r t last data s else sdoFail fd brs 0x05040001 s
    | none => sdoFail fd brs 0x05040001 s
  | .uploadSeg t =>
    match s.node.sdo with
    | some r =>
      if r.write ∨ r.waits then sdoFail fd brs 0x05040001 s
      else if t ≠ r.toggle then sdoFail fd brs 0x05030000 s
      else sdoSegment r s
    | none => sdoFail fd brs 0x05040001 s
  | .abort => sdoEnd s
  | .elsewhere => s
  | .unknown => sdoFail fd brs 0x05040001 s

/-- The object that a service names. -/
def SdoMsg.obj (m : SdoMsg) : Nat × Nat :=
  match m with
  | .download i j _ => (i, j)
  | .downloadStart i j => (i, j)
  | .upload i j => (i, j)
  | _ => (0, 0)

/-- A transfer whose next segment has not come within 1,000 ms is aborted. -/
def sdoTimeout (s : State) : State :=
  match s.node.sdo with
  | none => s
  | some r => if !r.waits ∧ r.lastAt + 1000 * rootPerMs ≤ s.now then sdoFail r.fd r.brs 0x05040000 s else s

def sdoRequest (usdo : SdoMsg) (s : State) : State :=
  let s := sdoTimeout s
  if s.node.up then
    match q0Front s with
    | none => s
    | some f =>
      if isSdo s f then
        let s := releaseOne 0 0 s
        let m := if f.fd then usdo else sdoDecode f.data
        let s :=
          if !f.fd ∧ f.dlc ≠ 8 then s
          else if !s.node.boot then (if m = .abort ∨ m = .elsewhere then s else sdoAbort f.fd f.brs m.obj.1 m.obj.2 abState s)
          else if !nodeServes s then s
          else sdoService f.fd f.brs m s
        pumpAll s
      else s
  else s

/-- SDO_REQUEST (R339, R341): the request at the read index of Q0; for an FD frame, the service that CiA 1301 reads in it. -/
def execSdoRequest (dt : Nat) (usdo : SdoMsg) (s : State) : Out := after dt s (sdoRequest usdo)

/-- SDO_TIMEOUT (R341). -/
def execSdoTimeout (dt : Nat) (s : State) : Out := after dt s sdoTimeout

/-! PDO and heartbeat (R342, R343, Table CAN-5). -/

/-- The bytes of a TPDO. -/
def tpdoBytes (s : State) (i : Nat) : List Byte :=
  (List.range (s.ob .tmapCount i)).flatMap fun j =>
    let e := s.ob .tmapEntry i j
    match objAt (bitsOf e 16 16) (bitsOf e 8 8) with
    | some k => odBytes s k
    | none => []

def tpdoEventTimer (i : Nat) (s : State) : State :=
  let t := s.ob .tpdoTimer i
  let c := odSpecial s .tpdoCob i 0
  let gap : Bool := match s.node.tpdoAt.get none i with
    | some a => decide (a + s.ob .tpdoInhibit i * 100 * rootPerUs ≤ s.now)
    | none => true
  if s.node.nmt = 5 ∧ t ≠ 0 ∧ !bitOf c 31 ∧ s.ob .tmapCount i ≠ 0 ∧ s.node.tpdoFrom.get 0 i + t * rootPerMs ≤ s.now ∧ gap then
    let d := tpdoBytes s i
    let f := if d.length ≤ 8 then classic (c % 2 ^ 11) d else fdFrame (c % 2 ^ 11) (s.on .canBrsEn) d
    nodeSend f (s.setNode { s.node with tpdoFrom := s.node.tpdoFrom.set i s.now, tpdoAt := s.node.tpdoAt.set i (some s.now) })
  else s

/-- TPDO_EVENT_TIMER (R342). -/
def execTpdoEventTimer (dt : Nat) (i : Fin 4) (s : State) : Out := after dt s (tpdoEventTimer i)

def hbConsumerTimeout (j : Nat) (s : State) : State :=
  let h := s.ob .consHb 0 j
  match s.node.hbAt.get none j with
  | none => s
  | some t =>
    if s.node.boot ∧ h % 65536 ≠ 0 ∧ t + h % 65536 * rootPerMs ≤ s.now ∧ !(s.node.hbMiss.contains j) then
      let s := s.setNode { s.node with hbMiss := j :: s.node.hbMiss }
      watchErr 0 (emcy 0x8130 Ev.canHbTimeout.code (raise .canHbTimeout 1 (bitsOf h 16 7) s))
    else s

/-- HB_CONSUMER_TIMEOUT (R343). -/
def execHbConsumerTimeout (dt : Nat) (j : Fin 4) (s : State) : Out := after dt s (hbConsumerTimeout j)

def heartbeatProducerTimer (s : State) : State :=
  let t := s.ob .prodHb
  if s.node.boot ∧ t ≠ 0 ∧ every s s.node.prodAt (t * rootPerMs) then
    nodeSend (classic (0x700 + nodeNo s) (leBytes 1 s.node.nmt)) (s.setNode { s.node with prodAt := s.now })
  else s

/-- HEARTBEAT_PRODUCER_TIMER (R340). -/
def execHeartbeatProducerTimer (dt : Nat) (s : State) : Out := after dt s heartbeatProducerTimer

end Sys2Proof.Machine
end

