-- ==== Sys2Proof/Machine/Eth.lean ====
section
/-! DEFINITION. The MACs: reception, gPTP, gates, shapers and transmission (chapter 17). -/

namespace Sys2Proof.Machine

/-- EVT_NET_CFG_REJECT for an offset. -/
def netReject (tid off : Nat) (s : State) : State := raise .netCfgReject tid off s

/-- Offset of MAC m (Table NET-7). -/
def macOffset (m : Nat) : Nat := 0x100 + m * 0x400

/-- Is MAC m on (R346)? -/
def ethOn (s : State) (m : Nat) : Bool := s.domOn 18 && s.clockOn 16 && s.on .ethEn m

/-- DTIME in ns. -/
def State.dtNs (s : State) : Nat := s.clk.sec * 1000000000 + s.clk.ns

/-! Reception (R346). -/

/-- MAC address of MAC m. -/
def macAddr (s : State) (m : Nat) : Nat := s.rd .ethMacHi m * 2 ^ 32 + s.rd .ethMacLo m

def etIp : Nat := 0x0800
def etArp : Nat := 0x0806
def etGptp : Nat := 0x88F7

/-- Big-endian field of a packet. -/
def netAt (l : List Byte) (k n : Nat) : Nat := beNat ((l.drop k).take n)

/-- Bytes of an IPv4 header. -/
def ipHead (d : List Byte) : Nat := netAt d 0 1 % 16 * 4

/-- An IPv4 packet that is no fragment and whose lengths hold. -/
def ipOk (d : List Byte) : Bool :=
  netAt d 0 1 / 16 == 4 && decide (20 ≤ ipHead d) && decide (ipHead d ≤ netAt d 2 2) && decide (netAt d 2 2 ≤ d.length) &&
    netAt d 6 2 % 16384 == 0

/-- Is a frame accepted? -/
def ethAccepts (s : State) (m : Nat) (f : EthFrame) : Bool :=
  decide (f.data.length ≤ 1500) &&
    (f.dst == macAddr s m || (f.dst == 2 ^ 48 - 1 && f.etype == etArp)) &&
    (!f.tagged || f.vid == 0 || f.vid == s.rd .ethVdpVid m) &&
    (f.etype != etIp || (ipOk f.data && netAt f.data 16 4 == s.rd .ethIp m))

/-- One's-complement sum of 16-bit words. -/
def onesSum : Nat → List Byte → Nat
  | 0, _ => 0
  | n + 1, l =>
    let t := onesSum n (l.drop 2) + beNat (padTo 2 (l.take 2))
    t % 65536 + t / 65536

/-- The answer to an ICMP echo request. -/
def echoReply (p : List Byte) : List Byte :=
  let rest := p.drop 4
  let z := leBytes 4 0 ++ rest
  beBytes 2 0 ++ beBytes 2 (65535 - onesSum (z.length / 2 + 1) z) ++ rest

/-- The answer to an ARP request for the address of MAC m. -/
def arpReply (s : State) (m : Nat) (d : List Byte) : List Byte :=
  d.take 6 ++ beBytes 2 2 ++ beBytes 6 (macAddr s m) ++ beBytes 4 (s.rd .ethIp m) ++ (d.drop 8).take 10

def arpReceive (m : Nat) (f : EthFrame) (s : State) : State :=
  let d := f.data
  if netAt d 0 6 = 0x000108000604 ∧ netAt d 6 2 = 1 ∧ netAt d 24 4 = s.rd .ethIp m ∧ 28 ≤ d.length then
    ethOut m 0 ⟨netAt d 8 6, 0, 0, etArp, arpReply s m d, 0⟩ s
  else s

/-! VDP at the port (R355, R356). -/

/-- Fields of a VDP header. -/
def vdpOp (d : List Byte) : Nat := leNat ((d.drop 3).take 1)
def vdpSeq (d : List Byte) : Nat := leNat ((d.drop 4).take 4)
def vdpSession (d : List Byte) : Nat := leNat ((d.drop 8).take 4)
def vdpCyc (d : List Byte) : Bool := bitOf (leNat ((d.drop 15).take 1)) 1
def vdpPay (d : List Byte) : List Byte := d.drop 16

/-- Does the header hold? -/
def vdpHeadOk (d : List Byte) : Bool :=
  decide (16 ≤ d.length) && leNat (d.take 2) == 0x5644 && leNat ((d.drop 2).take 1) == 1 && leNat ((d.drop 12).take 2) + 16 == d.length

/-- Byte k of a payload. -/
def payAt (p : List Byte) (k : Nat) : Nat := (p.getD k 0).toNat

/-- A SUBSCRIBE payload is well formed: a channel, a direction and a count that exist, a rate above 0, all entries there. -/
def subFormOk (p : List Byte) : Bool :=
  p.length == 4 + 4 * payAt p 2 && decide (payAt p 0 < 8) && decide (payAt p 1 < 3) && decide (payAt p 2 ≤ 8) &&
    (payAt p 1 != 2 || payAt p 2 == 0) && (payAt p 2 == 0 || payAt p 3 != 0)

/-- A payload is well formed for its opcode (Table NET-4). -/
def vdpFormOk (op : Nat) (cyc : Bool) (p : List Byte) : Bool :=
  match op with
  | 1 => p.length == 4 && payAt p 3 == 0
  | 2 => decide (4 ≤ p.length) && (if cyc then payAt p 0 < 8 && leNat ((p.drop 1).take 3) == 0 else payAt p 3 == 0)
  | 3 => decide (17 ≤ p.length)
  | 4 => p.length == 4 && payAt p 3 == 0
  | 5 => subFormOk p
  | _ => false

/-- A session stands for the sender of a datagram that has none. -/
def senderOf (x : VdpIn) : VdpSess := ⟨0, x.mac, x.src, x.ip, x.port, vdpSession x.data, 0, [], 0, none⟩

/-- Answer a datagram outside any session. -/
def vdpBare (x : VdpIn) (status : Nat) (s : State) : State :=
  vdpOut (senderOf x) 0 (vdpBytes s (vdpOp x.data) (vdpSeq x.data) (vdpSession x.data) status 1 []) s

def vdpBad (m : Nat) (s : State) : State :=
  let s := s.bump .ethVdpbad 1 m
  if m ∈ s.eth.badTold then s else raise .netVdpBadFrame 1 m { s with eth := { s.eth with badTold := m :: s.eth.badTold } }

def vdpReceive (x : VdpIn) (s : State) : State :=
  let d := x.data
  if !vdpHeadOk d then vdpBad x.mac s
  else if vdpSession d = 0 ∨ !vdpFormOk (vdpOp d) (vdpCyc d) (vdpPay d) then vdpBare x 3 s
  else { s with eth := { s.eth with vdpIn := s.eth.vdpIn ++ [x] } }

/-- An IPv4 packet for this device: an ICMP echo request is answered, a datagram to the VDP port goes to the server. -/
def ipReceive (m : Nat) (f : EthFrame) (s : State) : State :=
  let d := f.data.take (netAt f.data 2 2)
  let p := d.drop (ipHead d)
  let src := netAt d 12 4
  match netAt d 9 1 with
  | 1 => if netAt p 0 2 = 0x0800 then ethOut m 0 ⟨f.src, src, 0, etIp, echoReply p, 0⟩ s else s
  | 17 =>
    if netAt p 2 2 = s.rd .ethVdpPort m ∧ 8 ≤ netAt p 4 2 ∧ netAt p 4 2 ≤ p.length then
      vdpReceive ⟨m, f.src, src, netAt p 0 2, (p.take (netAt p 4 2)).drop 8⟩ s
    else s
  | _ => s

def ethFrameReceive (m : Nat) (f : EthFrame) (s : State) : State :=
  if ethOn s m ∧ s.on .ethLink m ∧ f.etype ≠ etGptp then
    if ethAccepts s m f then
      if !s.boot.p120 then s else if f.etype = etArp then arpReceive m f s else if f.etype = etIp then ipReceive m f s else s
    else s.bump .ethRxdrop 1 m
  else s

/-- ETH_FRAME_RECEIVE (R346, R355, R356): a frame whose check sequence holds. gPTP frames have rows of their own. -/
def execEthFrameReceive (dt : Nat) (m : Fin 2) (f : EthFrame) (s : State) : Out := after dt s (ethFrameReceive m f)

/-! Links and shapers (R354). -/

/-- Sum of the idle slopes of the shaped queues of MAC m. -/
def cbsSum (s : State) (m : Nat) : Nat := ((List.range 8).map fun q => if s.on .cbsEn m q then s.rd .cbsIdle m q else 0).sum

/-- Do the shapers keep within 75 % of the link rate? -/
def cbsFits (s : State) (m : Nat) : Bool := cbsSum s m * 4 ≤ linkRate s m * 3

/-- A write of ETHn_CBS_q. -/
def cbsWrite (tid m q v : Nat) (s : State) : State :=
  let t := creditUp m s
  let t := (t.wr .cbsEn v m q).wr .cbsIdle (v / 16) m q
  if cbsFits t m then t else netReject tid (macOffset m + 0x40 + 4 * q) s

def ethLinkChange (m : Nat) (up : Bool) (speed : Nat) (s : State) : State :=
  if !ethOn s m then s
  else if !up then
    if s.on .ethLink m then raise .netLinkDown 1 m ((creditUp m s).wr .ethLink 0 m) else s
  else
    let was := s.on .ethLink m
    let s := ((creditUp m s).wr .ethLink 1 m).wr .ethSpeed speed m
    let s := if was then s else raise .netLinkUp 1 (m + 2 * speed) s
    if cbsFits s m then s
    else
      let (k, s) := s.fresh
      netReject 1 ((Config.free k).toNat % 65536) (foldN 8 (fun q s => s.wr .cbsEn 0 m q) s)

/-- ETH_LINK_CHANGE (R345, R354): half duplex is a link that is down. The event for the shapers has no offset to tell: its ARG
is a free value. -/
def execEthLinkChange (dt : Nat) (m : Fin 2) (up : Bool) (speed : Fin 3) (s : State) : Out := after dt s (ethLinkChange m up speed)

/-! gPTP (R347 to R350). -/

/-- NET_SEC_OFS. -/
def secOfs (s : State) : Int := signed 48 (s.rd .netSecOfsHi * 2 ^ 32 + s.rd .netSecOfsLo)
def setSecOfs (x : Int) (s : State) : State :=
  let n := unsigned 48 x
  (s.wr .netSecOfsLo n).wr .netSecOfsHi (n / 2 ^ 32)

/-- Saturate to `w` bits. -/
def satInt (w : Nat) (x : Int) : Int := max (-(2 ^ (w - 1))) (min (2 ^ (w - 1) - 1) x)

/-- Ingress timestamp of an event message whose first bit crosses the interface now (R348). -/
def rxStamp (s : State) : Int := (s.dtNs : Int) - signed 16 (s.rd .ethLatRx (s.rd .gptpPort))

/-- Sync interval in ns. -/
def syncNs (s : State) : Nat :=
  let l := signed 4 (s.rd .gptpSyncLog)
  if 0 ≤ l then 1000000000 * 2 ^ l.toNat else 1000000000 / 2 ^ (-l).toNat

/-- The bound of 250 × 10^-6. -/
def slewMax : Rat := 250 / 1000000
def slewClamp (x : Rat) : Rat := max (-slewMax) (min slewMax x)

/-- DTIME_INC after reset, in 2^-32 ns (R51). -/
def incReset : Nat := 2 * dtUnit + 0x61861862

/-- Write DTIME_INC for a frequency correction f. -/
def writeInc (f : Rat) (s : State) : State :=
  let x := (incReset : Rat) * (1 - f)
  let n := (rne x.num x.den).toNat
  let s := s.wr .dtimeIncFrac n
  dtimeIncWrite (BitVec.ofNat 32 (n / dtUnit)) s

/-- Slew by an offset (R349). -/
def servoSlew (o : Int) (s : State) : State :=
  let t : Rat := syncNs s
  let i := slewClamp (s.eth.servo.i + 3 / 10 * (o : Rat) / t)
  let f := slewClamp (i + 7 / 10 * (o : Rat) / t)
  writeInc f { s with eth := { s.eth with servo := { s.eth.servo with i := i } } }

/-- The integer-second part of an offset. -/
def wholeSec (o : Int) : Int := Int.tdiv o 1000000000

/-- A step is due, or deferred while an axis runs (R349, R350). -/
def servoStep (o : Int) (s : State) : State :=
  let arg := unsigned 16 (satInt 16 (Int.tdiv (-o) 1000))
  if s.rd .ceAxRun ≠ 0 then
    let told := s.eth.servo.deferred
    let s := { s with eth := { s.eth with servo := { s.eth.servo with deferred := true } } }
    let s := if told then s else raise .netStepDeferred 1 arg s
    writeInc (if 0 < o then slewMax else -slewMax) s
  else
    let s := { s with eth := { s.eth with servo := { s.eth.servo with deferred := false } } }
    raise .netTimeStep 1 arg (dtimeAdj 1 (BitVec.ofInt 32 (-o)) s)

/-- State after a Sync with offset o (Table NET-2). -/
def servoNext (s : State) (newGm : Bool) (o : Int) : Nat :=
  let st := s.rd .netState
  if newGm ∨ st = 0 ∨ st = 3 then 1
  else if st = 2 ∧ 4 * s.rd .servoLockNs ≤ o.natAbs then 1
  else st

/-- A worker keeps its DTIME on the manager, a shadow on the active device: the gPTP servo stays OFF (R412, R435). -/
def servoOff (s : State) : Bool := s.rd .asmRole == 2 || s.rd .pairRole == 2

def gptpSync (gmSec gmNs : Nat) (newGm : Bool) (s : State) : State :=
  if s.on .gptpEn ∧ ethOn s (s.rd .gptpPort) ∧ s.boot.p120 ∧ !(servoOff s) then
    let o : Int := rxStamp s + secOfs s * 1000000000 - (gmSec * 1000000000 + gmNs)
    let st := servoNext s newGm o
    let near := o.natAbs < s.rd .servoLockNs
    let run := if near then (if s.rd .netState = st then s.eth.servo.run + 1 else 1) else 0
    let s := (s.wrS .netOfsNs (satInt 32 o)).wr .netState st
    let s := { s with eth := { s.eth with servo := { s.eth.servo with run := run, lastAt := s.now } } }
    let s := if st = 1 ∧ 8 ≤ run then raise .netGptpLocked 1 (s.rd .gptpPort) (s.wr .netState 2) else s
    if st = 2 then servoSlew o s
    else if 1000000000 ≤ o.natAbs then setSecOfs (secOfs s - wholeSec o) s
    else if s.rd .servoStepUs * 1000 ≤ o.natAbs then servoStep o s
    else servoSlew o { s with eth := { s.eth with servo := { s.eth.servo with deferred := false } } }
  else s

/-- GPTP_SYNC (R348 to R350): the first bit of a Sync crosses the interface; with the grandmaster's time at its arrival, as the 802.1AS
computation gives it with the mean link delay, and whether it is a new grandmaster. -/
def execGptpSync (dt gmSec gmNs : Nat) (newGm : Bool) (s : State) : Out := after dt s (gptpSync gmSec gmNs newGm)

def gptpSyncTimeout (s : State) : State :=
  if s.on .gptpEn ∧ (s.rd .netState = 1 ∨ s.rd .netState = 2) ∧ s.eth.servo.lastAt * 10 + 3 * syncNs s * 84 ≤ s.now * 10 then
    raise .netGptpLost 1 (s.rd .gptpPort) (s.wr .netState 3)
  else s

/-- GPTP_SYNC_TIMEOUT (R349). -/
def execGptpSyncTimeout (dt : Nat) (s : State) : Out := after dt s gptpSyncTimeout

/-! Gate lists (R352, R353). -/

/-- The segments of one cycle: intervals are cut at the cycle end, and the last entry is held to it. -/
def gateSegs : List GateEnt → Nat → List GateEnt
  | [], left => [⟨255, left⟩]
  | [e], left => [⟨e.gates, left⟩]
  | e :: t, left => if left ≤ e.ns then [⟨e.gates, left⟩] else e :: gateSegs t (left - e.ns)

/-- Gates at a time within the cycle. -/
def segAt : List GateEnt → Nat → Nat
  | [], _ => 255
  | [e], _ => e.gates
  | e :: t, k => if k < e.ns then e.gates else segAt t (k - e.ns)

/-- Segments of MAC m's operational list. -/
def EthMac.segs (x : EthMac) : List GateEnt := gateSegs x.oper x.cycle

/-- DTIME within the cycle of MAC m. -/
def inCycle (s : State) (m : Nat) : Nat :=
  let x := s.mac m
  (((s.dtNs : Int) - x.base) % (max x.cycle 1 : Nat)).toNat

/-- The gates follow DTIME. -/
def gateUpdate (m : Nat) (s : State) : State :=
  let s := creditUp m s
  s.setMac m { s.mac m with gates := if s.on .tasEn m then segAt (s.mac m).segs (inCycle s m) else 255 }

/-- An administrative list whose time has come is operational (R353). -/
def tasListActivate (m : Nat) (s : State) : State :=
  let x := s.mac m
  match x.adminAt with
  | none => s
  | some t =>
    if t ≤ s.dtNs then
      gateUpdate m ((s.setMac m { x with adminAt := none, oper := x.admin, cycle := x.adminCycle, base := x.adminBase }).wr .tasGo 0 m)
    else s

def tasGateEvent (m : Nat) (s : State) : State :=
  let s := tasListActivate m s
  if s.on .tasEn m then gateUpdate m s else s

/-- TAS_GATE_EVENT (R352). -/
def execTasGateEvent (dt : Nat) (m : Fin 2) (s : State) : Out := after dt s (tasGateEvent m)

/-- The administrative list; a length that the table does not have leaves the gates free. -/
def adminList (s : State) (m : Nat) : List GateEnt × State :=
  let n := s.rd .tasLen m
  if n = 0 ∨ 64 < n then
    let (k, s) := s.fresh
    ([⟨(Config.free k).toNat % 256, s.rd .tasCycle m⟩], s)
  else ((List.range n).map fun e => ⟨s.rd .gateMask m e, s.rd .gateInterval m e⟩, s)

/-- The earliest base + k × cycle at or after t. -/
def nextStart (base cycle t : Nat) : Nat := if t ≤ base then base else base + ceilDiv (t - base) cycle * cycle

def tasGo (tid m v : Nat) (s : State) : State :=
  let s := gateUpdate m ((tasListActivate m s).wr .tasEn v m)
  if !bitOf v 1 then s
  else
    let cyc := s.rd .tasCycle m
    if (s.mac m).adminAt.isSome ∨ cyc < 1000 ∨ 1000000000 < cyc then netReject tid (macOffset m + 0x20) s
    else
      let base := (s.rd .tasBaseSecHi m * 2 ^ 32 + s.rd .tasBaseSecLo m) * 1000000000 + s.rd .tasBaseNsec m
      let t := nextStart base cyc s.dtNs
      let (l, s) := adminList s m
      (s.setMac m { s.mac m with adminAt := some t, admin := l, adminCycle := cyc, adminBase := t }).wr .tasGo 1 m

/-- TAS_GO (R353). -/
def execTasGo (dt tid : Nat) (m : Fin 2) (v : Word) (s : State) : Out := after dt s (tasGo tid m v.toNat)

/-- TAS_LIST_ACTIVATE (R353). -/
def execTasListActivate (dt : Nat) (m : Fin 2) (s : State) : Out := after dt s (tasListActivate m)

/-! Transmission (R351, R352, R354). -/

/-- Time for which queue q stays open from the start of a list of segments; none if it never closes in it. -/
def openRun (q : Nat) : List GateEnt → Option Nat
  | [] => none
  | e :: t => if bitOf e.gates q then (openRun q t).map (e.ns + ·) else some 0

/-- The segments from a time within the cycle on. -/
def segsFrom : List GateEnt → Nat → List GateEnt
  | [], _ => []
  | e :: t, k => if k < e.ns then ⟨e.gates, e.ns - k⟩ :: t else segsFrom t (k - e.ns)

/-- Time left before the gate of queue q closes; none if it stays open for a whole cycle. -/
def openLeft (s : State) (m q : Nat) : Option Nat :=
  let l := (s.mac m).segs
  if s.on .tasEn m then openRun q (segsFrom l (inCycle s m) ++ l) else none

/-- The longest window of queue q; none if its gate never closes. -/
def longestOpen (s : State) (m q : Nat) : Option Nat :=
  let l := (s.mac m).segs
  if s.on .tasEn m then
    (List.range l.length).foldl (fun b k => match b, openRun q (l.drop k ++ l) with
      | some b, some r => some (max b r)
      | _, _ => none) (some 0)
  else none

/-- A frame's bytes on the line, with the preamble, the check sequence and the interframe gap. -/
def frameBytes (s : State) (m : Nat) (f : EthOut) : Nat :=
  let pay := f.data.length + (if f.etype = etIp then (if f.port = 0 then 20 else 28) else 0)
  let tag := if s.rd .ethVdpVid m ≠ 0 ∧ f.port ≠ 0 then 4 else 0
  8 + max 64 (18 + tag + pay) + 12

/-- Its time on the line in ns. -/
def frameNs (s : State) (m : Nat) (f : EthOut) : Nat := frameBytes s m f * 8 * bitNs s m

/-- Does a frame fit a window? -/
def fits (ns : Nat) (w : Option Nat) : Bool :=
  match w with
  | none => true
  | some t => decide (ns ≤ t)

/-- The first frame of queue q that is queued by now. -/
def queueHead (s : State) (m q : Nat) : Option EthOut := ((s.mac m).q.get [] q).find? fun f => f.due ≤ s.dtNs

/-- May queue q start its frame? -/
def mayStart (s : State) (m q : Nat) : Bool :=
  match queueHead s m q with
  | none => false
  | some f => gateOpen s m q && (!(s.on .cbsEn m q) || decide (0 ≤ creditNow s m q)) && fits (frameNs s m f) (openLeft s m q)

/-- Can the frame of queue q never fit? -/
def neverFits (s : State) (m q : Nat) : Bool :=
  match queueHead s m q with
  | none => false
  | some f => !fits (frameNs s m f) (longestOpen s m q)

/-- Take the frame of queue q off. -/
def takeHead (m q : Nat) (f : EthOut) (s : State) : State :=
  let s := creditUp m s
  let x := s.mac m
  s.setMac m { x with q := x.q.set q ((x.q.get [] q).erase f) }

/-- Put a frame on the line: `addr` holds the destination MAC, IPv4 address and UDP port. -/
def startFrame (m q : Nat) (f : EthOut) (s : State) : State :=
  let t := ceilDiv (frameNs s m f * 84) 10
  let s := takeHead m q f s
  let x := s.mac m
  let s := s.setMac m { x with freeAt := s.now + t, sendEnd := x.sendEnd.set q (s.now + t) }
  s.send .eth (m * 8 + q) (f.mac * 2 ^ 48 + f.ip * 2 ^ 16 + f.port) f.data

def ethFrameTransmit (m : Nat) (s : State) : State :=
  let s := tasListActivate m s
  if !(ethOn s m && s.on .ethLink m) then s
  else
    let free := decide ((s.mac m).freeAt ≤ s.now)
    match (List.range 8).reverse.find? fun q => free && mayStart s m q with
    | some q => match queueHead s m q with
      | none => s
      | some f => startFrame m q f s
    | none =>
      match (List.range 8).reverse.find? fun q => neverFits s m q with
      | none => s
      | some q => match queueHead s m q with
        | none => s
        | some f => raise .netGateDrop 1 (m + 2 * q) ((takeHead m q f s).bump .ethTasdrop 1 m)

/-- ETH_FRAME_TRANSMIT (R351, R352, R354). -/
def execEthFrameTransmit (dt : Nat) (m : Fin 2) (s : State) : Out := after dt s (ethFrameTransmit m)

end Sys2Proof.Machine
end

