-- ==== Sys2Proof/Machine/Vdp.lean ====
section
/-! DEFINITION. The VDP server: sessions, requests, channels, cyclic exchange and event pushes (chapter 17). -/

namespace Sys2Proof.Machine

/-! Sessions (R357). -/

/-- The session of a datagram. -/
def vdpFind (x : VdpIn) (s : State) : Option VdpSess :=
  s.eth.sess.find? fun y => y.ip == x.ip && y.port == x.port && y.id == vdpSession x.data

/-- Channels that a session holds. -/
def holds (s : State) (no : Nat) : Bool := s.eth.chan.any fun c => c.2.any fun y => y.no == no

/-- The least recently used session without a channel. -/
def lruSess (s : State) : Option VdpSess :=
  (s.eth.sess.filter fun y => !holds s y.no).foldl (fun b y => match b with
    | some x => if y.lastAt < x.lastAt then some y else some x
    | none => some y) none

/-- Add a session, replacing `drop` if given. -/
def addSess (x : VdpIn) (drop : Option VdpSess) (s : State) : Nat × State :=
  let keep := match drop with
    | some y => s.eth.sess.filter fun z => z.no != y.no
    | none => s.eth.sess
  let no := s.eth.made + 1
  let y : VdpSess := ⟨no, x.mac, x.src, x.ip, x.port, vdpSession x.data, vdpSeq x.data, [], s.now, none⟩
  (no, { s with eth := { s.eth with sess := keep ++ [y], made := no } })

/-- What a datagram meets: it is processed under a session number, or it is dealt with here (none). -/
def vdpAdmit (x : VdpIn) (s : State) : Option Nat × State :=
  match vdpFind x s with
  | some y =>
    let d := signed 32 (vdpSeq x.data + 2 ^ 32 - y.seq)
    let s := setSess { y with lastAt := s.now } s
    if 0 < d then
      (some y.no, setSess { y with mac := x.mac, src := x.src, seq := vdpSeq x.data, ans := [], lastAt := s.now } s)
    else if d = 0 then (none, if y.ans.isEmpty then s else vdpOut { y with mac := x.mac, src := x.src } 0 y.ans s)
    else (none, s.bump .ethVdpstale 1 x.mac)
  | none =>
    if s.eth.sess.length < 16 then
      let (no, s) := addSess x none s
      (some no, s)
    else
      match lruSess s with
      | some y =>
        let (no, s) := addSess x (some y) s
        (some no, s)
      | none => (none, vdpBare x 2 s)

/-- A session ends, and its channels with it. -/
def dropSess (no : Nat) (s : State) : State :=
  let s := { s with eth := { s.eth with sess := s.eth.sess.filter fun y => y.no != no } }
  foldN 8 (fun c s =>
    if (s.eth.chan.get none c).any fun y => y.no == no then { s with eth := { s.eth with chan := s.eth.chan.set c none } } else s) s

/-- Sessions without a request for 10 s are gone (R357). -/
def vdpSessionLapse (s : State) : State :=
  (s.eth.sess.filter fun y => y.lastAt + 10 * rootPerS ≤ s.now).foldl (fun s y => dropSess y.no s) s

/-- Serve the front datagram where it carries the opcode `op` (and CYC as asked), within its session. -/
def vdpServe (op : Nat) (cyc : Bool) (f : VdpIn → Nat → State → State) (s : State) : State :=
  match s.eth.vdpIn with
  | [] => s
  | x :: t =>
    if vdpOp x.data = op ∧ (op ≠ 2 ∨ vdpCyc x.data = cyc) then
      match vdpAdmit x (vdpSessionLapse { s with eth := { s.eth with vdpIn := t } }) with
      | (some no, s) => f x no s
      | (none, s) => s
    else s

/-- A dictionary request from a datagram. -/
def vdpReq (x : VdpIn) (no : Nat) (op : OdOp) (idx sub : Nat) (s : State) : State :=
  odReceive ⟨.vdp no (vdpSeq x.data) (vdpOp x.data), op, idx, sub⟩ s

/-- Index and sub-index of a payload. -/
def payIdx (p : List Byte) : Nat := leNat (p.take 2)
def paySub (p : List Byte) : Nat := payAt p 2

def vdpRead (s : State) : State :=
  vdpServe 1 false (fun x no => vdpReq x no .read (payIdx (vdpPay x.data)) (paySub (vdpPay x.data))) s

/-- VDP_READ (R358). -/
def execVdpRead (dt : Nat) (s : State) : Out := after dt s vdpRead

def vdpWrite (s : State) : State :=
  vdpServe 2 false
    (fun x no => vdpReq x no (.write ((vdpPay x.data).drop 4)) (payIdx (vdpPay x.data)) (paySub (vdpPay x.data))) s

/-- VDP_WRITE (R358). -/
def execVdpWrite (dt : Nat) (s : State) : Out := after dt s vdpWrite

def vdpAuthWrite (s : State) : State := vdpServe 3 false (fun x no => vdpReq x no (.write (vdpPay x.data)) 0x3801 1) s

/-- VDP_AUTH_WRITE (R364). -/
def execVdpAuthWrite (dt : Nat) (s : State) : Out := after dt s vdpAuthWrite

def vdpBlockRead (s : State) : State :=
  vdpServe 4 false (fun x no => vdpReq x no .block (payIdx (vdpPay x.data)) (paySub (vdpPay x.data))) s

/-- VDP_BLOCK_READ (R358). -/
def execVdpBlockRead (dt : Nat) (s : State) : Out := after dt s vdpBlockRead

/-! Channels (R359). -/

def State.chan (s : State) (c : Nat) : Option VdpChan := s.eth.chan.get none c
def State.setChan (s : State) (c : Nat) (x : Option VdpChan) : State := { s with eth := { s.eth with chan := s.eth.chan.set c x } }

/-- The cycle of MAC m in which a DTIME lies: its number and start. -/
def cycleAt (s : State) (m t : Nat) : Nat × Nat :=
  if s.on .tasEn m then
    let x := s.mac m
    let c := max x.cycle 1
    ((t - x.base) / c, x.base + (t - x.base) / c * c)
  else (t / 1000000, t / 1000000 * 1000000)

/-- Length of a cycle of MAC m in ns. -/
def cycleNs (s : State) (m : Nat) : Nat := if s.on .tasEn m then (s.mac m).cycle else 1000000

/-- Mapping entries of a SUBSCRIBE payload. -/
def subMap (p : List Byte) : List Nat := (List.range (payAt p 2)).map fun k => leNat ((p.drop (4 + 4 * k)).take 4)

/-- May an entry be mapped in a channel? -/
def chanMapOk (dir e : Nat) : Bool := mapOk (dir == 1) e && [8, 16, 32, 64].contains (e % 256)

def vdpSubscribe (s : State) : State :=
  vdpServe 5 false
    (fun x no s =>
      let p := vdpPay x.data
      let c := payAt p 0
      let dir := payAt p 1
      let done (st : Nat) (pay : List Byte) : State → State := vdpAnswer no (vdpSeq x.data) 5 st pay
      if !dictReady s then done 2 [] s
      else if (s.chan c).any fun y => y.no != no then done 1 (leBytes 4 abState) s
      else if dir = 2 then done 0 [] (s.setChan c (some ⟨no, 2, payAt p 3, [], s.log.next, 0, false⟩))
      else if payAt p 2 = 0 then done 0 [] (s.setChan c none)
      else if !((subMap p).all (chanMapOk dir)) then done 1 (leBytes 4 abNoMap) s
      else
        let k := if s.on .tasEn x.mac then 0 else (cycleAt s x.mac s.dtNs).1 + 1
        done 0 [] (s.setChan c (some ⟨no, dir, payAt p 3, subMap p, k, if dir = 1 then s.now else 0, false⟩)))
    s

/-- VDP_SUBSCRIBE (R359). -/
def execVdpSubscribe (dt : Nat) (s : State) : Out := after dt s vdpSubscribe

/-! Cyclic exchange (R360). -/

/-- Cut packed values by mapping entries. -/
def unpack : List Nat → List Byte → List PdVal
  | [], _ => []
  | e :: t, l => ⟨bitsOf e 16 16, bitsOf e 8 8, e % 256, l.take (e % 256 / 8)⟩ :: unpack t (l.drop (e % 256 / 8))

/-- The session of a number, if it has not lapsed. -/
def State.liveSess (s : State) (no : Nat) : Option VdpSess :=
  match s.sessOf no with
  | none => none
  | some z => if z.lastAt + 10 * rootPerS ≤ s.now then none else some z

/-- Bytes of the mapped values. -/
def mapBytes (l : List Nat) : Nat := (l.map fun e => e % 256 / 8).sum

def vdpCyclicWrite (s : State) : State :=
  vdpServe 2 true
    (fun x no s =>
      let p := vdpPay x.data
      match s.chan (payAt p 0) with
      | none => s
      | some y =>
        if y.no = no ∧ y.dir = 1 ∧ p.length = 4 + mapBytes y.map then
          vdpReq x no (.process (unpack y.map (p.drop 4)) 0) 0 0 (s.setChan (payAt p 0) (some { y with last := s.now, told := false }))
        else s)
    s

/-- VDP_CYCLIC_WRITE (R360): a frame whose channel the session does not consume, or whose length is not that of its mapping, has
no effect. -/
def execVdpCyclicWrite (dt : Nat) (s : State) : Out := after dt s vdpCyclicWrite

/-- The time block (R361). -/
def timeBlock (s : State) : List Byte := leBytes 6 s.clk.sec ++ leBytes 4 s.clk.ns ++ leBytes 6 (unsigned 48 (secOfs s))

/-- Queue an EVENT frame; its SEQ is free. -/
def vdpEvent (y : VdpSess) (q flags due : Nat) (pay : List Byte) (s : State) : State :=
  let (k, s) := s.fresh
  ethOut y.mac q ⟨y.src, y.ip, y.port, etIp, vdpBytes s 6 (Config.free k).toNat y.id 0 flags pay, due⟩ s

/-- The offset in a cycle at which queue q first opens. -/
def firstOpen (q : Nat) : List GateEnt → Nat → Option Nat
  | [], _ => none
  | e :: t, k => if bitOf e.gates q ∧ 0 < e.ns then some k else firstOpen q t (k + e.ns)

/-- The value of a mapped object. -/
def mapVal (s : State) (e : Nat) : List Byte :=
  match objAt (bitsOf e 16 16) (bitsOf e 8 8) with
  | some k => odBytes s k
  | none => []

/-- Has DTIME reached a time of `t` ns in this CECLK? -/
def dtReaches (s : State) (t : Nat) : Bool :=
  decide (t * dtUnit ≤ s.clk.total) && decide (s.clk.total < t * dtUnit + max s.clk.inc 1)

/-- Cyclic publication of channel c: the read, and the frame. -/
def publish (c : Nat) (y : VdpChan) (z : VdpSess) (cyc due : Nat) (s : State) : State :=
  let pay := timeBlock s ++ leBytes 1 c ++ leBytes 3 0 ++ y.map.flatMap (mapVal s)
  vdpEvent z (s.rd .ethVdpCycq z.mac) 2 due pay (s.setChan c (some { y with last := cyc + 1 }))

def vdpCyclicPublish (c : Nat) (s : State) : State :=
  match s.chan c with
  | none => s
  | some y =>
    match s.liveSess y.no with
    | none => s
    | some z =>
      let s := tasListActivate z.mac s
      let lead := s.rd .netCycLead * 1000
      let (cyc, start) := cycleAt s z.mac (s.dtNs + lead)
      let tas := s.on .tasEn z.mac
      match (if tas then firstOpen (s.rd .ethVdpCycq z.mac) (s.mac z.mac).segs 0 else some 0) with
      | none => s
      | some k =>
        if y.dir = 0 ∧ dictReady s ∧ lead ≤ start + k ∧ dtReaches s (start + k - lead) ∧ y.last ≤ cyc ∧ y.from_ ≤ cyc ∧ (cyc - y.from_) % y.m = 0 then
          publish c y z cyc (if tas then 0 else start) s
        else s

/-- VDP_CYCLIC_PUBLISH (R360). -/
def execVdpCyclicPublish (dt : Nat) (c : Fin 8) (s : State) : Out := after dt s (vdpCyclicPublish c)

def vdpCycTimeout (c : Nat) (s : State) : State :=
  match s.chan c with
  | none => s
  | some y =>
    match s.liveSess y.no with
    | none => s
    | some z =>
      if y.dir = 1 ∧ !y.told ∧ y.last * 10 + 3 * y.m * cycleNs s z.mac * 84 ≤ s.now * 10 then
        raise .netCycTimeout 1 c (s.setChan c (some { y with told := true }))
      else s

/-- VDP_CYC_TIMEOUT (R360). -/
def execVdpCycTimeout (dt : Nat) (c : Fin 8) (s : State) : Out := after dt s (vdpCycTimeout c)

/-! Event pushes (R361). -/

/-- Bit of a class in a class mask. -/
def classBit (code : Nat) : Nat :=
  match evClass code with
  | .safety => 3
  | .error => 2
  | .warning => 1
  | .info => 0

/-- Records from number `n` on that the log still holds: the number of the first, and the records. -/
def recsFrom (l : LogSt) (n : Nat) : Nat × List EvRec :=
  let d := signed 32 (l.next + 2 ^ 32 - n)
  let k := if d ≤ 0 then 0 else min d.toNat l.recs.length
  (l.next + 2 ^ 32 - k, (l.recs.take k).reverse)

def vdpEventPush (c : Nat) (s : State) : State :=
  match s.chan c with
  | none => s
  | some y =>
    match s.liveSess y.no with
    | none => s
    | some z =>
      let free : Bool := match z.push with
        | some t => decide (t + rootPerMs ≤ s.now)
        | none => true
      let (n0, l) := recsFrom s.log y.from_
      let pick := ((l.zipIdx).filter fun r => bitOf y.m (classBit r.1.code)).take 64
      match pick.getLast? with
      | none => s
      | some last =>
        if y.dir = 2 ∧ free then
          let s := s.setChan c (some { y with from_ := (n0 + last.2 + 1) % 2 ^ 32 })
          let s := setSess { z with push := some s.now } s
          vdpEvent z 0 0 0 (timeBlock s ++ pick.flatMap fun r => r.1.bytes) s
        else s

/-- VDP_EVENT_PUSH (R361), for the subscriber of channel c. -/
def execVdpEventPush (dt : Nat) (c : Fin 8) (s : State) : Out := after dt s (vdpEventPush c)

/-- VDP_SESSION_LAPSE (R357). -/
def execVdpSessionLapse (dt : Nat) (s : State) : Out := after dt s vdpSessionLapse

end Sys2Proof.Machine
end

