-- ==== Sys2Proof/Machine/Pcie.lean ====
section
/-! DEFINITION. The PCIe endpoint and the queue pairs (chapter 18). Inbound accesses stand in Inbound.lean. -/

namespace Sys2Proof.Machine

/-- A completion to the host: 0 successful, 1 UR, 2 Retry Status, 4 Completer Abort, 8 successful with the EP bit set. -/
def cpl (status : Nat) (data : List Byte) (s : State) : State := s.send .pcieCpl status 0 data

/-! Configuration space (R372, R373, R391). -/

/-- Does the runtime serve the host? -/
def hostServed (s : State) : Bool := s.boot.p120 && s.saf.restart.isNone && s.can.node.up

/-- A BAR register: bits of the address that software sets, and its fixed low bits. -/
def barMask (k : Nat) : Nat × Nat :=
  match k with
  | 0 => (0xFFFF0000, 4)
  | 1 => (0xFFFFFFFF, 0)
  | 2 => (0, 12)
  | 3 => (0xFFFFFFFF, 0)
  | _ => (0, 0)

/-- The value of a configuration register; what the spec does not lay out is free. -/
def cfgValue (r : CfgReg) (s : State) : Nat × State :=
  let (k, s) := s.fresh
  let f := (Config.free k).toNat
  let v := match r with
    | .ids => 0x42001F6B
    | .command => s.host.cmd + f / 65536 * 65536
    | .classRev => 0x120000B0
    | .bar k => s.host.bars.get 0 k &&& (barMask k).1 ||| (barMask k).2
    | .subsys => 0x1F6B + 65536 * b2n Config.orderXb
    | .intPin => f % 256
    | .msixCtl => 0x11 + f / 256 % 256 * 256 + 65536 * (0xFF + 16384 * b2n s.host.msixMask + 32768 * b2n s.host.msixEn)
    | .serialLo => Config.serial.toNat % 2 ^ 32
    | .serialHi => Config.serial.toNat / 2 ^ 32
    | .other _ => f
  (v, s)

/-- Vectors that were pending while masked are signalled. -/
def msixUnmask (s : State) : State :=
  foldN 256 (fun v s =>
    if s.rdBit .msixPba (v % 32) (v / 32) ∧ s.host.msixEn ∧ !s.host.msixMask ∧ !(s.rdBit .msixTable 0 (4 * v + 3)) then
      msix v (s.wrBit .msixPba (v % 32) false (v / 32))
    else s) s

/-- A write of a configuration register. -/
def cfgWrite (r : CfgReg) (v : Nat) (s : State) : State :=
  match r with
  | .command => { s with host := { s.host with cmd := v % 65536 } }.wr .pcieBme (bitsOf v 2 1)
  | .bar k => { s with host := { s.host with bars := s.host.bars.set k (v &&& (barMask k).1) } }
  | .msixCtl => msixUnmask { s with host := { s.host with msixEn := bitOf v 31, msixMask := bitOf v 30 } }
  | _ => s

def pcieConfigRequest (r : CfgReg) (w : Option Word) (s : State) : State :=
  if !(s.on .pcieUp) ∨ s.host.perst then s
  else if !(s.on .pcieReady) then cpl 2 [] s
  else
    match w with
    | some v => cpl 0 [] (cfgWrite r v.toNat s)
    | none =>
      let (v, s) := cfgValue r s
      cpl 0 (leBytes 4 v) s

/-- PCIE_CONFIG_REQUEST (R391): a read, or a write of a value. -/
def execPcieConfigRequest (dt : Nat) (r : CfgReg) (w : Option Word) (s : State) : Out := after dt s (pcieConfigRequest r w)

/-! Queue pairs (R380 to R386). -/

/-- A dead queue pair number: answers to it go nowhere. -/
def deadQp : Nat := 64

/-- A request of queue pair q answers nothing any more. -/
def orphan (q : Nat) (r : OdReq) : OdReq :=
  match r.src with
  | .pcie p cid => if p = q then { r with src := .pcie deadQp cid } else r
  | _ => r

def orphanAll (q : Nat) (s : State) : State :=
  { s with
    od := { s.od with queue := s.od.queue.map (orphan q),
                      store := s.od.store.map fun x => { x with req := orphan q x.req },
                      auth := s.od.auth.map fun x => { x with req := orphan q x.req } },
    dwl := { s.dwl with fwd := s.dwl.fwd.map fun x => { x with req := orphan q x.req } } }

/-- Queue pair q ends (R386): contexts, apertures and memory; its TIDs stay taken until they are retired. -/
def endQp (q : Nat) (s : State) : State :=
  let x := s.qp q
  if !x.live then s
  else
    let s := (s.host.models.filter fun m => m.qp == q).foldl (fun s m => endContext m.slot s) s
    let s := foldN 64 (fun a s => if q ≠ 0 ∧ s.on .apEn a ∧ s.rd .apTid a = x.tid then s.wr .apEn 0 a else s) s
    let s := { s with host := { s.host with models := s.host.models.filter fun m => m.qp != q,
                                            mems := s.host.mems.filter fun m => m.qp != q,
                                            hints := s.host.hints.filter fun m => m.qp != q,
                                            move := s.host.move.filter fun m => m.qp != q,
                                            replicas := s.host.replicas.filter fun m => m.qp != q } }
    let s := orphanAll q (s.setQp q .init)
    if q < 32 then s.wrBit .hostQpErrLo q false else s.wrBit .hostQpErrHi (q - 32) false

/-- Every queue pair ends. -/
def endAllQps (s : State) : State := foldN 64 endQp s

/-- A queue pair begins: its doorbell registers start at 0. -/
def beginQp (q : Nat) (x : Qp) (s : State) : State := ((s.setQp q { x with live := true }).wr .sqTail 0 q).wr .cqHead 0 q

/-- HOST_STAT.RDY follows the admin queue pair and the runtime. -/
def showRdy (s : State) : State :=
  let v := b2n (s.on .hostEn && hostServed s && (s.qp 0).live)
  if s.rd .hostRdy = v then s else hostChanged (s.wr .hostRdy v)

def hostEnable (s : State) : State :=
  if s.on .hostEn then s
  else
    let x : Qp := { Qp.init with sqBase := s.rd .hostAqSqHi * 2 ^ 32 + s.rd .hostAqSqLo * 4096,
                                 cqBase := s.rd .hostAqCqHi * 2 ^ 32 + s.rd .hostAqCqLo * 4096,
                                 sqSize := s.rd .hostAqSizeSq + 1, cqSize := s.rd .hostAqSizeCq + 1, tid := 1 }
    showRdy (beginQp 0 x (s.wr .hostEn 1))

/-- HOST_ENABLE (R380): the write of HOST_CTRL.EN = 1. -/
def execHostEnable (dt : Nat) (s : State) : Out := after dt s hostEnable

def hostDisable (s : State) : State := if s.on .hostEn then showRdy (endAllQps (s.wr .hostEn 0)) else s

/-- HOST_DISABLE (R380): the write of HOST_CTRL.EN = 0. -/
def execHostDisable (dt : Nat) (s : State) : Out := after dt s hostDisable

def sqDoorbell (q v : Nat) (s : State) : State :=
  let x := s.qp q
  if !x.live then s.wr .sqTail v q
  else if x.err then s
  else if x.sqSize ≤ v then qpError q 0 s
  else s.wr .sqTail v q

/-- PCIE_SQ_DOORBELL (R382). -/
def execPcieSqDoorbell (dt : Nat) (q : Fin 64) (v : BitVec 12) (s : State) : Out := after dt s (sqDoorbell q v.toNat)

def cqDoorbell (q v : Nat) (s : State) : State :=
  let x := s.qp q
  if !x.live then s.wr .cqHead v q
  else if x.err then s
  else
    let n := (v + x.cqSize - s.rd .cqHead q) % x.cqSize
    if x.cqSize ≤ v ∨ x.posted < n then qpError q 1 s
    else (s.setQp q { x with posted := x.posted - n }).wr .cqHead v q

/-- PCIE_CQ_DOORBELL (R382). -/
def execPcieCqDoorbell (dt : Nat) (q : Fin 64) (v : BitVec 12) (s : State) : Out := after dt s (cqDoorbell q v.toNat)

/-- An SQ entry from its bytes (Table PCI-5). -/
def sqEntry (l : List Byte) : SqEntry :=
  ⟨leNat (l.take 1), leNat ((l.drop 2).take 2), leNat ((l.drop 4).take 4), leNat ((l.drop 8).take 8), (l.drop 16).take 48⟩

/-- A little-endian field of the PARAM bytes; `k` is the byte of the entry. -/
def SqEntry.par (e : SqEntry) (k n : Nat) : Nat := leNat ((e.param.drop (k - 16)).take n)

/-- R384, Table PCI-7: may queue pair q ask this? -/
def sqOpOk (q : Nat) (e : SqEntry) : Bool :=
  match e.op with
  | 0x01 => q == 0
  | 0x02 => q == 0
  | 0x10 => true
  | 0x11 => true
  | 0x12 => true
  | 0x20 => q != 0 && decide (1 ≤ e.par 16 2) && decide (e.par 16 2 ≤ 9)
  | _ => false

/-- The running command of queue pair q completes without a stated VALUE. -/
def cqBare (q status : Nat) (s : State) : State :=
  match (s.qp q).cur with
  | none => s
  | some e =>
    let (f, s) := fresh64 s
    cqPost q e.cid f status s

def sqFetch (q : Nat) (l : Option (List Byte)) (s : State) : State :=
  let x := s.qp q
  if x.live ∧ !x.err ∧ x.cur.isNone ∧ x.sqHead ≠ s.rd .sqTail q ∧ x.posted + x.held.length < x.cqSize ∧ hostServed s ∧
      !(s.on .pcieD3) ∧ !(flrRuns s) then
    match (if hostOpen s then l else none) with
    | none => qpError q 2 s
    | some l =>
      let e := sqEntry (padTo 64 l)
      let s := s.setQp q { x with cur := some e, given := false, sqHead := (x.sqHead + 1) % x.sqSize }
      if !sqOpOk q e then cqBare q 3 s
      else if e.op = 0x20 ∧ !dictReady s then cqBare q 2 s
      else s
  else s

/-- PCIE_SQ_FETCH (R383, R384, R387): the 64 bytes of the entry, or none where the read fails. -/
def execPcieSqFetch (dt : Nat) (q : Fin 64) (l : Option (List Byte)) (s : State) : Out := after dt s (sqFetch q l)

/-- Run `f` on the command of queue pair q where it carries the opcode `op` and does not lie with the server. -/
def onCmd (q op : Nat) (f : SqEntry → State → State) (s : State) : State :=
  let x := s.qp q
  match x.cur with
  | none => s
  | some e => if x.live ∧ !x.err ∧ !x.given ∧ e.op = op then f e s else s

/-- Complete the command of queue pair q with OK and a value. -/
def cmdOk (q v : Nat) (s : State) : State :=
  match (s.qp q).cur with
  | none => s
  | some e => cqPost q e.cid v 0 s

/-- Complete with FAILED and an error code. -/
def cmdFail (q v : Nat) (s : State) : State :=
  match (s.qp q).cur with
  | none => s
  | some e => cqPost q e.cid v 4 s

/-- Are the parameters of CREATE_QP within Table PCI-6? -/
def qpParamsOk (e : SqEntry) : Bool :=
  let inR (lo hi v : Nat) : Bool := lo ≤ v && v ≤ hi
  inR 1 4095 (e.par 32 2) && inR 1 4095 (e.par 34 2) && inR 1 63 (e.par 36 2) && inR 1 255 (e.par 38 1) &&
    e.par 16 8 % 4096 == 0 && e.par 24 8 % 4096 == 0

/-- A TID that a queue pair or a context may take. -/
def tidFree (s : State) (t : Nat) : Bool := decide (24 ≤ t) && decide (t ≤ 1023) && !(s.host.tids.contains t)

def createQp (q tid : Nat) (s : State) : State :=
  onCmd 0 0x01
    (fun e s =>
      if !qpParamsOk e then cqBare 0 3 s
      else if (List.range 64).all fun k => (s.qp k).live then cmdFail 0 molNoslot s
      else if (s.qp q).live ∨ q = 0 ∨ !tidFree s tid then s
      else
        let x : Qp := { Qp.init with sqBase := e.par 16 8, cqBase := e.par 24 8, sqSize := e.par 32 2 + 1, cqSize := e.par 34 2 + 1,
                                     vec := e.par 36 2, cnt := e.par 38 1, time := e.par 39 1, tid := tid }
        let s := beginQp q x { s with host := { s.host with tids := tid :: s.host.tids } }
        cmdOk 0 (q + tid * 65536) s) s

/-- CREATE_QP (R386): with the queue pair and the process TID that the runtime takes. -/
def execCreateQp (dt : Nat) (q : Fin 64) (tid : Nat) (s : State) : Out := after dt s (createQp q tid)

def deleteQp (s : State) : State :=
  onCmd 0 0x02
    (fun e s =>
      let q := e.par 16 1
      if q = 0 ∨ 64 ≤ q ∨ !(s.qp q).live then cqBare 0 3 s else cmdOk 0 0 (endQp q s)) s

/-- DELETE_QP (R386). -/
def execDeleteQp (dt : Nat) (s : State) : Out := after dt s deleteQp

/-! Dictionary opcodes (R385). -/

/-- Give the command of queue pair q to the dictionary server. -/
def giveOd (q : Nat) (e : SqEntry) (op : OdOp) (s : State) : State :=
  odReceive ⟨.pcie q e.cid, op, e.par 16 2, e.par 18 1⟩ (s.setQp q { s.qp q with given := true })

/-- PCIE_OD_READ (R385). -/
def execPcieOdRead (dt : Nat) (q : Fin 64) (s : State) : Out := after dt s (onCmd q 0x10 fun e => giveOd q e .read)

/-- The bytes of a value in PARAM: in the size of the object's type. -/
def paramValue (e : SqEntry) : List Byte :=
  let n := match objAt (e.par 16 2) (e.par 18 1) with
    | some k => if k.o.info.ty.bits = 0 then 8 else k.o.info.ty.bits / 8
    | none => 8
  leBytes n (e.par 24 8)

def pcieOdWrite (q : Nat) (data : List Byte) (s : State) : State :=
  onCmd q 0x11
    (fun e s =>
      if e.len = 0 then giveOd q e (.write (paramValue e)) s
      else if !hostOpen s then qpError q 2 s
      else giveOd q e (.write (padTo e.len (data.take e.len))) s) s

/-- PCIE_OD_WRITE (R385): with the LEN bytes that lie at PTR. -/
def execPcieOdWrite (dt : Nat) (q : Fin 64) (data : List Byte) (s : State) : Out := after dt s (pcieOdWrite q data)

/-- PCIE_OD_BLOCK_READ (R385). -/
def execPcieOdBlockRead (dt : Nat) (q : Fin 64) (s : State) : Out := after dt s (onCmd q 0x12 fun e => giveOd q e .block)

/-! Interrupts (R389, R390). -/

def cqCoalesce (q : Nat) (s : State) : State :=
  let x := s.qp q
  if x.live ∧ !x.err ∧ 0 < x.fresh ∧ x.time ≠ 0 ∧ s.now = x.oldest + x.time * rootPerUs ∧ !(s.on .pcieD3) then cqSignal q s else s

/-- The signal of a coalescing time that passed in D3hot (R395). -/
def cqOverdue (q : Nat) (s : State) : State :=
  let x := s.qp q
  if x.live ∧ !x.err ∧ 0 < x.fresh ∧ x.time ≠ 0 ∧ x.oldest + x.time * rootPerUs ≤ s.now then cqSignal q s else s

/-- CQ_COALESCE_SIGNAL (R389): the coalescing time passes. -/
def execCqCoalesceSignal (dt : Nat) (q : Fin 64) (s : State) : Out := after dt s (cqCoalesce q)

def logMsix (s : State) : State :=
  let free : Bool := match s.host.logAt with
    | some t => decide (t + rootPerMs ≤ s.now)
    | none => true
  if free ∧ (recsFrom s.log s.host.logSeq).2.any fun r => s.rdBit .hostEvmask (classBit r.code) then
    msix 128 { s with host := { s.host with logAt := some s.now, logSeq := s.log.next } }
  else s

/-- LOG_MSIX_SIGNAL (R389, Table PCI-8). -/
def execLogMsixSignal (dt : Nat) (s : State) : Out := after dt s logMsix

/-- The notification of a channel is cleared on both sides. -/
def noteClear (ch : Nat) (s : State) : State :=
  let s := s.wr .chNote 0 ch
  if ch < 32 then s.wrBit .hostNoteLo ch false else s.wrBit .hostNoteHi (ch - 32) false

def hostNoteClear (hi : Bool) (v : Nat) (s : State) : State :=
  foldN 32 (fun k s => if bitOf v k then noteClear (k + 32 * b2n hi) s else s) s

/-- HOST_NOTE_CLEAR (R390): a write of HOST_NOTE_LO or HOST_NOTE_HI. -/
def execHostNoteClear (dt : Nat) (hi : Bool) (v : Word) (s : State) : Out := after dt s (hostNoteClear hi v.toNat)

/-! Resets (R393, R394) and power states (R395). -/

/-- The effects of R393, with the cause of EVT_PCI_FLR. -/
def functionReset (cause : Nat) (s : State) : State :=
  let s := { s with host := { s.host with flr := some s.now, cmd := 0, bars := [], msixEn := false, msixMask := false, heldVec := [] } }
  let s := (s.wr .pcieBme 0).wr .pcieD3 0
  let s := endAllQps s
  let s := foldN 64 (fun a s => s.wr .apEn 0 a) s
  let s := foldN 64 noteClear s
  raise .pciFlr 1 cause (((s.wr .hostEn 0).wr .hostRdy 0).wr .hostEvmask 0)

/-- PCIE_FLR (R393). -/
def execPcieFlr (dt : Nat) (s : State) : Out := after dt s fun s => if s.on .pcieUp then functionReset 0 s else s

/-- PCIE_FLR_COMPLETE (R393). -/
def execPcieFlrComplete (dt : Nat) (s : State) : Out := after dt s fun s => { s with host := { s.host with flr := none } }

def pcieReset (cause : Fin 3) (s : State) : State :=
  match cause with
  | 0 => if s.on .pcieUp then functionReset 1 s else s
  | 1 =>
    if s.host.perst then s
    else functionReset 2 (({ s with host := { s.host with perst := true } }.wr .pcieUp 0).wr .pcieReady 0)
  | 2 => if s.on .pcieUp then functionReset 3 (raise .pciLinkDown 1 0 (s.wr .pcieUp 0)) else s

/-- PCIE_RESET (R394): 0 hot reset, 1 PERST_N assertion, 2 link down. -/
def execPcieReset (dt : Nat) (cause : Fin 3) (s : State) : Out := after dt s (pcieReset cause)

/-- PCIE_D3HOT (R395). -/
def execPcieD3hot (dt : Nat) (s : State) : Out := after dt s fun s => if s.on .pcieUp then s.wr .pcieD3 1 else s

/-- The held completions of queue pair q are written. -/
def releaseHeld (q : Nat) (s : State) : State :=
  let x := s.qp q
  x.held.foldl (fun s e => if (s.qp q).err then s else cqWrite q e s) (s.setQp q { x with held := [] })

def pcieD0 (s : State) : State :=
  if s.on .pcieD3 then
    let v := s.host.heldVec
    let s := foldN 64 (fun q s => cqOverdue q (releaseHeld q s)) ({ s with host := { s.host with heldVec := [] } }.wr .pcieD3 0)
    v.foldl (fun s v => msix v s) s
  else s

/-- PCIE_D0_RETURN (R395). -/
def execPcieD0Return (dt : Nat) (s : State) : Out := after dt s pcieD0

/-- PCIE_PME_TURN_OFF (R395): the link goes to L2. -/
def execPciePmeTurnOff (dt : Nat) (s : State) : Out :=
  after dt s fun s => if s.on .pcieUp then { s with host := { s.host with l2 := true } }.wr .pcieUp 0 else s

def pcieLinkUp (speed width : Nat) (s : State) : State :=
  if s.domOn 17 ∧ s.clockOn 15 ∧ !s.host.perst ∧ !(s.on .pcieUp) then
    let s := ((s.wr .pcieSpeed speed).wr .pcieWidth width).wr .pcieUp 1
    raise .pciLinkUp 1 (speed + width * 16) { s with host := { s.host with l2 := false } }
  else s

/-- PCIE_LINK_UP (R371, R392): speed code 1 to 4, and 1, 2 or 4 lanes. -/
def execPcieLinkUp (dt : Nat) (speed : BitVec 3) (width : BitVec 3) (s : State) : Out := after dt s (pcieLinkUp speed.toNat width.toNat)

/-- PERST_N_RELEASE (R391, R465). -/
def execPerstNRelease (dt : Nat) (s : State) : Out :=
  after dt s fun s => if s.host.perst then { s with host := { s.host with perst := false, perstAt := s.now } } else s

end Sys2Proof.Machine
end

