-- ==== Sys2Proof/Machine/Retire.lean ====
section
/-! DEFINITION. The retirement of a TID (R231). -/

namespace Sys2Proof.Machine

/-- The TIDs that the entries from h up to t of a ring of n descriptors name, at byte `at_` of each. -/
def ringTids (s : State) (base n len at_ h t : Nat) : List Nat :=
  (List.range ((t + n - h % n) % n)).map fun k => fieldAt (s.rdBytes (base + (h + k) % n * len + at_) 2) 0 2 % 1024

/-- The TIDs of the jobs that Yarrow, the PPUs, the embedding engines and the CNVs run or hold in their rings. -/
def jobTids (s : State) : List Nat :=
  ((List.range 2).flatMap fun u => ringTids s (yarRing s u) 32 64 48 (s.rd .yarQHead u) (s.rd .yarQTail u)) ++
    ((List.range 4).flatMap fun v => ((s.ppuRun v).map fun r => r.job.tid).toList ++
      ringTids s (s.rd .ppuQHi v * 2 ^ 32 + s.rd .ppuQLo v) 32 64 48 (s.rd .ppuQHead v) (s.rd .ppuQTail v)) ++
    ((List.range 2).flatMap fun e => ringTids s (embRing s e) 32 64 2 (s.rd .embQHead e) (s.rd .embQTail e)) ++
    (List.range 8).flatMap fun c => ringTids s (csAddr c (cnvSlot s c 0)) 16 160 2 (s.rd .cnvQHead c) (s.rd .cnvQTail c)

/-- Steps 1 to 3 of R231 are complete for a TID: no task or job, no buffer, no translation. -/
def tidQuiet (s : State) (tid : Nat) : Bool :=
  (List.range 64).all (fun k => s.rd .ctxState k == 0 || s.rd .ctxTid k != tid) && !((jobTids s).contains tid) && s.bpu.reclaim.isNone &&
    (s.bpu.pool.all fun p => p.2.bufs.all fun b => !(b.2.alloc && b.2.owner == tid) || !(s.on .poolEn p.1)) &&
    !invRuns s tid && (s.mmu.l1.all fun e => e.2.all fun x => x.tid != tid) && (s.mmu.l2.all fun e => e.2.all fun x => x.tid != tid)

def tidRetire (tid : Nat) (s : State) : State :=
  if 24 ≤ tid ∧ tidQuiet s tid then
    let s := foldN 12 (fun i s =>
      if (s.clpTab i).any fun e => e.2.v && e.2.tlo ≤ tid && tid ≤ e.2.thi then
        islandRemove i (fun e => e.v && e.tlo ≤ tid && tid ≤ e.thi) s
      else s) s
    { s with host := { s.host with tids := s.host.tids.filter (· != tid) } }
  else s

end Sys2Proof.Machine
end

