-- ==== Sys2Proof/Machine/Mol.lean ====
section
/-! DEFINITION. The `libmolol` calls (chapters 13, 14 and 18). -/

namespace Sys2Proof.Machine

/-- Run `f` on the CALL of queue pair q with call code `c`. -/
def onCall (q c : Nat) (f : State → State) (s : State) : State := onCmd q 0x20 (fun e s => if e.par 16 2 = c then f s else s) s

/-- The runtime writes memory with TID 1, from an application hart (R228, R232). -/
def rtPut (a : Nat) (l : List Byte) (s : State) : State := (busWrite 1 1 a l s).2

/-- The runtime writes entries into memory. -/
def rtWrites (l : List RtWrite) (s : State) : State := l.foldl (fun s w => rtPut w.addr (leBytes w.bytes w.val) s) s

/-- Is a page with this address governed by a hint of a kind (R272)? -/
def hintedAt (s : State) (q va : Nat) (h : Hint → Bool) : Bool :=
  s.host.hints.any fun x => x.qp == q && h x.hint && x.va ≤ va && va < x.va + x.bytes

/-- Does a hint of a kind touch a range? -/
def hintedIn (s : State) (q va n : Nat) (h : Hint → Bool) : Bool :=
  s.host.hints.any fun x => x.qp == q && h x.hint && decide (x.va < va + n) && decide (va < x.va + x.bytes)

/-! Memory (R387). -/

def molMemAlloc (q bytes : Nat) (place : Option Placed) (s : State) : State :=
  onCall q 1
    (fun s =>
      match place with
      | none => cmdFail q molNomem s
      | some p =>
        if p.any_ ∧ !p.dev ∧ hintedIn s q p.va bytes (· == Hint.preferredDevice) then cmdFail q molNomem s
        else
        let s := rtWrites p.entries { s with host := { s.host with mems := s.host.mems ++ [⟨q, p.va, bytes⟩] } }
        cmdOk q p.va s) s

/-- MOL_MEM_ALLOC (R387): with the placement that the runtime found, none if there is no memory. -/
def execMolMemAlloc (dt : Nat) (q : Fin 64) (bytes : Nat) (place : Option Placed) (s : State) : Out :=
  after dt s (molMemAlloc q bytes place)

def molMemFree (q ptr : Nat) (entries : List RtWrite) (s : State) : State :=
  onCall q 2
    (fun s =>
      if s.host.mems.any fun m => m.qp == q && m.va == ptr then
        cmdOk q 0 (rtWrites entries { s with host := { s.host with mems := s.host.mems.filter fun m => !(m.qp == q && m.va == ptr) } })
      else cmdFail q molArg s) s

/-- MOL_MEM_FREE (R387): with the page-table entries that the runtime clears. -/
def execMolMemFree (dt : Nat) (q : Fin 64) (ptr : Nat) (entries : List RtWrite) (s : State) : Out :=
  after dt s (molMemFree q ptr entries)

/-! Models (R291, R386, R387, R409, R416). -/

/-- The AST entry of a context carries the ROOT of the process TID (R386). -/
def copyRoot (p tid flags : Nat) (s : State) : State :=
  let a := astBase s
  let o := busRead 1 1 (a + p * 16 + 4) 12 s
  rtPut (a + tid * 16) (leBytes 4 (1 + flags % 4 * 2) ++ padTo 12 o.data) o.s

/-- The registers of the slot of a plan. -/
def planShares (p : ModelPlan) (s : State) : State :=
  let k := p.slot
  let s := ((s.wr .ctxTid p.tid k).wr .ctxCoresLo p.coresLo k).wr .ctxCoresHi p.coresHi k
  ((((s.wr .ctxLsB0 p.lsB0 k).wr .ctxLsNb p.lsNb k).wr .ctxCsB0 p.csB0 k).wr .ctxCsNb p.csNb k).wr .ctxBw p.bw k

/-- The channels of a plan serve its slot. -/
def planChannels (p : ModelPlan) (s : State) : State :=
  foldN 64 (fun ch s => if p.ch0 ≤ ch ∧ ch < p.ch0 + p.chs then (s.wr .chSlot p.slot ch).wr .chEn 1 ch else s) s

/-- Are the weights of a plan min(W, S) bytes in the CS share of its slot (R279, R292)? A part of a split model holds those of its own. -/
def weightsOk (p : ModelPlan) (s : State) : Bool :=
  let n := (p.weights.map fun w => w.2.length).sum
  let sh := ctxClusters s p.slot * (s.rd .ctxCsNb p.slot * 0x20000 - p.aCs)
  (s.sch.load.cls == 3 || (if s.sch.load.cls = 2 then decide (n ≤ sh) else n == min p.w sh)) &&
    p.weights.all fun w =>
      let c := (w.1 - csBase 0) / 0x400000
      csBase 0 ≤ w.1 && decide (c < 8) && ctxHasCluster s p.slot c &&
        csBase c + s.rd .ctxCsB0 p.slot * 0x20000 ≤ w.1 &&
        decide (w.1 + w.2.length ≤ csBase c + (s.rd .ctxCsB0 p.slot + s.rd .ctxCsNb p.slot) * 0x20000)

/-- The runtime streams the weights in once the slot is RESIDENT. -/
def takeWeights (p : ModelPlan) (s : State) : State := s.setCtx p.slot { s.ctx p.slot with weights := p.weights }

def molModelLoad (q : Nat) (plan : Option ModelPlan) (s : State) : State :=
  onCall q 3
    (fun s =>
      match plan with
      | none => cmdFail q molNoslot s
      | some p =>
        if s.rd .ctxState p.slot ≠ 0 ∨ !tidFree s p.tid then s
        else
          let s' := planShares p s
          if !activateOk s' p.slot then s
          else
            let s' := modelLoad p.slot p.modelId p.image p.w p.aCs p.aLs s'
            if !weightsOk p s' then s
            else if s'.sch.load.cls = 3 ∨ (s'.sch.load.cls = 2 ∧ !p.partsFit) then cmdFail q molRejected s'
            else
              let s' := copyRoot (s.qp q).tid p.tid p.flags s'
              let m : MolModel := ⟨q, p.slot, p.ch0, p.chs, p.nodes, p.deadline⟩
              let s' := { s' with host := { s'.host with tids := p.tid :: s'.host.tids, models := s'.host.models ++ [m] } }
              cmdOk q (p.slot + p.ch0 * 65536 + p.chs * 2 ^ 24) (planChannels p (takeWeights p (ctxActivate 1 p.slot s')))) s

/-- MOL_MODEL_LOAD (R387, R291, R416): with the runtime's plan, none if no slot is free. -/
def execMolModelLoad (dt : Nat) (q : Fin 64) (plan : Option ModelPlan) (s : State) : Out := after dt s (molModelLoad q plan)

/-- The model of a queue pair in a slot. -/
def modelOf (s : State) (q k : Nat) : Option MolModel := s.host.models.find? fun m => m.qp == q && m.slot == k

def molModelUnload (q k : Nat) (s : State) : State :=
  onCall q 4
    (fun s =>
      match modelOf s q k with
      | none => cmdFail q molArg s
      | some _ =>
        if s.rd .ctxState k = 2 ∧ !slotBusy s k then
          let s := ctxRelease 1 k s
          cmdOk q 0 { s with host := { s.host with models := s.host.models.filter fun m => !(m.qp == q && m.slot == k) } }
        else cmdFail q molBusy s) s

/-- MOL_MODEL_UNLOAD (R387). -/
def execMolModelUnload (dt : Nat) (q : Fin 64) (k : Fin 64) (s : State) : Out := after dt s (molModelUnload q k)

/-- May a model run, as its nodes stand (R409, R417)? -/
def nodesOk (s : State) (m : MolModel) : Bool :=
  m.nodes.all fun b => s.rdBit .asmMember b || (!m.deadline && s.rdBit .asmSuspect b)

/-- Place tasks in the ring of a channel. -/
def placeTasks (ch : Nat) (l : List (List Nat)) (s : State) : State :=
  let t := s.rd .chTail ch
  let s := l.zipIdx.foldl (fun s e =>
    e.1.zipIdx.foldl (fun s w => s.wr .taskRing w.1 ch ((t + e.2) % 8 * 16 + w.2 % 16)) s) s
  chTailSubmit 1 ch ((t + l.length) % 8) s

/-- The next part of an invocation waits for the tasks that have been placed in a channel (R416). -/
def waitHand (k ch : Nat) (n : Option HandOver) (s : State) : State :=
  match n with
  | none => s
  | some n =>
    let count := (s.rd .chDone ch + (s.rd .chTail ch + 8 - chH s ch) % 8) % 2 ^ 32
    { s with host := { s.host with hands := s.host.hands ++ [⟨k, ch, count, n⟩] } }

def molInvoke (q k ch : Nat) (x : Invocation) (s : State) : State :=
  onCall q 5
    (fun s =>
      match modelOf s q k with
      | none => cmdFail q molArg s
      | some m =>
        if ch < m.ch0 ∨ m.ch0 + m.chs ≤ ch then cmdFail q molArg s
        else if !nodesOk s m ∨ s.rd .ctxState k ≠ 2 ∨ 7 < (s.rd .chTail ch + 8 - chH s ch) % 8 + x.tasks.length then cmdFail q molBusy s
        else cmdOk q 0 (waitHand k ch x.next (placeTasks ch x.tasks s))) s

/-- MOL_INVOKE (R387, R409, R416): with the tasks of the invocation, from the image. -/
def execMolInvoke (dt : Nat) (q : Fin 64) (k : Fin 64) (ch : Fin 64) (x : Invocation) (s : State) : Out :=
  after dt s (molInvoke q k ch x)

/-! Migration (R270 to R272). -/

/-- The TIDs that share the tables of a queue pair. -/
def qpTids (s : State) (q : Nat) : List Nat :=
  (s.qp q).tid :: (s.host.models.filter fun m => m.qp == q).map fun m => s.rd .ctxTid m.slot

/-- The runtime starts the invalidation of a range of a TID. -/
def startInv (tid base len : Nat) (s : State) : State :=
  let s := ((s.wr .mmuInvBaseLo (base / 4096)).wr .mmuInvBaseHi (base / 2 ^ 32)).wr .mmuInvLen (len / 4096)
  mmuInvalidate 1 (BitVec.ofNat 32 (tid + 2 ^ 31)) s

/-- The runtime starts one invalidation after the other, each when the one before has completed; what it gives has not begun. -/
def startInvs : List (Nat × Nat × Nat) → State → List (Nat × Nat × Nat) × State
  | [], s => ([], s)
  | x :: l, s => if s.on .mmuInvBusy then (x :: l, s) else startInvs l (startInv x.1 x.2.1 x.2.2 s)

/-- Is an address in device DRAM? -/
def inDram (a : Nat) : Bool := decide (a < 0x0800000000)

/-- Copy a page, line by line. -/
def copyPage (src dst n : Nat) (s : State) : State :=
  let o := busRead 1 1 src n s
  rtPut dst (padTo n o.data) o.s

/-- PA field of an entry. -/
def ptePa (e : Nat) : Nat := bitsOf e 12 28 * 4096

/-- Put another PA into an entry, with V set, and W as `w` says. -/
def pteMove (e pa : Nat) (w : Option Bool) : Nat :=
  let e := setBit (e - ptePa e + pa) 0 true
  match w with
  | some w => setBit e 3 w
  | none => e

/-- The entries of a job, as they map the page after the batch: a replica without W, a retired one at the reference copy with W. -/
def PageJob.newEntry (j : PageJob) (old : Nat) : Nat :=
  match j.kind with
  | .move => pteMove old j.page.pa none
  | .replica => pteMove old j.page.pa (some false)
  | .retire => pteMove old j.page.ref_ (some true)

/-- The agents of ACCESSED_BY hints on a page. -/
def agentsAt (s : State) (q va : Nat) : List Nat :=
  s.host.hints.filterMap fun x =>
    match x.hint with
    | .accessedBy a => if x.qp = q ∧ x.va ≤ va ∧ va < x.va + x.bytes then some a else none
    | _ => none

/-- A page of the range, if it has to be moved, replicated or retired (R271, R272). -/
def pageJob (q : Nat) (target : Option Bool) (s : State) (p : PageMove) : Option PageJob :=
  let old := s.rdMem p.entry 8
  let also := if (agentsAt s q p.va).isEmpty then [] else p.also
  let mk (k : MoveKind) : PageJob := ⟨p, k, (p.entry, old) :: also.map fun a => (a, s.rdMem a 8)⟩
  let dev := match target with
    | some t => some t
    | none => if hintedAt s q p.va (· == Hint.preferredDevice) then some true else none
  match dev with
  | none => none
  | some true =>
    if !inDram p.pa then none
    else if hintedAt s q p.va (· == Hint.readMostly) then
      if (qpTids s q).any (fun t => policyKill t s) ∧ bitOf old 3 then none else some (mk .replica)
    else if inDram (ptePa old) then none else some (mk .move)
  | some false =>
    if !inDram (ptePa old) then none
    else if s.host.replicas.any fun r => r.qp == q && r.va == p.va then some (mk .retire)
    else if inDram p.pa then none else some (mk .move)

/-- A batch begins (R271): V is cleared in its entries, and its range is invalidated as one in every address space that maps it. -/
def beginBatch (m : MolMove) (s : State) : State :=
  let batch := m.todo.take 512
  let lo := ((batch.map fun j => j.page.va).head?).getD 0
  let hi := batch.foldl (fun h j => max h (j.page.va + j.page.size)) lo
  let s := batch.foldl (fun s j => j.entries.foldl (fun s e => rtPut e.1 (leBytes 8 (setBit e.2 0 false)) s) s) s
  let agents := (batch.flatMap fun j => agentsAt s m.qp j.page.va).flatMap (qpTids s)
  let (inv, s) := startInvs (((qpTids s m.qp ++ agents).eraseDups).map fun t => (t, lo, hi - lo)) s
  { s with host := { s.host with move := some { m with batch := batch, inv := inv, todo := m.todo.drop 512 } } }

/-- What the replicas are after a job. -/
def noteReplica (q : Nat) (j : PageJob) (s : State) : State :=
  let l := s.host.replicas.filter fun r => !(r.qp == q && r.va == j.page.va)
  let l := if j.kind = .replica then l ++ [⟨q, j.page.va, j.page.size, j.entries.map Prod.fst, j.page.ref_⟩] else l
  { s with host := { s.host with replicas := l } }

/-- The pages of a batch are copied, and its entries written with V = 1. -/
def endBatch (m : MolMove) (s : State) : State :=
  let copy (s : State) (j : PageJob) : State :=
    let old := ((j.entries.head?).map Prod.snd).getD 0
    match j.kind with
    | .move => copyPage (ptePa old) j.page.pa j.page.size s
    | .replica => copyPage j.page.ref_ j.page.pa j.page.size s
    | .retire => s
  let s := m.batch.foldl copy s
  let s := m.batch.foldl (fun s j => j.entries.foldl (fun s e => rtPut e.1 (leBytes 8 (j.newEntry e.2)) s) s) s
  m.batch.foldl (fun s j => noteReplica m.qp j s) s

/-- The prefetch completes after its last batch. -/
def moveDone (q ch : Nat) (s : State) : State := notifyCh ch (cmdOk q 0 { s with host := { s.host with move := none } })

/-- A prefetch that runs goes on: the batch ends once its invalidations have completed, and the next begins. -/
def moveStep (m : MolMove) (s : State) : State :=
  let (inv, s) := startInvs m.inv s
  let m := { m with inv := inv }
  if s.on .mmuInvBusy ∨ inv ≠ [] then { s with host := { s.host with move := some m } }
  else
    let s := endBatch m s
    if m.todo.isEmpty then moveDone m.qp m.ch s else beginBatch m s

/-- Does a context of queue pair q with policy KILL hold a task or job, queued or running? -/
def killBusy (s : State) (q : Nat) : Bool :=
  (s.host.models.any fun m => m.qp == q && policyKill (s.rd .ctxTid m.slot) s && slotBusy s m.slot) ||
    (qpTids s q).any fun t => policyKill t s && (jobTids s).contains t

def molPrefetch (q va n : Nat) (target : Option Bool) (ch : Nat) (pages : List PageMove) (s : State) : State :=
  onCall q 6
    (fun s =>
      match s.host.move with
      | some m => if m.qp = q then moveStep m s else s
      | none =>
        if killBusy s q then cmdFail q molBusy s
        else if s.on .mmuInvBusy then s
        else
          let l := (pages.filter fun p => va ≤ p.va && decide (p.va < va + n)).filterMap (pageJob q target s)
          if l.isEmpty then moveDone q ch s else beginBatch ⟨q, ch, [], [], l⟩ s) s

/-! The runtime's answer to a fault on a replica (R272). -/

/-- The replicas on which engines are stalled at a write of a TID. -/
def stalledReplicas (s : State) (tid : Nat) : List Replica :=
  s.host.replicas.filter fun r => (qpTids s r.qp).contains tid && (List.range 40).any fun e =>
    match s.mmu.stall.get none e with
    | some x => x.tid == tid && x.wr && r.va ≤ x.va && decide (x.va < r.va + r.size)
    | none => false

/-- A replica is retired: its entries map the reference copy with W, and its range is to be invalidated. -/
def retireReplica (s : State) (r : Replica) : State :=
  let s := r.entries.foldl (fun s a => rtPut a (leBytes 8 (pteMove (s.rdMem a 8) r.ref_ (some true))) s) s
  let inv := (qpTids s r.qp).map fun t => (t, r.va, r.size)
  { s with host := { s.host with replicas := s.host.replicas.filter (· != r), inv := s.host.inv ++ inv } }

/-- The runtime resumes a TID: replicas that it wrote to are retired before, and their ranges invalidated. -/
def runtimeResume (tid : Nat) (s : State) : State :=
  let s := (stalledReplicas s tid).foldl retireReplica s
  let (inv, s) := startInvs s.host.inv s
  let s := { s with host := { s.host with inv := inv } }
  if inv.isEmpty then mmuResume tid s else s

/-- MOL_PREFETCH (R271): target device (true) or host (false), none if omitted; with the pages of the range in ascending order
as the runtime's tables give them. The command begins the call; presented again, it takes the call on by a batch (log 48). -/
def execMolPrefetch (dt : Nat) (q : Fin 64) (va n : Nat) (target : Option Bool) (ch : Fin 64) (pages : List PageMove) (s : State) : Out :=
  after dt s (molPrefetch q va n target ch pages)

/-- MMU_RESUME (R264, R272): the runtime resumes a TID; a replica that it has stalled on with a write is retired first. -/
def execMmuResume (dt : Nat) (tid : BitVec 10) (s : State) : Out := after dt s (runtimeResume tid.toNat)

/-- What a range leaves of a hint. -/
def cutHint (va n : Nat) (h : MolHint) : List MolHint :=
  let lo : MolHint := { h with bytes := va - h.va }
  let hi : MolHint := { h with va := va + n, bytes := h.va + h.bytes - (va + n) }
  if va + n ≤ h.va ∨ h.va + h.bytes ≤ va then [h]
  else (if h.va < va then [lo] else []) ++ (if va + n < h.va + h.bytes then [hi] else [])

/-- Are two hints of one kind? -/
def Hint.same (a b : Hint) : Bool :=
  match a, b with
  | .readMostly, .readMostly => true
  | .preferredDevice, .preferredDevice => true
  | .accessedBy _, .accessedBy _ => true
  | _, _ => false

def molAdvise (q va n : Nat) (h : Option Hint) (s : State) : State :=
  onCall q 7
    (fun s =>
      let hit (x : MolHint) : Bool := x.qp == q && (match h with
        | some h => h.same x.hint
        | none => true)
      let l := s.host.hints.flatMap fun x => if hit x then cutHint va n x else [x]
      let l := match h with
        | some h => l ++ [⟨q, va, n, h⟩]
        | none => l
      cmdOk q 0 { s with host := { s.host with hints := l } }) s

/-- MOL_ADVISE (R272): none is the hint NONE. -/
def execMolAdvise (dt : Nat) (q : Fin 64) (va n : Nat) (h : Option Hint) (s : State) : Out := after dt s (molAdvise q va n h)

/-! Apertures (R377, R387). -/

def apSize : Nat := 0x4000000

def molBarMap (q bytes : Nat) (readonly : Bool) (pa : Option Nat) (a : Nat) (s : State) : State :=
  onCall q 8
    (fun s =>
      match pa with
      | none => cmdFail q molArg s
      | some p =>
        if bytes = 0 ∨ p / apSize ≠ (p + bytes - 1) / apSize then cmdFail q molArg s
        else if (List.range 64).all fun k => s.on .apEn k then cmdFail q molNoslot s
        else if s.on .apEn a then s
        else
          let s := (((s.wr .apBase (p / apSize) a).wr .apEn 1 a).wr .apRo (b2n readonly) a).wr .apTid (s.qp q).tid a
          cmdOk q (a * apSize + p % apSize) s) s

/-- MOL_BAR_MAP (R377, R387): with the fabric address of the range, none if it is not contiguous, and the aperture that the
runtime takes. -/
def execMolBarMap (dt : Nat) (q : Fin 64) (bytes : Nat) (readonly : Bool) (pa : Option Nat) (a : Fin 64) (s : State) : Out :=
  after dt s (molBarMap q bytes readonly pa a)

def molBarUnmap (q off : Nat) (s : State) : State :=
  onCall q 9
    (fun s =>
      let a := off / apSize
      if a < 64 ∧ s.on .apEn a ∧ s.rd .apTid a = (s.qp q).tid then cmdOk q 0 (s.wr .apEn 0 a) else cmdFail q molArg s) s

/-- MOL_BAR_UNMAP (R387). -/
def execMolBarUnmap (dt : Nat) (q : Fin 64) (off : Nat) (s : State) : Out := after dt s (molBarUnmap q off)

end Sys2Proof.Machine
end

