-- ==== Sys2Proof/Machine/Dowel.lean ====
section
/-! DEFINITION. The link layer of the Dowel ports (chapter 19). The payload layouts that the spec does not give are those of log
entry 23. -/

namespace Sys2Proof.Machine

/-- EVT_DWL_CFG_REJECT for an offset. -/
def dwlReject (tid off : Nat) (s : State) : State := raise .dwlCfgReject tid off s

/-- Does the Dowel block run? -/
def dwlOn (s : State) : Bool := s.domOn 20 && s.clockOn 18

/-- The port of the pair. -/
def pairPort (s : State) : Option Nat := (List.range 4).find? fun p => s.rd .dwlPortUse p == 2

/-- PAIR_STAT.LINK. -/
def showPairLink (s : State) : State :=
  s.wr .pairLink (b2n (s.pair.on && (match pairPort s with
    | some p => portUp s p
    | none => false)))

/-! Payload fields. -/

/-- A little-endian field of a payload. -/
def dAt (l : List Byte) (k n : Nat) : Nat := leNat ((l.drop k).take n)

/-- A signed field. -/
def dInt (l : List Byte) (k n : Nat) : Int := signed (8 * n) (dAt l k n)

/-- Payload bytes that complete the message that a flit begins. -/
def msgLen (f : Flit) : Nat :=
  match f.typ with
  | 2 => if f.rsp then 1 else 8 + dAt f.data 5 1 + 1
  | 3 => if f.rsp then 8 + dAt f.data 5 1 + 1 else 8
  | 4 => if dAt f.data 0 1 = 0 then 72 else 4 + dAt f.data 2 2
  | 7 => 52 * (5 + (whichOf 8 fun n => bitOf (dAt f.data 4 1) n).length)
  | _ => 52

/-! Routes (R402, R415). -/

/-- New routes are taken for every destination without an outstanding request. -/
def applyRoutes (s : State) : State :=
  match s.dwl.want with
  | none => s
  | some (r, v) =>
    let waits (k : Nat) : Bool := s.dwl.reqs.any fun q => q.node == k
    let s' := foldN 16 (fun k s =>
      if waits k then s
      else
        let old := s.rd .dwlRoute
        (s.wr .dwlRoute (old - bitsOf old (2 * k) 2 * 4 ^ k + bitsOf r (2 * k) 2 * 4 ^ k)).wrBit .dwlRouteV k (bitOf v k)) s
    if s.dwl.reqs.isEmpty then { s' with dwl := { s'.dwl with want := none } } else s'

/-- Take a new route table. -/
def takeRoutes (r v : Nat) (s : State) : State := applyRoutes { s with dwl := { s.dwl with want := some (r, v) } }

/-! Responses of remote accesses (R404). -/

/-- A response to a request of this device arrives. -/
def memAnswer (m : DwlMsg) (s : State) : State :=
  match s.dwl.reqs.find? fun q => q.tag == m.tag with
  | none => s
  | some q =>
    let s := { s with dwl := { s.dwl with reqs := s.dwl.reqs.filter fun x => x.tag != m.tag } }
    let late := s.fab.reqs.any fun r => r.id == q.id && r.timedOut
    let req := s.fab.reqs.find? fun r => r.id == q.id
    let s := { s with fab := { s.fab with reqs := s.fab.reqs.filter fun r => r.id != q.id } }
    let c := dAt m.data 0 1
    let s :=
      if late then s.bump .fabLateCnt 1
      else
        let n := dAt m.data 5 1 + 1
        let s := s.respond c (if q.wr then [] else if c = rOkay then (m.data.drop 8).take n else List.replicate n 0)
        match req with
        | some r => if c = rOkay then s else errRecord ⟨r.port, r.tid, r.addr, 1, r.wr⟩ c s
        | none => s
    applyRoutes s

/-! Reception (R397 to R402). -/

/-- A message is complete. -/
def msgDone (m : DwlMsg) (s : State) : State :=
  if (m.typ = 2 ∨ m.typ = 3) ∧ m.rsp then memAnswer m s else { s with dwl := { s.dwl with msgs := s.dwl.msgs ++ [m] } }

/-- Flits of one message on one port. -/
def sameMsg (a b : Flit) : Bool := a.typ == b.typ && a.rsp == b.rsp && a.src == b.src && a.tag == b.tag

/-- A flit for this node joins its message. -/
def joinFlit (p : Nat) (f : Flit) (s : State) : State :=
  let x := s.dport p
  let mine := (if f.cont then x.part.filter (sameMsg f) else []) ++ [f]
  let rest := x.part.filter fun g => !sameMsg f g
  match mine with
  | [] => s
  | h :: _ =>
    if h.cont then s.bump .dwlCntBad 1 p
    else if 52 * mine.length < msgLen h then s.setDport p { x with part := rest ++ mine }
    else
      let m : DwlMsg := ⟨p, h.typ, h.rsp, h.src, h.tag, h.tid, s.dtNs, mine.flatMap fun g => padTo 52 g.data⟩
      msgDone m (s.setDport p { x with part := rest })

/-- May a port of a use carry a type (R397, Table ASM-2)? -/
def typeOk (use typ : Nat) : Bool :=
  match use with
  | 1 => decide (1 ≤ typ) && decide (typ ≤ 6)
  | 2 => typ == 1 || typ == 5 || typ == 6 || typ == 7
  | _ => false

/-- A forwarding device adds its residence time to the CORR field (R411). -/
def addCorr (f : Flit) (ns : Nat) : Flit :=
  if f.typ = 6 then { f with data := (padTo 48 f.data).take 48 ++ leBytes 4 (dAt f.data 48 4 + ns) } else f

/-- A worker relays a HELLO of a device behind it only as MEMBER or SUSPECT (R407). -/
def relayOk (s : State) (f : Flit) : Bool := f.typ != 1 || f.rsp || s.rd .asmRole != 2 || s.dwl.verdict == some 3 || s.dwl.verdict == some 4

/-- A flit from a node has been heard. -/
def heard (src : Nat) (s : State) : State :=
  if s.rd .asmRole = 1 then s.setWkr src { s.wkr src with flitAt := s.now }
  else if src = 0 then { s with dwl := { s.dwl with mgrAt := s.now } } else s

/-- A flit accepted in sequence. -/
def takeFlit (p : Nat) (f : Flit) (res : Nat) (s : State) : State :=
  let use := s.rd .dwlPortUse p
  if !typeOk use f.typ then s.bump .dwlCntBad 1 p
  else
    let s := if use = 1 then heard f.src s else s
    if use = 2 ∨ f.dst = ownNode s then joinFlit p f s
    else if !relayOk s f then s
    else match routeTo s f.dst with
      | some r => dwlQueue r [addCorr f res] s
      | none => s.bump .dwlCntBad 1 p

/-- Send every outstanding flit again. -/
def replay (p : Nat) (s : State) : State :=
  let x := s.dport p
  let s := (s.bump .dwlCntReplay 1 p).setDport p { x with ackAt := s.now, stuck := x.stuck + 1, replayTold := true }
  let s := if x.replayTold then s else raise .dwlReplay 1 p s
  x.out.foldl (fun s o => flitPut p o s) s

/-- ACK and credits of a received flit. -/
def takeAck (p ack crd : Nat) (rspPool : Bool) (s : State) : State :=
  let x := s.dport p
  let n := match x.out with
    | [] => 0
    | o :: _ => (ack + 1 + 256 - o.seq) % 256
  let n := if n ≤ x.out.length then n else 0
  s.setDport p { x with out := x.out.drop n, ackAt := if n = 0 then x.ackAt else s.now, stuck := if n = 0 then x.stuck else 0,
                        credReq := if rspPool then x.credReq else x.credReq + crd,
                        credRsp := if rspPool then x.credRsp + crd else x.credRsp }

/-- A flit whose check has failed is answered with NAK. -/
def nakBad (p : Nat) (s : State) : State := idlePut p true false 0 (s.setDport p { s.dport p with naked := true })

/-- A flit out of sequence is answered with NAK; the flits that follow it are discarded. -/
def nak (p : Nat) (s : State) : State := if (s.dport p).naked then s else nakBad p s

/-- The flit that 64 bytes hold. -/
def readFlit (l : List Byte) : Flit :=
  let b := dAt l 0 1
  ⟨b % 16, bitOf b 4, bitOf b 5, dAt l 1 1 % 16, dAt l 1 1 / 16, dAt l 4 2, dAt l 6 2 % 1024, (l.drop 8).take 52⟩

def dwlFlitReceive (p : Nat) (l : List Byte) (res : Nat) (s : State) : State :=
  if !(dwlOn s && portUp s p) then s
  else
    let l := (padTo 64 l).take 64
    if crc32c ((l.take 60).map (·.toNat)) ≠ dAt l 60 4 then nakBad p (s.bump .dwlCntCrc 1 p)
    else
      let f := readFlit l
      let s := takeAck p (dAt l 3 1) (dAt l 6 2 / 1024) (bitOf (dAt l 0 1) 7) s
      let pump (s : State) : State := dwlPump p (s.dport p).wait.length s
      if f.typ = 0 then pump (if bitOf (dAt l 0 1) 6 then replay p s else s)
      else
        let x := s.dport p
        if dAt l 2 1 ≠ x.rxSeq then pump (nak p s)
        else
          let s := s.setDport p { x with rxSeq := (x.rxSeq + 1) % 256, naked := false }
          pump (idlePut p false f.rsp 1 (takeFlit p f res s))

/-- DWL_FLIT_RECEIVE (R397 to R402): the 64 bytes, and the residence time in ns should the flit be forwarded. -/
def execDwlFlitReceive (dt : Nat) (p : Fin 4) (l : List Byte) (res : Nat) (s : State) : Out := after dt s (dwlFlitReceive p l res)

def dwlReplayTimeout (p : Nat) (s : State) : State :=
  let x := s.dport p
  if dwlOn s ∧ portUp s p ∧ !x.out.isEmpty ∧ s.now = x.ackAt + 10 * rootPerUs then replay p s else s

/-- DWL_REPLAY_TIMEOUT (R399). -/
def execDwlReplayTimeout (dt : Nat) (p : Fin 4) (s : State) : Out := after dt s (dwlReplayTimeout p)

/-! Training (R401, R397). -/

/-- Training starts. -/
def startTraining (p : Nat) (s : State) : State := (s.wr .dwlPortState 1 p).setDport p { s.dport p with trainAt := s.now }

/-- A write of DWL_PORT_CFG. -/
def portCfgWrite (tid p v : Nat) (s : State) : State :=
  if s.rd .dwlPortState p = 0 then (s.wr .dwlPortEn v p).wr .dwlPortUse (v / 2) p else dwlReject tid (0x100 + p * 0x20) s

/-- May a port be trained? -/
def trains (s : State) (p : Nat) : Bool := dwlOn s && s.rd .dwlPortUse p != 0 && s.on .dwlPortEn p

/-! Topology of the manager (R415). -/

/-- Is this device the manager that acts (R419)? -/
def isManager (s : State) : Bool := s.rd .asmRole == 1 && (s.rd .pairRole == 0 || s.rd .pairRole == 1)

/-- Links of a node: port and partner. -/
def linksOf (s : State) (n : Nat) : List (Nat × Nat) :=
  if n = 0 then
    ((List.range 4).filter fun p => portUp s p && s.rd .dwlPortUse p == 1).map fun p => (p, s.rd .dwlPartner p)
  else if 0 < (s.wkr n).state ∧ (s.wkr n).state < 5 then (s.wkr n).links else []

/-- Links that both ends report. -/
def nbrs (s : State) (n : Nat) : List (Nat × Nat) := (linksOf s n).filter fun l => (linksOf s l.2).any fun m => m.2 == n

/-- Distances to a node after `i` rounds; 99 is unreachable. -/
def distTo (s : State) (k : Nat) : Nat → List Nat
  | 0 => (List.range 16).map fun n => if n = k then 0 else 99
  | i + 1 =>
    let d := distTo s k i
    (List.range 16).map fun n => (nbrs s n).foldl (fun m l => min m (d.getD l.2 99 + 1)) (d.getD n 99)

/-- The lowest port of node n on a shortest path to k. -/
def routeFrom (s : State) (n k : Nat) : Option Nat :=
  let d := distTo s k 16
  if 99 ≤ d.getD n 99 ∨ n = k then none
  else (List.range 4).find? fun p => (nbrs s n).any fun l => l.1 == p && d.getD l.2 99 + 1 == d.getD n 99

/-- Route table of node n to the nodes that `p` picks. -/
def routeTable (s : State) (n : Nat) (p : Nat → Bool) : Nat × Nat :=
  (List.range 16).foldl (fun t k => match if p k then routeFrom s n k else none with
    | some q => (t.1 + q * 4 ^ k, t.2 + 2 ^ k)
    | none => t) (0, 0)

/-- Node 0, MEMBER and SUSPECT workers. -/
def inService (s : State) (k : Nat) : Bool := k == 0 || (s.wkr k).state == 3 || (s.wkr k).state == 4

/-- Own FEATURES. -/
def ownFeatures : Nat := Config.features.toNat

/-- FEATURES of a worker's descriptor. -/
def Worker.features (w : Worker) : Nat := leNat (descBytes w.desc 26 4)

/-- The manager sends worker k its verdict (R408). -/
def sendVerdict (k : Nat) (s : State) : State :=
  let w := s.wkr k
  let (r, v) := routeTable s k (inService s)
  dwlSend 1 true k 0 1 (leBytes 1 w.state ++ leBytes 1 w.reason ++ leBytes 4 (s.rd .asmEpoch) ++ leBytes 4 (ownFeatures &&& w.features) ++
    leBytes 4 r ++ leBytes 2 v) s

/-- The manager computes its routes again and sends each worker a new verdict. -/
def reroute (s : State) : State :=
  if isManager s then
    let (r, v) := routeTable s 0 fun _ => true
    foldN 16 (fun k s => if 0 < (s.wkr k).state ∧ (s.wkr k).state < 5 then sendVerdict k s else s) (takeRoutes r v s)
  else s

/-- A worker without a route to node 0 takes the port (R407). -/
def firstRoute (p : Nat) (s : State) : State :=
  if s.rd .asmRole = 2 ∧ s.rd .dwlPortUse p = 1 ∧ (!(s.rdBit .dwlRouteV 0) ∨ s.rd .dwlPartner p = 0) ∧ s.dwl.verdict.isNone then
    takeRoutes p 1 s
  else s

/-! The Assembly descriptor (Table ASM-3). -/

/-- Is an Assembly context resident? On the manager: a model with parts on workers. -/
def asmResident (s : State) : Bool := (List.range 64).any (asmSlot s) || s.host.models.any fun m => !m.nodes.isEmpty

/-- The descriptor without its time; byte 9 carries PAIR_RANK (DESIGN CHOICE, log entry 23). -/
def descHead (s : State) : List Byte :=
  leBytes 1 (ownNode s + 16 * s.rd .asmRole + 64 * b2n s.pair.on + 128 * b2n (s.rd .pairRole == 1)) ++ leBytes 1 (s.rd .pairRank) ++
    cfgDigest s ++ leBytes 1 (fwMajor s) ++ leBytes 1 (fwMinor s) ++ leBytes 1 (fwPatch s) ++ beBytes 3 Config.libVersion.toNat ++
    leBytes 2 Config.dowelVersion.toNat ++ leBytes 4 ownFeatures ++ leBytes 4 (if asmResident s then s.rd .asmEpoch else 0)

def descriptor (s : State) : List Byte :=
  descHead s ++ leBytes 6 s.clk.sec ++ leBytes 4 s.clk.ns ++ leBytes 8 Config.serial.toNat

/-- Send the descriptor on the pair port. -/
def pairHelloSend (s : State) : State :=
  match pairPort s with
  | some p => if s.pair.on ∧ portUp s p then dwlMsg p 1 false (ownNode s) 0 1 (descriptor s) s else s
  | none => s

/-- The first whole second of DTIME at least 50 ms from now (R413). -/
def syncSecond (s : State) : Nat := ceilDiv (s.dtNs + 50000000) 1000000000

def syncPay (s : State) : List Byte := leBytes 1 (s.rd .tbBase) ++ leBytes 6 (syncSecond s)

/-- SYNC on the pair port (R435). -/
def pairSync (s : State) : State :=
  match pairPort s with
  | some p => if s.rd .pairRole = 1 ∧ portUp s p then dwlMsg p 5 false (ownNode s) 0 1 (syncPay s) s else s
  | none => s

def dwlTrainingDone (p partner : Nat) (ppair : Bool) (s : State) : State :=
  if dwlOn s ∧ s.rd .dwlPortState p = 1 ∧ s.now ≤ (s.dport p).trainAt + 30 * rootPerMs then
    let x := s.dport p
    let s := ((s.wr .dwlPortState 2 p).wr .dwlPartner partner p).wr .dwlPpair (b2n ppair) p
    let y := { x with fails := 0, stuck := 0, ackAt := s.now, naked := false, wasUp := true }
    let y := if x.wasUp then y else { DwlPort.init with wasUp := true, replayTold := x.replayTold, ackAt := s.now }
    let s := raise .dwlLinkUp 1 p (s.setDport p y)
    let s := y.out.foldl (fun s o => flitPut p o s) s
    let s := reroute (firstRoute p (showPairLink s))
    let s := dwlPump p (s.dport p).wait.length s
    if s.rd .dwlPortUse p = 2 ∧ s.pair.on then
      let s := if s.rd .pairRole = 1 then { s with pair := { s.pair with linkTold := false, portLost := false } } else s
      pairSync (pairHelloSend s)
    else s
  else s

/-- DWL_TRAINING_DONE (R400, R401, R415, R435): with the partner's node and whether it is one of a pair. -/
def execDwlTrainingDone (dt : Nat) (p : Fin 4) (partner : Fin 16) (ppair : Bool) (s : State) : Out :=
  after dt s (dwlTrainingDone p partner ppair)

/-- A port goes DOWN: what it holds is lost. -/
def portDown (p : Nat) (s : State) : State :=
  let x := s.dport p
  let s := (s.wr .dwlPortState 0 p).setDport p { DwlPort.init with trainAt := s.now, replayTold := x.replayTold }
  let s := if x.wasUp then raise .dwlLinkDown 1 p s else s
  let s := if x.wasUp ∧ s.rd .dwlPortUse p = 2 ∧ s.pair.on then { s with pair := { s.pair with portLost := true } } else s
  reroute (showPairLink s)

def dwlRetrain (p : Nat) (lost : Bool) (s : State) : State :=
  let x := s.dport p
  if !dwlOn s then s
  else if portUp s p ∧ (lost ∨ 8 ≤ x.stuck) then showPairLink (startTraining p (s.bump .dwlCntRetrain 1 p))
  else if s.rd .dwlPortState p = 1 ∧ s.now = x.trainAt + 30 * rootPerMs then
    if !x.wasUp ∨ 3 ≤ x.fails + 1 then portDown p s
    else startTraining p ((s.bump .dwlCntRetrain 1 p).setDport p { x with fails := x.fails + 1 })
  else s

/-- DWL_RETRAIN (R401): block lock has been lost for 1 µs, 8 replays have made no progress, or a training has not completed in
30 ms. -/
def execDwlRetrain (dt : Nat) (p : Fin 4) (lost : Bool) (s : State) : Out := after dt s (dwlRetrain p lost)

def dwlTrainRetry (p : Nat) (s : State) : State :=
  if trains s p ∧ s.boot.p150 ∧ s.rd .dwlPortState p = 0 ∧ every s (s.dport p).trainAt rootPerS then startTraining p s else s

/-- DWL_TRAIN_RETRY (R401). -/
def execDwlTrainRetry (dt : Nat) (p : Fin 4) (s : State) : Out := after dt s (dwlTrainRetry p)

end Sys2Proof.Machine
end

