-- ==== Sys2Proof/Machine/Assembly.lean ====
section
/-! DEFINITION. The Assembly: joining, time, grid, tasks and forwarding (chapter 19). -/

namespace Sys2Proof.Machine

/-- Take the first message that `p` picks. -/
def takeMsg (p : DwlMsg → Bool) (s : State) : Option (DwlMsg × State) :=
  match s.dwl.msgs.find? p with
  | none => none
  | some m => some (m, { s with dwl := { s.dwl with msgs := s.dwl.msgs.erase m } })

/-- Serve the first message of a type. -/
def onMsg (typ : Nat) (rsp : Bool) (f : DwlMsg → State → State) (s : State) : State :=
  match takeMsg (fun m => m.typ == typ && m.rsp == rsp) s with
  | none => s
  | some (m, s) => f m s

/-- Did a message come on the pair port? -/
def onPair (s : State) (m : DwlMsg) : Bool := s.rd .dwlPortUse m.port == 2

/-! Join checks (Table ASM-4). -/

/-- What the checks give: state, reason, and whether row 8 held. -/
structure Verdict where
  state : Nat
  reason : Nat
  reload : Bool
deriving DecidableEq, Repr

/-- Distance of two numbers. -/
def apart (a b : Nat) : Nat := ((a : Int) - b).natAbs

/-- Time rows: is worker w quarantined for time, and is it suspect (R412)? -/
def Worker.timeBad (w : Worker) : Bool := decide (2000 < w.report.natAbs) || (w.quarTime && decide (w.run2us < 8))
def Worker.timeDoubt (w : Worker) : Bool :=
  decide (200 < w.report.natAbs) || w.quarTime || (w.state == 3 && decide (w.run100 < 8))

/-- Rows 1 and 3 to 10 for worker k. -/
def joinCheck (s : State) (k : Nat) (w : Worker) : Verdict :=
  let d := w.desc
  let ver (lo : Nat) : Nat := leNat (descBytes d lo 1)
  let ep := leNat (descBytes d 30 4)
  if !bitOf (s.ob .asmAdmitted) k then ⟨2, 1, false⟩
  else if ver 25 ≠ Config.dowelVersion.toNat / 256 then ⟨2, 3, false⟩
  else if ver 18 ≠ fwMajor s ∨ 1 < apart (ver 19) (fwMinor s) then ⟨2, 4, false⟩
  else if ver 21 ≠ Config.libVersion.toNat / 65536 then ⟨2, 5, false⟩
  else if descBytes d 10 8 ≠ cfgDigest s then ⟨2, 6, false⟩
  else if w.timeBad then ⟨2, 7, false⟩
  else
    let rl := ep != 0 && ep != s.rd .asmEpoch
    if w.timeDoubt then ⟨3, 8, rl⟩ else ⟨4, 0, rl⟩

/-- The events of a verdict. -/
def verdictEvents (k : Nat) (v : Verdict) (s : State) : State :=
  let s := if v.reload then raise .asmReload 1 k s else s
  match v.reason with
  | 1 => raise .asmNotAdmitted 1 k s
  | 3 => raise .asmVersionMismatch 1 k s
  | 4 => raise .asmVersionMismatch 1 (k + 16) s
  | 5 => raise .asmVersionMismatch 1 (k + 32) s
  | 6 => raise .asmCfgMismatch 1 k s
  | 7 => raise .asmTimeSuspect 1 (k + 16) s
  | 8 => raise .asmTimeSuspect 1 k s
  | _ => raise .asmJoin 1 k s

/-- Nodes in a state. -/
def nodesIn (s : State) (st : Nat) : Nat := ((whichOf 16 fun k => k != 0 && (s.wkr k).state == st).map (2 ^ ·)).sum

/-- ASM_NODES, ASM_NODES2 and ASM_FEAT of the manager. -/
def showNodes (s : State) : State :=
  let f := (whichOf 16 fun k => k != 0 && inService s k).foldl (fun f k => f &&& (s.wkr k).features) ownFeatures
  let s := (s.wr .asmMember (nodesIn s 4 + 1)).wr .asmQuar (nodesIn s 2)
  ((s.wr .asmSuspect (nodesIn s 3)).wr .asmLost (nodesIn s 5)).wr .asmFeat f

/-- The manager decides on worker k by its last HELLO (R408). -/
def decideOn (k : Nat) (s : State) : State :=
  let w := s.wkr k
  let v := joinCheck s k w
  let was := inService s k
  let s := s.setWkr k { w with state := v.state, reason := v.reason, asked := false,
                               run100 := if v.state = 3 ∧ w.state ≠ 3 then 0 else w.run100,
                               quarTime := w.timeBad || (w.quarTime && v.state == 2) }
  let s := showNodes (verdictEvents k v s)
  if inService s k ≠ was then reroute s else sendVerdict k s

/-- Checks for every worker at once. -/
def recheckAll (s : State) : State :=
  if isManager s then foldN 16 (fun k s => if k ≠ 0 ∧ 0 < (s.wkr k).state ∧ (s.wkr k).state < 5 then decideOn k s else s) s else s

/-- A HELLO on the pair port (R432). -/
def pairHello (m : DwlMsg) (s : State) : State :=
  let d := m.data
  let s :=
    if s.pair.on ∧ dAt d 1 1 % 2 = s.rd .pairRank ∧ !(s.on .pairConflict) then raise .pairRankConflict 1 0 (s.wr .pairConflict 1) else s
  let dig := (d.drop 2).take 8 != cfgDigest s
  let fw := dAt d 10 1 != fwMajor s || dAt d 11 1 != fwMinor s
  if dig || fw then
    let s := { s with pair := { s.pair with mismatch := true } }
    if s.rd .pairRole = 2 then raise .pairCfgMismatch 1 (if dig then 0 else 1) (s.wr .pairMirrorOk 0) else s
  else { s with pair := { s.pair with mismatch := false } }

/-- A HELLO from node k at the manager. -/
def workerHello (k : Nat) (m : DwlMsg) (links : List (Nat × Nat)) (s : State) : State :=
  let w := s.wkr k
  let d := m.data.take 44
  if 0 < w.state ∧ w.state < 5 ∧ descBytes w.desc 44 8 ≠ descBytes d 44 8 then
    let refused := bitOf (s.ob .asmAdmitted) k
    let s := raise .asmNotAdmitted 1 (k + 16 * b2n refused) s
    dwlMsg m.port 1 true k m.tag 1
      (leBytes 1 (if refused then 1 else 2) ++ leBytes 1 (if refused then 2 else 1) ++ leBytes 4 (s.rd .asmEpoch) ++ leBytes 10 0) s
  else
    let s := s.setWkr k { w with desc := d, links := links, port := m.port, asked := true }
    let s := if (routeTo s k).isNone then
        let (r, v) := (s.rd .dwlRoute, s.rd .dwlRouteV)
        takeRoutes (r - bitsOf r (2 * k) 2 * 4 ^ k + m.port * 4 ^ k) (setBit v k true) s
      else s
    let s := if w.timed then decideOn k s else s
    if links ≠ w.links then reroute s else s

/-- DWL_HELLO (R407, R408, R432): with the links that the worker reports. -/
def execDwlHello (dt : Nat) (links : List (Nat × Nat)) (s : State) : Out :=
  after dt s (onMsg 1 false fun m s =>
    if onPair s m then pairHello m s else if isManager s ∧ m.src ≠ 0 then workerHello m.src m links s else s)

/-! Workers (R407, R415, R418). -/

/-- The worker discards its Assembly contexts. -/
def dropAsm (s : State) : State := foldN 64 (fun k s => if asmSlot s k then endContext k s else s) s

/-- Held channels are flushed. -/
def flushHeld (s : State) : State := foldN 64 (fun ch s => if asmSlot s (s.rd .chSlot ch) then cancelQueued ch 8 s else s) s

def verdictTake (m : DwlMsg) (s : State) : State :=
  let d := m.data
  let st := dAt d 0 1
  let ep := dAt d 2 4
  let inS := decide (st = 3 ∨ st = 4)
  let s := if inS ∧ asmResident s ∧ s.rd .asmEpoch ≠ ep then dropAsm s else s
  let s := if s.dwl.held ∧ inS then flushHeld s else s
  let s := { s with dwl := { s.dwl with verdict := some st, held := s.dwl.held && !inS, mgrAt := s.now } }
  let s := if inS then ((s.wr .asmEpoch ep).wr .asmFeat (dAt d 6 4)).wr .asmState 2 else s
  let r := dAt d 10 4
  takeRoutes (r - r % 4 + m.port) (setBit (dAt d 14 2) 0 true) s

/-- DWL_VERDICT (R415, R418, R419). -/
def execDwlVerdict (dt : Nat) (s : State) : Out :=
  after dt s (onMsg 1 true fun m s => if s.rd .asmRole = 2 ∧ m.src = 0 then verdictTake m s else s)

/-- A verdict leaves the worker to ask again. -/
def asksAgain (s : State) : Bool := s.dwl.verdict.isNone || s.dwl.verdict == some 1 || s.dwl.verdict == some 2 || s.dwl.held

def asmHelloTimer (s : State) : State :=
  let new := s.dwl.sent != descHead s
  if s.rd .asmRole = 2 ∧ s.rdBit .dwlRouteV 0 ∧ (new ∨ (asksAgain s ∧ every s s.dwl.helloAt (100 * rootPerMs))) then
    dwlSend 1 false 0 0 1 (descriptor s) { s with dwl := { s.dwl with sent := descHead s, helloAt := s.now } }
  else if s.pair.on ∧ s.on .pairLink ∧ new then pairHelloSend { s with dwl := { s.dwl with sent := descHead s } }
  else s

/-- ASM_HELLO_TIMER (R407, R432). -/
def execAsmHelloTimer (dt : Nat) (s : State) : Out := after dt s asmHelloTimer

/-! Time (R411, R412, R435). -/

/-- The port on which a shadow keeps time with the active device. -/
def pairTimePort (s : State) : Option Nat := if s.rd .pairRole = 2 ∧ s.on .pairLink then pairPort s else none

/-- Interval of TIME in root cycles and in ns. -/
def timeInt (s : State) : Nat := s.rd .dwlTimeInt * rootPerUs

def timePay (s : State) : List Byte :=
  leBytes 6 s.clk.sec ++ leBytes 4 s.clk.ns ++ leBytes 4 (unsigned 32 s.dwl.ofs) ++ leBytes 1 (b2n (s.dwl.t1 != 0)) ++ leBytes 37 0

def asmTimeTimer (s : State) : State :=
  if every s s.dwl.timeAt (timeInt s) then
    let s' := { s with dwl := { s.dwl with timeAt := s.now, t1 := s.dtNs } }
    match pairTimePort s with
    | some p => dwlMsg p 6 false (ownNode s) 0 1 (timePay s) s'
    | none => if s.rd .asmRole = 2 ∧ s.rdBit .dwlRouteV 0 then dwlSend 6 false 0 0 1 (timePay s) s' else s
  else s

/-- ASM_TIME_TIMER (R411, R435). -/
def execAsmTimeTimer (dt : Nat) (s : State) : Out := after dt s asmTimeTimer

/-- The answer to a TIME request: t2, t3 and the CORR sum of the request. -/
def timeAnswerPay (s : State) (m : DwlMsg) : List Byte :=
  leBytes 6 (m.at_ / 1000000000) ++ leBytes 4 (m.at_ % 1000000000) ++ leBytes 6 s.clk.sec ++ leBytes 4 s.clk.ns ++
    leBytes 4 (dAt m.data 48 4) ++ leBytes 28 0

/-- A REPORT of worker k (R412). -/
def takeReport (k : Nat) (r : Int) (s : State) : State :=
  let w := s.wkr k
  let a := r.natAbs
  let w := { w with report := r, timed := true, run100 := if a ≤ 100 then w.run100 + 1 else 0,
                    run2us := if a ≤ 2000 then w.run2us + 1 else 0, quarTime := w.quarTime || decide (2000 < a) }
  let s := s.setWkr k w
  let due := w.asked || (w.state == 4 && decide (200 < a)) || (decide (3 ≤ w.state) && w.state != 5 && decide (2000 < a)) ||
    (w.state == 3 && decide (8 ≤ w.run100)) || (w.state == 2 && w.reason == 7 && decide (8 ≤ w.run2us))
  if due then decideOn k s else s

def timeRequest (m : DwlMsg) (s : State) : State :=
  if onPair s m then
    if s.rd .pairRole = 1 then dwlMsg m.port 6 true (ownNode s) m.tag 1 (timeAnswerPay s m) s else s
  else if isManager s ∧ m.src ≠ 0 then
    let s := if dAt m.data 14 1 = 1 then takeReport m.src (dInt m.data 10 4) s else s
    dwlSend 6 true m.src m.tag 1 (timeAnswerPay s m) s
  else s

/-- DWL_TIME_REQUEST (R411, R412). -/
def execDwlTimeRequest (dt : Nat) (s : State) : Out := after dt s (onMsg 6 false timeRequest)

/-- DTIME follows the manager, or the active device (R412). -/
def dwlServo (o : Int) (s : State) : State :=
  if 1000 ≤ o.natAbs ∧ s.rd .ceAxRun = 0 then dtimeAdj 1 (BitVec.ofInt 32 (-(satInt 31 o))) s
  else
    let t : Rat := s.rd .dwlTimeInt * 1000
    let i := slewClamp (s.dwl.servo + 3 / 10 * (o : Rat) / t)
    writeInc (slewClamp (i + 7 / 10 * (o : Rat) / t)) { s with dwl := { s.dwl with servo := i } }

def timeAnswer (m : DwlMsg) (s : State) : State :=
  let d := m.data
  let t2 : Int := dAt d 0 6 * 1000000000 + dAt d 6 4
  let t3 : Int := dAt d 10 6 * 1000000000 + dAt d 16 4
  let o := Int.tdiv (((s.dwl.t1 : Int) - t2) + (m.at_ - t3) + dAt d 20 4 - dAt d 48 4) 2
  let mine := if onPair s m then s.rd .pairRole == 2 else s.rd .asmRole == 2
  if mine then dwlServo o ({ s with dwl := { s.dwl with ofs := satInt 32 o } }.wrS .dwlOfsNs (satInt 32 o)) else s

/-- DWL_TIME_ANSWER (R411, R412). -/
def execDwlTimeAnswer (dt : Nat) (s : State) : Out := after dt s (onMsg 6 true timeAnswer)

/-! Grid (R413). -/

/-- Does this device take a SYNC: a worker in service from node 0, a shadow from the active device (R413, R435, Table ASM-5)? -/
def takesSync (s : State) (m : DwlMsg) : Bool :=
  if onPair s m then s.pair.on && s.rd .pairRole != 1 else s.rd .asmRole == 2 && m.src == 0 && (s.dwl.verdict == some 3 || s.dwl.verdict == some 4)

def dwlSync (m : DwlMsg) (s : State) : State :=
  if !(takesSync s m) then s else
  let e := dAt m.data 1 6
  let s' := ((s.wr .epochNsec 0).wr .epochSecLo e)
  let s' := tbCfgWrite 1 (BitVec.ofNat 32 (dAt m.data 0 1)) s'
  (epochArm 1 (BitVec.ofNat 32 (e / 2 ^ 32 % 2 ^ 16 + 2 ^ 31)) s').wr .asmGridOk (b2n (!s.anyEnabled))

/-- DWL_SYNC (R413, R435). -/
def execDwlSync (dt : Nat) (s : State) : Out := after dt s (onMsg 5 false dwlSync)

def asmFormed (s : State) : State :=
  if isManager s ∧ s.rd .asmState = 1 ∧
      (s.now = s.boot.t0 + 400 * rootPerMs ∨ s.pair.on ∧ s.boot.t0 + 400 * rootPerMs ≤ s.now) then
    let s := s.wr .asmState 2
    let s := raise .asmFormed 1 (s.rd .asmMember + s.rd .asmSuspect) s
    foldN 16 (fun k s => if k ≠ 0 ∧ inService s k then dwlSend 5 false k 0 1 (syncPay s) s else s) s
  else s

/-- ASM_FORMED (R413, R414); the device that takes a pair over forms its Assembly later. -/
def execAsmFormed (dt : Nat) (s : State) : Out := after dt s asmFormed

/-! Losses (R417, R418). -/

def asmWorkerLost (k : Nat) (s : State) : State :=
  let w := s.wkr k
  if isManager s ∧ k ≠ 0 ∧ 0 < w.state ∧ w.state < 5 ∧ w.flitAt + s.rd .asmWkrTo * rootPerMs ≤ s.now then
    reroute (raise .asmMemberLost 1 k (showNodes (s.setWkr k { w with state := 5 })))
  else s

/-- ASM_WORKER_LOST (R417). -/
def execAsmWorkerLost (dt : Nat) (k : Fin 16) (s : State) : Out := after dt s (asmWorkerLost k)

def asmManagerLost (s : State) : State :=
  if s.rd .asmRole = 2 ∧ s.dwl.verdict.isSome ∧ !s.dwl.held ∧ s.dwl.mgrAt + s.rd .asmMgrTo * rootPerMs ≤ s.now then
    raise .asmManagerLost 1 0 ({ s with dwl := { s.dwl with held := true } }.wr .asmState 3)
  else s

/-- ASM_MANAGER_LOST (R418). -/
def execAsmManagerLost (dt : Nat) (s : State) : Out := after dt s asmManagerLost

/-! Tasks and forwarding (R410, R416). -/

/-- Take the next tag. -/
def nextTag (s : State) : Nat × State :=
  (s.dwl.nextTag, { s with dwl := { s.dwl with nextTag := (s.dwl.nextTag + 1) % 65536 } })

def asmForward (s : State) : State :=
  odServe (fun q => q.writes .asmForward)
    (fun q s =>
      let r := q.data.getD []
      let node := dAt r 0 1
      let op := dAt r 1 1
      if ownCheck q ≠ 0 then odDone q (ownCheck q) s
      else if !(isManager s) then odDone q abState s
      else if dAt r 2 2 ≠ 0 ∨ (op ≠ 2 ∧ op ≠ 3) ∨ !vdpFormOk op false (r.drop 4) ∨ node = 0 ∨ 15 < node then odDone q abValue s
      else if (s.wkr node).state < 2 ∨ 4 < (s.wkr node).state then odDone q abState s
      else
        let (t, s) := nextTag s
        let s := { s with dwl := { s.dwl with fwd := s.dwl.fwd ++ [⟨t, node, q, s.now⟩] } }
        dwlSend 4 false node t 1 (fwdPay 1 r) s) s

/-- ASM_FORWARD (R410): the write of 0x2830:01. -/
def execAsmForward (dt : Nat) (s : State) : Out := after dt s asmForward

def asmForwardTimeout (s : State) : State :=
  match s.dwl.fwd.find? fun f => decide (f.at_ + 500 * rootPerMs ≤ s.now) with
  | none => s
  | some f =>
    let s := { s with dwl := { s.dwl with fwd := s.dwl.fwd.filter fun g => g.tag != f.tag } }
    odDone f.req abState (raise .asmForwardTimeout 1 f.node s)

/-- ASM_FORWARD_TIMEOUT (R410). -/
def execAsmForwardTimeout (dt : Nat) (s : State) : Out := after dt s asmForwardTimeout

/-- A forwarded request at a worker. -/
def forwarded (m : DwlMsg) (s : State) : State :=
  let r := (m.data.drop 4).take (dAt m.data 2 2)
  let p := r.drop 4
  if dAt r 1 1 = 3 then odReceive ⟨.dowel m.tag, .write p, 0x3801, 1⟩ s
  else odReceive ⟨.dowel m.tag, .write (p.drop 4), payIdx p, paySub p⟩ s

/-- The answer to a forward at the manager. -/
def forwardAnswer (m : DwlMsg) (s : State) : State :=
  let r := (m.data.drop 4).take (dAt m.data 2 2)
  match s.dwl.fwd.find? fun f => f.tag == m.tag && f.node == m.src with
  | none => s
  | some f =>
    let s := { s with dwl := { s.dwl with fwd := s.dwl.fwd.filter fun g => g.tag != f.tag } }
    odReply f.req (dAt r 0 4) (dAt r 4 4) (r.drop 8) s

/-- A task descriptor for a channel: payload bytes 8 to 71. -/
def taskMsg (m : DwlMsg) (s : State) : State :=
  placeTasks (dAt m.data 1 1 % 64) [(List.range 16).map fun k => dAt m.data (8 + 4 * k) 4] s

/-- The state that a device is in, as Table ASM-5 counts it: the manager is in service. -/
def ownState (s : State) : Nat := if s.rd .asmRole = 2 then s.dwl.verdict.getD 0 else 4

def dwlTask (m : DwlMsg) (s : State) : State :=
  match dAt m.data 0 1 with
  | 0 => if 3 ≤ ownState s then taskMsg m s else s
  | 1 => if s.rd .asmRole = 2 ∧ m.src = 0 ∧ 2 ≤ ownState s then forwarded m s else s
  | 2 =>
    let s := foldN s.dwl.fwd.length (fun _ s => asmForwardTimeout s) s
    if isManager s ∧ 2 ≤ (s.wkr m.src).state ∧ (s.wkr m.src).state ≤ 4 then forwardAnswer m s else s
  | _ => s.bump .dwlCntBad 1 m.port

/-- DWL_TASK (R410, R416). -/
def execDwlTask (dt : Nat) (s : State) : Out := after dt s (onMsg 4 false dwlTask)

/-! Handing an invocation on (R416). -/

/-- The first task of the next part is sent once the tasks of this one have completed; a part of a model whose nodes do not serve it, or
whose channel has halted, is not handed on (R409, R417). -/
def handNext (s : State) (h : HandWait) : State :=
  let ch := s.rd .chState h.ch
  let gone := { s with host := { s.host with hands := s.host.hands.filter (· != h) } }
  let serves := s.host.models.any fun m => m.slot == h.slot && nodesOk s m
  if ch = 2 ∨ !serves then gone
  else if 0 ≤ s32 ((s.rd .chDone h.ch + 2 ^ 32 - h.count) % 2 ^ 32) then
    dwlSend 4 false h.next.node 0 (s.rd .ctxTid h.slot)
      (leBytes 1 0 ++ leBytes 1 h.next.ch ++ leBytes 6 0 ++ (h.next.words.take 16).flatMap (leBytes 4)) gone
  else s

def handOver (s : State) : State := s.host.hands.foldl handNext s

/-- TASK_COMPLETE (R280, R282, R288, R416): the transfers of a DMA task are made at its completion. -/
def execTaskComplete (dt : Nat) (ch : Fin 64) (i : Fin 8) (s : State) : Out := after dt s fun s => handOver (taskComplete ch i s)

/-- TASK_OVERRUN (R285, R416); `rows`: the rows that a DMA task has moved by then. -/
def execTaskOverrun (dt : Nat) (ch : Fin 64) (i : Fin 8) (rows : Nat) (s : State) : Out :=
  after dt s fun s => handOver (taskOverrun ch i rows s)

end Sys2Proof.Machine
end

