-- ==== Sys2Proof/Machine/Pair.lean ====
section
/-! DEFINITION. The redundant pair: base ticks, mirrors, takeovers, yields and handovers (chapter 20). -/

namespace Sys2Proof.Machine

/-! Sending a mirror (R429, Table PAIR-6). -/

/-- A flit of 52 payload bytes. -/
def flit52 (l : List Byte) : List Byte := padTo 52 l

/-- A guard as flits 1 to 4 carry it: value, stamp nanoseconds with PUB in bit 31, stamp seconds. -/
def mirGuard (s : State) (g : Nat) : List Byte :=
  leBytes 4 (s.loop.gVal.get 0 g) ++ leBytes 4 (s.loop.gNs.get 0 g % 2 ^ 31 + 2 ^ 31 * s.rd .gdPub g) ++ leBytes 4 (s.loop.gSec.get 0 g)

/-- The values of an axis: those of its last completed run, or free values if it has completed none. -/
def mirVals (n : Nat) (s : State) : List Nat × State :=
  let a := s.ax n
  if a.mir.isEmpty then
    let (k, s) := s.fresh
    ((List.range 11).map fun j => (Config.freeAt k j).toNat, s)
  else (a.mir, s)

/-- The flit of an axis with EN = 1. -/
def mirAxisFlit (n : Nat) (s : State) : List Byte × State :=
  let (v, s) := mirVals n s
  let flags := 1 + 2 * s.rd .axMode n + 8 * s.rd .axSpsrc n
  (flit52 (leBytes 1 n ++ leBytes 1 flags ++ leBytes 1 (s.prof n).st ++ leBytes 1 (s.ob .axModeObj n) ++ v.flatMap (leBytes 4) ++
    leBytes 4 (s.ax n).mirIdx), s)

/-- Flits 0 to 4: EN mask `en` and flags `fl`. -/
def mirHead (s : State) (idx en fl : Nat) : List Byte :=
  flit52 (leBytes 4 idx ++ leBytes 1 en ++ leBytes 1 fl ++ leBytes 4 (s.rd .pairHoTick) ++ leBytes 4 (s.rd .asmEpoch) ++
    leBytes 6 s.clk.sec ++ leBytes 4 s.clk.ns) ++
    (List.range 4).flatMap fun f => flit52 ((List.range 4).flatMap fun k => mirGuard s (4 * f + k))

/-- Send a mirror on the pair port. -/
def sendMirror (idx en fl : Nat) (ax : List Byte) (s : State) : State :=
  match pairPort s with
  | none => s
  | some p => if portUp s p then dwlMsg p 7 false (ownNode s) 0 1 (mirHead s idx en fl ++ ax) s else s

/-- The active device sends the mirror of base tick j. -/
def mirrorOut (j : Nat) (s : State) : State :=
  let en := whichOf 8 fun n => s.on .axEn n
  let (ax, s) := en.foldl (fun (x : List Byte × State) n =>
    let (l, s) := mirAxisFlit n x.2
    (x.1 ++ l, s)) ([], s)
  sendMirror (j % 2 ^ 32) ((en.map (2 ^ ·)).sum) (b2n (s.pair.ho.any fun h => decide (j < h))) ax s

/-! Base ticks (R55, R424, R429). -/

/-- The base tick that falls now. -/
def State.baseNow (s : State) : Option Nat :=
  if s.onCeEdge ∧ s.ceOn then baseTickAt s.clk.base (ceCount s.clk s.now) else none

def baseTick (s : State) : State :=
  match s.baseNow with
  | none => s
  | some j =>
    if j < s.loop.baseTick then s
    else
      let alive := if s.pin.aliveOn then !s.loop.alive else s.loop.alive
      let s := { s with loop := { s.loop with baseTick := j + 1, alive := alive } }
      if !s.pair.on then s
      else
        let s := s.bump .pairMirrorAge 1
        if s.rd .pairRole = 1 then mirrorOut j s else s

/-- BASE_TICK (R55, R424, R429). -/
def execBaseTick (dt : Nat) (s : State) : Out := after dt s baseTick

/-! Receiving a mirror (R429, R430, R434). -/

/-- The axis that a flit describes. -/
def readMirAx (l : List Byte) : MirAx :=
  ⟨dAt l 0 1, dAt l 1 1, dAt l 2 1, dAt l 3 1, (List.range 11).map fun k => dAt l (4 + 4 * k) 4, dAt l 48 4⟩

/-- A complete message. -/
def readMirror (d : List Byte) : Mirror :=
  let en := dAt d 4 1
  ⟨dAt d 0 4, en, dAt d 5 1, dAt d 6 4, dAt d 10 4, (List.range 48).map fun k => dAt d (52 * (1 + k / 12) + 4 * (k % 12)) 4,
   (List.range (popcount 8 en)).map fun k => readMirAx (d.drop (52 * (5 + k)))⟩

/-- The mirrored guards are published with their stamps; a guard that the active has not published stays. -/
def mirrorGuards (m : Mirror) (s : State) : State :=
  foldN 16 (fun g s =>
    let w (k : Nat) : Nat := m.guards.getD (3 * g + k) 0
    if bitOf (w 1) 31 then
      publishGuard g (w 0) (w 2) (w 1 % 2 ^ 31) (((s.wr .gdVal (w 0) g).wr .gdTsNs (w 1 % 2 ^ 31) g).wr .gdTsS (w 2) g)
    else s) s

/-- PAIR_ENC_DELTA follows each mirrored axis. -/
def mirrorDeltas (m : Mirror) (s : State) : State := m.axes.foldl (fun s x => s.wr .pairEncDelta (encDelta s x.axis x) x.axis) s

/-- Root time of base tick j. -/
def baseRoot (s : State) (j : Nat) : Nat := s.clk.epoch + baseTime s.clk.base j * rootPerCe

/-- Axes of the mask whose open period ends at or after base tick j: it is their pre-roll period. -/
def preRollNow (s : State) (en j : Nat) : Nat :=
  ((whichOf 8 fun n => bitOf en n && (s.ax n).open_ && decide (baseRoot s j ≤ nextTick s n)).map (2 ^ ·)).sum

/-- Is the pre-roll latch of every axis of a mask still to come? -/
def beforeLatch (s : State) (pre : Nat) : Bool :=
  (List.range 8).all fun n => !bitOf pre n || decide (s.now + 840 * rootPerCe < nextTick s n)

/-- The mirror of tick j − 1 starts the pre-roll of a handover, and READY is sent. -/
def handoverPreRoll (m : Mirror) (s : State) : State :=
  let pre := preRollNow s m.en m.hoTick
  if beforeLatch s pre then
    let s := setTko (some ⟨3, false, m.en, 0, 0, pre, 0⟩) s
    sendMirror m.idx 0 2 [] { s with pair := { s.pair with ready := true } }
  else s

/-- A complete mirror at a shadow. -/
def takeMirror (m : Mirror) (s : State) : State :=
  let s := mirrorGuards m { s with pair := { s.pair with mir := some m, linkTold := false } }
  let s := ((s.wr .pairMirrorAge 0).wr .pairMirrorIdx m.idx).wr .pairMirrorOk (b2n (!s.pair.mismatch))
  let s := mirrorDeltas m (s.wr .asmEpoch m.epoch)
  if bitOf m.flags 0 ∧ s.rd .pairRole = 2 then
    let s := { s with pair := { s.pair with ho := some m.hoTick } }.wr .pairHoTick m.hoTick
    if (m.idx + 1) % 2 ^ 32 = m.hoTick ∧ s.pair.tko.isNone then handoverPreRoll m s else s
  else s

def dwlMirror (m : DwlMsg) (s : State) : State :=
  let r := readMirror m.data
  if s.rd .pairRole = 2 ∨ s.rd .pairRole = 3 then takeMirror r s
  else if s.rd .pairRole = 1 ∧ bitOf r.flags 1 ∧ s.pair.ho.isSome then { s with pair := { s.pair with ready := true } }
  else s

/-- DWL_MIRROR (R429, R430, R434). -/
def execDwlMirror (dt : Nat) (s : State) : Out := after dt s (onMsg 7 false dwlMirror)

/-! Takeover (R426, R427). -/

/-- CAN0 leaves restricted operation mode, or takes it up. -/
def can0Rom (b : Bool) (s : State) : State := (s.wr .canRom (b2n b) 0).setCtl 0 { s.ctl 0 with rom := b }

/-- ACTIVE_N is asserted, and the shared clocks are driven. -/
def claimActive (s : State) : State :=
  can0Rom false ({ s with pin := { s.pin with activeN := some false, clkPads := true } }.wr .pairRole 3)

/-- A takeover starts; a pre-roll under way for a handover stands. -/
def startTakeover (cause : Nat) (s : State) : State :=
  let s := claimActive { s with pair := { s.pair with ho := none } }
  let s := s.wr .pairHoTick 0
  match s.pair.tko, s.pair.mir with
  | some t, _ => finishTko (setTko (some { t with cause := cause }) s)
  | none, none => finishTko (setTko (some ⟨cause, false, 0, 0, 0, 0, 0⟩) s)
  | none, some m => finishTko (setTko (some ⟨cause, m.en == 0 && !mirrorWarm s, m.en, 0, 0, 0, 0⟩) s)

/-- May a takeover start? -/
def mayTakeOver (s : State) : Bool := s.rd .pairRole == 2 && !(s.on .pairConflict)

def peerFail (low : Bool) (s : State) : State :=
  if !s.pair.on then s
  else
    let s := s.wr .pairPeerFail (b2n low)
    if !low then { s with pair := { s.pair with failHigh := true } }
    else if !s.pair.failHigh then s
    else if mayTakeOver s then startTakeover 1 s
    else if s.rd .pairRole = 1 then raise .pairPeerFail 0 0 s
    else s

/-- PEER_FAIL_RECOGNISED (R426): the level recognised on PEER_FAIL_N. -/
def execPeerFailRecognised (dt : Nat) (low : Bool) (s : State) : Out := after dt s (peerFail low)

/-- CECLK from the epoch to the end of ALIVE window k: half an interval after base tick k + 1, rounded down. -/
def windowEnd (base k : Nat) : Nat := (2 * k + 3) * grid2 base / 4

/-- The ALIVE window that ends now. -/
def State.windowNow (s : State) : Option Nat :=
  if s.onCeEdge ∧ s.domOn 2 then
    let c := ceCount s.clk s.now
    (List.range 3).findSome? fun d =>
      let k := c * 4 / (2 * grid2 s.clk.base) + d - 2
      if windowEnd s.clk.base k = c then some k else none
  else none

/-- Root time at which an ALIVE window began. -/
def windowStart (s : State) (k : Nat) : Nat := s.clk.epoch + (2 * k + 1) * grid2 s.clk.base / 4 * rootPerCe

def aliveWindowEnd (edge : Bool) (s : State) : State :=
  match s.windowNow with
  | none => s
  | some k =>
    if !s.pair.on ∨ s.now ≤ s.pair.winAt then s
    else
      let counts := s.boot.t0 + 100 * rootPerMs ≤ windowStart s k
      let n := if edge then 0 else if counts then s.pair.empty + 1 else s.pair.empty
      let s := { s with pair := { s.pair with winAt := s.now, empty := n } }.wr .pairPeerAlive (b2n edge)
      if n < 3 then s
      else if mayTakeOver s then startTakeover 2 s
      else if s.rd .pairRole = 1 ∧ n = 3 then raise .pairPeerFail 0 1 s
      else s

/-- ALIVE_WINDOW_END (R426); `edge`: PEER_ALIVE has shown an edge in the window. -/
def execAliveWindowEnd (dt : Nat) (edge : Bool) (s : State) : Out := after dt s (aliveWindowEnd edge)

/-! Yield (R428). -/

/-- The device gives up the role: pads and clocks high-Z, axes disabled, ACTIVE_N high, CAN0 restricted. -/
def releaseRole (s : State) : State :=
  let s := stopAll s
  let s := { s with pin := { s.pin with activeN := some true, clkPads := false },
                    pair := { s.pair with tko := none, ho := none, ready := false } }
  can0Rom true ((s.wr .pairHoTick 0).wr .pairRole 2)

def peerActive (low : Bool) (s : State) : State :=
  if !s.pair.on then s
  else
    let fell := low && !(s.on .pairPeerActive)
    let s := s.wr .pairPeerActive (b2n low)
    if fell ∧ s.pin.activeN = some false then raise .pairYield 0 0 (releaseRole s) else s

/-- PEER_ACTIVE_FALL (R428): the level recognised on PEER_ACTIVE_N. -/
def execPeerActiveFall (dt : Nat) (low : Bool) (s : State) : Out := after dt s (peerActive low)

/-! The link (R431). -/

/-- EVT_PAIR_LINK_LOST, once. -/
def pairLinkLost (why : Nat) (s : State) : State :=
  if s.pair.linkTold then s else raise .pairLinkLost 1 why { s with pair := { s.pair with linkTold := true } }

/-- Is the newest mirror too old, with axes enabled in it? -/
def mirrorStale (s : State) : Bool :=
  s.rd .pairRole == 2 && decide (s.ob .pairMaxAge < s.rd .pairMirrorAge) && s.pair.mir.any fun m => m.en != 0

def pairMirrorStale (s : State) : State :=
  if !s.pair.on then s
  else if s.pair.portLost ∧ (s.rd .pairRole = 1 ∨ s.rd .pairRole = 2) then
    pairLinkLost 0 { s with pair := { s.pair with portLost := false } }
  else if mirrorStale s then pairLinkLost 1 s
  else s

/-- PAIR_MIRROR_STALE (R431). -/
def execPairMirrorStale (dt : Nat) (s : State) : Out := after dt s pairMirrorStale

/-! Handover (R433, R434). -/

/-- A write of 1 to 0x2910:02 at the active device: the abort code and the state (R433). -/
def handoverRequest (s : State) : Nat × State :=
  if s.pair.on ∧ s.rd .pairRole = 1 ∧ s.on .pairLink ∧ !s.pair.mismatch ∧ s.pair.ho.isNone then
    let j := s.loop.baseTick - 1 + s.ob .pairLead
    (0, { s with pair := { s.pair with ho := some j, ready := false } }.wr .pairHoTick j)
  else (abState, s)

/-- Now is the pending handover tick. -/
def atHandover (s : State) : Bool :=
  match s.pair.ho, s.baseNow with
  | some j, some i => i % 2 ^ 32 == j % 2 ^ 32
  | _, _ => false

def pairHandoverTick (s : State) : State :=
  if !atHandover s then s
  else
    let ready := s.pair.ready
    let s := { s with pair := { s.pair with ho := none, ready := false } }.wr .pairHoTick 0
    if s.rd .pairRole = 1 then
      if ready then raise .pairHandover 1 0 (releaseRole s) else raise .pairHandover 1 1 s
    else if s.rd .pairRole = 2 then
      if ready then finishTko (claimActive s) else setTko none s
    else s

/-- PAIR_HANDOVER_TICK (R434). -/
def execPairHandoverTick (dt : Nat) (s : State) : Out := after dt s pairHandoverTick

end Sys2Proof.Machine
end

