-- ==== Sys2Proof/Machine/Reset.lean ====
section
/-! DEFINITION. Resets (chapter 22): what the reset of a power domain takes away, the reset of the whole part, and the stored
values that the objects take. -/

namespace Sys2Proof.Machine

/-! Power domains of the registers (Tables ARC-1 and PWR-1). -/

/-- Byte offset of a field instance in its block. -/
def RegKey.off (k : RegKey) : Nat := k.r.info.off + k.i * k.r.info.st1 + k.j * k.r.info.st2

/-- Domain of a register of the TEN or the CNV block: the registers of each cluster lie in the domain of the cluster. -/
def clusterDomain (stride off : Nat) : Nat := if 0x100 ≤ off ∧ off < 0x100 + 8 * stride then 5 + (off - 0x100) / stride else 21

/-- The power domain of a register. -/
def regDomain (k : RegKey) : Nat :=
  match k.r.info.slot with
  | 2 => 1
  | 3 => 2
  | 4 => 3
  | 5 => 2
  | 6 => 14
  | 7 => 13
  | 8 => clusterDomain 0x200 k.off
  | 9 => clusterDomain 0x40 k.off
  | 10 => 15
  | 20 => 16
  | 23 => 19
  | 24 => 18
  | 25 => 17
  | 26 => 20
  | 27 => 20
  | 28 => 0
  | 29 => 1
  | 30 => 22
  | 33 => 0
  | 34 => 4
  | 256 => 17
  | _ => 21

/-- Fields that show what no domain reset changes: OTP, Veneer retention, the log, the references. -/
def RegId.shows (r : RegId) : Bool :=
  match r with
  | .crySlotType | .crySlotState | .crySlotMask | .cryCnt | .hostEvseq | .ckgLsxPresent
  | .ckgQualRef | .ckgPllLock | .ckgLsxLost | .ckgQualFails => true
  | _ => false

/-- The registers of domain d return to their reset values; `rws`: fields of type RWS do not (Table SC-4), nor does
SAF_RESTART_CNT, which counts from power-on (Table SAF-5). -/
def clearDomainRegs (rws : Bool) (d : Nat) (s : State) : State :=
  s.clearRegs fun k => regDomain k == d && !k.r.shows && !(rws && (k.r.info.ty == .rws || k.r == .safRestartCnt))

/-! What the straps give (R82, R322, R406, R421). -/

/-- A field of VNR_STRAP. -/
def strap (s : State) (lo w : Nat) : Nat := bitsOf (s.rd .vnrStrap) lo w

/-- Does ASM_ROLE disagree with the rules of R406? -/
def strapRoleBad (role node : Nat) : Bool := role == 3 || (role == 1 && node != 0) || (role == 2 && node == 0)

/-- Reset bit timing of CAN0 with CAN0_RATE_SEL 1 (Table CAN-2). -/
def fastCan0 (s : State) : State :=
  let s := (((s.wr .canAPre 0).wr .canAS1 62).wr .canAS2 15).wr .canASjw 15
  let s := (((s.wr .canDPre 0).wr .canDS1 10).wr .canDS2 3).wr .canDSjw 3
  (s.wr .canSspWin 4).wr .canSspOfs 12

/-- The fields of domain d that the straps give. -/
def strapFields (d : Nat) (s : State) : State :=
  match d with
  | 3 => s.wr .mioPol (strap s 10 1)
  | 19 => if strap s 9 1 = 1 then fastCan0 s else s
  | 20 =>
    let role := strap s 3 2
    let node := strap s 5 4
    let bad := strapRoleBad role node
    let s := ((s.wr .asmRole (if bad then 0 else role)).wr .asmNode node).wr .asmStrapErr (b2n bad)
    s.wr .pairRank (strap s 2 1)
  | _ => s

/-! The reset of a domain beside its registers. -/

/-- Tasks on the resources of cluster c end with result 8. -/
def endClusterTasks (c : Nat) (s : State) : State :=
  (s.sch.runs.filter fun r => r.res.cluster == c).foldl (fun s r => endRun r 8 s) s

/-- The runtime stops: server, node, VDP and what it knows of the host are gone. -/
def runtimeStop (s : State) : State :=
  let s := (s.wr .hostRdy 0).wr .hostDictReady 0
  { s with
    od := { s.od with queue := [], store := none, staging := [], auth := none, answer := none },
    can := { s.can with node := .init },
    eth := { s.eth with vdpIn := [], sess := [], chan := [] } }

/-- Streams and the cluster's work stop with cluster c. -/
def clusterReset (c : Nat) (s : State) : State :=
  let s := clearCluster c (dropImages c (clusterLost c (endClusterTasks c s)))
  let s := foldN 8 (fun j s => { s with comp := { s.comp with core := s.comp.core.set (8 * c + j) .init } }) s
  { s with comp := { s.comp with cnv := s.comp.cnv.set c .init }, spm := { s.spm with initEnd := s.spm.initEnd.set c none } }

/-- The Safety Island and the supervisors of PD1. -/
def islandReset (s : State) : State :=
  let s := { s with saf := .init, pin := { s.pin with stoN := none },
                    pwr := { PwrSt.init with sw := s.pwr.sw, onAt := s.pwr.onAt } }
  let s := foldN 2 (fun f s => ((s.wr .fanState 0 f).wr .fanD 0 f).wr .fanRetry 0 f) s
  ((s.wr .pwrL 0).wr .pwrVid 10).wr .pwrEst 0

/-- The control engine and Mitre: the axes stop, the guards and slots are gone. -/
def engineReset (s : State) : State :=
  { s with loop := { s.loop with ax := [], lastIssue := none, gVal := [], gSec := [], gNs := [], mit := [] },
           pin := { s.pin with aliveOn := false } }

/-- The motor I/O. -/
def motorReset (s : State) : State :=
  { s with loop := { s.loop with hb := [], dtLog := [], sdClkFrom := [], sd := [], enc := [], pls := [], adc := .init } }

/-- The fabric, its firewalls, pools, scratchpad control, translation and scheduling. -/
def fabricReset (s : State) : State :=
  { s with fab := .init, bpu := .init, mmu := .init, sch := .init, spm := .init, ecc := { s.ecc with spmTold := false },
           clk := { s.clk with epochTgt := none, clrCnt := false, fmtr := none }, log := { s.log with evqTold := [] } }

/-- What the reset of domain d does beside its registers. -/
def domainState (d : Nat) (s : State) : State :=
  match d with
  | 1 => islandReset s
  | 2 => engineReset s
  | 3 => motorReset s
  | 4 => runtimeStop s
  | 13 => { s with comp := { s.comp with yar := [], look := .init, ppu := [] } }
  | 14 => { s with str := .init }
  | 15 => { s with comp := { s.comp with emb := [], locks := [], embSeed := [] } }
  | 16 => { s with memc := { MemcSt.init with trained := s.memc.trained }, ecc := { s.ecc with memTold := false } }
  | 17 => { s with host := { HostSt.init with perst := s.host.perst, perstAt := s.host.perstAt, tids := s.host.tids } }.wr .hostState
      (s.rd .pwrState)
  | 18 => { s with eth := .init }
  | 19 => { s with can := { s.can with ctl := [] } }
  | 20 => { s with dwl := .init, pair := { PairSt.init with on := s.pair.on } }
  | 21 => fabricReset s
  | d => if 5 ≤ d ∧ d ≤ 12 then clusterReset (d - 5) s else s

/-- CKG_EN_STAT of the blocks of domain d reads 0. -/
def ungateDomain (d : Nat) (s : State) : State :=
  foldN 21 (fun b s => if gateDomain b = d then (gateEngines b).foldl (fun s e => emptyL1 e s) (s.wrBit .ckgEnStat b false) else s) s

/-- Domain d loses its state. -/
def domainReset (rws : Bool) (d : Nat) (s : State) : State :=
  strapFields d (clearDomainRegs rws d (domainState d (ungateDomain d s)))

/-- Domain d is off from now. -/
def domainOff (d : Nat) (s : State) : State :=
  let s := (domainReset false d s).wrBit .pwrDomStat d false
  { s with pwr := { s.pwr with sw := s.pwr.sw.set d none } }

/-- Domain d is on: the clocks that CKG_EN selects start; those of a cluster wait for its zero-fill (R212). DRAM has left
self-refresh with PD16 (Table PWR-1), and PD3 recognises the trip inputs afresh (R84). -/
def domainOn (d : Nat) (s : State) : State :=
  let s := { s.wrBit .pwrDomStat d true with pwr := { s.pwr with sw := s.pwr.sw.set d none, onAt := s.pwr.onAt.set d s.now } }
  let s := if d = 16 then showUsable s else if d = 3 then recogniseAfresh s else s
  if 5 ≤ d ∧ d ≤ 12 then spmInitStart (d - 5) s else foldN 21 (fun b s => if gateDomain b = d then gateOn b s else s) s

/-- Turn domains on. -/
def domainsOn (l : List Nat) (s : State) : State := l.foldl (fun s d => domainOn d s) s

/-- Set bits of CKG_EN (R58). -/
def enableClocks (l : List Nat) (s : State) : State := l.foldl (fun s b => gateOn b (s.wrBit .ckgEn b true)) s

/-! Stored values (R301). -/

/-- Objects that registers of PD0, or the drive profile, hold: they take their stored values when the runtime starts. -/
def ObjId.late (o : ObjId) : Bool :=
  o.view.isSome || o == .thmLo || o == .thmHi || o == .axModeObj || o == .safReactObj

/-- The stored A objects. -/
def aStored (s : State) : ObjFile := s.od.aStore

/-- Every object takes its stored value or its default; registers of the Safety Island take the stored A values. -/
def objectsReset (s : State) : State :=
  let s := { s with od := { s.od with vals := [], image := s.od.aImage } }
  let s := (objKeys .a).foldl (fun s k => putStored (aStored s) k s) s
  let s := (objKeys .p).foldl (fun s k => if k.o.late then s else putStored (pStored s) k s) s
  let s := { s with pair := { s.pair with on := s.ob .pairMode == 1 } }
  { s with log := { s.log with cursor := 0, retIdx := 0 } }

/-- One record of the configuration image: index, sub-index, and a value of the object's size. -/
def imageStep (s : State) (l : List Byte) : State × List Byte :=
  match objAt (leNat (l.take 2)) (leNat ((l.drop 2).take 1)) with
  | none => (s, [])
  | some k =>
    let n := k.o.info.ty.bits / 8
    let v := (l.drop 3).take n
    if n = 0 ∨ v.length < n then (s, [])
    else (if odWriteCheck s (leNat (l.take 2)) (leNat ((l.drop 2).take 1)) v = 0 then
        odApply k (leNat v) 0 s else s, l.drop (3 + n))

/-- Apply the records of the configuration image (DESIGN CHOICE, log entry 24). -/
def applyImage : Nat → List Byte → State → State
  | 0, _, s => s
  | n + 1, l, s =>
    if l.isEmpty then s
    else
      let x := imageStep s l
      applyImage n x.2 x.1

/-- The runtime starts: every P object takes its stored value, and the configuration image is applied. -/
def objectsStart (s : State) : State :=
  let s := (objKeys .p).foldl (fun s k => putStored (pStored s) k s) s
  applyImage s.od.image.length s.od.image s

/-! Resets of the whole part (Table BOOT-1). -/

/-- The bank record that applies. -/
def newestRec (l : List BankRec) : Option BankRec :=
  (l.filter (·.valid)).foldl (fun m c => match m with
    | some x => if x.seq < c.seq then some c else some x
    | none => some c) none

/-- The active bank: bank A without a valid record. -/
def activeBank (s : State) : Nat :=
  match newestRec s.boot.recs with
  | some r => r.bank
  | none => 0

/-- A boot begins again: no point of the timeline has passed. -/
def bootAgain (s : State) : State :=
  let b := s.boot
  let s := { s with boot := { b with sif := false, p40 := false, p60 := false, dram := false, rtOk := false, p120 := false, p150 := false,
                                     p300 := false, img := [], trainFails := 0, failed := false, firstCause := none, mb := [],
                                     mbRun := false, written := none, act := activeBank s, s := 0, sr := 0, dwlAt := 0 } }
  (((((s.wr .vnrBootStage 0).wr .vnrBootCause 0).wr .vnrRecovery 0).wr .vnrBootTSif 0).wr .vnrBootTDict 0).wr .vnrBootShift 0

/-- Debug is locked (R476): PD23 is asked for no more, and switches off where it is on. In lifecycle OPEN debug stays unlocked. -/
def lockDebug (s : State) : State :=
  if s.on .vnrLifecycle then
    let off : Option (Bool × Nat) := if s.domOn 23 then some (false, s.now) else none
    { (s.wr .vnrDbgUnlocked 0).wrBit .pwrDomReq 23 false with pwr := { s.pwr with sw := s.pwr.sw.set 23 off } }
  else s

/-- PD1 to PD23 are reset; `rws`: RWS fields keep their values. The log stays, and no longer runs. -/
def resetDomains (rws : Bool) (s : State) : State :=
  let s := fatalFault s
  let ds := (List.range 23).map (· + 1)
  let s := ds.foldl (fun s d => domainReset rws d s) { s with sch := { s.sch with runs := [] }, spm := { s.spm with initEnd := [] } }
  let s := { s.wr .pwrDomStat 1 with
    pin := { s.pin with stoN := none, failN := none, activeN := none, aliveOn := false, clkPads := false },
    log := { s.log with run := false, island := none }, memc := .init, pwr := { s.pwr with sw := [] }, drv := .init, host := { s.host with tids := [] } }
  bootAgain (objectsReset (lockDebug s))

/-- EVT_BOOT_RESET with the causes of VNR_RST_CAUSE. -/
def tellReset (s : State) : State := raise .bootReset 0 (s.rd .vnrRstCause) s

/-- Set a cause of VNR_RST_CAUSE. -/
def resetCause (b : Nat) (s : State) : State := s.wrBit .vnrRstCause b true

end Sys2Proof.Machine
end

