-- ==== Sys2Proof/Machine/Boot.lean ====
section
/-! DEFINITION. Start-up (chapter 22): the boot bundle, the timeline, the mailbox and Dowel boot, held records and the clock
monitor. -/

namespace Sys2Proof.Machine

/-! Times of the timeline (R463, R464). -/

/-- The first 32.768 kHz edge at or after root time t. -/
def lsxEdge (t : Nat) : Nat := ceilDiv (ceilDiv (t * 32) 8203125 * 8203125) 32

/-- Root time of the point at `ms`: shifted by S, and by S_R from 120 ms on. -/
def pointAt (s : State) (ms : Nat) : Nat :=
  lsxEdge (s.boot.t0 + ms * rootPerMs + s.boot.s + if 120 ≤ ms then s.boot.sr else 0)

/-- Now is the point at `ms`. -/
def atPoint (s : State) (ms : Nat) : Bool := s.now == pointAt s ms

/-- Whole milliseconds since T0. -/
def sinceT0 (s : State) : Nat := (s.now - s.boot.t0) / rootPerMs

/-- VNR_BOOT_SHIFT. -/
def showShift (s : State) : State := s.wr .vnrBootShift (min ((s.boot.s + s.boot.sr) / rootPerUs) (2 ^ 20 - 1))

/-! The bundle (Tables BOOT-6 and BOOT-7). -/

/-- Little-endian field of a bundle header. -/
def bunField (b : List Byte) (lo n : Nat) : Nat := leNat ((b.drop lo).take n)

def bunLenSif (b : List Byte) : Nat := bunField b 16 4
def bunLenRt (b : List Byte) : Nat := bunField b 20 4
def bunSvn (b : List Byte) : Nat := bunField b 12 2
def bunEnc (b : List Byte) : Nat := bunField b 6 1
def bunKey (b : List Byte) : Nat := bunField b 5 1

/-- First byte of the runtime image. -/
def bunRt (b : List Byte) : Nat := 256 + bunLenSif b

/-- Check 1: MAGIC, FORMAT, lengths, reserved bytes. -/
def bunForm (b : List Byte) : Bool :=
  bunField b 0 4 == 0x54424E52 && bunField b 4 1 == 1 && bunLenSif b ≤ 262144 && bunLenSif b + bunLenRt b + 256 ≤ 16777216 &&
    ((b.drop 168).take 24).all (· == 0)

/-- Check 2: the root key is not revoked, and is the key of OTP. -/
def bunRootOk (s : State) (b : List Byte) : Bool :=
  decide (bunKey b ≤ 3) && !s.boot.revoked.contains (bunKey b) && sha256 ((b.drop 104).take 64) == s.boot.rotpk.get [] (bunKey b)

/-- Check 3: the signature. -/
def bunSigOk (b : List Byte) : Bool := ecdsaOk ((b.drop 104).take 64) ((b.drop 192).take 64) (b.take 192)

/-- Check 5: plaintext, or an ACTIVE AES-256 slot. -/
def bunEncOk (s : State) (b : List Byte) : Bool :=
  bunEnc b == 255 || (decide (bunEnc b ≤ 15) && s.rd .crySlotType (bunEnc b) == 2 && s.rd .crySlotState (bunEnc b) == 1)

/-- The plaintext of the SIF and of the runtime image, in one stream. -/
def bunPlain (s : State) (b : List Byte) : List Byte :=
  let l := (b.drop 256).take (bunLenSif b + bunLenRt b)
  if bunEnc b = 255 then l
  else aesCtr (s.od.key.get [] (bunEnc b)) (l.length / 16 + 1) (beNat ((b.drop 24).take 16)) l

/-- The cause of checks 1 to 6; 0 if all hold. In lifecycle OPEN checks 2 and 3 are skipped (R467). -/
def bunSifCause (s : State) (b : List Byte) : Nat :=
  let secured := s.on .vnrLifecycle
  if !bunForm b then 1
  else if secured && !bunRootOk s b then 2
  else if secured && !bunSigOk b then 3
  else if bunSvn b < s.rd .vnrOtpSvn then 4
  else if !bunEncOk s b then 5
  else if sha256 ((bunPlain s b).take (bunLenSif b)) ≠ (b.drop 40).take 32 then 6
  else 0

/-- Check 7. -/
def bunRtOk (s : State) (b : List Byte) : Bool :=
  let l := (bunPlain s b).drop (bunLenSif b)
  l.length == bunLenRt b && sha256 l == (b.drop 72).take 32

/-- The cause of all seven checks. -/
def bunCause (s : State) (b : List Byte) : Nat :=
  let c := bunSifCause s b
  if c ≠ 0 then c else if bunRtOk s b then 0 else 7

/-! Flash (R468). -/

/-- Make a bank active from the next reset: the older copy of the record is replaced. -/
def setActiveBank (b : Nat) (s : State) : State :=
  let l := match newestRec s.boot.recs with
    | some r => [r, ⟨r.seq + 1, true, b⟩]
    | none => [⟨1, true, b⟩]
  { s with boot := { s.boot with recs := l } }

/-- The bank that the running attempt reads. -/
def tryBank (s : State) : Nat := if s.boot.firstCause.isSome then 1 - s.boot.act else s.boot.act

/-! Default Clamp tables (R515, Table FAB-12). -/

/-- An entry of CLP_PER for register offsets `lo` to `hi` from base `b`. -/
def perEntry (r w : Bool) (tid b lo hi : Nat) : ClpEntry := .make r w false tid tid (b + lo) (b + hi)

/-- Slots that TID 1 may write whole: first and last. -/
def perWriteSlots : List (Nat × Nat) := [(1, 1), (3, 4), (6, 28), (30, 32), (34, 34)]

/-- The default table of CLP_PER. -/
def clpPerDefault : List ClpEntry :=
  let mit := perBase 5
  let saf := perBase 29
  [perEntry true false 1 (perBase 0) 0 (35 * 0x10000 - 4)] ++
    (perWriteSlots.map fun x => perEntry false true 1 (perBase x.1) 0 ((x.2 - x.1 + 1) * 0x10000 - 4)) ++
    [perEntry false true 1 mit 0 0x110] ++
    ((List.range 8).flatMap fun n =>
      [perEntry false true 1 mit (0x118 + n * 0x100) (0x13C + n * 0x100),
       perEntry false true 1 mit (0x184 + n * 0x100) (if n = 7 then 0xFFFC else 0x210 + n * 0x100)]) ++
    [perEntry false true 1 saf 0x00C 0x00C, perEntry false true 1 saf 0x018 0x018] ++
    ((List.range 8).map fun n => perEntry true true (16 + n) mit (0x140 + n * 0x100) (0x180 + n * 0x100))

/-- An entry of TID 1 with 4 KiB granules, from byte `lo` up to and without byte `hi`. -/
def pageEntry (lo hi : Nat) : ClpEntry := .make true true false 1 1 lo (hi - 4096)

/-- The default table of instance i. -/
def clpDefault (s : State) (i : Nat) : List ClpEntry :=
  match i with
  | 0 => clpPerDefault
  | 1 => [pageEntry 0 (dramUsable s)]
  | 10 => [pageEntry hostBase 0x10000000000]
  | 11 => []
  | _ => [pageEntry (lsBase (8 * (i - 2))) (lsBase (8 * (i - 1))), pageEntry (csBase (i - 2)) (csBase (i - 1))]

/-- The ROM commits the default tables. -/
def commitDefaults (s : State) : State :=
  foldN 12 (fun i s =>
    let l := clpDefault s i
    let t : Tab ClpEntry := (List.range l.length).zip l
    let s := t.foldl (fun s e => stageEntry i e.1 e.2 s) s
    activateClamp i t t s) s

/-! Failure (R471). -/

/-- CAN0 to CAN3 leave INIT in restricted operation mode, with the acceptance of R339. -/
def canRestricted (s : State) : State :=
  foldN 4 (fun n s =>
    let s := ((s.wr .canInit 0 n).wr .canInitAck 0 n).wr .canRom 1 n
    let s := (((s.wr .canStdRules 0 n).wr .canExtRules 0 n).wr .canStdDef 0 n).wr .canExtDef 2 n
    s.setCtl n { s.ctl n with rom := true }) s

/-- The boot has failed with a cause: HELD. A failed retry in HELD only changes the cause. -/
def bootFail (cause : Nat) (s : State) : State :=
  let stage := s.rd .vnrBootStage
  let s := s.wr .vnrBootCause cause
  if s.boot.failed then s
  else
    let s := applySto 8 ((stopAll s).wr .vnrBootStage 7)
    let s := { s with pin := { s.pin with failN := some false, activeN := some true },
                      boot := { s.boot with failed := true, p60 := false, dwlAt := s.now } }
    raise .bootFail 0 (cause + stage * 16) (canRestricted s)

/-- The boot goes on after HELD. -/
def bootResume (s : State) : State :=
  if s.boot.failed then { s with boot := { s.boot with failed := false } }.wr .vnrBootCause 0 else s

/-- A failure of the mailbox transfer. -/
def mbFail (cause : Nat) (s : State) : State := ((s.wr .mbPhase 4).wr .mbCause cause).wr .mbGo 0

/-- PCIE_CFG.READY is set; PD17 is on with its clock. -/
def readyPcie (s : State) : State :=
  let s := s.wr .pcieReady 1
  if s.domOn 17 then s else domainOn 17 (enableClocks [15] s)

/-- Both banks have failed: PCIe recovery (R468). -/
def enterRecovery (s : State) : State :=
  let s := { s with boot := { s.boot with mb := [], mbRun := false, sif := false } }
  raise .bootRecovery 0 0 (readyPcie (s.wr .vnrRecovery 1))

/-- Is the boot mailbox the source? -/
def mailboxOn (s : State) : Bool := s.boot.src == 1 || s.on .vnrRecovery

/-- A check of the flash attempt has failed: the other bank is tried, then recovery. -/
def bankFail (cause : Nat) (s : State) : State :=
  match s.boot.firstCause with
  | none => { s with boot := { s.boot with firstCause := some cause, sif := false, img := [] } }.wr .vnrBootStage 0
  | some _ => enterRecovery (bootFail cause s)

/-- A check has failed at the source in use. -/
def sourceFail (cause : Nat) (s : State) : State :=
  if mailboxOn s then bootFail cause (mbFail cause { s with boot := { s.boot with sif := false, mb := [] } })
  else if s.boot.src = 2 then bootFail cause { s with boot := { s.boot with sif := false, img := [] } }
  else bankFail cause s

/-! ROM start (R42, R58, Table BOOT-3). -/

/-- The ROM starts: the first domains and clocks, STO_N and FAIL_N driven low, and what waited for the Safety Island. -/
def romStart (s : State) : State :=
  let s := domainsOn [1, 21, 19, 22] s
  let s := if s.boot.src = 1 then domainOn 17 s else if s.boot.src = 2 then domainOn 20 s else s
  let s := enableClocks ([19, 17] ++ (if s.boot.src = 1 then [15] else []) ++ (if s.boot.src = 2 then [18] else [])) s
  let s := { s with pin := { s.pin with stoN := some false, failN := some false }, boot := { s.boot with dwlAt := s.now } }
  let s := (s.wr .vnrBootSrc s.boot.src).wr .vnrDbgUnlocked (1 - s.rd .vnrLifecycle)
  let s := if s.on .vnrLifecycle then s else raise .bootLifecycleOpen 0 0 s
  match s.clk.monHeld with
  | some _ => applySto 3 { s with clk := { s.clk with monHeld := none } }
  | none => s

/-- DTIME is loaded with Veneer time, and the epoch is now (R36, R54). -/
def lockPll (s : State) : State :=
  let c := s.clk
  let s := { s with clk := { c with up := true, epoch := s.now, sec := c.veneerSec, ns := c.veneerNs, frac := 0, base := s.rd .tbBase,
                                    basePend := none, monBad := false },
                    loop := { s.loop with baseTick := 0, adc := .init } }
  s.wr .ckgPllLock 1

/-- The domains of R439 that a wake from STANDBY switches on. -/
def wakeDomains : List Nat := [21, 16, 4, 2, 3, 17, 18, 19, 20, 22]

/-- The domains of a wake begin to switch on, with the clocks of their blocks selected. -/
def wakeSwitch (s : State) : State :=
  let s := wakeDomains.foldl (fun s d => { s with pwr := { s.pwr with sw := s.pwr.sw.set d (some (true, s.now)) } }) s
  [0, 1, 2, 14, 15, 16, 17, 18, 19].foldl (fun s b => s.wrBit .ckgEn b true) s

def pllLock (s : State) : State :=
  if s.clk.qual = .passed ∧ !s.clk.up ∧ s.boot.run then
    let s := lockPll s
    if s.pwr.waking then wakeSwitch s else romStart s
  else s

/-- PLL_LOCK (R36, R42, R54, R58). -/
def execPllLock (dt : Nat) (s : State) : Out := after dt s pllLock

/-! The log starts (R513). -/

/-- Does record a come before record b by time and R16? -/
def EvRec.earlier (a b : EvRec) : Bool :=
  a.sec < b.sec || (a.sec == b.sec && (a.nsec < b.nsec || (a.nsec == b.nsec && a.before b)))

/-- Put a record into a list kept oldest first. -/
def heldPut (r : EvRec) (l : List EvRec) : List EvRec :=
  match l with
  | [] => [r]
  | h :: t => if r.earlier h && !(h.earlier r) then r :: h :: t else h :: heldPut r t

/-- The held records, oldest first. -/
def heldSorted (l : List EvRec) : List EvRec := l.foldl (fun l r => heldPut r l) []

/-- Records that found the hold full are counted, and EVT_OD_LOG_OVF tells it. -/
def countLost (n : Nat) (s : State) : State :=
  if n = 0 then s
  else
    let l := { s.log with overw := satAdd 32 s.log.overw n, lost := 0 }
    if l.ovfTold then { s with log := l } else logEv .odLogOvf 1 0 { s with log := { l with ovfTold := true } }

def heldFlush (s : State) : State :=
  if s.log.run ∨ !s.clk.up ∨ !(s.domOn 1) then s
  else
    let l := (heldSorted s.log.held).foldl (fun l r => l.enterAll r) { s.log with run := true, held := [] }
    countLost s.log.lost ({ s with log := l }.wr .hostEvseq l.next)

/-- HELD_RECORDS_FLUSH (R513): the log starts. -/
def execHeldRecordsFlush (dt : Nat) (s : State) : Out := after dt s heldFlush

/-! The clock monitor (R43, R44). -/

/-- A clock fault: `arg` bit 0 lock loss, bit 1 frequency fault. Everything but PD0 is reset, and a new T0 is now. RB_FAIL clears
only at a warm or a power-on reset (R483). -/
def clockFault (arg : Nat) (s : State) : State :=
  let rb := s.rd .safRbFail
  let s := (s.wr .ckgMonLockLost (arg % 2)).wr .ckgMonFreqFault (arg / 2 % 2)
  let s := (resetCause 1 (resetDomains true s)).wr .safRbFail rb
  let c := s.clk
  let s := { s with
    clk := { ClkSt.init with t0 := s.now, inc := c.inc, base := s.rd .tbBase, vticks := c.vticks, lsxOk := c.lsxOk, onRc := c.onRc,
                             monHeld := some (c.vticks, arg) },
    boot := { s.boot with t0 := s.now, warm := none } }
  tellReset (logEv .clkMonFault 0 arg (s.wr .ckgPllLock 0))

def clkmonWindow (count : Nat) (s : State) : State :=
  if s.clk.up ∧ s.domOn 1 then
    let s := s.wr .ckgMonLast (min count 65535)
    let bad := count < 21074 ∨ 21934 < count
    if bad ∧ s.clk.monBad then clockFault 2 s else { s with clk := { s.clk with monBad := decide bad } }
  else s

/-- CLKMON_WINDOW_END (R43): SICLK cycles counted in a window of 2,048 cycles of the RC. -/
def execClkmonWindowEnd (dt count : Nat) (s : State) : Out := after dt s (clkmonWindow count)

/-- PLL_LOCK_LOSS (R43). -/
def execPllLockLoss (dt : Nat) (s : State) : Out := after dt s fun s => if s.clk.up ∧ s.domOn 1 then clockFault 1 s else s

/-! Power-on (R461, R462, R498, R499). -/

def vddAoValid (s : State) : State :=
  if s.boot.vdd then s
  else { s with boot := { s.boot with vdd := true }, clk := { s.clk with vticks := 0 },
                pin := { s.pin with mainEn := true, pwrHold := true } }

/-- VDD_AO_VALID (R498). -/
def execVddAoValid (dt : Nat) (s : State) : Out := after dt s vddAoValid

/-- What power-on reset clears in PD0, and what it finds in retention; `ao`: VDD_AO has been lost. -/
def porVeneer (ao : Bool) (s : State) : State :=
  let valid := !ao && (s.boot.run || s.on .vnrRetValid)
  let svn := s.rd .vnrOtpSvn
  let s := ((s.clearRegs fun k => regDomain k == 0).wr .vnrOtpSvn svn).wr .vnrRetValid (b2n valid)
  let s := if ao then s.clearRegs fun k => k.r == .cryCnt else s
  let l := s.log
  { s with
    log := { LogSt.init with held := if ao then [] else l.held, lost := if ao then 0 else l.lost, retained := l.retained },
    clk := { ClkSt.init with vticks := if ao then 0 else s.clk.vticks } }

/-- Power-on reset: every domain. The DRAM is without power. -/
def porReset (ao : Bool) (s : State) : State :=
  let s := (resetDomains false (porVeneer ao s)).clearMem 0 0x0800000000
  let s := s.clearRegs fun k => k.r == .hostEvseq || k.r == .ckgLsxPresent || k.r == .ckgQualRef || k.r == .ckgPllLock ||
    k.r == .ckgLsxLost || k.r == .ckgQualFails
  { s with
    boot := { s.boot with run := false, strapped := false, src := 0, warm := none, vdd := s.boot.vdd && !ao },
    pin := { PinSt.init with estopN := s.pin.estopN, tripN := s.pin.tripN, mainEn := s.pin.mainEn && !ao, pwrHold := s.pin.pwrHold && !ao },
    pwr := .init }

def powerOnReset (cause : Fin 3) (s : State) : State :=
  if !s.boot.vdd then s
  else
    match cause with
    | 0 => if s.pin.mainEn then porReset false s else s
    | 1 => porReset false s
    | 2 => porReset true s

/-- POWER_ON_RESET (R461, R499): PWR_OK low, POR_N low, or VDD_AO lost. While MAIN_EN is low a low PWR_OK resets nothing. -/
def execPowerOnReset (dt : Nat) (cause : Fin 3) (s : State) : Out := after dt s (powerOnReset cause)

/-- The authentication counters at power-up (R369). -/
def loadCounters (s : State) : State :=
  if s.on .vnrRetValid then { s with od := { s.od with authSource := 0 } }
  else
    let skip := !s.od.clean
    let s := foldN 16 (fun k s =>
      let f := s.od.flash.get 0 k
      s.wr .cryCnt (if skip then min (f + 256) 0xFFFFFFFF else f) k) s
    let s := { s with od := { s.od with clean := false, authSource := if skip then 2 else 1 } }
    if skip then raise .netCntSkip 0 0xFFFF s else s

/-- The package cap is read from the ordering-code fuses (R3): PWR_STAT shows the lowest of it and the user cap. -/
def readFuses (s : State) : State :=
  let e := min (s.rd .pwrCapUser) packageCap
  (s.wr .pwrCap e).wr .pwrCapSrc (b2n (s.rd .pwrCapUser == e) + 2 * b2n (packageCap == e))

def t0Release (s : State) : State :=
  if s.boot.vdd ∧ s.pin.mainEn ∧ !s.boot.run then
    let rest := s.rd .pwrState == 1
    let s := { s with boot := { s.boot with run := true, t0 := s.now },
                      clk := { s.clk with t0 := s.now, qual := .idle, qualGood := 0, qualFails := 0, qualRetried := false } }
    let s := resetCause (if rest then 5 else 0) s
    let s := if rest then s else loadCounters (readFuses s |>.wr .vnrLifecycle (b2n s.boot.fuse))
    tellReset s
  else s

/-- T0_RELEASE (R461): the later rising edge of PWR_OK and POR_N. -/
def execT0Release (dt : Nat) (s : State) : Out := after dt s t0Release

def strapLatch (v : Nat) (s : State) : State :=
  if s.boot.run ∧ !s.boot.strapped ∧ s.now = s.boot.t0 + 100 * rootPerUs then
    let src := v % 4
    let s := { s.wr .vnrStrap v with boot := { s.boot with strapped := true, src := if src = 3 then 0 else src } }
    let s := strapFields 20 (strapFields 19 (strapFields 3 s))
    if src = 3 then raise .bootStrapErr 0 v s else s
  else s

/-- STRAP_LATCH (R406, R462). -/
def execStrapLatch (dt : Nat) (v : BitVec 11) (s : State) : Out := after dt s (strapLatch v.toNat)

/-! SIF and runtime image (R463, R467 to R470). -/

/-- The SIF has been verified: V, S and the default Clamp tables. -/
def sifVerified (b : List Byte) (s : State) : State :=
  let s := bootResume s
  let v := s.now - s.boot.t0
  let s := { s with boot := { s.boot with sif := true, img := b, s := v - 40 * rootPerMs, sr := 0 } }
  let s := showShift ((s.wr .vnrBootStage (if s.boot.dram then 3 else 1)).wr .vnrBootTSif (min (sinceT0 s) 65535))
  commitDefaults s

/-- The SIF stands in the mailbox, or the header cannot be right. -/
def mbSifThere (l : List Byte) : Bool := decide (256 ≤ l.length) && (!bunForm l || decide (bunRt l ≤ l.length))

/-- The ROM judges a bundle, or a read error (cause 0xA). -/
def judgeSif (b : List Byte) (err : Bool) (s : State) : State :=
  let c := if err then 10 else bunSifCause s b
  if c ≠ 0 then sourceFail c s
  else if mailboxOn s then (sifVerified b s).wr .mbPhase (if s.boot.dram then 2 else 1)
  else if s.boot.src = 2 then sifVerified b ({ s with boot := { s.boot with dwlAt := s.now } }.wr .dwlPortState 2 0)
  else
    let s := sifVerified b (s.wr .vnrBootBank (tryBank s))
    match s.boot.firstCause with
    | some x => raise .bootBankFallback 0 x s
    | none => s

/-- Does the ROM wait for a SIF? -/
def romWaits (s : State) : Bool :=
  s.clk.up && s.domOn 1 && s.boot.run && s.boot.strapped && s.boot.warm.isNone && !s.boot.sif &&
    !s.pwr.waking && (!s.boot.failed || mailboxOn s || s.boot.src == 2)

def bootSif (b : List Byte) (err : Bool) (s : State) : State :=
  if !romWaits s then s
  else if mailboxOn s then (if mbSifThere s.boot.mb ∧ s.rd .mbPhase = 0 then judgeSif s.boot.mb false s else s)
  else if s.boot.src = 2 then judgeSif b false s
  else judgeSif (s.boot.bank.get [] (tryBank s)) err s

/-- BOOT_SIF_VERIFIED (R467, R468): the bytes that Dowel boot has read, and whether the flash read has failed; a flash bundle and
the mailbox are state. -/
def execBootSifVerified (dt : Nat) (b : List Byte) (err : Bool) (s : State) : Out := after dt s (bootSif b err)

def bootCanRom (s : State) : State :=
  if s.boot.sif ∧ !s.boot.p40 ∧ !s.boot.failed ∧ atPoint s 40 then
    domainOn 16 ((canRestricted { s with boot := { s.boot with p40 := true } }).wr .vnrBootStage 2)
  else s

/-- BOOT_CAN_ROM (R339, R463). -/
def execBootCanRom (dt : Nat) (s : State) : Out := after dt s bootCanRom

/-- The pair role (R420, R421), or a device on its own; `peerHigh`: PEER_ACTIVE_N reads high. A shadow whose partner has failed already
takes over (R426). -/
def takeRole (peerHigh : Bool) (s : State) : State :=
  if !s.pair.on then { s with pin := { s.pin with activeN := some false, clkPads := true } }
  else
    let s := s.wr .pairPeerActive (b2n (!peerHigh))
    if s.rd .pairRank = 0 ∧ peerHigh then
      { s with pin := { s.pin with activeN := some false, clkPads := true } }.wr .pairRole 1
    else
      let s := { s with pin := { s.pin with activeN := some true } }.wr .pairRole 2
      if s.pair.failHigh ∧ s.on .pairPeerFail ∧ mayTakeOver s then startTakeover 1 s else s

/-- Is the CE due: at its point of the timeline, or in a wake once its domains are on? -/
def ceDue (s : State) : Bool :=
  if s.pwr.waking then s.domOn 2 && s.domOn 3 && s.log.run else s.boot.sif && s.boot.p40 && !s.boot.failed && atPoint s 60

def bootCeReady (peerHigh : Bool) (s : State) : State :=
  if !s.boot.p60 ∧ ceDue s then
    let s := enableClocks [0, 1] (domainsOn [2, 3] { s with boot := { s.boot with p60 := true } })
    takeRole peerHigh { s with pin := { s.pin with aliveOn := true, failN := some true } }
  else s

/-- BOOT_CE_READY (R420, R421, R424, R463); with the level of PEER_ACTIVE_N. -/
def execBootCeReady (dt : Nat) (peerHigh : Bool) (s : State) : Out := after dt s (bootCeReady peerHigh)

/-- DRAM is open to the fabric. -/
def dramOpen (s : State) : State :=
  let s := showUsable s
  enableClocks [14] { s with memc := { s.memc with trained := true } }

def dramTraining (ok : Bool) (s : State) : State :=
  if s.boot.p40 ∧ !s.boot.dram ∧ !s.boot.failed ∧ s.boot.sif then
    if ok then
      let s := dramOpen ({ s with boot := { s.boot with dram := true } }.wr .vnrBootStage 3)
      if s.rd .mbPhase = 1 then s.wr .mbPhase 2 else s
    else
      let s := { s with boot := { s.boot with trainFails := s.boot.trainFails + 1 } }
      if s.boot.trainFails = 2 then bootFail 8 s else s
  else s

/-- DRAM_TRAINING_DONE (R463, Table BOOT-7). -/
def execDramTrainingDone (dt : Nat) (ok : Bool) (s : State) : Out := after dt s (dramTraining ok)

/-- The runtime image has been verified: R and S_R. -/
def rtVerified (b : List Byte) (s : State) : State :=
  let r := s.now - s.boot.t0
  let s := { s with boot := { s.boot with rtOk := true, img := b, sr := r - (107 * rootPerMs + s.boot.s) } }
  showShift (if mailboxOn s then s.wr .mbPhase 3 else s)

def bootRuntimeVerified (more : List Byte) (err : Bool) (s : State) : State :=
  if s.boot.sif ∧ s.boot.dram ∧ !s.boot.rtOk ∧ !s.boot.failed then
    let b := if mailboxOn s then s.boot.mb else if s.boot.src = 2 then s.boot.img ++ more else s.boot.img
    if mailboxOn s ∧ b.length < bunRt b + bunLenRt b then s
    else if err then sourceFail 10 s
    else if bunRtOk s b then rtVerified b s
    else sourceFail 7 s
  else s

/-- BOOT_RUNTIME_VERIFIED (R463, R467): the further bytes that Dowel boot has read, and whether the flash read has failed. -/
def execBootRuntimeVerified (dt : Nat) (more : List Byte) (err : Bool) (s : State) : Out := after dt s (bootRuntimeVerified more err)

/-! The runtime starts. -/

/-- The fields of one MAC in the boot configuration record (PRESUMED, log entry 25). -/
def bcrMac (n : Nat) (s : State) : State :=
  let w (k : Nat) : Nat := leNat ((s.boot.bcr.drop (28 * n + 4 * k)).take 4)
  let mac := w 0 + w 1 % 65536 * 2 ^ 32
  let mac := if mac = 0 then (Config.otpMac n).toNat else mac
  let s := (s.wr .ethMacLo mac n).wr .ethMacHi (mac / 2 ^ 32) n
  let s := ((s.wr .ethIp (w 2) n).wr .ethMask (w 3) n).wr .ethGw (w 4) n
  let s := ((s.wr .ethVdpPort (w 5) n).wr .ethVdpVid (bitsOf (w 5) 16 12) n).wr .ethVdpCycq (bitsOf (w 5) 28 3) n
  let s := (s.wr .ethLatTx (w 6) n).wr .ethLatRx (bitsOf (w 6) 16 16) n
  s.wr .ethEn 1 n

/-- Is the boot configuration record valid? -/
def bcrOk (s : State) : Bool :=
  s.boot.bcr.length == 256 && crc32c ((s.boot.bcr.take 252).map (·.toNat)) == leNat (s.boot.bcr.drop 252)

/-- Ethernet is enabled with the boot configuration record (R468). -/
def applyBcr (s : State) : State := if bcrOk s then bcrMac 1 (bcrMac 0 s) else raise .bootBcrInvalid 1 0 s

/-- The CKG_EN bit of the block of an on-demand domain (Table CLK-8). -/
def demandGate (d : Nat) : Nat := if d ≤ 20 then d - 2 else d - 3

/-- Domain d begins to switch on demand, and the runtime sets the CKG_EN bit of its block (Table CLK-9). -/
def demandOn (d : Nat) (s : State) : State :=
  { s.wrBit .ckgEn (demandGate d) true with pwr := { s.pwr with sw := s.pwr.sw.set d (some (true, s.now)) } }

/-- On-demand domains that PWR_DOM_REQ names begin to switch on (R439). -/
def demandDomains (s : State) : State :=
  foldN 24 (fun d s => if s.rdBit .pwrDomReq d ∧ !(s.domOn d) then demandOn d s else s) s

/-- The interfaces of the runtime: PCIe, CAN0, Ethernet. -/
def runtimeInterfaces (s : State) : State :=
  let s := applyBcr (enableClocks [15, 16] (s.wr .pcieReady 1))
  if s.rd .pairRole = 2 then s else can0Rom false s

/-- READY is reported where another state stood. -/
def showReady (s : State) : State := if s.rd .pwrState < 3 then showPwrState 3 s else s

def bootRuntimeStart (s : State) : State :=
  if s.boot.rtOk ∧ s.boot.p60 ∧ !s.boot.p120 ∧ !s.boot.failed ∧ atPoint s 120 then
    let s := enableClocks [2] (domainsOn [4, 17, 18, 20] s)
    let s := showReady { s with boot := { s.boot with p120 := true }, can := { s.can with node := { s.can.node with up := true } } }
    let s := demandDomains (runtimeInterfaces (updCap (objectsStart s)))
    showRdy (pumpAll (fanStart 1 (fanStart 0 s)))
  else s

/-- BOOT_RUNTIME_START (R301, R339, R457, R463). -/
def execBootRuntimeStart (dt : Nat) (s : State) : Out := after dt s bootRuntimeStart

/-- A manager begins an Assembly with a new epoch, which is not 0. -/
def beginAssembly (s : State) : State :=
  if isManager s then
    let (k, s) := s.fresh
    ((s.wr .asmEpoch ((Config.free k).toNat % (2 ^ 32 - 1) + 1)).wr .asmState 1).wr .asmMember 1
  else s

def bootDowelTraining (s : State) : State :=
  if s.boot.p120 ∧ !s.boot.p150 ∧ atPoint s 150 then
    let s := { s with boot := { s.boot with p150 := true } }
    let s := if (List.range 4).any fun p => s.rd .dwlPortUse p != 0 then enableClocks [18] s else s
    let s := foldN 4 (fun p s => if trains s p ∧ s.rd .dwlPortState p = 0 then startTraining p s else s) s
    beginAssembly s
  else s

/-- BOOT_DOWEL_TRAINING (R414, R470). -/
def execBootDowelTraining (dt : Nat) (s : State) : Out := after dt s bootDowelTraining

/-- The dictionary is ready: the server answers, and the node sends its boot-up message. -/
def serveDictionary (s : State) : State :=
  let s := s.setNode { s.node with up := true, boot := false, nmt := 0 }
  hostChanged ((nodeSend (classic (0x700 + nodeNo s) [0]) s).wr .hostDictReady 1)

/-- ARG of EVT_BOOT_DONE. -/
def bootDoneArg (s : State) : Nat :=
  s.rd .vnrBootSrc + 4 * s.rd .vnrBootBank + 256 * min 255 ((s.boot.s + s.boot.sr) / rootPerMs)

/-- A wake from STANDBY ends: the runtime resumes from DRAM (R443). -/
def wakeDone (s : State) : State :=
  let s := { s with pwr := { s.pwr with waking := false, critRest := false }, boot := { s.boot with p120 := true, p300 := true } }
  let s := commitDefaults (dramOpen s)
  let s := showReady (if s.rd .pairRole = 2 then canRestricted s else can0Rom false (canRestricted s))
  let s := demandDomains (applyBcr (s.wr .pcieReady 1))
  serveDictionary (updCap (fanStart 1 (fanStart 0 s)))

/-- Are the domains of R439 on? -/
def guardDomainsOn (s : State) : Bool := wakeDomains.all s.domOn

def bootDictReady (s : State) : State :=
  if s.pwr.waking then (if guardDomainsOn s ∧ s.boot.p60 then wakeDone s else s)
  else if s.boot.p120 ∧ !s.boot.p300 ∧ s.saf.restart.isNone ∧ atPoint s 300 then
    let s := { s with boot := { s.boot with p300 := true }, saf := { s.saf with bootDone := true } }
    let s := serveDictionary ((s.wr .vnrBootStage 4).wr .vnrBootTDict (min (sinceT0 s) 65535))
    raise .bootDone 1 (bootDoneArg s) s
  else s

/-- BOOT_DICT_READY (R296, R339, R443, R463): at its point, or at the end of a wake from STANDBY. -/
def execBootDictReady (dt : Nat) (s : State) : Out := after dt s bootDictReady

/-! PCIe boot (R465, R469). -/

/-- Root time at which the ROM sets PCIE_CFG.READY in PCIe boot: 20 ms after T0, or its start where that is later. -/
def mailboxReadyAt (s : State) : Nat := max (s.boot.t0 + 20 * rootPerMs) s.boot.dwlAt

def pcieReadyFallback (s : State) : State :=
  let due := s.now = max s.boot.t0 s.host.perstAt + rootPerS ∨ (s.boot.src = 1 ∧ s.now = mailboxReadyAt s)
  if s.boot.run ∧ s.domOn 1 ∧ s.rd .pcieReady = 0 ∧ due then readyPcie s else s

/-- PCIE_READY_FALLBACK (R465): by the SIF 1.0 s after T0 or PERST_N release, and by the ROM 20 ms after T0 in PCIe boot. -/
def execPcieReadyFallback (dt : Nat) (s : State) : Out := after dt s pcieReadyFallback

/-- The mailbox takes chunks. -/
def mailboxOpen (s : State) : Bool := mailboxOn s && s.on .pcieReady && s.domOn 17 && s.clk.up && !s.boot.p120

def bootMbGo (s : State) : State :=
  if !mailboxOpen s ∨ s.on .mbGo then s
  else
    let n := s.rd .mbLen
    if s.rd .mbPhase = 4 ∨ s.rd .mbOfs ≠ s.boot.mb.length ∨ n < 1 ∨ 3840 < n then s.wr .mbCause 1
    else { s with boot := { s.boot with mbRun := true } }.wr .mbGo 1

/-- BOOT_MB_GO (R469). -/
def execBootMbGo (dt : Nat) (s : State) : Out := after dt s bootMbGo

/-- The bytes of the chunk in MB_DATA. -/
def mbChunk (s : State) : List Byte := ((List.range 960).flatMap fun k => leBytes 4 (s.rd .mbData k)).take (s.rd .mbLen)

/-- A write of MB_OFS: 0 after a failure restarts the transfer. -/
def mbOfsWrite (v : Nat) (s : State) : State :=
  let s := s.wr .mbOfs v
  if v % 2 ^ 24 = 0 ∧ s.rd .mbPhase = 4 then
    { (s.wr .mbPhase 0).wr .mbCause 0 with boot := { s.boot with mb := [], mbRun := false } }
  else s

def mbChunkCopied (s : State) : State :=
  if !mailboxOpen s ∨ !s.boot.mbRun then s
  else
    let all := s.boot.mb.take (s.rd .mbOfs) ++ mbChunk s
    let l := if s.rd .mbPhase = 2 ∨ all.length < 256 ∨ !bunForm all then all else all.take (max 256 (bunRt all))
    let s := { s with boot := { s.boot with mb := l } }
    if l.length = all.length then { s with boot := { s.boot with mbRun := false } }.wr .mbGo 0 else s

/-- BOOT_MB_CHUNK_COPIED (R469): what of the chunk may be copied has been; the runtime part waits for PHASE 2. -/
def execBootMbChunkCopied (dt : Nat) (s : State) : Out := after dt s mbChunkCopied

/-! Dowel boot (R470, R471). -/

def bootDowelTimeout (s : State) : State :=
  if s.boot.src = 2 ∧ !s.boot.rtOk ∧ !s.boot.failed ∧ s.clk.up ∧ s.domOn 1 ∧ s.boot.run ∧ s.now = s.boot.dwlAt + 10 * rootPerS then
    bootFail 9 { s with boot := { s.boot with sif := false, img := [] } }
  else s

/-- BOOT_DOWEL_TIMEOUT (Table BOOT-7). -/
def execBootDowelTimeout (dt : Nat) (s : State) : Out := after dt s bootDowelTimeout

/-- BOOT_DOWEL_RETRY (R471), every 1 s from the failure on: the attempt begins; what it brings is judged by BOOT_SIF_VERIFIED. -/
def execBootDowelRetry (dt : Nat) (s : State) : Out :=
  after dt s fun s =>
    if s.boot.src = 2 ∧ s.boot.failed ∧ !s.boot.sif ∧ every s s.boot.dwlAt rootPerS then
      { s with boot := { s.boot with dwlAt := s.now, img := [] } }.wr .dwlPortState 1 0
    else s

/-! Warm reset (R473) and the faults of the Safety Island (R487). -/

/-- A warm reset is asserted with a cause bit of VNR_RST_CAUSE. -/
def warmAssert (cause : Nat) (s : State) : State :=
  let s := resetCause cause (resetDomains true s)
  tellReset { s.wr .vnrWarm 0 with boot := { s.boot with warm := some cause } }

/-- A warm reset while the PLL is stopped, in STANDBY: the restart begins with qualification (DEDUCED, log entry 26). -/
def warmStandby (cause : Nat) (s : State) : State :=
  let s := resetCause cause (resetDomains true s)
  tellReset { s with clk := { s.clk with t0 := s.now, qual := .idle, qualGood := 0, qualFails := 0, qualRetried := false },
                     boot := { s.boot with t0 := s.now } }

/-- A warm reset is released: the ROM starts, T0 stands 13 ms back. -/
def warmRelease (cause : Nat) (s : State) : State :=
  let s := romStart { s with boot := { s.boot with warm := none, t0 := s.now - 13 * rootPerMs },
                             clk := { s.clk with monBad := false } }
  if cause = 4 ∧ s.rd .safLs ≠ 0 then raise .safIslandFault 0 (s.rd .safLs) s else s

def warmReset (pinLow release : Bool) (s : State) : State :=
  if !s.boot.run then s
  else if !s.clk.up then (if pinLow ∧ !release ∧ s.domOn 1 then warmStandby 2 s else s)
  else
    match s.boot.warm with
    | some c => if release then warmRelease c s else s
    | none =>
      if release then s
      else if pinLow then warmAssert 2 s
      else if s.on .vnrWarm then warmAssert 3 s
      else s

/-- WARM_RESET (R461, R473): asserted by WARM_RST_N (`pinLow`) or by RST_CTRL.WARM, or released. -/
def execWarmReset (dt : Nat) (pinLow release : Bool) (s : State) : Out := after dt s (warmReset pinLow release)

def islandFault (kind : Fin 4) (s : State) : State :=
  if !(s.domOn 1) then s
  else if kind = 3 then s.bump .safSramCorr 1
  else if s.clk.up then warmAssert 4 (s.wrBit .safLs kind true)
  else
    let s := s.wrBit .safLs kind true
    raise .safIslandFault 0 (s.rd .safLs) (warmStandby 4 s)

/-- ISLAND_FAULT (R487): 0 lock-step, 1 island watchdog, 2 uncorrectable SRAM error, 3 corrected SRAM error. -/
def execIslandFault (dt : Nat) (kind : Fin 4) (s : State) : Out := after dt s (islandFault kind)

end Sys2Proof.Machine
end

