-- ==== Sys2Proof/Machine/Power.lean ====
section
/-! DEFINITION. Power domains and device states (chapter 21), partial resets, program control and provisioning (chapter 22). -/

namespace Sys2Proof.Machine

/-! Power domains (R438, R439). -/

/-- Set the level that a domain switches to. -/
def switchTo (d : Nat) (up : Bool) (s : State) : State := { s with pwr := { s.pwr with sw := s.pwr.sw.set d (some (up, s.now)) } }

/-- Domains that PWR_DOM_REQ names. -/
def onDemand (d : Nat) : Bool := (decide (5 ≤ d) && decide (d ≤ 15)) || d == 23

/-- Is a ring of jobs not empty, or a job running? -/
def yarrowBusy (s : State) : Bool :=
  ((List.range 4).any fun u => s.rd .yarQTail u != s.rd .yarQHead u || (s.comp.yar.get .init u).run) ||
    (List.range 2).any fun u => s.rd .ppuQTail u != s.rd .ppuQHead u || (s.comp.ppu.get none u).isSome

/-- Is an embedding engine at work? -/
def embBusy (s : State) : Bool := (List.range 2).any fun e => s.rd .embQTail e != s.rd .embQHead e || (s.comp.emb.get none e).isSome

/-- Is cluster c in use (R439)? -/
def clusterHeld (s : State) (c : Nat) : Bool :=
  ((List.range 64).any fun k => s.rd .ctxState k != 0 && ctxHasCluster s k c) ||
    ((List.range 8).any fun n => s.rd .mitState n != 0 && s.rd .mitCluster n == c) ||
    s.rd .cnvQTail c != s.rd .cnvQHead c || (s.sch.runs.any fun r => r.res.cluster == c)

/-- Is a domain in use, so that a write of 0 is discarded? -/
def domainHeld (s : State) (d : Nat) : Bool :=
  match d with
  | 13 => yarrowBusy s
  | 14 => s.rd .strEnLo % 65536 != 0
  | 15 => embBusy s
  | d => decide (5 ≤ d) && decide (d ≤ 12) && clusterHeld s (d - 5)

/-- Is a write of a bit refused: a domain in use, PD23 while debug is locked, a compute domain after an escalation (R479)? -/
def domReqBad (s : State) (v d : Nat) : Bool :=
  if bitOf v d then
    !(s.rdBit .pwrDomReq d) && ((d == 23 && !(s.on .vnrDbgUnlocked)) || (decide (d ≤ 15) && s.saf.escalated))
  else s.rdBit .pwrDomReq d && domainHeld s d

/-- One bit of PWR_DOM_REQ takes effect. -/
def domReqBit (v d : Nat) (s : State) : State :=
  let b := bitOf v d
  if s.rdBit .pwrDomReq d = b then s
  else
    let s := s.wrBit .pwrDomReq d b
    if b then demandOn d s else switchTo d false s

def pwrDomainRequest (tid v : Nat) (s : State) : State :=
  if 2 ≤ tid then pwrReject tid 0x00C s
  else
    let ds := (List.range 24).filter onDemand
    let bad := ds.filter (domReqBad s v)
    let s' := ds.foldl (fun s' d => if bad.contains d then s' else domReqBit v d s') s
    if bad.isEmpty then s' else pwrReject tid 0x00C s'

/-- PWR_DOMAIN_REQUEST (R439). -/
def execPwrDomainRequest (dt tid : Nat) (v : Word) (s : State) : Out := after dt s (pwrDomainRequest tid v.toNat)

/-- What a domain needs on before it can be on (R438). -/
def domainNeeds (d : Nat) : List Nat :=
  if d = 4 then [21, 16] else if 2 ≤ d ∧ d ≤ 20 ∨ d = 22 ∨ d = 23 then [21] else []

/-- Root cycles that a domain takes to switch on (Table PWR-1); the zero-fill of a cluster follows within its time (R212). -/
def upTime (d : Nat) : Nat :=
  match d with
  | 1 => 2 * rootPerMs
  | 2 => 50 * rootPerUs
  | 4 => 100 * rootPerUs
  | 16 => 8 * rootPerMs
  | 17 => rootPerMs
  | 18 => rootPerMs
  | 21 => 50 * rootPerUs
  | d => if 5 ≤ d ∧ d ≤ 12 then 25 * rootPerUs - 1024 * rootPerT else 20 * rootPerUs

/-- Root cycles that a domain takes to switch off. -/
def downTime (d : Nat) : Nat :=
  match d with
  | 4 => 20 * rootPerUs
  | 16 => rootPerMs
  | 21 => 20 * rootPerUs
  | _ => 10 * rootPerUs

/-- Root time at which a domain whose switching on began at t is on: its time after that, and after what it needs has come on (R438). -/
def upAt (s : State) (d t : Nat) : Nat := (domainNeeds d).foldl (fun m k => max m (s.pwr.onAt.get 0 k)) t + upTime d

/-- Has domain d no fabric transaction outstanding? -/
def domainQuiet (s : State) (d : Nat) : Bool := (List.range 21).all fun b => gateDomain b != d || !(blockWaits s b)

def pwrDomainSwitched (d : Nat) (s : State) : State :=
  match s.pwr.sw.get none d with
  | none => s
  | some (true, t) => if (domainNeeds d).all s.domOn ∧ s.now = upAt s d t then (domainOn d s).wrBit .vnrRstDom d false else s
  | some (false, t) => if t + downTime d ≤ s.now ∧ domainQuiet s d then domainOff d s else s

/-- PWR_DOMAIN_SWITCHED (R212, R438). -/
def execPwrDomainSwitched (dt : Nat) (d : Fin 24) (s : State) : Out := after dt s (pwrDomainSwitched d)

/-! Partial resets (R474). -/

/-- Domain d goes off, and on again when it has switched. -/
def cycleDomain (d : Nat) (s : State) : State :=
  let s := if d = 17 then pcieReset 2 s else s
  if s.domOn d then
    let s := (domainOff d s).wrBit .vnrRstDom d true
    { s with pwr := { s.pwr with sw := s.pwr.sw.set d (some (true, s.now + downTime d)) } }
  else s

/-- Bits of RST_DOM that are accepted. -/
def rstDomOk (d : Nat) : Bool := (decide (4 ≤ d) && decide (d ≤ 20)) || d == 22 || d == 23

def partialReset (tid v : Nat) (s : State) : State :=
  if tid ≠ 0 then s
  else
    let v := if bitOf v 16 then setBit v 4 true else v
    let bad := (List.range 24).any fun d => bitOf v d && !rstDomOk d
    let s := if bad then raise .bootCfgReject tid 0x00C s else s
    let s := ((List.range 24).filter fun d => bitOf v d && rstDomOk d).foldl (fun s d => cycleDomain d s) s
    if bitOf v 23 then lockDebug s else s

/-- PARTIAL_RESET (R438, R474): PD4 depends on PD16. -/
def execPartialReset (dt tid : Nat) (v : Word) (s : State) : Out := after dt s (partialReset tid v.toNat)

/-! Entry into OFF, DEEP REST and STANDBY (R441, R442, R444). -/

/-- CAN0 to CAN3 enter INIT. -/
def canInitAll (s : State) : State := foldN 4 (fun n s => ((s.wr .canInit 1 n).wr .canInitAck 1 n).wr .canBus 3 n) s

/-- Step 1: interfaces close, the role of a pair is given up. -/
def closeInterfaces (s : State) : State :=
  let s := foldN 2 (fun m s => ethLinkChange m false 0 s) (canInitAll s)
  if s.pair.on ∧ s.rd .pairRole = 1 then releaseRole s else s

/-- The newest 256 Error and Safety records, oldest first (R308). -/
def logCopy (s : State) : List EvRec :=
  ((s.log.recs.filter fun r => evClass r.code == .error || evClass r.code == .safety).take 256).reverse

/-- Every authentication counter goes to flash, with a clean mark (R368). -/
def flushCounters (s : State) : State :=
  let s := foldN 16 (fun k s => { s with od := { s.od with flash := s.od.flash.set k (s.rd .cryCnt k) } }) s
  { s with od := { s.od with clean := true } }

/-- Step 2: what goes to flash. -/
def entryFlash (v : Nat) (s : State) : State :=
  match v with
  | 0 => flushCounters s
  | 1 => { s with log := { s.log with retained := logCopy s, retIdx := 0 } }
  | _ => s

/-- The first 32.768 kHz edge after root time t. -/
def nextLsxEdge (t : Nat) : Nat := ceilDiv ((lsxTicks t + 1) * 8203125) 32

/-- A DTIME as a count of 32.768 kHz periods. -/
def ClkSt.asTicks (c : ClkSt) : Nat := c.sec * 32768 + c.ns * 32768 / 1000000000

/-- Step 3: Veneer time takes DTIME at the next 32.768 kHz edge, as DTIME stands there (R54). -/
def timeToVeneer (s : State) : State :=
  if s.clk.up then
    let c := s.clk.advance (ceEdges (nextLsxEdge s.now - s.now) s)
    { s with clk := { s.clk with vset := some c.asTicks } }
  else s

/-- The clocks stop and the reference is no longer qualified. -/
def stopClocks (s : State) : State :=
  { s with clk := { s.clk with up := false, qual := .idle, epochTgt := none, incPend := none, adj := 0, basePend := none, fmtr := none } }.wr
    .ckgPllLock 0

/-- The registers of the CE, which lie in retention through STANDBY. -/
def ceRetained (old s : State) : State :=
  { s with regs := old.regs.foldl (fun f e => if e.1.r.info.slot = 3 then kput RegKey.rank f e.1 e.2 (e.1.r.resetAt e.1.i e.1.j) else f) s.regs }

/-- Steps 4 of STANDBY: everything but PD0 and PD1 is off, PD2 in retention. -/
def toStandby (s : State) : State :=
  let s' := ceRetained s (((List.range 22).map fun k => 23 - k).foldl (fun s d => domainOff d s) s)
  let s' := foldN 8 (fun n s => s.wr .axEn 0 n) (s'.wr .ceAxRun 0)
  let s' := stopClocks { s' with log := { s'.log with run := false },
                                 boot := { s'.boot with p60 := false, p120 := false, p300 := false },
                                 pin := { s'.pin with aliveOn := false, activeN := some true, clkPads := false } }
  { s' with saf := { s'.saf with wdgLast := none } }.wr .pwrVid 0

/-- DEEP REST and OFF: PD1 is off too, the log is lost, and MAIN_EN falls; PWR_HOLD falls for OFF. -/
def toRest (off : Bool) (s : State) : State :=
  let l := s.log
  let s := bootAgain (((List.range 23).map fun k => 23 - k).foldl (fun s d => domainOff d s) s)
  let s := { s with log := { LogSt.init with held := l.held, lost := l.lost, retained := l.retained } }
  let s := stopClocks { s with boot := { s.boot with run := false },
                               pin := { PinSt.init with estopN := s.pin.estopN, tripN := s.pin.tripN, mainEn := false, pwrHold := !off } }
  objectsReset (s.wr .hostEvseq 0)

/-- What waits on CAN0 and Ethernet leaves before they close: the answer to the request is among it. -/
def sendWaiting (s : State) : State :=
  let s := s.node.tx.foldl (fun s f => s.send .can 0 (f.id + b2n f.ide * 2 ^ 29 + b2n f.rmt * 2 ^ 30) f.data) s
  foldN 2 (fun m s => foldN 8 (fun q s =>
    ((s.mac m).q.get [] q).foldl (fun s f => s.send .eth (m * 8 + q) (f.mac * 2 ^ 48 + f.ip * 2 ^ 16 + f.port) f.data) s) s) s

/-- The entry runs. -/
def enterRest (v : Nat) (s : State) : State :=
  let s := timeToVeneer (entryFlash v (closeInterfaces s))
  let s := raise .pwrState 0 (v + 16 * s.rd .pwrState) ((s.wr .pwrState v).wr .hostState v)
  let s := lockDebug (runtimeStop s)
  let s := s.clearRegs fun k => k.r == .fanState || k.r == .fanD || k.r == .fanRetry
  let pads := (List.range 2).map fun f => s.rd .fanRestOff f != 1
  let s := if v = 2 then toStandby s else toRest (v == 0) s
  { s with pin := { s.pin with fanRest := pads } }

/-- An entry that the flash abandons: CAN leaves INIT again. -/
def abortRest (v : Nat) (s : State) : State :=
  let s := foldN 4 (fun n s => (s.wr .canInit 0 n).wr .canInitAck 0 n) (closeInterfaces s)
  raise .pwrEntryAbort 1 v s

/-- May OFF, DEEP REST or STANDBY be entered on request (R441)? -/
def restOk (s : State) : Bool := s.rd .pwrState == 3 && !s.anyEnabled && (!(s.on .pcieUp) || s.host.l2)

def pwrStateRequest (flashOk : Bool) (s : State) : State :=
  odServe (fun q => q.writes .pwrReq)
    (fun q s =>
      if ownCheck q ≠ 0 then odDone q (ownCheck q) s
      else if q.num = 3 then odDone q 0 (s.setOb .pwrReq 3)
      else if !restOk s then odDone q abState s
      else
        let v := q.num
        let s := applySto 9 (odDone q 0 (s.setOb .pwrReq v))
        if flashOk ∨ v = 2 then enterRest v (sendWaiting s) else abortRest v s) s

/-- PWR_STATE_REQUEST (R441, R442, R444): the write of 0x2100:02, and whether the flash write of step 2 succeeds. -/
def execPwrStateRequest (dt : Nat) (flashOk : Bool) (s : State) : Out := after dt s (pwrStateRequest flashOk)

/-! Critical temperature (R451). -/

/-- The valid sensor with the highest reading. -/
def hottest (s : State) : Nat :=
  (validSensors s).foldl (fun m k => if signed 12 (s.rd .thmT m) < signed 12 (s.rd .thmT k) then k else m) ((validSensors s).headD 0)

def thmCrit (s : State) : State :=
  if 3 ≤ s.pwr.crit ∧ 3 ≤ s.rd .pwrState then
    let s := raise .thmCrit 0 (hottest s) { s with pwr := { s.pwr with crit := 0, coolAt := none } }
    let s := enterRest 2 (applySto 9 s)
    { s with pwr := { s.pwr with critRest := true } }
  else s

/-- THM_CRIT (R451, R480). -/
def execThmCrit (dt : Nat) (s : State) : Out := after dt s thmCrit

/-! Wake (R443, R445, R451). -/

/-- The device wakes on a source. -/
def wake (b : Nat) (s : State) : State :=
  let s := { s.wr .pwrWakeSrc (2 ^ b) with pin := { s.pin with fanRest := [] } }
  let s :=
    if s.rd .pwrState = 1 then { s with pin := { s.pin with mainEn := true } }
    else { s.wr .pwrVid 10 with pwr := { s.pwr with waking := true },
                                clk := { s.clk with t0 := s.now, qual := .idle, qualGood := 0, qualFails := 0, qualRetried := false } }
  raise .pwrWake 0 (2 ^ b) s

/-- Does the device rest, and is a wake source enabled? -/
def canWake (s : State) (b : Nat) : Bool :=
  s.rdBit .pwrWakeEn b && ((s.rd .pwrState == 1 && !s.pin.mainEn) || (s.rd .pwrState == 2 && !s.pwr.waking && !s.clk.up))

/-- PWR_WAKE (R445): CAN, GPIO0 to GPIO3, PCIe. -/
def execPwrWake (dt : Nat) (b : Fin 6) (s : State) : Out := after dt s fun s => if canWake s b then wake b s else s

/-- PWR_ALARM_WAKE (R445): VSEC has reached PWR_ALARM. -/
def execPwrAlarmWake (dt : Nat) (s : State) : Out :=
  after dt s fun s => if canWake s 6 ∧ s.clk.veneerSec % 2 ^ 32 = s.rd .pwrAlarm then wake 6 s else s

def thmRecoveryWake (s : State) : State :=
  if s.rd .pwrState = 2 ∧ s.pwr.critRest ∧ !s.pwr.waking ∧ heldFor s.pwr.coolAt (10 * rootPerS) s.now then wake 7 s else s

/-- THM_RECOVERY_WAKE (R451). -/
def execThmRecoveryWake (dt : Nat) (s : State) : Out := after dt s thmRecoveryWake

/-! Program control and provisioning (R472, R475). -/

def programControl (s : State) : State :=
  odServe (fun q => q.writes .progControl)
    (fun q s =>
      let v := q.num
      if ownCheck q ≠ 0 then odDone q (ownCheck q) s
      else
        let keep (s : State) : State := odDone q 0 (s.setOb .progControl v)
        match v with
        | 1 => match s.boot.written with
          | some b => keep (setActiveBank b s)
          | none => odDone q abState s
        | 2 => keep (s.wr .vnrOtpSvn (max (s.rd .vnrOtpSvn) (bunSvn s.boot.img)))
        | 3 => keep (setActiveBank (1 - s.boot.act) s)
        | _ => keep s) s

/-- PROGRAM_CONTROL (R472): the write of 0x1F51:01. -/
def execProgramControl (dt : Nat) (s : State) : Out := after dt s programControl

/-- May OTPWR make a write (R475)? -/
def otpOk (s : State) (w : OtpWr) : Bool :=
  !(s.on .vnrLifecycle) || (s.on .vnrDbgUnlocked && match w with
    | .slot k _ _ _ => s.rd .crySlotState k == 0
    | .revoke _ => true
    | _ => false)

def otpWrite (w : OtpWr) (s : State) : State :=
  if !otpOk s w then s
  else
    match w with
    | .slot k ty mask key =>
      let s := ((s.wr .crySlotType ty k).wr .crySlotState 1 k).wr .crySlotMask mask k
      { s with od := { s.od with key := s.od.key.set k key } }
    | .rotpk k h => { s with boot := { s.boot with rotpk := s.boot.rotpk.set k h } }
    | .revoke k => { s with boot := { s.boot with revoked := k.val :: s.boot.revoked } }
    | .secure => { s with boot := { s.boot with fuse := true } }

/-- OTP_WRITE (R475): the TAP instruction OTPWR. -/
def execOtpWrite (dt : Nat) (w : OtpWr) (s : State) : Out := after dt s (otpWrite w)

end Sys2Proof.Machine
end

