-- ==== Sys2Proof/Machine/Saf.lean ====
section
/-! DEFINITION. The Safety Island: the safe-state restart, STO and arming, SS1, the watchdog, and the Clamp CRC check
(chapter 23). -/

namespace Sys2Proof.Machine

/-! The safe-state restart (R477 to R479). -/

/-- Restarts that began in the last 60 s. -/
def recentStarts (s : State) : List Nat := s.saf.starts.filter fun t => s.now ≤ t + 60 * rootPerS

/-- SAF_STAT.RST60. -/
def showRst60 (s : State) : State := s.wr .safRst60 (min 3 (recentStarts s).length)

/-- PD4 to PD15 go off, and stay off. -/
def computeOff (s : State) : State := foldN 12 (fun d s => domainOff (d + 4) s) s

/-- An escalation (R479): 0 the 150 ms have passed, 1 repeated restarts. -/
def escalate (arg : Nat) (s : State) : State :=
  let s := { s with saf := { s.saf with escalated := true, restart := none } }
  updSafState (raise .safEscalated 0 arg (computeOff s))

/-- Slot n of Mitre loses its image, and its exclusive Clamp entries go. -/
def restartMitre (n : Nat) (s : State) : State :=
  if s.rd .mitState n = 2 then dropMitEntries n (mitreFault n 6 s) else s

/-- The running tasks of context slot k end with result 8. -/
def endSlotTasks (k : Nat) (s : State) : State :=
  (s.sch.runs.filter fun r => s.rd .chSlot r.ch == k).foldl (fun s r => endRun r 8 s) s

/-- Context slot k becomes FREE: its tasks end with result 8. -/
def restartSlot (k : Nat) (s : State) : State :=
  if s.rd .ctxState k = 0 then s
  else
    let s := endSlotTasks k s
    let s := foldN 64 (fun ch s => if s.rd .chSlot ch = k ∧ s.on .chEn ch then cancelQueued ch 8 s else s) s
    freeSlot k (disableChannels k s)

/-- Requests that wait are answered as before the server is ready (R478, R296). -/
def turnAwayAll (s : State) : State :=
  let l := s.od.queue ++ (s.od.store.map fun r => r.req).toList ++ (s.od.auth.map fun a => a.req).toList
  l.foldl (fun s q => odTurnAway q abState s) s

/-- The runtime goes down: the node answers as before the server is ready. -/
def runtimeDown (s : State) : State :=
  let s := runtimeStop (turnAwayAll (endAllQps s))
  s.setNode { s.node with up := true }

/-- Steps 1 and 2 of R477. -/
def restartSteps (s : State) : State :=
  let s := foldN 64 restartSlot (foldN 8 restartMitre s)
  let s := runtimeDown s
  let s := foldN 12 (fun d s => cycleDomain (d + 4) s) s
  showRdy (s.setNode { s.node with up := true })

/-- A restart begins whose trigger fell at root time t. -/
def beginRestart (sub t : Nat) (s : State) : State :=
  let s := { s with saf := { s.saf with restart := some ⟨t⟩, starts := t :: s.saf.starts, wdgLast := none } }
  let s := showRst60 (s.bump .safRestartCnt 1)
  updSafState (restartSteps (raise .safRestart 0 sub s))

/-- The restart before the last one began at most 60 s ago. -/
def thirdRestart (s : State) : Bool :=
  match s.saf.starts[1]? with
  | some t => s.now ≤ t + 60 * rootPerS
  | none => false

/-- The triggers that are not older than the 20 µs of step 1 (R477). -/
def liveTriggers (s : State) : List (Nat × Nat) := s.saf.trig.filter fun x => s.now ≤ x.2 + 20 * rootPerUs

/-- The oldest trigger is taken. -/
def safeStateRestart (s : State) : State :=
  match liveTriggers s with
  | [] => s
  | (sub, t) :: rest =>
    let s := { s with saf := { s.saf with trig := rest } }
    if s.saf.restart.isSome ∨ s.saf.escalated then s
    else if thirdRestart s then escalate 1 s
    else beginRestart sub t s

/-- SAFE_STATE_RESTART (R477 to R479). -/
def execSafeStateRestart (dt : Nat) (s : State) : Out := after dt s safeStateRestart

/-- PD4 to PD15 have switched: PD4 is on again, and no domain of them still switches. -/
def computeBack (s : State) : Bool :=
  s.domOn 4 && (List.range 12).all fun d => (s.pwr.sw.get none (d + 4)).isNone

def safRestartDone (s : State) : State :=
  match s.saf.restart with
  | none => s
  | some r =>
    if computeBack s ∧ s.now ≤ r.trigAt + 150 * rootPerMs then
      let s := serveDictionary { s with saf := { s.saf with restart := none } }
      updSafState (raise .safRestartDone 0 ((s.now - r.trigAt) / rootPerMs) (showRdy s))
    else s

/-- SAF_RESTART_DONE (R477, R478): the runtime image has passed its hash check, and the runtime serves again. -/
def execSafRestartDone (dt : Nat) (s : State) : Out := after dt s safRestartDone

def safRestartTimeout (s : State) : State :=
  match s.saf.restart with
  | none => s
  | some r => if s.now = r.trigAt + 150 * rootPerMs then escalate 0 s else s

/-- SAF_RESTART_TIMEOUT (R479). -/
def execSafRestartTimeout (dt : Nat) (s : State) : Out := after dt s safRestartTimeout

/-! STO and arming (R480, R481, R483). -/

/-- The first condition of R481 that fails, in its order; 0 if all hold. -/
def armBar (s : State) : Nat :=
  if s.rd .mioEstopInN = 0 then 1
  else if tmax + 40 ≤ s.thm then 2
  else if s.saf.ss1End.isSome then 3
  else if s.saf.restart.isSome ∨ s.saf.escalated then 4
  else if s.rd .safRbFail ≠ 0 then 5
  else if s.saf.bootDone then 0 else 6

/-- An accepted arming. -/
def armAccept (m : Nat) (s : State) : State :=
  let s := ((s.wr .safArmed (s.rd .safArmed ||| m)).wr .safStoCause 0).setOb .safArm m
  let s := { s with pin := { s.pin with stoN := some true } }
  let s := updSafState ((s.wr .safStoDrv 1).wr .safStoPad 1)
  raise .safArmed 0 (s.rd .safArmed) s

/-- A write of a mask to 0x2A10:01 that has passed its authentication: the abort code, and the state. -/
def armRequest (m : Nat) (s : State) : Nat × State :=
  if armBar s = 0 then (0, armAccept m s) else (abState, raise .safArmRefused 0 (armBar s) s)

/-- A write that has a row of its own and is served with `f`. -/
def ownWrite (o : ObjId) (f : Nat → State → State) (s : State) : State :=
  odServe (fun q => q.writes o)
    (fun q s => if ownCheck q ≠ 0 then odDone q (ownCheck q) s else odDone q 0 (f q.num s)) s

/-- SAF_DISARM (R481): the write of 0x2A10:02. -/
def execSafDisarm (dt : Nat) (s : State) : Out := after dt s (ownWrite .safDisarm safDisarm)

def stoReadback (pad : Bool) (s : State) : State :=
  if pad = (s.rd .safStoDrv == 1) then s.wr .safStoPad (b2n pad)
  else if pad = (s.rd .safStoPad == 1) then s
  else
    let s := raise .safStoReadback 0 (s.rd .safStoDrv) (s.wr .safRbFail 1)
    s.wr .safStoPad (b2n pad)

/-- SAF_STO_READBACK (R483): the level of the STO_N pad for 1 µs; a level that already differed is no new mismatch. -/
def execSafStoReadback (dt : Nat) (pad : Bool) (s : State) : Out :=
  after dt s fun s => if s.domOn 1 ∧ s.clk.up ∧ s.pin.stoN.isSome then stoReadback pad s else s

/-! SS1-t (R484). -/

/-- SS1_REQUEST (R484): a falling edge of a GPIO, or (none) the write of 0x2A11:01. -/
def execSs1Request (dt : Nat) (gpio : Option (Fin 32)) (s : State) : Out :=
  after dt s fun s =>
    match gpio with
    | some k => if s.domOn 1 ∧ s.on .safSs1GpioEn ∧ s.rd .safSs1Gpio = k then startSs1 s else s
    | none => ownWrite .safSs1Req (fun _ s => startSs1 s) s

/-- SAF_SS1_REM. -/
def showSs1Rem (s : State) : State :=
  s.wr .safSs1Rem (match s.saf.ss1End with
    | some t => (t - s.now + rootPerMs - 1) / rootPerMs
    | none => 0)

def ss1Expire (s : State) : State :=
  match s.saf.ss1End with
  | none => s
  | some t =>
    if t = s.now then
      let s := showSs1Rem { s with saf := { s.saf with ss1End := none } }
      applySto 5 (raise .safSs1 0 1 s)
    else s

/-- SS1_EXPIRE (R484). -/
def execSs1Expire (dt : Nat) (s : State) : Out := after dt s ss1Expire

/-! The runtime watchdog (R485, R486). -/

/-- The valid kick that is due. -/
def kickDue (s : State) : Nat :=
  match s.saf.wdgLast with
  | none => 0x5AA5
  | some v => 0xFFFF - v

/-- A write of SAF_WDG_KICK. -/
def wdgKick (v : Nat) (s : State) : State :=
  if s.saf.restart.isSome ∨ s.saf.escalated then s
  else if v % 65536 = kickDue s then
    let start := if s.saf.wdgLast.isNone then s.now else s.saf.wdgFrom
    { s with saf := { s.saf with wdgLast := some (v % 65536), wdgFrom := start, wdgOk := true } }
  else s.bump .safWdgBad 1

/-- WDG_KICK (R486). -/
def execWdgKick (dt : Nat) (v : BitVec 16) (s : State) : Out := after dt s fun s => if s.domOn 1 then wdgKick v.toNat s else s

/-- End of the watchdog window that runs. -/
def wdgEnd (s : State) : Nat := s.saf.wdgFrom + s.rd .safWdgT * rootPerMs

def wdgWindowEnd (s : State) : State :=
  if s.saf.wdgLast.isSome ∧ wdgEnd s = s.now then
    let ok := s.saf.wdgOk
    let s := { s with saf := { s.saf with wdgFrom := wdgEnd s, wdgOk := false } }
    if ok then s else raise .safWdgExpired 0 0 (s.bump .safWdgExp 1)
  else s

/-- WDG_WINDOW_END (R485, R486). -/
def execWdgWindowEnd (dt : Nat) (s : State) : Out := after dt s wdgWindowEnd

/-! The Clamp CRC (R488). -/

/-- Is CLP_CRC of instance i compared now: every 10 ms (`due`), and after a commit once the first pass over the new table is
complete? A comparison that falls into that pass waits for its end. -/
def comparesCrc (s : State) (due : Bool) (i : Nat) : Bool :=
  let e := (s.fab.crc.get (0, 0) i).2
  s.now == e || (due && decide (e < s.now))

/-- Instance i is compared with the Safety Island's copy. -/
def clampCrcCheck (due : Bool) (i : Nat) (s : State) : State :=
  let own := s.fab.own.get [] i
  if !comparesCrc s due i ∨ shownCrc s i = clpCrcOf i own then s else activateClamp i own own (raise .safClampCrc 0 i s)

def clampCrcChecks (s : State) : State :=
  if s.domOn 21 ∧ s.domOn 1 then
    let due := onPeriod s s.saf.crcFrom (10 * rootPerMs)
    foldN 12 (clampCrcCheck due) (if due then { s with saf := { s.saf with crcFrom := some s.now } } else s)
  else s

/-- SAF_CLAMP_CRC_CHECK (R488): upsets of active entries since the last check, and the comparison of the instances that are due. -/
def execSafClampCrcCheck (dt : Nat) (l : List ClpUpset) (s : State) : Out :=
  after dt s fun s => clampCrcChecks (l.foldl (fun s u => clpUpset u s) s)

end Sys2Proof.Machine
end

