-- ==== Sys2Proof/Machine/Auth.lean ====
section
/-! DEFINITION. Authenticated writes: the record, its check, the counters, and the writes of the rwa objects
(chapter 17, R363 to R370). -/

namespace Sys2Proof.Machine

/-! The record (Table NET-6). -/

def recIdx (r : List Byte) : Nat := leNat (r.take 2)
def recSub (r : List Byte) : Nat := leNat ((r.drop 2).take 1)
def recSlot (r : List Byte) : Nat := leNat ((r.drop 3).take 1) % 16
def recStaged (r : List Byte) : Bool := bitOf (leNat ((r.drop 3).take 1)) 7
def recCounter (r : List Byte) : Nat := leNat ((r.drop 4).take 4)
def recCheck (r : List Byte) : List Byte := (r.drop 8).take 8
def recValue (r : List Byte) : List Byte := r.drop 16

/-- The message of R366. -/
def authMessage (r : List Byte) : List Byte :=
  r.take 3 ++ (r.drop 4).take 4 ++ leBytes 8 Config.serial.toNat ++ recValue r

/-- The check of R366. -/
def authCheck (s : State) (r : List Byte) : List Byte :=
  ((cmac (s.od.key.get [] (recSlot r)) ((authMessage r).map (·.toNat))).take 8).map fun n => BitVec.ofNat 8 n

/-- The class of an rwa object (Table NET-5). -/
def authClass (o : ObjId) : Option Nat :=
  match o with
  | .safArm => some 0
  | .safSs1Time | .safSs1Gpio | .safWdgWin | .safReactObj | .mitFbFeedObj => some 1
  | .pairMode | .pairHandover => some 2
  | .asmAdmitted | .cfgImage => some 3
  | .progDownload => some 4
  | .dbgUnlock => some 5
  | .slotRevoke => some 6
  | _ => none

/-- The first check of R367 that fails: 1 state or mask, 2 counter, 3 check; 0 if all hold. -/
def authFault (s : State) (o : ObjId) (r : List Byte) : Nat :=
  let k := recSlot r
  if s.rd .crySlotState k ≠ 1 ∨ s.rd .crySlotType k ≠ 1 ∨ !((authClass o).any fun c => s.rdBit .crySlotMask c k) then 1
  else if recCounter r ≤ s.rd .cryCnt k then 2
  else if authCheck s r ≠ recCheck r then 3 else 0

/-! The checks of the value (orders 7 to 11 of Table OD-2). -/

/-- Lowest reaction of a sub-index of 0x2A20 (Table SAF-3). -/
def reactFloor (j : Nat) : Nat := if j = 7 ∨ j = 8 ∨ j = 9 then 1 else 0

/-- The abort code of the value of an rwa object; 0 if it may be written. -/
def authValueCheck (s : State) (k : ObjKey) (v : List Byte) : Nat :=
  if !odSizeOk k.o v.length then abSize
  else if odRange k.o v ≠ 0 then odRange k.o v
  else
    let n := leNat v
    match k.o with
    | .safReactObj => if n < reactFloor k.j then abLow else 0
    | .slotRevoke => if n = k.i then 0 else abValue
    | .safSs1Gpio => if n ≤ 31 ∨ n = 255 then (if s.on .safLock then abState else 0) else abValue
    | .safSs1Time => if s.on .safLock then abState else 0
    | .safWdgWin => if s.on .safLock then abState else 0
    | _ => 0

/-! The writes. -/

/-- An A object is stored at its acceptance (R301). -/
def storeA (k : ObjKey) (v : Nat) (s : State) : State :=
  { s with od := { s.od with aStore := kput ObjKey.rank s.od.aStore k v (objDflt k) } }

/-- The configuration image is replaced, applied and stored (R410). -/
def newImage (v : List Byte) (s : State) : State :=
  recheckAll (applyImage v.length v { s with od := { s.od with image := v, aImage := v } })

/-- MAGIC of a boot configuration record. -/
def bcrMagic : Nat := 0x52434242

/-- A bundle or a boot configuration record is written to flash (R472). -/
def program (flashOk : Bool) (v : List Byte) (s : State) : Nat × State :=
  if leNat (v.take 4) = bcrMagic ∧ 4 ≤ v.length then
    if flashOk then (0, { s with boot := { s.boot with bcr := (v.drop 4).take 256 } }) else (abFlash, s)
  else if bunCause s v ≠ 0 then (abValue, s)
  else if flashOk then
    let b := 1 - s.boot.act
    (0, { s with boot := { s.boot with bank := s.boot.bank.set b v, written := some b } })
  else (abFlash, s)

/-- Debug is unlocked or locked (R476); in lifecycle OPEN it stays unlocked. -/
def debugWrite (slot v : Nat) (s : State) : State :=
  if v = 1 then raise .dbgUnlocked 1 slot (s.wr .vnrDbgUnlocked 1) else lockDebug s

/-- A value that has passed its checks is written: the abort code, and the state. -/
def authApply (k : ObjKey) (slot : Nat) (flashOk : Bool) (v : List Byte) (s : State) : Nat × State :=
  let n := leNat v
  match k.o with
  | .safArm => armRequest n s
  | .safSs1Time => (0, storeA k n ((s.setOb .safSs1Time n).wr .safSs1T n))
  | .safSs1Gpio => (0, storeA k n (((s.setOb .safSs1Gpio n).wr .safSs1Gpio n).wr .safSs1GpioEn (b2n (n ≤ 31))))
  | .safWdgWin => (0, storeA k n ((s.setOb .safWdgWin n).wr .safWdgT n))
  | .safReactObj => (0, storeA k n (s.wr .safReact n k.j))
  | .mitFbFeedObj => (0, s.wr .mitFbFeed n k.i)
  | .pairMode => (0, storeA k n (s.setOb .pairMode n))
  | .pairHandover => handoverRequest s
  | .asmAdmitted => (0, recheckAll (storeA k n (s.setOb .asmAdmitted n)))
  | .cfgImage => (0, newImage v s)
  | .progDownload => program flashOk v s
  | .dbgUnlock => (0, debugWrite slot n s)
  | .slotRevoke => (0, s.wr .crySlotState 2 k.i)
  | _ => (abNoAccess, s)

/-- The staged reference of the buffer (R365). -/
def stagedRef (s : State) : List Byte := leBytes 4 s.od.staging.length ++ sha256 s.od.staging

/-- The target write of a record whose check is valid. -/
def authTarget (r : List Byte) (k : ObjKey) (flashOk : Bool) (s : State) : Nat × State :=
  let put (v : List Byte) (s : State) : Nat × State :=
    let c := authValueCheck s k v
    if c ≠ 0 then (c, s) else authApply k (recSlot r) flashOk v s
  if !recStaged r then put (recValue r) s
  else if k.o.info.ty ≠ .dom ∨ recValue r ≠ stagedRef s then (abValue, s)
  else put s.od.staging { s with od := { s.od with staging := [] } }

/-- The counter is taken, the target is written, and the record is answered. -/
def authTake (q : OdReq) (r : List Byte) (k : ObjKey) (flashOk : Bool) (s : State) : State :=
  let (c, s) := authTarget r k flashOk (s.wr .cryCnt (recCounter r) (recSlot r))
  odDone q c s

/-- A record that fails a check of R367. -/
def authRefuse (q : OdReq) (r : List Byte) (why : Nat) (s : State) : State :=
  let k := recSlot r
  let s := s.setOb .slotFails (satAdd 32 (s.ob .slotFails k) 1) k
  odDone q abCheck (raise .netAuthFail 1 (k + (why - 1) * 256) s)

/-- An attempt on a slot whose counter is used up (R369). -/
def tellExhausted (k : Nat) (s : State) : State :=
  if s.rd .cryCnt k = 0xFFFFFFFF then raise .netCntExhausted 1 k s else s

/-- A record is processed. -/
def authRecord (q : OdReq) (flashOk : Bool) (s : State) : State :=
  let r := q.data.getD []
  let c := odAccess (recIdx r) (recSub r) true
  match objAt (recIdx r) (recSub r) with
  | none => odDone q c s
  | some k =>
    if c = abReadOnly then odDone q c s
    else
      let s := tellExhausted (recSlot r) s
      let why := authFault s k.o r
      if why ≠ 0 then authRefuse q r why s
      else if s.od.flash.get 0 (recSlot r) + 256 ≤ recCounter r then
        { s with od := { s.od with auth := some ⟨recSlot r, recCounter r, r, q⟩ } }
      else authTake q r k flashOk s

def authWrite (flashOk : Bool) (s : State) : State :=
  odServe (fun q => q.writes .authWrite)
    (fun q s => if ownCheck q ≠ 0 then odDone q (ownCheck q) s else authRecord q flashOk s) s

/-- AUTH_WRITE (R363 to R367, R370, R472); `flashOk`: a flash write of the target succeeds. -/
def execAuthWrite (dt : Nat) (flashOk : Bool) (s : State) : Out := after dt s (authWrite flashOk)

def authCounterFlashDone (ok flashOk : Bool) (s : State) : State :=
  match s.od.auth with
  | none => s
  | some a =>
    let s := { s with od := { s.od with auth := none } }
    if ok then
      match objAt (recIdx a.record) (recSub a.record) with
      | none => s
      | some k => authTake a.req a.record k flashOk { s with od := { s.od with flash := s.od.flash.set a.slot a.counter } }
    else odDone a.req abFlash (raise .netCntFlashFail 1 a.slot s)

/-- AUTH_COUNTER_FLASH_DONE (R368): the flash copy of the counter is written (`ok`) or the write has failed. -/
def execAuthCounterFlashDone (dt : Nat) (ok flashOk : Bool) (s : State) : Out := after dt s (authCounterFlashDone ok flashOk)

end Sys2Proof.Machine
end

