-- ==== Sys2Proof/Machine/Commands.lean ====
section
/-! DEFINITION. The commands of the clocks, the loop, the memory and the engines (chapters 01 to 09, 11 to 14): each is its operation over
the state that the elapsed time leaves. -/

namespace Sys2Proof.Machine

/-! Clocks (chapter 02). -/

/-- LSX_PRESENCE_JUDGE (R39). -/
def execLsxPresenceJudge (dt : Nat) (regulated : Bool) (s : State) : Out := after dt s (lsxPresenceJudge regulated)

/-- QUAL_WINDOW_END (R40): the windows to come last as long as the one that ends, since their reference is the same. -/
def execQualWindowEnd (dt count : Nat) (s : State) : Out := after dt s (qualWindowEnd count)

/-- QUAL_RETRY (R40). -/
def execQualRetry (dt : Nat) (s : State) : Out := after dt s qualRetry

/-- LSX_LOST (R45). -/
def execLsxLost (dt : Nat) (s : State) : Out := after dt s lsxLost

/-- CKG_EN_WRITE (R46, R48). -/
def execCkgEnWrite (dt tid : Nat) (v : Word) (s : State) : Out := after dt s (ckgEnWrite tid v)

/-- FMTR_START (R49, R512). -/
def execFmtrStart (dt tid : Nat) (v : Word) (s : State) : Out := after dt s (fmtrStart tid v)

/-- FMTR_DONE (R49): `edges` source edges fell into the gate; above 525 MHz the count has no meaning (a free value). -/
def execFmtrDone (dt edges : Nat) (s : State) : Out := after dt s (fmtrDone edges)

/-- DTIME_INC_WRITE (R51). -/
def execDtimeIncWrite (dt : Nat) (v : Word) (s : State) : Out := after dt s (dtimeIncWrite v)

/-- DTIME_ADJ (R52). -/
def execDtimeAdj (dt tid : Nat) (v : Word) (s : State) : Out := after dt s (dtimeAdj tid v)

/-- DTIME_NSEC_READ (R53). -/
def execDtimeNsecRead (dt : Nat) (s : State) : Out := after dt s dtimeNsecRead

/-- EPOCH_ARM (R37). -/
def execEpochArm (dt tid : Nat) (v : Word) (s : State) : Out := after dt s (epochArm tid v)

/-- EPOCH_MOVE (R37). -/
def execEpochMove (dt : Nat) (s : State) : Out := after dt s epochMove

/-- TB_CFG_WRITE (R56, R103). -/
def execTbCfgWrite (dt tid : Nat) (v : Word) (s : State) : Out := after dt s (tbCfgWrite tid v)

/-- TB_CFG_APPLY (R57): now is the first coincidence point after the write. -/
def execTbCfgApply (dt : Nat) (s : State) : Out := after dt s tbCfgApply

/-- AXN_TB_WRITE (R56, R57, R103). -/
def execAxnTbWrite (dt tid : Nat) (n : Fin 8) (v : Word) (s : State) : Out := after dt s (axnTbWrite tid n v)

/-! The control engine (chapter 03). -/

/-- AX_ENABLE_WRITE (R60). -/
def execAxEnableWrite (dt tid : Nat) (n : Fin 8) (s : State) : Out := after dt s (axEnableWrite tid n)

/-- AX_DISABLE_WRITE (R60): an accepted enable that waits is withdrawn. -/
def execAxDisableWrite (dt : Nat) (n : Fin 8) (s : State) : Out := after dt s (requestDisable n)

/-- GUARD_PUBLISH (R71, R151): a write of GD_TS_S, or, with the capture stamp of a frame, what the collision context publishes. -/
def execGuardPublish (dt : Nat) (g : Fin 16) (v : GuardStamp) (s : State) : Out :=
  after dt s fun s => match v with
    | .given v => guardPublish g v s
    | .frame sec ns => guardCollision g sec ns s

/-- CE_ISSUE (R74); `ecc`: the run meets an uncorrectable CE SRAM error (R482). -/
def execCeIssue (dt : Nat) (n : Fin 8) (ecc : Bool) (s : State) : Out := after dt s (ceIssue n ecc)

/-- CE_SHADOW_COMPLETE (R21, R74, R75). -/
def execCeShadowComplete (dt : Nat) (n : Fin 8) (s : State) : Out := after dt s (ceShadowComplete n)

/-- END_OF_PERIOD_CHECK (R27, R33, R482). -/
def execEndOfPeriodCheck (dt : Nat) (n : Fin 8) (f : CeFaultIn) (s : State) : Out := after dt s (endOfPeriodCheck n f)

/-- PST_CLR_CNT (R34): the counters clear at the next CECLK. -/
def execPstClrCnt (dt : Nat) (s : State) : Out := after dt s pstClrCnt

/-! The motor-side I/O (chapter 04). -/

/-- ESTOP_RECOGNISED (R84, R85, R480): a low that lasts 20 ns has been recognised. -/
def execEstopRecognised (dt : Nat) (s : State) : Out := after dt s estopRecognised

/-- TRIP_RECOGNISED (R84, R86): a low that lasts 20 ns has been recognised. -/
def execTripRecognised (dt : Nat) (n : Fin 8) (s : State) : Out := after dt s (tripRecognised n)

/-- OVERCURRENT_TRIP (R92), at an edge of the channel's clock: `bits` are the bits received by the channel, oldest first. -/
def execOvercurrentTrip (dt : Nat) (ch : Fin 24) (bits : List Bool) (s : State) : Out := after dt s (overcurrentTrip ch bits)

/-- MIO_TRIP_CLEAR (R87): with the live levels of ESTOP_N and TRIPn_N, and the bits that each channel has received. -/
def execMioTripClear (dt : Nat) (v : Word) (estopN : Bool) (tripN : BitVec 8) (oc : List (List Bool)) (s : State) : Out :=
  after dt s (mioTripClear v ⟨estopN, tripN, oc⟩)

/-- ENC_EDGE (R93): the levels of A and B after the edge, and for how many consecutive CECLK samples what has changed has been
equal. -/
def execEncEdge (dt : Nat) (p : Fin 8) (l : AbLevel) (held : Nat) (s : State) : Out := after dt s (encEdge p l.a l.b held)

/-- ENC_Z_EDGE (R93, R94). -/
def execEncZEdge (dt : Nat) (z : ZEdge) (s : State) : Out := after dt s (encZEdge z.port z.held)

/-- ENC_CPR_WRITE (R94, Table CE-6). -/
def execEncCprWrite (dt tid : Nat) (n : Fin 8) (v : Word) (s : State) : Out := after dt s (encCprWrite tid n v)

/-- SSI_FRAME_START (R95): SSI_LEAD CECLK before the tick; `level` is ENCn_A. -/
def execSsiFrameStart (dt : Nat) (p : Fin 8) (level : Bool) (s : State) : Out := after dt s (ssiFrameStart p level)

/-- SSI_FRAME_END (R96): the BITS data bits as received, MSB first, and the parity bit. -/
def execSsiFrameEnd (dt : Nat) (p : Fin 8) (data : Word) (parity : Bool) (s : State) : Out :=
  after dt s (ssiFrameEnd p data parity)

/-- PULSE_EDGE (R98): the levels of A and B after the edge, and for how many consecutive CECLK samples what has changed has been
equal. -/
def execPulseEdge (dt : Nat) (p : Fin 8) (l : AbLevel) (held : Nat) (s : State) : Out := after dt s (pulseEdge p l.a l.b held)

/-- ADC_SLOT (R99). -/
def execAdcSlot (dt : Nat) (s : State) : Out := after dt s adcSlot

/-- ADC_CONVERSION_DONE (R99): the input in nanovolts. -/
def execAdcConversionDone (dt : Nat) (nanovolts : Int) (s : State) : Out := after dt s (adcConversionDone nanovolts)

/-! The firewalls (chapter 12). -/

/-- CLAMP_COMMIT (R235, R236): only TID 0 writes the register. -/
def execClampCommit (dt tid : Nat) (i : Fin 12) (v : Word) (s : State) : Out :=
  after dt s fun s => if fabHardOk (.per 0) 0x1000 tid true then clampGo tid i v s else s

/-- CLAMP_COMMIT_ACTIVATE (R236, R237). -/
def execClampCommitActivate (dt : Nat) (i : Fin 12) (s : State) : Out := after dt s (clampActivate i)

/-! Mitre (chapter 05). -/

/-- MITRE_LOADED (R103): with the places that the image gives for the input record and the vibration rings in the LS of the group. -/
def execMitreLoaded (dt tid : Nat) (n : Fin 8) (recAddr ringAddr : Nat) (s : State) : Out :=
  after dt s (mitreLoaded tid n recAddr ringAddr)

/-- MITRE_ARM_REQUEST (R103). -/
def execMitreArmRequest (dt tid : Nat) (n : Fin 8) (s : State) : Out := after dt s (mitreArmRequest tid n)

/-- MITRE_DISARM (R103, Table MIT-1). -/
def execMitreDisarm (dt : Nat) (n : Fin 8) (s : State) : Out := after dt s (mitreDisarm n)

/-- MITRE_UNLOAD (R103, Table MIT-4). -/
def execMitreUnload (dt : Nat) (n : Fin 8) (s : State) : Out := after dt s (mitreUnload n)

/-- MITRE_MODEL_LOAD (R103, R104, R293): bytes of weights, of the program and of the activations, and WCET, of the compiler report. -/
def execMitreModelLoad (dt : Nat) (n : Fin 8) (weightBytes : Nat) (ls : LsNeed) (wcet modelId : Nat) (s : State) : Out :=
  after dt s (mitreModelLoad n weightBytes ls.prog ls.act wcet modelId)

/-- MITRE_INVOCATION_START (R106 to R108, R113): the eight rows of the record stand in LS from here on; they are written within 12 TCLK,
in which the program does not run yet (log entry 36). -/
def execMitreInvocationStart (dt : Nat) (n : Fin 8) (s : State) : Out := after dt s (mitreInvocationStart n)

/-- MITRE_INVOCATION_STOP (R109). -/
def execMitreInvocationStop (dt : Nat) (n : Fin 8) (s : State) : Out := after dt s (mitreInvocationStop n)

/-- MITRE_COMMIT (R110, R111): the write of MIT_COMMIT completes. -/
def execMitreCommit (dt tid : Nat) (n : Fin 8) (v : BitVec 16) (s : State) : Out := after dt s (mitreCommit tid n v)

/-- MITRE_MISS_LIMIT (R114). -/
def execMitreMissLimit (dt : Nat) (n : Fin 8) (s : State) : Out := after dt s (mitreMissLimit n)

/-! Camera and sensor streams (chapter 06). -/

/-- CAM_COMMIT (R123, R124). -/
def execCamCommit (dt tid : Nat) (k : Fin 16) (tag : Byte) (s : State) : Out := after dt s (camCommit tid k tag)

/-- CAM_APPLIED_POP (R125). -/
def execCamAppliedPop (dt : Nat) (k : Fin 16) (s : State) : Out := after dt s (camAppliedPop k)

/-- SCQ_ENTRY (R127). -/
def execScqEntry (dt tid : Nat) (p : Fin 4) (v : Word) (s : State) : Out := after dt s (scqEntry tid p v)

/-- SCQ_SUBMIT (R127). -/
def execScqSubmit (dt tid : Nat) (p : Fin 4) (epoch : Byte) (s : State) : Out := after dt s (scqSubmit tid p epoch)

/-- SCQ_WRITE_ACK (R128, R129). -/
def execScqWriteAck (dt : Nat) (p : Fin 4) (s : State) : Out := after dt s (scqWriteAck p)

/-- SCQ_WRITE_NACK (R130). -/
def execScqWriteNack (dt : Nat) (p : Fin 4) (s : State) : Out := after dt s (scqWriteNack p)

/-- CAM_FRAME_START (R120, R123, R128, R133), of stream k: port k / 4, virtual channel k mod 4 (Table STR-1). -/
def execCamFrameStart (dt : Nat) (k : Fin 16) (fnum : BitVec 16) (h : CamHead) (s : State) : Out :=
  after dt s (camFrameStart (k / 4) (k % 4) fnum h)

/-- CAM_FRAME_END (R126, R132, R134). -/
def execCamFrameEnd (dt : Nat) (k : Fin 16) (h : CamHead) (s : State) : Out := after dt s (camFrameEnd (k / 4) (k % 4) h)

/-- CAM_LINE_PACKET (R119, R120, R132, R133): a long packet with its data type, the number of the Line Start before it, the
state of its header, whether its CRC holds, and its payload. -/
def execCamLinePacket (dt : Nat) (p vc : Fin 4) (dataType : BitVec 6) (line : Option Nat) (h : CamHead) (crcOk : Bool)
    (payload : List Byte) (s : State) : Out := after dt s (camLinePacket p vc dataType line h crcOk payload)

/-- TDM_FRAME (R136, R137, R108): the two slots of the frame that ends now. -/
def execTdmFrame (dt : Nat) (q : Fin 4) (a b : Word) (s : State) : Out := after dt s (tdmFrame q a b)

/-! The tick (chapter 01). -/

/-- AXIS_TICK (R21, R55, R60, R76, R78, R103, R427): with the bits that the three sigma-delta channels of the axis have received up
to the tick, oldest first; a bit with a missing clock edge is none. -/
def execAxisTick (dt : Nat) (n : Fin 8) (sd : List (List (Option Bool))) (s : State) : Out := after dt s (axisTick n sd)

/-- SAMPLE_DELIVERY (R76). -/
def execSampleDelivery (dt : Nat) (n : Fin 8) (s : State) : Out := after dt s (sampleDelivery n)

/-- CE_LATCH (R23, R24, R59, R70, R72, R73, R112, R427, R430). -/
def execCeLatch (dt : Nat) (n : Fin 8) (s : State) : Out := after dt s (ceLatch n)

/-! Translation (chapter 13). -/

/-- MMU_XLATE (R261): the write of MMU_XLATE_CMD. -/
def execMmuXlate (dt : Nat) (v : Word) (s : State) : Out := after dt s (mmuXlate v)

/-- MMU_INVALIDATE (R260, R266, R268, R512): the write of MMU_INV_CMD; while an invalidation runs, only GO is discarded. -/
def execMmuInvalidate (dt tid : Nat) (v : Word) (s : State) : Out := after dt s (mmuInvalidate tid v)

/-- MMU_INV_ACK (R266). -/
def execMmuInvAck (dt : Nat) (e : Fin 40) (s : State) : Out := after dt s (mmuInvAck e)

/-- MMU_INV_TIMEOUT (R268). -/
def execMmuInvTimeout (dt : Nat) (s : State) : Out := after dt s mmuInvTimeout

/-- CLOCK_GATE_OFF (R46). -/
def execClockGateOff (dt : Nat) (bit : Fin 21) (s : State) : Out := after dt s (clockGateOff bit)

/-! The scratchpads (chapter 11). -/

/-- SPM_ECC_WRITEBACK (R210): in a TCLK in which the bank is free. -/
def execSpmEccWriteback (dt : Nat) (k : Fin 1280) (s : State) : Out := after dt s (spmEccWriteback k)

/-- SPM_NARROW_STARVE (R208): a waiting narrow request of a port and TID to an address has reached the limit. -/
def execSpmNarrowStarve (dt tid addr port : Nat) (s : State) : Out := after dt s (spmNarrowStarve tid addr port)

/-- SPM_INIT (R212). -/
def execSpmInit (dt tid : Nat) (v : Byte) (s : State) : Out := after dt s (spmInit tid v)

/-- SPM_INIT_DONE (R212): the zero-fill has taken its 1,024 TCLK; a cluster that has just come up may run its clock. -/
def execSpmInitDone (dt : Nat) (c : Fin 8) (s : State) : Out := after dt s (spmInitDone c)

/-- SPM_CNT_CLR (R213): the counters clear at the next TCLK. -/
def execSpmCntClr (dt : Nat) (s : State) : Out := after dt s spmCntClr

/-- MEMC_SCRUB_READ (R248): the next block of the pass; with the upsets that have struck. -/
def execMemcScrubRead (dt : Nat) (u : List Upset) (s : State) : Out := after dt s (memcScrubRead u)

/-- MEMC_CNT_CLR (R246, Table MEM-10). -/
def execMemcCntClr (dt : Nat) (s : State) : Out := after dt s memcCntClr

/-! The buffer pools (chapter 11). -/

/-- POOL_ENABLE (R215). -/
def execPoolEnable (dt tid : Nat) (p : Fin 32) (s : State) : Out := after dt s (poolEnable tid p)

/-- POOL_DISABLE (R215). -/
def execPoolDisable (dt tid : Nat) (p : Fin 32) (s : State) : Out := after dt s (poolDisable tid p)

/-- BPU_ALLOC (R216): the handle is the read's data. -/
def execBpuAlloc (dt tid : Nat) (p : Fin 32) (s : State) : Out := after dt s (bpuCmd (.alloc tid p))

/-- BPU_FREE (R217). -/
def execBpuFree (dt tid : Nat) (p : Fin 32) (h : Word) (s : State) : Out := after dt s (bpuCmd (.free tid p h.toNat))

/-- BPU_GIVE (R217). -/
def execBpuGive (dt tid : Nat) (p : Fin 32) (g : BitVec 10) (h : Word) (s : State) : Out :=
  after dt s (bpuCmd (.give tid p g.toNat h.toNat))

/-- BPU_RECLAIM (R219). -/
def execBpuReclaim (dt : Nat) (g : BitVec 10) (s : State) : Out := after dt s (bpuCmd (.reclaim g.toNat))

/-- BPU_RECLAIM_DONE (R219). -/
def execBpuReclaimDone (dt : Nat) (s : State) : Out := after dt s bpuReclaimDone

/-! Contexts and tasks (chapter 14). -/

/-- CTX_ACTIVATE (R275). -/
def execCtxActivate (dt tid : Nat) (k : Fin 64) (s : State) : Out := after dt s (ctxActivate tid k)

/-- CTX_RESIDENT (R274, R276). -/
def execCtxResident (dt : Nat) (k : Fin 64) (s : State) : Out := after dt s (ctxResident k)

/-- CH_TAIL_SUBMIT (R280, R281). -/
def execChTailSubmit (dt tid : Nat) (ch : Fin 64) (v : BitVec 3) (s : State) : Out := after dt s (chTailSubmit tid ch v.toNat)

/-- TASK_DISPATCH (R284, R286, R287): the TD of cluster c starts the task of its choice. -/
def execTaskDispatch (dt : Nat) (c : Fin 8) (s : State) : Out := after dt s (taskDispatch c)

/-- CH_RESUME (R288). -/
def execChResume (dt : Nat) (ch : Fin 64) (s : State) : Out := after dt s (chResume ch)

/-- CH_FLUSH (R288). -/
def execChFlush (dt : Nat) (ch : Fin 64) (s : State) : Out := after dt s (cancelQueued ch 8)

/-- CTX_RELEASE (R278). -/
def execCtxRelease (dt tid : Nat) (k : Fin 64) (s : State) : Out := after dt s (ctxRelease tid k)

/-- CTX_TERMINATE (R278). -/
def execCtxTerminate (dt : Nat) (k : Fin 64) (s : State) : Out := after dt s (ctxTerminate k)

/-- CTX_FREE (R274). -/
def execCtxFree (dt : Nat) (k : Fin 64) (s : State) : Out := after dt s (ctxFree k)

/-- TID_RETIRE (R231): the last step, once the others are complete. -/
def execTidRetire (dt : Nat) (tid : BitVec 10) (s : State) : Out := after dt s (tidRetire tid.toNat)

/-- MODEL_LOAD (R291 to R293): the compiler report against the shares of context slot k. -/
def execModelLoad (dt : Nat) (k : Fin 64) (modelId : Nat) (image : ModelImage) (w aCs aLs : Nat) (s : State) : Out :=
  after dt s (modelLoad k modelId image w aCs aLs)

/-! Yarrow (chapter 07). -/

/-- YAR_DICT_LOAD (R143). -/
def execYarDictLoad (dt tid : Nat) (u : Fin 2) (s : State) : Out := after dt s (yarDictLoad tid u)

/-- YAR_Q_SUBMIT (R147, R281, R152): a write of the tail index, and the jobs that the runtime sends to the host beside it. -/
def execYarQSubmit (dt tid : Nat) (u : Fin 2) (x : YarSubmit) (s : State) : Out :=
  after dt s (yarQSubmit tid u x.tail.toNat x.host)

/-- YAR_JOB_START (R147, R454): the engine has read the descriptor and starts on the text. -/
def execYarJobStart (dt : Nat) (u : Fin 2) (s : State) : Out := after dt s (yarJobStart u)

/-- YAR_JOB_DONE (R138 to R148, R153): the whole job is made here; on a BATCH fault the engine stalls, and the job is made again
after its retry. `host`: the job that ends is the one of this descriptor, which `mol_yarrow_ref` ran on the host with the dictionary
and the configuration of the unit; one whose accesses would fault does not end so (DESIGN CHOICE, log 42). -/
def execYarJobDone (dt : Nat) (x : YarDone) (s : State) : Out :=
  after dt s fun s => match x.host with
    | none => yarUnitDone x.unit s
    | some a => yarHostDone x.unit a s

/-- IPOS_WRITE (R150): object 0x3080:01; with the number of blocks of the program, which the runtime knows. -/
def execIposWrite (dt : Nat) (v : Word) (progEnd : Nat) (s : State) : Out := after dt s (iposWrite v.toNat progEnd)

/-! The tensor cores (chapter 08). -/

/-- TEN_ARRAY_OP (R157 to R163, R171): with the LS offset of the instruction in 4-byte units. -/
def execTenArrayOp (dt : Nat) (c : Fin 64) (pc : BitVec 20) (x : ArrIssue) (s : State) : Out :=
  after dt s (tenArrayOp c pc.toNat x.desc x.wait)

/-- TEN_VECTOR_OP (R164 to R171): one instruction on 64 lanes; `sr` is its SR request, `a`, `b`, `e` its operand words. The
result lanes, and the exponents or scales of a block write, stand in State. -/
def execTenVectorOp (dt : Nat) (c : Fin 64) (pc : BitVec 20) (op : VecOp) (sr : Bool) (a b e : List Nat) (s : State) : Out :=
  after dt s (tenVectorOp c pc.toNat op sr a b e)

/-- TC_RESTART (R171). -/
def execTcRestart (dt : Nat) (c : Fin 64) (s : State) : Out := after dt s (tcRestart c)

/-- TC_SR_SEED_WRITE (R172): with work in flight the seed waits for its end. -/
def execTcSrSeedWrite (dt : Nat) (c : Fin 64) (v : Word) (s : State) : Out := after dt s (tcSrSeedWrite c v.toNat)

/-- TC_SR_SEED_LOAD (R172): the work in flight has completed. -/
def execTcSrSeedLoad (dt : Nat) (c : Fin 64) (s : State) : Out := after dt s (tcSrSeedLoad c)

/-! The preprocessing units (chapter 07). -/

/-- PPU_Q_SUBMIT (R147, R281). -/
def execPpuQSubmit (dt tid : Nat) (v : Fin 4) (t : BitVec 5) (s : State) : Out := after dt s (ppuQSubmit tid v t.toNat)

/-- PPU_JOB_START (R138, R147, R154): the next queued job, with the TID of its descriptor, or one that a stream triggers (TID 3). -/
def execPpuJobStart (dt : Nat) (v : Fin 4) (stream : Bool) (job : PpuJob) (s : State) : Out :=
  after dt s (ppuJobStart v stream job)

/-- PPU_JOB_DONE (R154): the chain is made here. -/
def execPpuJobDone (dt : Nat) (v : Fin 4) (s : State) : Out := after dt s (ppuJobDone v)

/-! The convolution engines (chapter 09). -/

/-- CNV_Q_SUBMIT (R174, R281). -/
def execCnvQSubmit (dt tid : Nat) (c : Fin 8) (v : BitVec 4) (s : State) : Out := after dt s (cnvQSubmit tid c v.toNat)

/-- CNV_JOB_START (R178, R183): the job is read, and continues or reloads. -/
def execCnvJobStart (dt : Nat) (c : Fin 8) (s : State) : Out := after dt s (cnvJobStart c)

/-- CNV_JOB_DONE (R175 to R185): the job ends T after its start; `wait` is the wait before grant in the CS that T contains. -/
def execCnvJobDone (dt : Nat) (c : Fin 8) (wait : Nat) (s : State) : Out := after dt s (cnvJobDone c wait)

end Sys2Proof.Machine
end

