-- ==== Sys2Proof/Machine/Regs.lean ====
section
/-! DEFINITION. Register accesses: a 32-bit write or read of a block that has passed the checks of the fabric (R5 to R10, R512).
A value outside a range that a register table names is discarded (DEDUCED, log entry 27). -/

namespace Sys2Proof.Machine

/-- A write of a register: TID, block slot (the BPU: 12), offset in the block, and value. -/
structure RegW where
  tid : Nat
  slot : Nat
  off : Nat
  v : Nat
  env : RegEnv

/-- The bit range of the written word. -/
def RegW.f (w : RegW) (lo n : Nat) : Nat := bitsOf w.v lo n
def RegW.bit (w : RegW) (k : Nat) : Bool := bitOf w.v k
def RegW.word (w : RegW) : Word := BitVec.ofNat 32 w.v

/-- The instance of a field that lies at an offset. -/
def RegId.place (r : RegId) (off : Nat) : Option (Nat × Nat) :=
  let x := r.info
  if off < x.off then none
  else
    let d := off - x.off
    let i := if x.n1 = 1 then 0 else d / x.st1
    let j := if x.n2 = 1 then 0 else (d - i * x.st1) / x.st2
    if i < x.n1 ∧ j < x.n2 ∧ d = i * x.st1 + j * x.st2 then some (i, j) else none

/-- The field instances of the register at an offset. -/
def fieldsAt (slot off : Nat) : List RegKey :=
  (RegId.ofSlot slot).filterMap fun r => (r.place off).map fun p => ⟨r, p.1, p.2⟩

/-- Is the LOCK bit of a block set? -/
def lockOn (slot : Nat) (s : State) : Bool := (RegId.ofSlot slot).any fun r => r.info.ty == .lock && s.on r

/-- The value that a written word carries for a field. -/
def RegKey.part (k : RegKey) (v : Nat) : Nat := bitsOf v k.r.info.lo k.r.info.width

/-- Does a write of a field set it? -/
def RegType.sets (locked : Bool) (t : RegType) : Bool := t == .rw || t == .rws || (t == .rwl && !locked)

/-- A field of a write takes effect by its type (Table SC-4, R7). -/
def fieldWrite (locked : Bool) (v : Nat) (s : State) (k : RegKey) : State :=
  let x := k.part v
  let old := s.rd k.r k.i k.j
  if k.r.info.ty.sets locked then s.wr k.r x k.i k.j
  else if k.r.info.ty = .w1c then s.wr k.r (old - (old &&& x)) k.i k.j
  else if k.r.info.ty = .lock ∧ x = 1 then s.wr k.r 1 k.i k.j
  else s

/-- One write of a register, field by field (R512). `skip`: fields whose effect is not their type's alone; `bad`: values that
are discarded; `ev`: the reject event of the block. Under LOCK, RWL fields are discarded with EVT_FAB_LOCKED_WRITE (R7). -/
def wordWrite (w : RegW) (ev : Option Ev) (skip : RegId → Bool) (bad : RegKey → Nat → Bool) (s : State) : State :=
  let fs := fieldsAt w.slot w.off
  let locked := lockOn w.slot s
  let drop (k : RegKey) : Bool := k.r.info.ty.sets locked && bad k (k.part w.v)
  let s' := fs.foldl (fun s k => if drop k || skip k.r then s else fieldWrite locked w.v s k) s
  let s' := if locked && fs.any (fun k => k.r.info.ty == .rwl) then lockedWrite w.tid w.slot s' else s'
  match ev with
  | some e => if fs.any drop then raise e w.tid w.off s' else s'
  | none => s'

/-- No field is special; no value is discarded. -/
def noField : RegId → Bool := fun _ => false
def noBad : RegKey → Nat → Bool := fun _ _ => false

/-- Instance of a register whose instances lie `st` apart from `base` up. -/
def RegW.inst (w : RegW) (base st : Nat) : Nat := (w.off - base) / st

/-! FAB, CKG, PST (chapters 12, 02, 01). -/

/-- The defined bits of the staging word at an offset, by its place in its entry. -/
def stageMask (off : Nat) : Nat := clpMask ((off - 0x4000) / 4 % 4)

def fabWrite (w : RegW) (s : State) : State :=
  if 0x4000 ≤ w.off then
    wordWrite { w with v := w.v &&& stageMask w.off } (some .fabCfgReject) noField noBad s
  else if 0x1000 ≤ w.off ∧ w.off < 0x1180 ∧ w.off % 0x20 = 0 then clampGo w.tid (w.inst 0x1000 0x20) w.word s
  else wordWrite w (some .fabCfgReject) noField (fun k x => k.r == .fabToPer && x == 0) s

def ckgWrite (w : RegW) (s : State) : State :=
  match w.off with
  | 0x008 => ckgEnWrite w.tid w.word s
  | 0x020 => fmtrStart w.tid w.word s
  | 0x030 => tbCfgWrite w.tid w.word s
  | 0x070 => dtimeIncWrite w.word s
  | 0x074 => dtimeAdj w.tid w.word s
  | 0x080 => epochArm w.tid w.word s
  | _ =>
    if 0x040 ≤ w.off ∧ w.off < 0x060 then axnTbWrite w.tid (w.inst 0x040 4) w.word s
    else wordWrite w (some .clkCfgReject) noField noBad s

def pstWrite (w : RegW) (s : State) : State := if w.off = 0x080 ∧ w.bit 0 then pstClrCnt s else s

/-! CE (chapter 03). -/

/-- Values of the CE block that are discarded (Tables CE-5 and CE-6, R60, R61, R68). -/
def ceBad (s : State) (w : RegW) (k : RegKey) (x : Nat) : Bool :=
  match k.r with
  | .gdMaxAge | .axPole | .axGearNum | .axGearDen | .axEncCpr => x == 0
  | .axVlim | .axIqLim => s32 x ≤ 0
  | .axIntD | .axIntQ | .axIntS => s.enabled k.i
  | .axEn => x == 1 && !(enableOk s k.i)
  | .axMode | .axSpsrc =>
    let mode := if s.on .ceLock then s.rd .axMode k.i else w.f 1 2
    let src := w.f 4 2
    !(srcAllowed mode src && (src != 2 || !(s.enabled k.i) || s.on .axAnaEn k.i))
  | _ => false

def ceWrite (w : RegW) (s : State) : State :=
  let n := w.inst 0x400 0x100
  let s' := wordWrite w (some .ceCfgReject) (fun r => r == .axEn || r == .axEncCpr || r == .gdTsS) (ceBad s w) s
  if 0x100 ≤ w.off ∧ w.off < 0x200 ∧ w.off % 0x10 = 8 then guardPublish (w.inst 0x100 0x10) w.word s'
  else if w.off < 0x400 ∨ 0xC00 ≤ w.off then s'
  else if w.off % 0x100 = 0 then
    if !w.bit 0 then requestDisable n s' else if enableOk s n then axEnableWrite w.tid n s' else s'
  else if w.off % 0x100 = 0x40 ∧ !(s.on .ceLock) ∧ w.v ≠ 0 then (s'.wr .axEncCpr w.v n).wr .encPosmod 0 n
  else s'

/-- A write of AX_CTRL: every field of the word. -/
def axCtrlCfgWrite (tid n : Nat) (v : Word) (s : State) : State :=
  ceWrite ⟨tid, 3, axOff n, v.toNat, ⟨⟨true, 0xFF, []⟩, 0, 0, false⟩⟩ s

/-- AX_CTRL_CFG_WRITE (R60, R68, R512). -/
def execAxCtrlCfgWrite (dt tid : Nat) (n : Fin 8) (v : Word) (s : State) : Out := after dt s (axCtrlCfgWrite tid n v)

/-! MIO (chapter 04). -/

/-- A field of a register that R77 refuses as a whole while its axis is enabled: the axis. -/
def mioAxisOf (k : RegKey) : Option Nat :=
  match k.r with
  | .pwmDt => some k.i
  | .sdEn | .sdOsr | .sdClksel | .sdStuck | .sdOcEn | .sdOcOsr | .sdOcCnt => some (k.i / 3)
  | .encMode | .encFilt | .encZmode | .encDir | .ssiBits | .ssiGray | .ssiPar | .ssiDiv | .ssiDly | .ssiLead => some k.i
  | _ => none

/-- Does a frame of BITS − 1, PAR, DIV and DLY fit a lead and the shortest period of an axis (R97)? -/
def ssiFits (s : State) (n bits par div dly lead : Nat) : Bool :=
  decide ((bits + 2 + par) * 2 * div + dly + 8 ≤ lead) && decide (lead < shortestPer (s.rd .tbBase) (s.rd .axTbPer n)) &&
    decide (dly < div)

/-- Is a field one that R77 holds now? The event is raised under LOCK too. -/
def mioHeld (s : State) (k : RegKey) : Bool :=
  match mioAxisOf k with
  | some n => s.enabled n
  | none => false

/-- Values of the MIO block that are discarded (R77, R97, Table MIO-5 and the tables after it). -/
def mioBad (s : State) (w : RegW) (k : RegKey) (x : Nat) : Bool :=
  mioHeld s k ||
  match k.r with
  | .pwmDt => 840 < x
  | .sdStuck => x < 16
  | .sdOcOsr | .encMode | .plsMode => x == 3
  | .ssiBits | .ssiPar | .ssiDiv | .ssiDly =>
    let bits := if w.f 0 5 < 7 then s.rd .ssiBits k.i else w.f 0 5
    let div := if w.f 8 8 < 21 then s.rd .ssiDiv k.i else w.f 8 8
    (k.r == .ssiBits && decide (x < 7)) || (k.r == .ssiDiv && decide (x < 21)) ||
      !(ssiFits s k.i bits (w.f 6 1) div (w.f 16 8) (s.rd .ssiLead k.i))
  | .ssiLead => !(ssiFits s k.i (s.rd .ssiBits k.i) (s.rd .ssiPar k.i) (s.rd .ssiDiv k.i) (s.rd .ssiDly k.i) x)
  | _ => false

def mioWrite (w : RegW) (s : State) : State :=
  if w.off = 0x008 then mioTripClear w.word w.env.live s
  else
    let s' := wordWrite w (some .mioCfgReject) noField (mioBad s w) s
    let s' := if lockOn 4 s && (fieldsAt 4 w.off).any (mioHeld s) then mioReject w.tid w.off s' else s'
    if w.off = 0x010 then noteSdClk (s.rd .sdClkEn) s'
    else if 0x100 ≤ w.off ∧ w.off < 0x300 ∧ s'.rd .pwmDt (w.inst 0x100 0x40) ≠ s.rd .pwmDt (w.inst 0x100 0x40) then
      noteDt (w.inst 0x100 0x40) (s.rd .pwmDt (w.inst 0x100 0x40)) s'
    else if 0x400 ≤ w.off ∧ w.off < 0x700 ∧ w.off % 0x20 = 0 then
      let m := w.inst 0x400 0x20
      if s.rd .sdEn m = 0 ∧ s'.rd .sdEn m = 1 then s'.setSd m .init else s'
    else if 0x800 ≤ w.off ∧ w.off < 0x900 ∧ w.off % 0x20 = 0 then
      let p := w.inst 0x800 0x20
      if s.on .mioLock ∨ s.enabled p then s'
      else
        let e := { s'.encOf p with zDone := false }
        s'.setEnc p (if s.rd .encMode p = s'.rd .encMode p then e else { e with last := none, ssi := none })
    else s'

/-! MIT (chapter 05). -/

/-- Values of the MIT block that are discarded (R103, Table MIT-4). -/
def mitBad (s : State) (k : RegKey) (x : Nat) : Bool :=
  match k.r with
  | .mitCluster | .mitCores | .mitWbankBase | .mitWcet => mitHeld s k.i
  | .mitWbanks => mitHeld s k.i || x == 0 || decide (32 < x)
  | .mitVibCh => mitHeld s k.i || decide (4 < (whichOf 8 fun b => bitOf x b).length)
  | .mitVibLen => mitHeld s k.i || decide (x < 15)
  | .mitStateSz => mitHeld s k.i || x % 128 != 0
  | _ => false

/-- MIT_CTRL: LOADED, UNLOAD, then ARM; what is refused raises one event. -/
def mitCtrlWrite (w : RegW) (n : Nat) (s : State) : State :=
  let loadBad := w.bit 2 && decide (2 ≤ s.rd .mitState n)
  let s' := if w.bit 2 && !loadBad then mitreLoaded w.tid n w.env.recAddr w.env.ringAddr s else s
  let s' := if w.bit 1 then mitreUnload n s' else s'
  if !w.bit 0 then
    let s' := mitreDisarm n s'
    if loadBad then mitReject w.tid w.off s' else s'
  else if s'.on .mitArm n ∨ armOk s' n then
    let s' := mitreArmRequest w.tid n s'
    if loadBad then mitReject w.tid w.off s' else s'
  else mitReject w.tid w.off s'

def mitWrite (w : RegW) (s : State) : State :=
  let n := w.inst 0x100 0x100
  let o := w.off % 0x100
  if w.off < 0x100 ∨ 0x900 ≤ w.off then wordWrite w none noField noBad s
  else if o = 0 then mitCtrlWrite w n s
  else if 0x40 ≤ o ∧ o < 0x80 then mbxWrite w.tid n ((o - 0x40) / 4) w.v s
  else if o = 0x80 then mitreCommit w.tid n (BitVec.ofNat 16 w.v) s
  else wordWrite w (some .mitCfgReject) noField (mitBad s) s

/-! STR (chapter 06). -/

/-- Is any virtual channel of port p enabled? -/
def portOn (s : State) (p : Nat) : Bool := (List.range 4).any fun v => strOn s (4 * p + v)

/-- Is a register refused as a whole because its stream is enabled (R118)? -/
def strHeld (s : State) (k : RegKey) : Bool :=
  match k.r with
  | .camDt | .camMode | .camLnum | .camOutfmt | .camW | .camH | .camStride | .camReplMode | .camMaxbad | .camFill | .camTsOfs | .camRecLo
  | .camRecHi | .camRecN | .camStatsLo | .camStatsHi | .camStatsN | .camStatsHch => strOn s k.i
  | .ringLo | .ringHi | .ringLenLog2 => strOn s (16 + k.i)
  | .tdmBdiv | .tdmEn | .tdmVflagEn | .tdmVflagBit | .tdmVflagPol | .tdmStuckRun => strOn s (40 + 2 * k.i) || strOn s (41 + 2 * k.i)
  | .cmpBayer | .cmpBlack | .cmpWbR | .cmpWbG | .cmpWbB | .cmpC00 | .cmpC01 | .cmpC02 | .cmpC10 | .cmpC11 | .cmpC12 | .cmpC20
  | .cmpC21 | .cmpC22 => portOn s k.i
  | _ => false

/-- Does another channel of the port of stream k run through Campion? -/
def ispTaken (s : State) (k : Nat) : Bool :=
  (List.range 4).any fun v => 4 * (k / 4) + v != k && s.rd .camMode (4 * (k / 4) + v) == 0

/-- The long-packet data types of Table STR-2. -/
def camTypes : List Nat := [0x2A, 0x2B, 0x2C, 0x2D, 0x2E, 0x1E, 0x24, 0x30, 0x31, 0x32, 0x33, 0x34, 0x35, 0x36, 0x37]

/-- Values of the STR block that are discarded (R118, R121, Tables STR-8 to STR-10). DESIGN CHOICE (log 37): so are a data type, a
width and a height outside Table STR-2. -/
def strBad (s : State) (k : RegKey) (x : Nat) : Bool :=
  strHeld s k ||
  match k.r with
  | .camDt => !(x ∈ camTypes)
  | .camW => decide (x < 64) || decide (8192 < x)
  | .camH => decide (x < 16) || decide (8192 < x)
  | .csiLanes => x == 3
  | .camMode => x == 0 && ispTaken s k.i
  | .camOutfmt => decide (2 < x)
  | .camStride => x % 128 != 0
  | .camRecN | .camStatsN => x == 0
  | .ringLenLog2 => decide (x < 8)
  | .tdmBdiv => decide (x < 4)
  | _ => false

/-- STR_EN_LO and STR_EN_HI. -/
def strEnWrite (w : RegW) (s : State) : State :=
  let s' := wordWrite w none noField noBad s
  if w.off = 0x004 then foldN 16 (fun k t => if strOn s' k && !(strOn s k) then camEnable k t else t) s' else s'

def strWriteReg (w : RegW) (s : State) : State :=
  if w.off = 0x004 ∨ w.off = 0x008 then strEnWrite w s
  else if 0x100 ≤ w.off ∧ w.off < 0x900 ∧ w.off % 0x80 = 0x1C then camCommit w.tid (w.inst 0x100 0x80) (BitVec.ofNat 8 w.v) s
  else if 0x100 ≤ w.off ∧ w.off < 0x900 ∧ w.off % 0x80 = 0x34 then
    if w.bit 0 then camAppliedPop (w.inst 0x100 0x80) s else s
  else if 0x1800 ≤ w.off ∧ w.off < 0x1880 ∧ w.off % 0x20 = 4 then scqEntry w.tid (w.inst 0x1800 0x20) w.word s
  else if 0x1800 ≤ w.off ∧ w.off < 0x1880 ∧ w.off % 0x20 = 8 then scqSubmit w.tid (w.inst 0x1800 0x20) (BitVec.ofNat 8 w.v) s
  else
    let s' := wordWrite w (some .strCfgReject) noField (strBad s) s
    let q := w.inst 0x1400 0x10
    if 0x1400 ≤ w.off ∧ w.off < 0x1440 ∧ w.off % 0x10 = 0 ∧ !(strHeld s ⟨.tdmEn, q, 0⟩) then
      { s' with str := { s'.str with tdmFrom := s'.str.tdmFrom.set q s.now } }
    else s'

/-! YAR, TEN, CNV, EMB (chapters 07 to 10). -/

def yarWrite (w : RegW) (s : State) : State :=
  let u := w.inst 0x100 0x100
  let p := w.inst 0x400 0x40
  if 0x100 ≤ w.off ∧ w.off < 0x300 ∧ w.off % 0x100 = 0x0C then if w.bit 0 then yarDictLoad w.tid u s else s
  else if 0x100 ≤ w.off ∧ w.off < 0x300 ∧ w.off % 0x100 = 0x24 then yarQSubmit w.tid u (w.f 0 5) [] s
  else if 0x400 ≤ w.off ∧ w.off < 0x500 ∧ w.off % 0x40 = 8 then ppuQSubmit w.tid p (w.f 0 5) s
  else wordWrite w (some .yarCfgReject) noField noBad s

def tenWrite (w : RegW) (s : State) : State :=
  let c := w.inst 0x100 0x40
  if 0x100 ≤ w.off ∧ w.off < 0x1100 ∧ w.off % 0x40 = 4 then if w.bit 0 then tcRestart c s else s
  else if 0x100 ≤ w.off ∧ w.off < 0x1100 ∧ w.off % 0x40 = 0x0C then tcSrSeedWrite c (w.v % 2 ^ 32) s
  else wordWrite w none noField noBad s

def cnvWrite (w : RegW) (s : State) : State :=
  if 0x100 ≤ w.off ∧ w.off < 0x300 ∧ w.off % 0x40 = 8 then cnvQSubmit w.tid (w.inst 0x100 0x40) (w.f 0 4) s
  else wordWrite w none noField noBad s

def embWrite (w : RegW) (s : State) : State :=
  let e := w.inst 0x100 0x80
  if 0x100 ≤ w.off ∧ w.off < 0x200 ∧ w.off % 0x80 = 0x0C then embQSubmit w.tid e (w.f 0 5) s
  else if 0x100 ≤ w.off ∧ w.off < 0x200 ∧ w.off % 0x80 = 0x14 then embSrSeedWrite e w.word s
  else wordWrite w none noField noBad s

/-! SPM, BPU (chapter 11). -/

def spmWrite (w : RegW) (s : State) : State :=
  if w.off = 0x008 then
    let s := s.wr .spmCntFreeze (w.f 1 1)
    if w.bit 0 then spmCntClr s else s
  else if w.off = 0x020 then spmInit w.tid (BitVec.ofNat 8 w.v) s
  else wordWrite w (some .spmCfgReject) noField noBad s

def bpuWrite (w : RegW) (s : State) : State :=
  if w.off = 0x00C then bpuCmd (.reclaim (w.f 0 10)) s
  else if 0x800 ≤ w.off ∧ w.off < 0xC00 ∧ w.off % 0x20 = 0 then
    if w.bit 0 then poolEnable w.tid (w.inst 0x800 0x20) s else poolDisable w.tid (w.inst 0x800 0x20) s
  else if 0x1000 ≤ w.off ∧ w.off < 0x21000 then
    if w.off % 0x1000 = 4 then bpuCmd (.free w.tid (w.inst 0x1000 0x1000) w.v) s else s
  else if 0x21000 ≤ w.off ∧ w.off < 0x41000 then
    bpuCmd (.give w.tid (w.inst 0x21000 0x1000) (w.off % 0x1000 / 4) w.v) s
  else
    wordWrite w (some .bpuCfgReject) noField
      (fun k _ => (k.r == .poolBaseLo || k.r == .poolBaseHi || k.r == .poolSize || k.r == .poolCount) && s.on .poolEn k.i) s

/-! MEMC, MMU, SCH (chapters 13 and 14). -/

def memcWrite (w : RegW) (s : State) : State :=
  if w.off = 0x028 then if w.bit 0 then memcCntClr s else s
  else
    let s' := wordWrite w none noField
      (fun k x => (k.r == .memcDens && x == 3) || (k.r == .memcScrubInt && x == 0)) s
    if s'.rd .memcDens = s.rd .memcDens then s' else showUsable s'

def mmuWrite (w : RegW) (s : State) : State :=
  match w.off with
  | 0x018 => { s with mmu := { s.mmu with fqTold := false } }.wr .mmuFqCons w.v
  | 0x020 => mmuResume (w.f 0 10) s
  | 0x030 => mmuInvalidate w.tid w.word s
  | 0x048 => mmuXlate w.word s
  | _ => wordWrite w (some .mmuCfgReject) noField noBad s

/-- Values of the SCH block that are discarded (R275, Table SCH-8). -/
def schBad (s : State) (k : RegKey) (x : Nat) : Bool :=
  match k.r with
  | .schTlim => decide (x < 50) || decide (1000 < x)
  | .chSlot | .chMode | .chPrio => s.on .chEn k.i
  | .ctxTid | .ctxCoresLo | .ctxCoresHi | .ctxLsB0 | .ctxCsB0 | .ctxEvqLo | .ctxEvqHi => s.rd .ctxState k.i != 0
  | .ctxLsNb => s.rd .ctxState k.i != 0 || x == 0 || decide (16 < x)
  | .ctxCsNb => s.rd .ctxState k.i != 0 || x == 0 || decide (32 < x)
  | .ctxBw => s.rd .ctxState k.i != 0 || x == 0
  | .ctxEvqLenLog2 => s.rd .ctxState k.i != 0 || decide (x < 4) || decide (12 < x)
  | _ => false

/-- A write of CTX_CTRL: an action that the slot's state refuses is discarded, with one event for the write (R512). -/
def ctxCtrlWrite (w : RegW) (k : Nat) (s : State) : State :=
  let bad := w.bit 0 && !(activateOk s k) || w.bit 1 && !(releaseOk s k)
  let s' := if w.bit 0 ∧ activateOk s k then ctxActivate w.tid k s else s
  let s' := if w.bit 1 ∧ releaseOk s k then ctxRelease w.tid k s' else s'
  let s' := if w.bit 2 ∧ s.rd .ctxState k = 2 then ctxTerminate k s' else s'
  if bad then schReject w.tid (ctxOff k + 0x18) s' else s'

def schWrite (w : RegW) (s : State) : State :=
  let ch := w.inst 0x100 0x40
  let k := w.inst 0x2000 0x40
  let o := w.off % 0x40
  if 0x100 ≤ w.off ∧ w.off < 0x1100 ∧ o = 0x04 then chTailSubmit w.tid ch (w.f 0 3) s
  else if 0x100 ≤ w.off ∧ w.off < 0x1100 ∧ o = 0x0C then if w.bit 16 then noteClear ch s else s
  else if 0x100 ≤ w.off ∧ w.off < 0x1100 ∧ o = 0x14 then
    let s := if w.bit 0 then chResume ch s else s
    if w.bit 1 then cancelQueued ch 8 s else s
  else if 0x2000 ≤ w.off ∧ w.off < 0x3000 ∧ o = 0x18 then ctxCtrlWrite w k s
  else if 0x2000 ≤ w.off ∧ w.off < 0x3000 ∧ o = 0x2C then
    { s with log := { s.log with evqTold := s.log.evqTold.filter (· != k) } }.wr .ctxEvqCons w.v k
  else if 0x2000 ≤ w.off ∧ w.off < 0x3000 ∧ (o = 0x1C ∨ o = 0x28 ∨ o = 0x30) then
    if s.rd .ctxState k = 0 then s else schReject w.tid w.off s
  else wordWrite w (some .schCfgReject) noField (schBad s) s

/-! CAN (chapter 16). -/

/-- A write of CANn_ARBT or CANn_DATT that R320 refuses. The fields hold their values − 1. -/
def canTimingBad (ap a1 a2 aj dp d1 d2 dj : Nat) : Bool :=
  let a := (ap + 1) * (3 + a1 + a2)
  let d := (dp + 1) * (3 + d1 + d2)
  decide (a < 80) || decide (d < 10) || decide (a < d) || decide (a2 < aj) || decide (d2 < dj)

/-- Values of the CAN block that are discarded (R320, R321, R325, R333). -/
def canBad (s : State) (w : RegW) (k : RegKey) (x : Nat) : Bool :=
  let n := k.i
  let init := s.on .canInitAck n
  let r (x : RegId) := s.rd x n
  match k.r with
  | .canFdEn | .canBrsEn | .canPexOff | .canSspEn | .canLoop | .canSspWin | .canSspOfs | .canMbdirLo | .canMbdirHi => !init
  | .canAPre | .canAS1 | .canAS2 | .canASjw =>
    !init || canTimingBad (w.f 0 4) (w.f 4 8) (w.f 12 7) (w.f 19 7) (r .canDPre) (r .canDS1) (r .canDS2) (r .canDSjw)
  | .canDPre | .canDS1 | .canDS2 | .canDSjw =>
    !init || canTimingBad (r .canAPre) (r .canAS1) (r .canAS2) (r .canASjw) (w.f 0 4) (w.f 4 5) (w.f 9 4) (w.f 13 4)
  | .canStdRules => decide (128 < x)
  | .canExtRules => decide (64 < x)
  | .canStdDef | .canExtDef => x == 3
  | .canRam => (List.range 64).any fun b =>
      decide (mbWord b ≤ k.j) && decide (k.j < mbWord b + 0x14) && pairBit s .canTxpendLo .canTxpendHi b n
  | _ => false

/-- The rules and CANn_RXCFG keep what they held before a write, for a frame whose SOF lies before it (R326). -/
def keepRules (w : RegW) (n : Nat) (s : State) : State :=
  let ks := (fieldsAt w.slot w.off).filter fun k =>
    (k.r == .canRam && decide (k.j < 0x140)) ||
      [RegId.canStdRules, .canExtRules, .canStdDef, .canExtDef, .canStdRmtDrop, .canExtRmtDrop].contains k.r
  s.setCtl n { s.ctl n with hist := (ks.map fun k => ⟨s.now, k, s.rd k.r k.i k.j⟩) ++ (s.ctl n).hist }

/-- CANn_CTRL.INIT in effect: INIT_ACK and the bus state follow (R319). -/
def canInitFollow (n : Nat) (s : State) : State :=
  let i := s.rd .canInit n
  if i = s.rd .canInitAck n then s else (s.wr .canInitAck i n).wr .canBus (if i = 1 then 3 else 0) n

def canCtrlWrite (w : RegW) (n : Nat) (s : State) : State :=
  let s' := canInitFollow n (wordWrite w (some .canCfgReject) noField (canBad s w) s)
  if w.bit 2 then canBoffRecover n s' else s'

def canWrite (w : RegW) (s : State) : State :=
  let n := w.inst 0x100 0x100
  let o := w.off % 0x100
  if 0x1000 ≤ w.off then
    let m := w.inst 0x1000 0x3000
    wordWrite w (some .canCfgReject) noField (canBad s w) (if m < 4 then keepRules w m s else s)
  else if w.off < 0x100 ∨ 0x500 ≤ w.off then wordWrite w none noField noBad s
  else
    match o with
    | 0x00 => canCtrlWrite w n s
    | 0x18 => wordWrite w (some .canCfgReject) noField (canBad s w) (keepRules w n s)
    | 0x20 => canQueueRelease w.tid n 0 (w.f 0 5) s
    | 0x28 => canQueueRelease w.tid n 1 (w.f 0 5) s
    | 0x3C =>
      match w.f 8 2 with
      | 1 => canMbSend w.tid n (w.f 0 6) s
      | 2 => canMbAbort n (w.f 0 6) w.env.onBus s
      | _ => canReject w.tid w.off s
    | _ => wordWrite w (some .canCfgReject) noField (canBad s w) s

/-! ETH, PCIE, DWL (chapters 17 to 19). -/

def ethWrite (w : RegW) (s : State) : State :=
  let m := w.inst 0x100 0x400
  let o := (w.off - 0x100) % 0x400
  if w.off < 0x100 ∨ 0x900 ≤ w.off then
    let s' := wordWrite w (some .netCfgReject) noField noBad s
    if s.on .gptpEn ∧ !(s'.on .gptpEn) then s'.wr .netState 0 else s'
  else if o = 0x20 then tasGo w.tid m w.v s
  else if 0x40 ≤ o ∧ o < 0x60 then cbsWrite w.tid m ((o - 0x40) / 4) w.v s
  else wordWrite w (some .netCfgReject) noField (fun k x => k.r == .tasLen && (x == 0 || decide (64 < x))) s

def pcieWrite (w : RegW) (s : State) : State :=
  let s' := wordWrite w none noField (fun k x => k.r == .apTid && decide (x < 24)) s
  if w.off = 0x00C then showRdy s' else s'

/-- Values of the DWL block that are discarded (R405, Table ASM-7). -/
def dwlBad (k : RegKey) (x : Nat) : Bool :=
  match k.r with
  | .asmMgrTo | .asmWkrTo => decide (x < 2) || decide (1000 < x)
  | .dwlTimeInt => decide (x < 100) || decide (10000 < x)
  | .inbTid => x != 1 && decide (x < 24)
  | _ => false

def dwlWrite (w : RegW) (s : State) : State :=
  if 0x100 ≤ w.off ∧ w.off < 0x180 ∧ w.off % 0x20 = 0 then
    if s.on .dwlLock then lockedWrite w.tid 26 s else portCfgWrite w.tid (w.inst 0x100 0x20) (w.f 0 3) s
  else wordWrite w (some .dwlCfgReject) noField dwlBad s

/-! PWR, SAF, VNR, APP (chapters 21 to 23). -/

def pwrWrite (w : RegW) (s : State) : State :=
  match w.off with
  | 0x00C => pwrDomainRequest w.tid w.v s
  | 0x010 => wordWrite { w with v := w.v ||| 0x80 } (some .pwrCfgReject) noField noBad s
  | 0x01C => updCap (wordWrite w (some .pwrCfgReject) noField (fun k x => k.r == .pwrCapUser && (decide (x < 4) || decide (32 < x))) s)
  | _ =>
    let s' := wordWrite w (some .pwrCfgReject) noField
      (fun k x => k.r == .fanMinRpm && (decide (x < 300) || decide (10000 < x))) s
    if w.off = 0x080 ∨ w.off = 0x090 then
      let f := w.inst 0x080 0x10
      if s'.on .fanEn f = s.on .fanEn f then s' else if s'.on .fanEn f then fanEnable f s' else fanStop f s'
    else s'

/-- A field of the SAF block outside its range (Table SAF-6). -/
def safBad (k : RegKey) (x : Nat) : Bool :=
  match k.r with
  | .safWdgT => decide (x < 2) || decide (100 < x)
  | .safSs1T => decide (x < 10) || decide (10000 < x)
  | _ => false

def safWrite (w : RegW) (s : State) : State :=
  match w.off with
  | 0x008 => updSafState (wordWrite w none noField noBad s)
  | 0x00C => wdgKick (w.f 0 16) s
  | 0x018 =>
    let s' := if w.tid = 0 then wordWrite w none noField safBad s else s
    if w.bit 0 then startSs1 s' else s'
  | _ => wordWrite w none noField safBad s

def vnrWrite (w : RegW) (s : State) : State :=
  match w.off with
  | 0x008 => if w.bit 0 then s.wr .vnrWarm 1 else s
  | 0x00C => partialReset w.tid (w.f 0 24) s
  | _ => wordWrite w none noField noBad s

def appWrite (w : RegW) (s : State) : State :=
  wordWrite w (some .fabCfgReject) noField (fun k x => k.r == .appHartTid && decide (x < 24)) s

/-! Every block. -/

/-- The effect of a 32-bit write of a register that has passed the checks of the fabric. -/
def regWrite (w : RegW) (s : State) : State :=
  match w.slot with
  | 0 => fabWrite w s
  | 1 => ckgWrite w s
  | 2 => pstWrite w s
  | 3 => ceWrite w s
  | 4 => mioWrite w s
  | 5 => mitWrite w s
  | 6 => strWriteReg w s
  | 7 => yarWrite w s
  | 8 => tenWrite w s
  | 9 => cnvWrite w s
  | 10 => embWrite w s
  | 11 => spmWrite w s
  | 12 => bpuWrite w s
  | 20 => memcWrite w s
  | 21 => mmuWrite w s
  | 22 => schWrite w s
  | 23 => canWrite w s
  | 24 => ethWrite w s
  | 25 => pcieWrite w s
  | 26 => dwlWrite w s
  | 28 => pwrWrite w s
  | 29 => safWrite w s
  | 33 => vnrWrite w s
  | 34 => appWrite w s
  | _ => wordWrite w none noField noBad s

/-- Slot and offset of the block at an offset in the peripheral window: slots 12 to 19 are one block. -/
def blockAt (slot off : Nat) : Nat × Nat := if 12 ≤ slot ∧ slot ≤ 19 then (12, (slot - 12) * 0x10000 + off) else (slot, off)

/-- Does the block answer: its domain and clock run (R47)? -/
def blockLive (s : State) (slot off : Nat) : Bool :=
  s.clk.up && (match gateOf (.per slot) off with
    | some b => s.clockOn b
    | none => s.domOn (if slot = 28 ∨ slot = 33 then 0 else if slot = 2 ∨ slot = 29 then 1 else if slot = 30 then 22 else 21))

/-- What a read shows that no field holds: the CRC of a Clamp table, the latched DTIME, a buffer, the restarts within 60 s, the SS1
time. -/
def readRefresh (slot off : Nat) (s : State) : State :=
  match slot with
  | 0 => if 0x1000 ≤ off ∧ off < 0x1180 ∧ off % 0x20 = 0x18 then
      let i := (off - 0x1000) / 0x20
      s.wr .clpCrc (shownCrc s i) i
    else s
  | 1 => if off = 0x060 then dtimeNsecRead s else s
  | 12 => if off = 0x008 then bpuInfo s else s
  | 29 => if off = 0x004 then showRst60 s else if off = 0x01C then showSs1Rem s else s
  | _ => s

/-- A counter has been read as 0: its first event is due again (R356, R375, R399). -/
def readTold (slot off v : Nat) (s : State) : State :=
  if v ≠ 0 then s
  else
    match slot with
    | 24 => if off = 0x168 ∨ off = 0x568 then
        { s with eth := { s.eth with badTold := s.eth.badTold.filter (· != (off - 0x168) / 0x400) } }
      else s
    | 25 => if off = 0x014 then { s with host := { s.host with inbTold := false } } else s
    | 26 => if off = 0x10C ∨ off = 0x12C ∨ off = 0x14C ∨ off = 0x16C then
        let p := (off - 0x10C) / 0x20
        s.setDport p { s.dport p with replayTold := false }
      else s
    | _ => s

/-- The word that the fields of a register spell: WO fields and reserved bits read 0. -/
def gather (s : State) (l : List RegKey) : Nat :=
  (l.map fun k => if k.r.info.ty = .wo then 0 else s.rd k.r k.i k.j * 2 ^ k.r.info.lo).sum

/-- The page of BPU_ALLOC that an offset names. -/
def allocPage (slot off : Nat) : Option Nat :=
  if slot = 12 ∧ 0x1000 ≤ off ∧ off < 0x21000 ∧ off % 0x1000 = 0 then some ((off - 0x1000) / 0x1000) else none

/-- A 32-bit read that has passed the checks of the fabric; the data are in `fab.lastData`. -/
def regRead (tid slot off : Nat) (s : State) : State :=
  match allocPage slot off with
  | some p => bpuCmd (.alloc tid p) s
  | none =>
    let s := readRefresh slot off s
    let v := gather (if slot = 2 then pstView s else s) (fieldsAt slot off)
    (readTold slot off v s).reply v

/-! Commands. -/

/-- REGISTER_WRITE (R5, R6, R10, R512): a write of a register of a block slot that has passed the checks of the fabric. -/
def registerWrite (tid slot off v : Nat) (env : RegEnv) (s : State) : State :=
  let b := blockAt slot off
  if slotAssigned slot ∧ off < 0x10000 ∧ off % 4 = 0 ∧ blockLive s slot off ∧ fabHardOk (.per slot) off tid true then
    regWrite ⟨tid, b.1, b.2, v % 2 ^ 32, env⟩ s
  else s

def execRegisterWrite (dt tid slot off : Nat) (v : Word) (env : RegEnv) (s : State) : Out :=
  after dt s (registerWrite tid slot off v.toNat env)

/-- A LOCK bit is set. -/
def lockSet (slot : Nat) (s : State) : State :=
  if blockLive s slot 0 then
    ((RegId.ofSlot slot).filter fun r => r.info.ty == .lock).foldl (fun s r => s.wr r 1) s
  else s

/-- LOCK_SET (R7): a write of 1 to the LOCK bit of the block in a slot. -/
def execLockSet (dt : Nat) (slot : Nat) (s : State) : Out := after dt s (lockSet slot)

end Sys2Proof.Machine
end

