-- ==== Sys2Proof/Machine/Fabric.lean ====
section
/-! DEFINITION. Requests on the fabric, from the check to the response (chapter 12). -/

namespace Sys2Proof.Machine

/-- Cut or pad bytes to a length. -/
def sized (n : Nat) (l : List Byte) : List Byte := (padTo n l).take n

/-- The words of a read that has failed (R221). -/
def zeroData (q : Req) : List Byte := if q.wr then [] else List.replicate q.len 0

/-- A request that has failed gets its response. -/
def refuse (q : Req) (r : Nat) (s : State) : State := (denied q r s).respond r (zeroData q)

/-- A target outside the model answers, or does not. -/
def outsideServe (q : Req) (reply : FabReply) (s : State) : State :=
  match reply with
  | .waits => (newReq q s).2
  | .good d => s.respond 0 (if q.wr then [] else sized q.len d)
  | .bad => refuse q rData s
  | .unmapped => refuse q rUnmapped s

/-- The last command that waits at the BPU answers a request. -/
def tagWaiting (id : Nat) (s : State) : State :=
  match s.bpu.waiting.getLast? with
  | some (c, _) => { s with bpu := { s.bpu with waiting := s.bpu.waiting.dropLast ++ [(c, some id)] } }
  | none => s

/-- MIO_TRIP_IN shows the live levels at the moment of a read (Table MIO-2). -/
def livePins (slot off : Nat) (env : RegEnv) (s : State) : State :=
  if slot = 4 ∧ off = 0x00C then
    tellPins env.live.estopN env.live.tripN.toNat s
  else s

/-- A request to a block. The DBG and LSIO blocks have no register map in the spec. -/
def perServe (q : Req) (slot : Nat) (data : Option (List Byte)) (env : RegEnv) (reply : FabReply) (s : State) : State :=
  if slot = 31 ∨ slot = 32 then outsideServe q reply s
  else
    let b := blockAt slot (q.addr % 0x10000)
    let t :=
      match data with
      | some l => regWrite ⟨q.tid, b.1, b.2, leNat l, env⟩ s
      | none => regRead q.tid b.1 b.2 (livePins slot (q.addr % 0x10000) env s)
    if s.bpu.waiting.length < t.bpu.waiting.length then
      let (id, t) := newReq q t
      tagWaiting id t
    else if q.wr then t.respond 0 [] else t

/-- A request to DRAM or a scratchpad. -/
def memServe (q : Req) (data : Option (List Byte)) (s : State) : State :=
  match data with
  | some l =>
    let (r, s) := putChunk q l s
    if r = rOkay then s.respond 0 [] else refuse q r s
  | none =>
    let o := getChunk q s
    if o.resp = rOkay then o.s.respond 0 o.data else refuse q o.resp o.s

/-- A request to the host window (R378): a write is posted. -/
def hostServe (q : Req) (data : Option (List Byte)) (reply : FabReply) (s : State) : State :=
  match data with
  | some l => ((putChunk q l s).2).respond 0 []
  | none => outsideServe q reply s

/-- A request to the remote window leaves for its node (R403). -/
def dwlServe (q : Req) (data : Option (List Byte)) (s : State) : State :=
  let o := q.addr - dwlBase
  let k := o / 2 ^ 32
  let (id, s) := newReq q s
  let (t, s) := nextTag s
  let s := { s with dwl := { s.dwl with reqs := s.dwl.reqs ++ [⟨t, id, k, q.wr⟩] } }
  dwlSend (if q.wr then 2 else 3) false k t q.tid (leBytes 5 (o % 2 ^ 32) ++ leBytes 1 (q.len - 1) ++ leBytes 2 0 ++ data.getD []) s

/-- A request that has passed checks 1 to 4 reaches its target. -/
def serveAt (q : Req) (data : Option (List Byte)) (env : RegEnv) (reply : FabReply) (s : State) : State :=
  match decodeAddr s q.addr with
  | none => s
  | some (.per k) => perServe q k data env reply s
  | some .host => hostServe q data reply s
  | some .dwl => dwlServe q data s
  | some _ => memServe q data s

/-! Target ports (R225). -/

/-- The number of the target port that a request to a window enters. -/
def targetPort (w : Win) (port a : Nat) : Nat :=
  match w with
  | .per k => if 12 ≤ k ∧ k ≤ 19 then 12 else k
  | .ls t => 64 + t
  | .cs c => 128 + 4 * c + port % 4
  | .dram => 160 + a / 256 % 8
  | .host => 168
  | .dwl => 169

/-- Root time at which the current NCLK began. -/
def nclkStart (s : State) : Nat := s.now - (s.now - s.clk.epoch) % rootPerN

/-- The place of an initiator port in the cyclic order of the current NCLK. -/
def cyclicRank (s : State) (port : Nat) : Nat := (port + 23 - (s.now - s.clk.epoch) / rootPerN % 23) % 23

/-- Does the target port take the request in this NCLK: it has taken none yet, and no rival comes first? -/
def portTakes (s : State) (f : FabIn) (w : Win) : Bool :=
  s.fab.portAt.get 0 (targetPort w f.port f.addr) != nclkStart s + 1 &&
    f.rivals.all fun p => cyclicRank s f.port ≤ cyclicRank s p

/-- The target port has taken a request in this NCLK. -/
def portTaken (f : FabIn) (w : Win) (s : State) : State :=
  { s with fab := { s.fab with portAt := s.fab.portAt.set (targetPort w f.port f.addr) (nclkStart s + 1) } }

/-- May the initiator present a TID: a hart carries 1, or what its APP_HART_TID holds (R228, R229)? -/
def hartTidOk (s : State) (port tid : Nat) : Bool :=
  !(1 ≤ port && port ≤ 4) || tid == 1 || tid == s.rd .appHartTid (port - 1)

/-- A request on the fabric (R221, R225): one that its target port does not take in this NCLK has not been accepted yet. -/
def fabRequest (f : FabIn) (env : RegEnv) (reply : FabReply) (s : State) : State :=
  let q : Req := ⟨f.port, f.tid, f.addr, f.len, f.data.isSome⟩
  if !hartTidOk s f.port f.tid then s
  else
    let t := parityAt q s
    let r := respOf t q
    if r ≠ rOkay then refuse q r t
    else
      match decodeAddr t q.addr with
      | none => s
      | some w => if portTakes s f w then serveAt q (f.data.map (sized f.len)) env reply (portTaken f w t) else s

/-- Does the fabric run? -/
def fabOn (s : State) : Bool := s.clk.up && s.domOn 21

/-- FABRIC_REQUEST (R221 to R225, R240 to R243): with what has struck the stored words and the Clamp entries before it, and the
answer of a target outside the model. -/
def execFabricRequest (dt : Nat) (f : FabIn) (env : RegEnv) (u : List Upset) (cu : List ClpUpset) (reply : FabReply) (s : State) : Out :=
  after dt s fun s =>
    let s := cu.foldl (fun s u => clpUpset u s) (upsets u s)
    if fabOn s then fabRequest f env reply s else s

def fabTimeout (id : Nat) (s : State) : State :=
  match s.fab.reqs.find? fun r => r.id == id with
  | none => s
  | some r =>
    if r.timedOut ∨ s.now < r.at_ + (timeoutOf s r.addr).1 then s
    else
      let q : Req := ⟨r.port, r.tid, r.addr, r.len, r.wr⟩
      (raiseTimeout q (errRecord q rTimeout (markTimedOut id s))).respond rTimeout (zeroData q)

/-- FABRIC_TIMEOUT (R226): the request with number `id`. -/
def execFabricTimeout (dt id : Nat) (s : State) : Out := after dt s (fabTimeout id)

/-- Does the answer of a request come by the model: from the BPU or over the Dowel link? -/
def ownAnswer (s : State) (r : FabReq) : Bool :=
  s.dwl.reqs.any (fun x => x.id == r.id) || s.bpu.waiting.any fun w => w.2 == some r.id

def fabLate (id : Nat) (s : State) : State :=
  match s.fab.reqs.find? fun r => r.id == id with
  | none => s
  | some r =>
    if r.timedOut ∧ !ownAnswer s r then
      { s with fab := { s.fab with reqs := s.fab.reqs.filter fun x => x.id != id } }.bump .fabLateCnt 1
    else s

/-- FABRIC_LATE_RESPONSE (R226): a target outside the model answers a request that has timed out. -/
def execFabricLateResponse (dt id : Nat) (s : State) : Out := after dt s (fabLate id)

end Sys2Proof.Machine
end

