-- ==== Sys2Proof/Machine/Inbound.lean ====
section
/-! DEFINITION. Accesses from outside: the host's memory requests (chapter 18) and the remote accesses of other nodes (chapter 19). -/

namespace Sys2Proof.Machine

/-! One part of an inbound access on the fabric. -/

/-- The answer of a target outside the model to an inbound part. -/
def answerOf (q : Req) (reply : FabReply) (s : State) : RdOut :=
  match reply with
  | .good d => ⟨rOkay, if q.wr then [] else sized q.len d, s⟩
  | .bad => ⟨rData, [], denied q rData s⟩
  | .unmapped => ⟨rUnmapped, [], denied q rUnmapped s⟩
  | .waits => ⟨rTimeout, [], engTimeout q (errRecord q rTimeout s)⟩

/-- A part that has passed checks 1 to 4 reaches a block. -/
def partPer (q : Req) (slot : Nat) (data : Option (List Byte)) (env : RegEnv) (reply : FabReply) (s : State) : RdOut :=
  if slot = 31 ∨ slot = 32 then answerOf q reply s
  else
    let b := blockAt slot (q.addr % 0x10000)
    let t :=
      match data with
      | some l => regWrite ⟨q.tid, b.1, b.2, leNat l, env⟩ s
      | none => regRead q.tid b.1 b.2 s
    if s.bpu.waiting.length < t.bpu.waiting.length then
      let (id, t) := newReq q t
      ⟨rTimeout, [], raiseTimeout q (errRecord q rTimeout (markTimedOut id (tagWaiting id t)))⟩
    else ⟨rOkay, if q.wr then [] else t.fab.lastData.map (BitVec.ofNat 8), t⟩

/-- A part reaches DRAM, a scratchpad, or the host or Dowel window. -/
def partMem (q : Req) (far : Bool) (data : Option (List Byte)) (reply : FabReply) (s : State) : RdOut :=
  match data with
  | some l =>
    if far then answerOf q reply (sendChunk q l s)
    else
      let (r, s) := putChunk q l s
      if r ≠ rOkay then ⟨r, [], denied q r s⟩ else ⟨rOkay, [], s⟩
  | none =>
    if far then answerOf q reply s
    else
      let o := getChunk q s
      if o.resp = rOkay then o else ⟨o.resp, [], denied q o.resp o.s⟩

/-- One request of an inbound access: response, data and state. -/
def inbPart (q : Req) (data : Option (List Byte)) (env : RegEnv) (reply : FabReply) (s : State) : RdOut :=
  let s := parityAt q s
  let r := respOf s q
  if r ≠ rOkay then ⟨r, [], denied q r s⟩
  else
    match decodeAddr s q.addr with
    | some (.per k) => partPer q k data env reply s
    | some .dwl => partMem q true data reply s
    | some .host => partMem q data.isNone data reply s
    | _ => partMem q false data reply s

/-- A command of the BPU waits while a reclaim runs: an inbound access to its pages that is answered within the timeout is served
after the reclaim; one that is not receives TIMEOUT (R226). -/
def bpuBusyAt (s : State) (a : Nat) : Bool :=
  match s.bpu.reclaim with
  | some (_, t) => decide (perBase 12 ≤ a) && decide (a < perBase 20) && decide (t < s.now + (timeoutOf s a).1)
  | none => false

/-! BAR2 (R375, R376). -/

/-- A failure of an inbound access: counted, and the first since the counter was last read as 0 is reported. -/
def inbFail (a tid resp : Nat) (wr : Bool) (s : State) : State :=
  let s := s.bump .pcieCntInb 1
  if s.host.inbTold then s
  else raise .pciInboundError tid (a + resp * 256 + b2n wr * 2048) { s with host := { s.host with inbTold := true } }

/-- The parts of a write, cut at every 128-byte boundary; a part that fails is dropped. -/
def inbWrite (ap tid : Nat) (env : RegEnv) (reply : FabReply) : Nat → Nat → List Byte → State → State
  | 0, _, _, s => s
  | fuel + 1, a, l, s =>
    if l.isEmpty then s
    else
      let n := min l.length (128 - a % 128)
      let o := inbPart ⟨17, tid, a, n, true⟩ (some (l.take n)) env reply s
      let s := if o.resp = rOkay then o.s else inbFail ap tid o.resp true o.s
      inbWrite ap tid env reply fuel (a + n) (l.drop n) s

/-- The answer for the parts after the first n bytes. -/
def FabReply.rest (n : Nat) (r : FabReply) : FabReply :=
  match r with
  | .good d => .good (d.drop n)
  | r => r

/-- The parts of a read; the first that fails decides. -/
def inbRead (ap tid : Nat) (env : RegEnv) (reply : FabReply) : Nat → Nat → Nat → List Byte → State → State
  | 0, _, _, acc, s => cpl 0 acc s
  | fuel + 1, a, left, acc, s =>
    if left = 0 then cpl 0 acc s
    else
      let n := min left (128 - a % 128)
      let o := inbPart ⟨17, tid, a, n, false⟩ none env reply s
      if o.resp = rOkay then inbRead ap tid env (reply.rest n) fuel (a + n) (left - n) (acc ++ o.data) o.s
      else cpl (if o.resp = rUnmapped then 1 else if o.resp = rData then 8 else 4) [] (inbFail ap tid o.resp false o.s)

/-- An access through an aperture (R375, R376, Table PCI-4). -/
def bar2Access (x : PciAcc) (env : RegEnv) (reply : FabReply) (s : State) : State :=
  let ap := x.off / 2 ^ 26 % 64
  let tid := s.rd .apTid ap
  let a := s.rd .apBase ap * 2 ^ 26 + x.off % 2 ^ 26
  if x.wr ∧ x.poisoned then raise .pciPoisoned tid ap (s.bump .pcieCntPoison 1)
  else if !(s.on .apEn ap) then
    let s := inbFail ap tid 0 x.wr s
    if x.wr then s else cpl 1 [] s
  else if x.wr ∧ s.on .apRo ap then inbFail ap tid 0 true s
  else if bpuBusyAt s a then s
  else if x.wr then inbWrite ap tid env reply (x.data.length + 1) a x.data s
  else inbRead ap tid env reply (x.len + 1) a x.len [] s

/-! BAR0 (R374, R380, R382, R388, R390, R469). -/

/-- A write of a host register. -/
def hostWrite (off v : Nat) (s : State) : State :=
  let w : RegW := ⟨0, 256, off, v, ⟨⟨true, 0, []⟩, 0, 0, false⟩⟩
  if off = 0x004 then if w.bit 0 then hostEnable s else hostDisable s
  else if 0x010 ≤ off ∧ off ≤ 0x020 then
    if s.on .hostEn then s else wordWrite w none noField (fun k x => (k.r == .hostAqSizeSq || k.r == .hostAqSizeCq) && x == 0) s
  else if off = 0x040 ∨ off = 0x044 then hostNoteClear (off == 0x044) v s
  else if 0x1000 ≤ off ∧ off < 0x1200 then
    if off % 8 = 0 then sqDoorbell ((off - 0x1000) / 8) (w.f 0 12) s else cqDoorbell ((off - 0x1000) / 8) (w.f 0 12) s
  else if 0x2000 ≤ off ∧ off < 0x3000 then msixUnmask (wordWrite w none noField noBad s)
  else if off = 0x4000 then mbOfsWrite v s
  else if off = 0x4008 then if w.bit 0 then bootMbGo s else s
  else wordWrite w none noField noBad s

/-- An access to BAR0: aligned 4-byte accesses only. -/
def bar0Access (x : PciAcc) (s : State) : State :=
  if x.off % 4 ≠ 0 ∨ x.len ≠ 4 ∨ !x.full ∨ (x.wr ∧ x.data.length ≠ 4) then if x.wr then s else cpl 1 [] s
  else if x.wr then if x.poisoned then raise .pciPoisoned 1 0 (s.bump .pcieCntPoison 1) else hostWrite x.off (leNat x.data) s
  else
    let s := regRead 1 256 x.off s
    cpl 0 (s.fab.lastData.map (BitVec.ofNat 8)) s

/-- Are memory requests of the host served (R391, R393, R465)? -/
def inbServed (x : PciAcc) (s : State) : Bool :=
  s.on .pcieReady && !(flrRuns s) && !(s.on .pcieD3) && bitOf s.host.cmd 1 && (x.bar == 0 || x.bar == 2) &&
    (s.boot.p120 || (mailboxOn s && x.bar == 0 && decide (0x4000 ≤ x.off) && decide (x.off < 0x5000)))

def pciInbound (x : PciAcc) (env : RegEnv) (reply : FabReply) (s : State) : State :=
  if !(s.on .pcieUp) ∨ s.host.perst then s
  else if !(inbServed x s) then if x.wr then s else cpl 1 [] s
  else if x.bar = 0 then bar0Access x s
  else bar2Access x env reply s

/-- PCIE_INBOUND_ACCESS (R374 to R376, R391): a memory request of the host, with the answer of a target outside the model. -/
def execPcieInboundAccess (dt : Nat) (x : PciAcc) (env : RegEnv) (reply : FabReply) (s : State) : Out :=
  after dt s (pciInbound x env reply)

/-! Remote accesses (R403 to R405, R470). -/

/-- The answer to a remote request. -/
def remAnswer (m : DwlMsg) (code len : Nat) (data : List Byte) (s : State) : State :=
  let pay := if m.typ = 2 then leBytes 1 code else leBytes 5 code ++ leBytes 1 (len - 1) ++ leBytes 2 0 ++ sized len data
  match routeTo s m.src with
  | some _ => dwlSend m.typ true m.src m.tag m.tid pay s
  | none => dwlMsg m.port m.typ true m.src m.tag m.tid pay s

/-- Does the manager serve a node that is not in service: only MEM_RD to segment 15 (R470)? -/
def remServed (s : State) (m : DwlMsg) (seg : Nat) : Bool :=
  !(isManager s) || m.src == 0 || inService s m.src || (m.typ == 3 && seg == 15)

def remAccess (env : RegEnv) (reply : FabReply) (m : DwlMsg) (s : State) : State :=
  let o := dAt m.data 0 5 % 2 ^ 32
  let len := dAt m.data 5 1 % 128 + 1
  let seg := o / 2 ^ 28
  let wr := m.typ == 2
  if !(s.on .inbEn seg) ∨ !(s.rdBit .inbSrcMask m.src seg) ∨ !(remServed s m seg) then remAnswer m rUnmapped len [] s
  else
    let q : Req := ⟨18, s.rd .inbTid seg, s.rd .inbBase seg * 2 ^ 28 + o % 2 ^ 28, len, wr⟩
    let r := inbPart q (if wr then some (sized len (m.data.drop 8)) else none) env reply s
    if r.resp = rTimeout then r.s
    else if r.resp = rOkay ∨ r.resp = rData then remAnswer m r.resp len r.data r.s
    else remAnswer m rUnmapped len [] r.s

/-- Serve the next waiting remote request of a type; its target must be able to take it. -/
def dwlMem (typ : Nat) (env : RegEnv) (reply : FabReply) (s : State) : State :=
  match s.dwl.msgs.find? fun m => m.typ == typ && !m.rsp with
  | none => s
  | some m =>
    let o := dAt m.data 0 5 % 2 ^ 32
    if bpuBusyAt s (s.rd .inbBase (o / 2 ^ 28) * 2 ^ 28 + o % 2 ^ 28) then s
    else onMsg typ false (remAccess env reply) s

/-- DWL_MEM_WR (R404, R405). -/
def execDwlMemWr (dt : Nat) (env : RegEnv) (reply : FabReply) (s : State) : Out :=
  after dt s fun s => if fabOn s then dwlMem 2 env reply s else s

/-- DWL_MEM_RD (R404, R470). -/
def execDwlMemRd (dt : Nat) (env : RegEnv) (reply : FabReply) (s : State) : Out :=
  after dt s fun s => if fabOn s then dwlMem 3 env reply s else s

end Sys2Proof.Machine
end

