-- ==== Sys2Proof/Machine/SpmPort.lean ====
section
/-! DEFINITION. The ports of the scratchpad banks: grants, and the completion of what they granted (R203 to R211). -/

namespace Sys2Proof.Machine

/-- The TID of an access. -/
def spmTid (s : State) (r : SpmReq) : Nat :=
  match r.who with
  | .core t => s.rd .tcTid t
  | .cnv c => s.rd .cnvTid c
  | .mitre n => 16 + n
  | .narrow _ _ tid => tid

/-- The access as a request, for the check of its Clamp. -/
def spmQ (s : State) (r : SpmReq) : Req :=
  let port :=
    match r.who with
    | .core t => 9 + t / 8
    | .cnv c => 9 + c
    | .mitre n => 9 + s.rd .mitCluster n
    | .narrow _ p _ => p
  ⟨port, spmTid s r, r.base, r.len, r.data.isSome⟩

/-- May an access be made? The input port of a slot writes over a hardwired path that no Clamp checks. -/
def spmAllowed (s : State) (r : SpmReq) : Bool :=
  match r.who with
  | .mitre _ => true
  | _ =>
    match decodeAddr s r.base with
    | some w => clampOk s (spmQ s r) w
    | none => false

/-- A core of a running invocation, in its first 12 TCLK, makes no wide write of its own (R203). -/
def recordTime (s : State) (r : SpmReq) : Bool :=
  match r.who with
  | .core t => r.data.isSome && (match armedSlotOf s t with
    | some n => (s.slot n).running && decide (s.now < (s.slot n).startAt + 12 * rootPerT)
    | none => false)
  | _ => false

/-- What a blocked access does: the record of Clamp, and its consequence for the initiator (R185, R242, R243). -/
def spmBlocked (r : SpmReq) (s : State) : State :=
  match decodeAddr s r.base with
  | none => s
  | some w =>
    match r.who with
    | .core t => coreFail t .blocked (blockedRecord (spmQ s r) (clampOf w) s)
    | .cnv c =>
      let s := blockedRecord (spmQ s r) (clampOf w) s
      s.setCnv c { s.cnv c with stop := some 1 }
    | .mitre _ => s
    | .narrow _ _ _ => (denied (spmQ s r) rBlocked s).respond rBlocked (if r.data.isSome then [] else List.replicate r.len 0)

/-- The ECC of a grant: a read, and the read of a merge, judge the words as they stand now; a whole write repairs them (R205, R207, R210,
R211). -/
def grantEcc (r : SpmReq) (s : State) : (Bool × Bool) × State :=
  let units := eccUnits r.base r.len
  if r.data.isSome ∧ (r.wide ∨ r.strobes % 256 = 255) then ((false, false), eccFresh units s)
  else
    let corr := units.any fun b => s.ecc.cor.contains b
    let (bad, s) := eccRead (spmTid s r) r.base r.len s
    ((corr, bad), if r.data.isSome ∧ !bad then eccFresh units s else s)

/-- A granted access takes effect, in grant order (R205); a merge into an uncorrectable word leaves it unchanged (R211). -/
def takeEffect (r : SpmReq) (s : State) : State :=
  let read := s.rdBytes r.base r.len
  let ((corr, bad), s) := grantEcc r s
  let s :=
    match r.data with
    | none => s
    | some d => if bad then s else s.wrBytes r.base (if r.wide then d.take r.len else strobed read d r.strobes)
  { s with spm := { s.spm with flight := s.spm.flight ++ [⟨r, s.now, read, corr, bad⟩] } }

/-- Grant a wide request: a write to the row of a pending merge restarts the merge. -/
def grantWide (k : Nat) (r : SpmReq) (s : State) : State :=
  let b := s.bank k
  let hit := match b.merge with
    | some m => r.data.isSome && rowOf m.addr == rowOf r.addr
    | none => false
  takeEffect r (takeBank k (if hit then s.setBank k { b with merge := none } else s))

/-- Grant a narrow request: a partial write takes two grants. -/
def grantNarrow (k : Nat) (r : SpmReq) (s : State) : State :=
  let b := s.bank k
  let port := match r.who with
    | .narrow t _ _ => t % 4
    | _ => b.last
  if r.data.isSome ∧ r.strobes % 256 ≠ 255 ∧ b.merge.isNone then takeBank k (s.setBank k { b with merge := some r, last := port })
  else takeEffect r (takeBank k (s.setBank k { b with merge := none, last := port }))

/-- The narrow requests to bank k after this TCLK: one that has been presented and not finished waits one TCLK longer (R208). -/
def noteWaits (k : Nat) (won : Option SpmReq) (narrow : List SpmReq) (s : State) : State :=
  let old := s.spm.wait
  let out := old.filter fun w => bankOf w.req.addr != k
  let more := (narrow.filter fun r => won != some r).map fun r =>
    match old.find? fun w => w.req == r with
    | some w => { w with n := w.n + 1 }
    | none => ⟨r, 1, false⟩
  { s with spm := { s.spm with wait := out ++ more } }

/-- The grant of bank k in this TCLK among requests that Clamp allows. -/
def grantBank (k : Nat) (wide narrow : List SpmReq) (s : State) : State :=
  match wideWinner k (tclkNo s) wide with
  | some w =>
    grantWide k w (bankCount k false narrow.length (bankCount k true (wide.length - 1) (noteWaits k none narrow s)))
  | none =>
    match narrowWinner s k narrow with
    | some r => grantNarrow k r (noteWaits k (some r) narrow s)
    | none => s

def spmAccessGrant (k : Nat) (reqs : List SpmReq) (u : List Upset) (s : State) : State :=
  let s := upsets u s
  if bankTaken s k then s
  else
    let l := reqs.filter fun r => isSpm r.addr && bankOf r.addr == k && !recordTime s r
    let bad := l.filter fun r => !spmAllowed s r
    let l := l.filter (spmAllowed s)
    grantBank k (l.filter SpmReq.wide) (l.filter fun r => !r.wide) (bad.foldl (fun s r => spmBlocked r s) s)

/-- SPM_ACCESS_GRANT (R101, R203 to R208): a bank that has granted in this TCLK grants no more. -/
def execSpmAccessGrant (dt : Nat) (k : Fin 1280) (x : SpmCycle) (s : State) : Out := after dt s (spmAccessGrant k x.reqs x.upsets)

/-! Completion (R205, R210, R211). -/

/-- TCLK from grant to completion. -/
def spmLatency (a : Nat) : Nat := if a < 0x1004000000 then 6 else 9

/-- What an uncorrectable read does to its initiator (R211). -/
def spmFail (r : SpmReq) (s : State) : State :=
  match r.who with
  | .core t => coreFail t .ecc s
  | .cnv c => s.setCnv c { s.cnv c with stop := some 1 }
  | .mitre _ => s
  | .narrow _ port tid => errRecord ⟨port, tid, r.base, 8, r.data.isSome⟩ rData s

/-- The data that an access returns: none for a write, and zeros for a read that failed (R221). -/
def spmData (f : SpmFlight) : List Byte :=
  if f.req.data.isSome then [] else if f.bad then List.replicate f.req.len 0 else f.read

def spmAccessComplete (k : Nat) (u : List Upset) (s : State) : State :=
  match s.spm.flight[k]? with
  | none => s
  | some f =>
    let s := upsets u s
    if s.now < f.grantAt + (spmLatency f.req.base + (if f.corr then 4 else 0)) * rootPerT then s
    else
      let s := { s with spm := { s.spm with flight := s.spm.flight.eraseIdx k } }.respond (if f.bad then rData else rOkay) (spmData f)
      if f.bad then spmFail f.req s else s

/-- SPM_ACCESS_COMPLETE (R205, R210, R211): the k-th access in flight, with what its grant found; with the upsets that have struck
since. -/
def execSpmAccessComplete (dt k : Nat) (u : List Upset) (s : State) : Out := after dt s (spmAccessComplete k u)

end Sys2Proof.Machine
end

