-- ==== Sys2Proof/Machine/Walk.lean ====
section
/-! DEFINITION. Walks and retries of the translating engines, and what a fault under KILL ends (R253, R264, R265, R267). -/

namespace Sys2Proof.Machine

/-- The task or job of engine e ends as killed by a translation fault (R265). -/
def killEngine (e : Nat) (s : State) : State :=
  if e < 32 then
    match s.sch.runs.find? fun r => r.res == .dma (e / 4) (e % 4) with
    | some r => endRun r 4 s
    | none => s
  else if e < 34 then if (s.yar (e - 32)).run then yarKilled (e - 32) s else s
  else if e < 38 then
    match s.ppuRun (e - 34) with
    | some r => ppuEnd (e - 34) 4 r s
    | none => s
  else
    match s.embRun (e - 38) with
    | some r => embDie (e - 38) r true s
    | none => s

/-- A fault of engine e on an access, with what its policy does (R264, R265). -/
def engineFault (e tid va : Nat) (wr : Bool) (cause level : Nat) (s : State) : State :=
  let (kill, s) := mmuFault e tid va wr cause level s
  if kill then killEngine e s else s

/-- A walk that was in flight when an invalidation of its TID started has installed nothing, and is made again (R267). -/
def walkAgain (tid begun : Nat) (s : State) : State :=
  if s.now < s.mmu.invAt.get 0 tid + begun then s.bump .mmuCntWalk 1 else s

def mmuWalkComplete (e tid va : Nat) (wr : Bool) (begun : Nat) (s : State) : State :=
  if (s.mmu.stall.get none e).isSome then s
  else
    match xlate e tid (va % 2 ^ 48) wr (walkAgain tid begun s) with
    | (.ok _, s) => s
    | (.fault c l, s) => engineFault e tid (va % 2 ^ 48) wr c l s

/-- MMU_WALK_COMPLETE (R253 to R257, R263 to R265, R267): the walk of an access of engine e. -/
def execMmuWalkComplete (dt : Nat) (e : Fin 40) (tid : BitVec 10) (va : Nat) (w : WalkIn) (s : State) : Out :=
  after dt s (mmuWalkComplete e tid.toNat va w.wr w.begun)

def mmuRetry (e : Nat) (s : State) : State :=
  match s.mmu.stall.get none e with
  | none => s
  | some x =>
    if x.retry ∧ !invRuns s x.tid then
      let s := unstall e s
      match xlate e x.tid x.va x.wr s with
      | (.ok _, s) => s
      | (.fault c l, s) => engineFault e x.tid x.va x.wr c l s
    else s

/-- MMU_RETRY (R264). -/
def execMmuRetry (dt : Nat) (e : Fin 40) (s : State) : Out := after dt s (mmuRetry e)

end Sys2Proof.Machine
end

