-- ==== Sys2Proof/Machine/Dispatch.lean ====
section
/-! DEFINITION. Every command's meaning: one arm per constructor. -/

namespace Sys2Proof.Machine

def exec (i : Instr) (s : State) : Host.Outcome State Fault Refusal :=
  match i with
  | .registerWrite dt tid slot off v env => Sys2Proof.Machine.execRegisterWrite dt tid slot off v env s
  | .lockSet dt slot => Sys2Proof.Machine.execLockSet dt slot s
  | .heldRecordsFlush dt => Sys2Proof.Machine.execHeldRecordsFlush dt s
  | .baseTick dt => Sys2Proof.Machine.execBaseTick dt s
  | .axisTick dt n sd => Sys2Proof.Machine.execAxisTick dt n sd s
  | .sampleDelivery dt n => Sys2Proof.Machine.execSampleDelivery dt n s
  | .mitreInvocationStart dt n => Sys2Proof.Machine.execMitreInvocationStart dt n s
  | .mitreInvocationStop dt n => Sys2Proof.Machine.execMitreInvocationStop dt n s
  | .mitreCommit dt tid n v => Sys2Proof.Machine.execMitreCommit dt tid n v s
  | .ceLatch dt n => Sys2Proof.Machine.execCeLatch dt n s
  | .ceIssue dt n ecc => Sys2Proof.Machine.execCeIssue dt n ecc s
  | .ceShadowComplete dt n => Sys2Proof.Machine.execCeShadowComplete dt n s
  | .endOfPeriodCheck dt n f => Sys2Proof.Machine.execEndOfPeriodCheck dt n f s
  | .pstClrCnt dt => Sys2Proof.Machine.execPstClrCnt dt s
  | .epochArm dt tid v => Sys2Proof.Machine.execEpochArm dt tid v s
  | .epochMove dt => Sys2Proof.Machine.execEpochMove dt s
  | .lsxPresenceJudge dt regulated => Sys2Proof.Machine.execLsxPresenceJudge dt regulated s
  | .qualWindowEnd dt count => Sys2Proof.Machine.execQualWindowEnd dt count s
  | .qualRetry dt => Sys2Proof.Machine.execQualRetry dt s
  | .pllLock dt => Sys2Proof.Machine.execPllLock dt s
  | .clkmonWindowEnd dt count => Sys2Proof.Machine.execClkmonWindowEnd dt count s
  | .pllLockLoss dt => Sys2Proof.Machine.execPllLockLoss dt s
  | .lsxLost dt => Sys2Proof.Machine.execLsxLost dt s
  | .ckgEnWrite dt tid v => Sys2Proof.Machine.execCkgEnWrite dt tid v s
  | .clockGateOff dt bit => Sys2Proof.Machine.execClockGateOff dt bit s
  | .fmtrStart dt tid v => Sys2Proof.Machine.execFmtrStart dt tid v s
  | .fmtrDone dt edges => Sys2Proof.Machine.execFmtrDone dt edges s
  | .dtimeIncWrite dt v => Sys2Proof.Machine.execDtimeIncWrite dt v s
  | .dtimeAdj dt tid v => Sys2Proof.Machine.execDtimeAdj dt tid v s
  | .dtimeNsecRead dt => Sys2Proof.Machine.execDtimeNsecRead dt s
  | .tbCfgWrite dt tid v => Sys2Proof.Machine.execTbCfgWrite dt tid v s
  | .tbCfgApply dt => Sys2Proof.Machine.execTbCfgApply dt s
  | .axnTbWrite dt tid n v => Sys2Proof.Machine.execAxnTbWrite dt tid n v s
  | .axEnableWrite dt tid n => Sys2Proof.Machine.execAxEnableWrite dt tid n s
  | .axDisableWrite dt n => Sys2Proof.Machine.execAxDisableWrite dt n s
  | .axCtrlCfgWrite dt tid n v => Sys2Proof.Machine.execAxCtrlCfgWrite dt tid n v s
  | .guardPublish dt g v => Sys2Proof.Machine.execGuardPublish dt g v s
  | .estopRecognised dt => Sys2Proof.Machine.execEstopRecognised dt s
  | .tripRecognised dt n => Sys2Proof.Machine.execTripRecognised dt n s
  | .overcurrentTrip dt ch bits => Sys2Proof.Machine.execOvercurrentTrip dt ch bits s
  | .mioTripClear dt v estopN tripN oc => Sys2Proof.Machine.execMioTripClear dt v estopN tripN oc s
  | .encEdge dt p l held => Sys2Proof.Machine.execEncEdge dt p l held s
  | .encZEdge dt z => Sys2Proof.Machine.execEncZEdge dt z s
  | .encCprWrite dt tid n v => Sys2Proof.Machine.execEncCprWrite dt tid n v s
  | .ssiFrameStart dt p level => Sys2Proof.Machine.execSsiFrameStart dt p level s
  | .ssiFrameEnd dt p data parity => Sys2Proof.Machine.execSsiFrameEnd dt p data parity s
  | .pulseEdge dt p l held => Sys2Proof.Machine.execPulseEdge dt p l held s
  | .adcSlot dt => Sys2Proof.Machine.execAdcSlot dt s
  | .adcConversionDone dt nanovolts => Sys2Proof.Machine.execAdcConversionDone dt nanovolts s
  | .mitreLoaded dt tid n recAddr ringAddr => Sys2Proof.Machine.execMitreLoaded dt tid n recAddr ringAddr s
  | .mitreArmRequest dt tid n => Sys2Proof.Machine.execMitreArmRequest dt tid n s
  | .mitreDisarm dt n => Sys2Proof.Machine.execMitreDisarm dt n s
  | .mitreUnload dt n => Sys2Proof.Machine.execMitreUnload dt n s
  | .mitreModelLoad dt n weightBytes ls wcet modelId => Sys2Proof.Machine.execMitreModelLoad dt n weightBytes ls wcet modelId s
  | .mitreMissLimit dt n => Sys2Proof.Machine.execMitreMissLimit dt n s
  | .camLinePacket dt p vc dataType line h crcOk payload => Sys2Proof.Machine.execCamLinePacket dt p vc dataType line h crcOk payload s
  | .camFrameStart dt k fnum h => Sys2Proof.Machine.execCamFrameStart dt k fnum h s
  | .camFrameEnd dt k h => Sys2Proof.Machine.execCamFrameEnd dt k h s
  | .camCommit dt tid k tag => Sys2Proof.Machine.execCamCommit dt tid k tag s
  | .camAppliedPop dt k => Sys2Proof.Machine.execCamAppliedPop dt k s
  | .scqEntry dt tid p v => Sys2Proof.Machine.execScqEntry dt tid p v s
  | .scqSubmit dt tid p epoch => Sys2Proof.Machine.execScqSubmit dt tid p epoch s
  | .scqWriteAck dt p => Sys2Proof.Machine.execScqWriteAck dt p s
  | .scqWriteNack dt p => Sys2Proof.Machine.execScqWriteNack dt p s
  | .tdmFrame dt q a b => Sys2Proof.Machine.execTdmFrame dt q a b s
  | .yarDictLoad dt tid u => Sys2Proof.Machine.execYarDictLoad dt tid u s
  | .yarQSubmit dt tid u x => Sys2Proof.Machine.execYarQSubmit dt tid u x s
  | .yarJobStart dt u => Sys2Proof.Machine.execYarJobStart dt u s
  | .yarJobDone dt x => Sys2Proof.Machine.execYarJobDone dt x s
  | .ppuQSubmit dt tid v t => Sys2Proof.Machine.execPpuQSubmit dt tid v t s
  | .ppuJobStart dt v stream job => Sys2Proof.Machine.execPpuJobStart dt v stream job s
  | .ppuJobDone dt v => Sys2Proof.Machine.execPpuJobDone dt v s
  | .iposWrite dt v progEnd => Sys2Proof.Machine.execIposWrite dt v progEnd s
  | .tenArrayOp dt c pc x => Sys2Proof.Machine.execTenArrayOp dt c pc x s
  | .tenVectorOp dt c pc op sr a b e => Sys2Proof.Machine.execTenVectorOp dt c pc op sr a b e s
  | .tcRestart dt c => Sys2Proof.Machine.execTcRestart dt c s
  | .tcSrSeedWrite dt c v => Sys2Proof.Machine.execTcSrSeedWrite dt c v s
  | .tcSrSeedLoad dt c => Sys2Proof.Machine.execTcSrSeedLoad dt c s
  | .cnvQSubmit dt tid c v => Sys2Proof.Machine.execCnvQSubmit dt tid c v s
  | .cnvJobStart dt c => Sys2Proof.Machine.execCnvJobStart dt c s
  | .cnvJobDone dt c wait => Sys2Proof.Machine.execCnvJobDone dt c wait s
  | .embQSubmit dt tid e v => Sys2Proof.Machine.execEmbQSubmit dt tid e v s
  | .embJobStart dt e => Sys2Proof.Machine.execEmbJobStart dt e s
  | .embJobDone dt e u => Sys2Proof.Machine.execEmbJobDone dt e u s
  | .embRowLockGrant dt e => Sys2Proof.Machine.execEmbRowLockGrant dt e s
  | .embRowWriteAck dt e addr => Sys2Proof.Machine.execEmbRowWriteAck dt e addr s
  | .embSrSeedWrite dt e v => Sys2Proof.Machine.execEmbSrSeedWrite dt e v s
  | .spmAccessGrant dt k x => Sys2Proof.Machine.execSpmAccessGrant dt k x s
  | .spmAccessComplete dt k u => Sys2Proof.Machine.execSpmAccessComplete dt k u s
  | .spmEccWriteback dt k => Sys2Proof.Machine.execSpmEccWriteback dt k s
  | .spmNarrowStarve dt tid addr port => Sys2Proof.Machine.execSpmNarrowStarve dt tid addr port s
  | .spmInit dt tid v => Sys2Proof.Machine.execSpmInit dt tid v s
  | .spmCntClr dt => Sys2Proof.Machine.execSpmCntClr dt s
  | .poolEnable dt tid p => Sys2Proof.Machine.execPoolEnable dt tid p s
  | .poolDisable dt tid p => Sys2Proof.Machine.execPoolDisable dt tid p s
  | .bpuAlloc dt tid p => Sys2Proof.Machine.execBpuAlloc dt tid p s
  | .bpuFree dt tid p h => Sys2Proof.Machine.execBpuFree dt tid p h s
  | .bpuGive dt tid p g h => Sys2Proof.Machine.execBpuGive dt tid p g h s
  | .bpuReclaim dt g => Sys2Proof.Machine.execBpuReclaim dt g s
  | .bpuReclaimDone dt => Sys2Proof.Machine.execBpuReclaimDone dt s
  | .fabricRequest dt f env u cu reply => Sys2Proof.Machine.execFabricRequest dt f env u cu reply s
  | .fabricTimeout dt id => Sys2Proof.Machine.execFabricTimeout dt id s
  | .fabricLateResponse dt id => Sys2Proof.Machine.execFabricLateResponse dt id s
  | .clampCommit dt tid k0 v => Sys2Proof.Machine.execClampCommit dt tid k0 v s
  | .clampCommitActivate dt k0 => Sys2Proof.Machine.execClampCommitActivate dt k0 s
  | .tidRetire dt tid => Sys2Proof.Machine.execTidRetire dt tid s
  | .memcScrubRead dt u => Sys2Proof.Machine.execMemcScrubRead dt u s
  | .memcMr4Poll dt codes hot => Sys2Proof.Machine.execMemcMr4Poll dt codes hot s
  | .memcCntClr dt => Sys2Proof.Machine.execMemcCntClr dt s
  | .mmuWalkComplete dt e tid va w => Sys2Proof.Machine.execMmuWalkComplete dt e tid va w s
  | .mmuXlate dt v => Sys2Proof.Machine.execMmuXlate dt v s
  | .mmuResume dt tid => Sys2Proof.Machine.execMmuResume dt tid s
  | .mmuRetry dt e => Sys2Proof.Machine.execMmuRetry dt e s
  | .mmuInvalidate dt tid v => Sys2Proof.Machine.execMmuInvalidate dt tid v s
  | .mmuInvAck dt e => Sys2Proof.Machine.execMmuInvAck dt e s
  | .mmuInvTimeout dt => Sys2Proof.Machine.execMmuInvTimeout dt s
  | .ctxActivate dt tid k => Sys2Proof.Machine.execCtxActivate dt tid k s
  | .ctxResident dt k => Sys2Proof.Machine.execCtxResident dt k s
  | .ctxRelease dt tid k => Sys2Proof.Machine.execCtxRelease dt tid k s
  | .ctxTerminate dt k => Sys2Proof.Machine.execCtxTerminate dt k s
  | .ctxFree dt k => Sys2Proof.Machine.execCtxFree dt k s
  | .chTailSubmit dt tid ch v => Sys2Proof.Machine.execChTailSubmit dt tid ch v s
  | .taskDispatch dt c => Sys2Proof.Machine.execTaskDispatch dt c s
  | .taskComplete dt ch k0 => Sys2Proof.Machine.execTaskComplete dt ch k0 s
  | .taskOverrun dt ch k0 rows => Sys2Proof.Machine.execTaskOverrun dt ch k0 rows s
  | .chResume dt ch => Sys2Proof.Machine.execChResume dt ch s
  | .chFlush dt ch => Sys2Proof.Machine.execChFlush dt ch s
  | .modelLoad dt k modelId image w aCs aLs => Sys2Proof.Machine.execModelLoad dt k modelId image w aCs aLs s
  | .odRequestReceive dt q => Sys2Proof.Machine.execOdRequestReceive dt q s
  | .odRead dt => Sys2Proof.Machine.execOdRead dt s
  | .odWrite dt progEnd => Sys2Proof.Machine.execOdWrite dt progEnd s
  | .odStore dt => Sys2Proof.Machine.execOdStore dt s
  | .odStoreDone dt ok => Sys2Proof.Machine.execOdStoreDone dt ok s
  | .odRestoreDefaults dt => Sys2Proof.Machine.execOdRestoreDefaults dt s
  | .processDataForward dt l progEnd => Sys2Proof.Machine.execProcessDataForward dt l progEnd s
  | .logReadCursor dt => Sys2Proof.Machine.execLogReadCursor dt s
  | .logBlockRead dt => Sys2Proof.Machine.execLogBlockRead dt s
  | .logClear dt => Sys2Proof.Machine.execLogClear dt s
  | .modeOfOperationWrite dt n => Sys2Proof.Machine.execModeOfOperationWrite dt n s
  | .controlwordWrite dt n l => Sys2Proof.Machine.execControlwordWrite dt n l s
  | .axisFaultEntry dt n => Sys2Proof.Machine.execAxisFaultEntry dt n s
  | .canFrameReceive dt n f ago resRec => Sys2Proof.Machine.execCanFrameReceive dt n f ago resRec s
  | .canBusError dt n e => Sys2Proof.Machine.execCanBusError dt n e s
  | .canTxSuccess dt n src ago delay => Sys2Proof.Machine.execCanTxSuccess dt n src ago delay s
  | .canTxRetry dt n src => Sys2Proof.Machine.execCanTxRetry dt n src s
  | .canMbSend dt tid n b => Sys2Proof.Machine.execCanMbSend dt tid n b s
  | .canMbAbort dt n b onBus => Sys2Proof.Machine.execCanMbAbort dt n b onBus s
  | .canQueueRelease dt tid n q a => Sys2Proof.Machine.execCanQueueRelease dt tid n q a s
  | .canBoffRecover dt n => Sys2Proof.Machine.execCanBoffRecover dt n s
  | .canBoffRecovered dt n => Sys2Proof.Machine.execCanBoffRecovered dt n s
  | .canRomApply dt n => Sys2Proof.Machine.execCanRomApply dt n s
  | .canBoffAutoRecover dt => Sys2Proof.Machine.execCanBoffAutoRecover dt s
  | .nmtCommand dt => Sys2Proof.Machine.execNmtCommand dt s
  | .sdoRequest dt usdo => Sys2Proof.Machine.execSdoRequest dt usdo s
  | .sdoTimeout dt => Sys2Proof.Machine.execSdoTimeout dt s
  | .tpdoEventTimer dt k0 => Sys2Proof.Machine.execTpdoEventTimer dt k0 s
  | .hbConsumerTimeout dt j => Sys2Proof.Machine.execHbConsumerTimeout dt j s
  | .ethFrameReceive dt m f => Sys2Proof.Machine.execEthFrameReceive dt m f s
  | .ethLinkChange dt m up speed => Sys2Proof.Machine.execEthLinkChange dt m up speed s
  | .gptpSync dt gmSec gmNs newGm => Sys2Proof.Machine.execGptpSync dt gmSec gmNs newGm s
  | .gptpSyncTimeout dt => Sys2Proof.Machine.execGptpSyncTimeout dt s
  | .tasGateEvent dt m => Sys2Proof.Machine.execTasGateEvent dt m s
  | .ethFrameTransmit dt m => Sys2Proof.Machine.execEthFrameTransmit dt m s
  | .tasGo dt tid m v => Sys2Proof.Machine.execTasGo dt tid m v s
  | .tasListActivate dt m => Sys2Proof.Machine.execTasListActivate dt m s
  | .vdpRead dt => Sys2Proof.Machine.execVdpRead dt s
  | .vdpWrite dt => Sys2Proof.Machine.execVdpWrite dt s
  | .vdpAuthWrite dt => Sys2Proof.Machine.execVdpAuthWrite dt s
  | .vdpBlockRead dt => Sys2Proof.Machine.execVdpBlockRead dt s
  | .vdpSubscribe dt => Sys2Proof.Machine.execVdpSubscribe dt s
  | .vdpCyclicWrite dt => Sys2Proof.Machine.execVdpCyclicWrite dt s
  | .vdpCyclicPublish dt c => Sys2Proof.Machine.execVdpCyclicPublish dt c s
  | .vdpCycTimeout dt c => Sys2Proof.Machine.execVdpCycTimeout dt c s
  | .vdpEventPush dt c => Sys2Proof.Machine.execVdpEventPush dt c s
  | .vdpSessionLapse dt => Sys2Proof.Machine.execVdpSessionLapse dt s
  | .authWrite dt flashOk => Sys2Proof.Machine.execAuthWrite dt flashOk s
  | .authCounterFlashDone dt ok flashOk => Sys2Proof.Machine.execAuthCounterFlashDone dt ok flashOk s
  | .stagingReset dt => Sys2Proof.Machine.execStagingReset dt s
  | .stagingChunk dt => Sys2Proof.Machine.execStagingChunk dt s
  | .pcieConfigRequest dt r w => Sys2Proof.Machine.execPcieConfigRequest dt r w s
  | .pcieInboundAccess dt x env reply => Sys2Proof.Machine.execPcieInboundAccess dt x env reply s
  | .hostEnable dt => Sys2Proof.Machine.execHostEnable dt s
  | .hostDisable dt => Sys2Proof.Machine.execHostDisable dt s
  | .pcieSqDoorbell dt q v => Sys2Proof.Machine.execPcieSqDoorbell dt q v s
  | .pcieCqDoorbell dt q v => Sys2Proof.Machine.execPcieCqDoorbell dt q v s
  | .pcieSqFetch dt q l => Sys2Proof.Machine.execPcieSqFetch dt q l s
  | .createQp dt q tid => Sys2Proof.Machine.execCreateQp dt q tid s
  | .deleteQp dt => Sys2Proof.Machine.execDeleteQp dt s
  | .pcieOdRead dt q => Sys2Proof.Machine.execPcieOdRead dt q s
  | .pcieOdWrite dt q data => Sys2Proof.Machine.execPcieOdWrite dt q data s
  | .pcieOdBlockRead dt q => Sys2Proof.Machine.execPcieOdBlockRead dt q s
  | .molMemAlloc dt q bytes place => Sys2Proof.Machine.execMolMemAlloc dt q bytes place s
  | .molMemFree dt q ptr entries => Sys2Proof.Machine.execMolMemFree dt q ptr entries s
  | .molModelLoad dt q plan => Sys2Proof.Machine.execMolModelLoad dt q plan s
  | .molModelUnload dt q k => Sys2Proof.Machine.execMolModelUnload dt q k s
  | .molInvoke dt q k ch x => Sys2Proof.Machine.execMolInvoke dt q k ch x s
  | .molPrefetch dt q va n target ch pages => Sys2Proof.Machine.execMolPrefetch dt q va n target ch pages s
  | .molAdvise dt q va n h => Sys2Proof.Machine.execMolAdvise dt q va n h s
  | .molBarMap dt q bytes readonly pa a => Sys2Proof.Machine.execMolBarMap dt q bytes readonly pa a s
  | .molBarUnmap dt q off => Sys2Proof.Machine.execMolBarUnmap dt q off s
  | .cqCoalesceSignal dt q => Sys2Proof.Machine.execCqCoalesceSignal dt q s
  | .logMsixSignal dt => Sys2Proof.Machine.execLogMsixSignal dt s
  | .hostNoteClear dt hi v => Sys2Proof.Machine.execHostNoteClear dt hi v s
  | .pcieFlr dt => Sys2Proof.Machine.execPcieFlr dt s
  | .pcieReset dt cause => Sys2Proof.Machine.execPcieReset dt cause s
  | .pcieD3hot dt => Sys2Proof.Machine.execPcieD3hot dt s
  | .pcieD0Return dt => Sys2Proof.Machine.execPcieD0Return dt s
  | .dwlFlitReceive dt p l res => Sys2Proof.Machine.execDwlFlitReceive dt p l res s
  | .dwlReplayTimeout dt p => Sys2Proof.Machine.execDwlReplayTimeout dt p s
  | .dwlRetrain dt p lost => Sys2Proof.Machine.execDwlRetrain dt p lost s
  | .dwlTrainingDone dt p partner ppair => Sys2Proof.Machine.execDwlTrainingDone dt p partner ppair s
  | .dwlTrainRetry dt p => Sys2Proof.Machine.execDwlTrainRetry dt p s
  | .dwlHello dt links => Sys2Proof.Machine.execDwlHello dt links s
  | .dwlVerdict dt => Sys2Proof.Machine.execDwlVerdict dt s
  | .dwlMemWr dt env reply => Sys2Proof.Machine.execDwlMemWr dt env reply s
  | .dwlMemRd dt env reply => Sys2Proof.Machine.execDwlMemRd dt env reply s
  | .dwlTask dt => Sys2Proof.Machine.execDwlTask dt s
  | .dwlSync dt => Sys2Proof.Machine.execDwlSync dt s
  | .dwlTimeRequest dt => Sys2Proof.Machine.execDwlTimeRequest dt s
  | .dwlTimeAnswer dt => Sys2Proof.Machine.execDwlTimeAnswer dt s
  | .dwlMirror dt => Sys2Proof.Machine.execDwlMirror dt s
  | .asmHelloTimer dt => Sys2Proof.Machine.execAsmHelloTimer dt s
  | .asmTimeTimer dt => Sys2Proof.Machine.execAsmTimeTimer dt s
  | .asmFormed dt => Sys2Proof.Machine.execAsmFormed dt s
  | .asmWorkerLost dt k => Sys2Proof.Machine.execAsmWorkerLost dt k s
  | .asmManagerLost dt => Sys2Proof.Machine.execAsmManagerLost dt s
  | .asmForward dt => Sys2Proof.Machine.execAsmForward dt s
  | .asmForwardTimeout dt => Sys2Proof.Machine.execAsmForwardTimeout dt s
  | .peerFailRecognised dt low => Sys2Proof.Machine.execPeerFailRecognised dt low s
  | .aliveWindowEnd dt edge => Sys2Proof.Machine.execAliveWindowEnd dt edge s
  | .peerActiveFall dt low => Sys2Proof.Machine.execPeerActiveFall dt low s
  | .pairMirrorStale dt => Sys2Proof.Machine.execPairMirrorStale dt s
  | .pairHandoverTick dt => Sys2Proof.Machine.execPairHandoverTick dt s
  | .pwrDomainRequest dt tid v => Sys2Proof.Machine.execPwrDomainRequest dt tid v s
  | .pwrDomainSwitched dt d => Sys2Proof.Machine.execPwrDomainSwitched dt d s
  | .pwrStateRequest dt flashOk => Sys2Proof.Machine.execPwrStateRequest dt flashOk s
  | .pwrWake dt b => Sys2Proof.Machine.execPwrWake dt b s
  | .pwrAlarmWake dt => Sys2Proof.Machine.execPwrAlarmWake dt s
  | .thmRecoveryWake dt => Sys2Proof.Machine.execThmRecoveryWake dt s
  | .avsMonitor dt low high => Sys2Proof.Machine.execAvsMonitor dt low high s
  | .avsLimit dt => Sys2Proof.Machine.execAvsLimit dt s
  | .thmConversion dt l => Sys2Proof.Machine.execThmConversion dt l s
  | .thmCrit dt => Sys2Proof.Machine.execThmCrit dt s
  | .throttleWindow dt est => Sys2Proof.Machine.execThrottleWindow dt est s
  | .pwrCapUnmet dt => Sys2Proof.Machine.execPwrCapUnmet dt s
  | .fanEnable dt f => Sys2Proof.Machine.execFanEnable dt f s
  | .fanTachEdge dt f => Sys2Proof.Machine.execFanTachEdge dt f s
  | .fanSpinupTimeout dt f => Sys2Proof.Machine.execFanSpinupTimeout dt f s
  | .fanTachLost dt f => Sys2Proof.Machine.execFanTachLost dt f s
  | .fanRecovered dt f => Sys2Proof.Machine.execFanRecovered dt f s
  | .powerOnReset dt cause => Sys2Proof.Machine.execPowerOnReset dt cause s
  | .t0Release dt => Sys2Proof.Machine.execT0Release dt s
  | .strapLatch dt v => Sys2Proof.Machine.execStrapLatch dt v s
  | .bootSifVerified dt b err => Sys2Proof.Machine.execBootSifVerified dt b err s
  | .bootCanRom dt => Sys2Proof.Machine.execBootCanRom dt s
  | .bootCeReady dt peerHigh => Sys2Proof.Machine.execBootCeReady dt peerHigh s
  | .dramTrainingDone dt ok => Sys2Proof.Machine.execDramTrainingDone dt ok s
  | .bootRuntimeVerified dt more err => Sys2Proof.Machine.execBootRuntimeVerified dt more err s
  | .bootRuntimeStart dt => Sys2Proof.Machine.execBootRuntimeStart dt s
  | .bootDowelTraining dt => Sys2Proof.Machine.execBootDowelTraining dt s
  | .bootDictReady dt => Sys2Proof.Machine.execBootDictReady dt s
  | .pcieReadyFallback dt => Sys2Proof.Machine.execPcieReadyFallback dt s
  | .bootMbGo dt => Sys2Proof.Machine.execBootMbGo dt s
  | .bootDowelTimeout dt => Sys2Proof.Machine.execBootDowelTimeout dt s
  | .warmReset dt pinLow release => Sys2Proof.Machine.execWarmReset dt pinLow release s
  | .partialReset dt tid v => Sys2Proof.Machine.execPartialReset dt tid v s
  | .programControl dt => Sys2Proof.Machine.execProgramControl dt s
  | .otpWrite dt w => Sys2Proof.Machine.execOtpWrite dt w s
  | .safeStateRestart dt => Sys2Proof.Machine.execSafeStateRestart dt s
  | .safRestartDone dt => Sys2Proof.Machine.execSafRestartDone dt s
  | .safRestartTimeout dt => Sys2Proof.Machine.execSafRestartTimeout dt s
  | .safDisarm dt => Sys2Proof.Machine.execSafDisarm dt s
  | .safStoReadback dt pad => Sys2Proof.Machine.execSafStoReadback dt pad s
  | .ss1Request dt gpio => Sys2Proof.Machine.execSs1Request dt gpio s
  | .ss1Expire dt => Sys2Proof.Machine.execSs1Expire dt s
  | .wdgKick dt v => Sys2Proof.Machine.execWdgKick dt v s
  | .wdgWindowEnd dt => Sys2Proof.Machine.execWdgWindowEnd dt s
  | .islandFault dt kind => Sys2Proof.Machine.execIslandFault dt kind s
  | .safClampCrcCheck dt l => Sys2Proof.Machine.execSafClampCrcCheck dt l s
  | .spmInitDone dt c => Sys2Proof.Machine.execSpmInitDone dt c s
  | .bootMbChunkCopied dt => Sys2Proof.Machine.execBootMbChunkCopied dt s
  | .heartbeatProducerTimer dt => Sys2Proof.Machine.execHeartbeatProducerTimer dt s
  | .pcieLinkUp dt speed width => Sys2Proof.Machine.execPcieLinkUp dt speed width s
  | .perstNRelease dt => Sys2Proof.Machine.execPerstNRelease dt s
  | .pciePmeTurnOff dt => Sys2Proof.Machine.execPciePmeTurnOff dt s
  | .pcieFlrComplete dt => Sys2Proof.Machine.execPcieFlrComplete dt s
  | .fanSpinupRetry dt f => Sys2Proof.Machine.execFanSpinupRetry dt f s
  | .bootDowelRetry dt => Sys2Proof.Machine.execBootDowelRetry dt s
  | .vddAoValid dt => Sys2Proof.Machine.execVddAoValid dt s

end Sys2Proof.Machine
end

