-- ==== Sys2Proof/Safety.lean ====
section
/-! DEFINITION. What counts as a safe run, in the terms that claims use. -/

namespace Sys2Proof.Machine

/-- A command that completes: it answers a next state, neither a fault nor a refusal. -/
def Completes (c : Instr) (s : State) : Prop := ∃ t, exec c s = .next t

/-- The reported power state follows what is enabled and resident (R440), wherever the runtime has reached READY. -/
def Settled (s : State) : Prop := 3 ≤ s.rd .pwrState → s.boot.p120 = true → s.rd .pwrState = reportedState s

/-- No axis is enabled, none drives its pads, and STO_N is driven low. -/
def SafeState (s : State) : Prop :=
  (∀ n, n < 8 → s.rd .axEn n = 0 ∧ (s.ax n).run = false) ∧ s.rd .safArmed = 0 ∧ s.pin.stoN = some false

end Sys2Proof.Machine
end

