-- ==== Sys2Proof/WellFormed.lean ====
section
/-! DEFINITION. Well-formed commands: what no sender can send is refused here, once. An operand whose type already bounds it (a
field's width, an instance number) needs no check. -/

namespace Sys2Proof

/-- A TID has 10 bits (R228). -/
def tidOk (tid : Nat) : Bool := decide (tid < 1024)

/-- A slot of Table FAB-3 that is assigned. -/
def slotOk (slot : Nat) : Bool := decide (slot ≤ 34)

/-- A register offset: an aligned word of a 64 KiB block slot (R5). -/
def wordAligned (off : Nat) : Bool := decide (off < 0x10000) && decide (off % 4 = 0)

/-- A fabric request: a port of Table FAB-4, a TID, a 40-bit address, 1 to 128 bytes, as many bytes as it writes, and rivals that are
ports. -/
def Machine.FabIn.ok (f : Machine.FabIn) : Bool :=
  decide (f.port ≤ 22) && f.rivals.all (fun p => decide (p ≤ 22)) && tidOk f.tid && decide (f.addr < 2 ^ 40) && decide (1 ≤ f.len) && decide (f.len ≤ 128) &&
    match f.data with
    | some l => decide (l.length = f.len)
    | none => true

/-- A memory request of the host: within one 4 KiB page, and as many bytes as it writes. -/
def Machine.PciAcc.ok (x : Machine.PciAcc) : Bool :=
  decide (x.bar ≤ 5) && decide (1 ≤ x.len) && decide (x.off % 4096 + x.len ≤ 4096) && (!x.wr || decide (x.data.length = x.len))

/-- Data bytes of a DLC (R324). -/
def dlcLen (fd : Bool) (dlc : Nat) : Nat :=
  if dlc ≤ 8 then dlc else if fd then [12, 16, 20, 24, 32, 48, 64].getD (dlc - 9) 64 else 8

/-- A CAN frame: an identifier of its width, a 4-bit DLC, and the data of that DLC. -/
def Machine.CanFrame.ok (f : Machine.CanFrame) : Bool :=
  decide (f.id < if f.ide then 2 ^ 29 else 2 ^ 11) && decide (f.dlc < 16) && !(f.fd && f.rmt) &&
    decide (f.data.length = if f.rmt then 0 else dlcLen f.fd f.dlc)

/-- An Ethernet frame: field widths. -/
def Machine.EthFrame.ok (f : Machine.EthFrame) : Bool :=
  decide (f.dst < 2 ^ 48) && decide (f.src < 2 ^ 48) && decide (f.pcp < 8) && decide (f.vid < 4096) && decide (f.etype < 65536)

/-- A flit is 64 bytes (R398). -/
def flitOk (l : List Byte) : Bool := decide (l.length = 64)

/-- The operand of a vector instruction: 64 lanes of 32 bits at most. -/
def lanesOk (l : List Nat) : Bool := decide (l.length ≤ 64) && l.all fun x => decide (x < 2 ^ 32)

/-- A virtual address has 48 bits. -/
def vaOk (va : Nat) : Bool := decide (va < 2 ^ 48)

/-- An array descriptor is 64 bytes long at most. -/
def descOk (l : List Byte) : Bool := decide (l.length ≤ 64)

/-- The capture stamp of a frame: seconds in 32 bits, and nanoseconds. -/
def stampOk (t : Machine.GuardStamp) : Bool :=
  match t with
  | .given _ => true
  | .frame sec ns => decide (sec < 2 ^ 32) && decide (ns < 1000000000)

/-- MIT_WCET has 20 bits. -/
def wcetOk (n : Nat) : Bool := decide (n < 2 ^ 20)

/-- Is a command well formed? -/
def Instr.wellFormed (i : Instr) : Bool :=
  match i with
  | .registerWrite _ tid slot off _ _ => tidOk tid && slotOk slot && wordAligned off
  | .lockSet _ slot => slotOk slot
  | .heldRecordsFlush _ => true
  | .baseTick _ => true
  | .axisTick _ _ _ => true
  | .sampleDelivery _ _ => true
  | .mitreInvocationStart _ _ => true
  | .mitreInvocationStop _ _ => true
  | .mitreCommit _ tid _ _ => tidOk tid
  | .ceLatch _ _ => true
  | .ceIssue _ _ _ => true
  | .ceShadowComplete _ _ => true
  | .endOfPeriodCheck _ _ _ => true
  | .pstClrCnt _ => true
  | .epochArm _ tid _ => tidOk tid
  | .epochMove _ => true
  | .lsxPresenceJudge _ _ => true
  | .qualWindowEnd _ _ => true
  | .qualRetry _ => true
  | .pllLock _ => true
  | .clkmonWindowEnd _ _ => true
  | .pllLockLoss _ => true
  | .lsxLost _ => true
  | .ckgEnWrite _ tid _ => tidOk tid
  | .clockGateOff _ _ => true
  | .fmtrStart _ tid _ => tidOk tid
  | .fmtrDone _ _ => true
  | .dtimeIncWrite _ _ => true
  | .dtimeAdj _ tid _ => tidOk tid
  | .dtimeNsecRead _ => true
  | .tbCfgWrite _ tid _ => tidOk tid
  | .tbCfgApply _ => true
  | .axnTbWrite _ tid _ _ => tidOk tid
  | .axEnableWrite _ tid _ => tidOk tid
  | .axDisableWrite _ _ => true
  | .axCtrlCfgWrite _ tid _ _ => tidOk tid
  | .guardPublish _ _ t => stampOk t
  | .estopRecognised _ => true
  | .tripRecognised _ _ => true
  | .overcurrentTrip _ _ _ => true
  | .mioTripClear _ _ _ _ _ => true
  | .encEdge _ _ _ _ => true
  | .encZEdge _ _ => true
  | .encCprWrite _ tid _ _ => tidOk tid
  | .ssiFrameStart _ _ _ => true
  | .ssiFrameEnd _ _ _ _ => true
  | .pulseEdge _ _ _ _ => true
  | .adcSlot _ => true
  | .adcConversionDone _ _ => true
  | .mitreLoaded _ tid _ _ _ => tidOk tid
  | .mitreArmRequest _ tid _ => tidOk tid
  | .mitreDisarm _ _ => true
  | .mitreUnload _ _ => true
  | .mitreModelLoad _ _ _ ls wcet _ => wcetOk wcet && ls.mitreOps
  | .mitreMissLimit _ _ => true
  | .camLinePacket _ _ _ _ _ _ _ _ => true
  | .camFrameStart _ _ _ _ => true
  | .camFrameEnd _ _ _ => true
  | .camCommit _ tid _ _ => tidOk tid
  | .camAppliedPop _ _ => true
  | .scqEntry _ tid _ _ => tidOk tid
  | .scqSubmit _ tid _ _ => tidOk tid
  | .scqWriteAck _ _ => true
  | .scqWriteNack _ _ => true
  | .tdmFrame _ _ _ _ => true
  | .yarDictLoad _ tid _ => tidOk tid
  | .yarQSubmit _ tid _ _ => tidOk tid
  | .yarJobStart _ _ => true
  | .yarJobDone _ _ => true
  | .ppuQSubmit _ tid _ _ => tidOk tid
  | .ppuJobStart _ _ _ _ => true
  | .ppuJobDone _ _ => true
  | .iposWrite _ _ _ => true
  | .tenArrayOp _ _ _ x => descOk x.desc
  | .tenVectorOp _ _ _ _ _ a b e => lanesOk a && lanesOk b && lanesOk e
  | .tcRestart _ _ => true
  | .tcSrSeedWrite _ _ _ => true
  | .tcSrSeedLoad _ _ => true
  | .cnvQSubmit _ tid _ _ => tidOk tid
  | .cnvJobStart _ _ => true
  | .cnvJobDone _ _ _ => true
  | .embQSubmit _ tid _ _ => tidOk tid
  | .embJobStart _ _ => true
  | .embJobDone _ _ _ => true
  | .embRowLockGrant _ _ => true
  | .embRowWriteAck _ _ _ => true
  | .embSrSeedWrite _ _ _ => true
  | .spmAccessGrant _ _ _ => true
  | .spmAccessComplete _ _ _ => true
  | .spmEccWriteback _ _ => true
  | .spmNarrowStarve _ tid _ port => tidOk tid && decide (port ≤ 22)
  | .spmInit _ tid _ => tidOk tid
  | .spmCntClr _ => true
  | .poolEnable _ tid _ => tidOk tid
  | .poolDisable _ tid _ => tidOk tid
  | .bpuAlloc _ tid _ => tidOk tid
  | .bpuFree _ tid _ _ => tidOk tid
  | .bpuGive _ tid _ _ _ => tidOk tid
  | .bpuReclaim _ _ => true
  | .bpuReclaimDone _ => true
  | .fabricRequest _ f _ _ _ _ => f.ok
  | .fabricTimeout _ _ => true
  | .fabricLateResponse _ _ => true
  | .clampCommit _ tid _ _ => tidOk tid
  | .clampCommitActivate _ _ => true
  | .tidRetire _ _ => true
  | .memcScrubRead _ _ => true
  | .memcMr4Poll _ _ _ => true
  | .memcCntClr _ => true
  | .mmuWalkComplete _ _ _ va _ => vaOk va
  | .mmuXlate _ _ => true
  | .mmuResume _ _ => true
  | .mmuRetry _ _ => true
  | .mmuInvalidate _ tid _ => tidOk tid
  | .mmuInvAck _ _ => true
  | .mmuInvTimeout _ => true
  | .ctxActivate _ tid _ => tidOk tid
  | .ctxResident _ _ => true
  | .ctxRelease _ tid _ => tidOk tid
  | .ctxTerminate _ _ => true
  | .ctxFree _ _ => true
  | .chTailSubmit _ tid _ _ => tidOk tid
  | .taskDispatch _ _ => true
  | .taskComplete _ _ _ => true
  | .taskOverrun _ _ _ _ => true
  | .chResume _ _ => true
  | .chFlush _ _ => true
  | .modelLoad _ _ _ _ _ _ _ => true
  | .odRequestReceive _ _ => true
  | .odRead _ => true
  | .odWrite _ _ => true
  | .odStore _ => true
  | .odStoreDone _ _ => true
  | .odRestoreDefaults _ => true
  | .processDataForward _ _ _ => true
  | .logReadCursor _ => true
  | .logBlockRead _ => true
  | .logClear _ => true
  | .modeOfOperationWrite _ _ => true
  | .controlwordWrite _ _ _ => true
  | .axisFaultEntry _ _ => true
  | .canFrameReceive _ _ f _ _ => f.ok
  | .canBusError _ _ _ => true
  | .canTxSuccess _ _ _ _ _ => true
  | .canTxRetry _ _ _ => true
  | .canMbSend _ tid _ _ => tidOk tid
  | .canMbAbort _ _ _ _ => true
  | .canQueueRelease _ tid _ _ _ => tidOk tid
  | .canBoffRecover _ _ => true
  | .canBoffRecovered _ _ => true
  | .canRomApply _ _ => true
  | .canBoffAutoRecover _ => true
  | .nmtCommand _ => true
  | .sdoRequest _ _ => true
  | .sdoTimeout _ => true
  | .tpdoEventTimer _ _ => true
  | .hbConsumerTimeout _ _ => true
  | .ethFrameReceive _ _ f => f.ok
  | .ethLinkChange _ _ _ _ => true
  | .gptpSync _ _ _ _ => true
  | .gptpSyncTimeout _ => true
  | .tasGateEvent _ _ => true
  | .ethFrameTransmit _ _ => true
  | .tasGo _ tid _ _ => tidOk tid
  | .tasListActivate _ _ => true
  | .vdpRead _ => true
  | .vdpWrite _ => true
  | .vdpAuthWrite _ => true
  | .vdpBlockRead _ => true
  | .vdpSubscribe _ => true
  | .vdpCyclicWrite _ => true
  | .vdpCyclicPublish _ _ => true
  | .vdpCycTimeout _ _ => true
  | .vdpEventPush _ _ => true
  | .vdpSessionLapse _ => true
  | .authWrite _ _ => true
  | .authCounterFlashDone _ _ _ => true
  | .stagingReset _ => true
  | .stagingChunk _ => true
  | .pcieConfigRequest _ _ _ => true
  | .pcieInboundAccess _ x _ _ => x.ok
  | .hostEnable _ => true
  | .hostDisable _ => true
  | .pcieSqDoorbell _ _ _ => true
  | .pcieCqDoorbell _ _ _ => true
  | .pcieSqFetch _ _ _ => true
  | .createQp _ _ tid => tidOk tid
  | .deleteQp _ => true
  | .pcieOdRead _ _ => true
  | .pcieOdWrite _ _ _ => true
  | .pcieOdBlockRead _ _ => true
  | .molMemAlloc _ _ _ _ => true
  | .molMemFree _ _ _ _ => true
  | .molModelLoad _ _ _ => true
  | .molModelUnload _ _ _ => true
  | .molInvoke _ _ _ _ _ => true
  | .molPrefetch _ _ va _ _ _ _ => vaOk va
  | .molAdvise _ _ va _ _ => vaOk va
  | .molBarMap _ _ _ _ _ _ => true
  | .molBarUnmap _ _ _ => true
  | .cqCoalesceSignal _ _ => true
  | .logMsixSignal _ => true
  | .hostNoteClear _ _ _ => true
  | .pcieFlr _ => true
  | .pcieReset _ _ => true
  | .pcieD3hot _ => true
  | .pcieD0Return _ => true
  | .dwlFlitReceive _ _ l _ => flitOk l
  | .dwlReplayTimeout _ _ => true
  | .dwlRetrain _ _ _ => true
  | .dwlTrainingDone _ _ _ _ => true
  | .dwlTrainRetry _ _ => true
  | .dwlHello _ _ => true
  | .dwlVerdict _ => true
  | .dwlMemWr _ _ _ => true
  | .dwlMemRd _ _ _ => true
  | .dwlTask _ => true
  | .dwlSync _ => true
  | .dwlTimeRequest _ => true
  | .dwlTimeAnswer _ => true
  | .dwlMirror _ => true
  | .asmHelloTimer _ => true
  | .asmTimeTimer _ => true
  | .asmFormed _ => true
  | .asmWorkerLost _ _ => true
  | .asmManagerLost _ => true
  | .asmForward _ => true
  | .asmForwardTimeout _ => true
  | .peerFailRecognised _ _ => true
  | .aliveWindowEnd _ _ => true
  | .peerActiveFall _ _ => true
  | .pairMirrorStale _ => true
  | .pairHandoverTick _ => true
  | .pwrDomainRequest _ tid _ => tidOk tid
  | .pwrDomainSwitched _ _ => true
  | .pwrStateRequest _ _ => true
  | .pwrWake _ _ => true
  | .pwrAlarmWake _ => true
  | .thmRecoveryWake _ => true
  | .avsMonitor _ _ _ => true
  | .avsLimit _ => true
  | .thmConversion _ _ => true
  | .thmCrit _ => true
  | .throttleWindow _ _ => true
  | .pwrCapUnmet _ => true
  | .fanEnable _ _ => true
  | .fanTachEdge _ _ => true
  | .fanSpinupTimeout _ _ => true
  | .fanTachLost _ _ => true
  | .fanRecovered _ _ => true
  | .powerOnReset _ _ => true
  | .t0Release _ => true
  | .strapLatch _ _ => true
  | .bootSifVerified _ _ _ => true
  | .bootCanRom _ => true
  | .bootCeReady _ _ => true
  | .dramTrainingDone _ _ => true
  | .bootRuntimeVerified _ _ _ => true
  | .bootRuntimeStart _ => true
  | .bootDowelTraining _ => true
  | .bootDictReady _ => true
  | .pcieReadyFallback _ => true
  | .bootMbGo _ => true
  | .bootDowelTimeout _ => true
  | .warmReset _ _ _ => true
  | .partialReset _ tid _ => tidOk tid
  | .programControl _ => true
  | .otpWrite _ _ => true
  | .safeStateRestart _ => true
  | .safRestartDone _ => true
  | .safRestartTimeout _ => true
  | .safDisarm _ => true
  | .safStoReadback _ _ => true
  | .ss1Request _ _ => true
  | .ss1Expire _ => true
  | .wdgKick _ _ => true
  | .wdgWindowEnd _ => true
  | .islandFault _ _ => true
  | .safClampCrcCheck _ _ => true
  | .spmInitDone _ _ => true
  | .bootMbChunkCopied _ => true
  | .heartbeatProducerTimer _ => true
  | .pcieLinkUp _ _ _ => true
  | .perstNRelease _ => true
  | .pciePmeTurnOff _ => true
  | .pcieFlrComplete _ => true
  | .fanSpinupRetry _ _ => true
  | .bootDowelRetry _ => true
  | .vddAoValid _ => true

end Sys2Proof
end

