-- ==== Sys2Proof/Certificates/Slice0/Obligations.lean ====
section
/-! DEFINITION. The statements about the part. `u` is the state once the time before the command has passed, and `settle` brings
the reported power state up to date after it (R440): a clause of the form `exec c s = .next (settle t)` says that the command
completes, what it does, and that it changes nothing else. -/

open Sys2Proof Sys2Proof.Machine

/-- Between T0 and the PLL lock, the presence judgement at T0 + 2 ms starts the primary attempt, or the fall-back without a crystal; a fourth good window in a row passes and records the reference and the failures; a window after which as many good ones as are missing, each as long as it, no longer fit into the run fails the attempt, and the next attempt begins at once or, after a fall-back, 100 ms later; any other window only moves the count; a retry starts a round; a lost crystal moves the timekeeping to the RC and raises EVT_CLK_LSX_ABSENT with ARG 1. Where the spec is silent it states the model's own choices and readings of log entry 1. (R39, R40, R41, R45) -/
def Obligations.ReferenceQualification : Prop :=
    (∀ (dt : Nat) (reg : Bool) (s u : State), u = elapse dt s →
      startingUp u = true →
      u.clk.qual = .idle →
      u.now = u.clk.t0 + 2 * rootPerMs →
      exec (.lsxPresenceJudge dt reg) s = .next (settle (if reg then
          { u.wr .ckgLsxPresent 1 with clk := { u.clk with lsxOk := true, qual := .primary, qualGood := 0, winFrom := u.now, qualEnd := u.now + 10 * rootPerMs } }
        else
          { u.wr .ckgLsxPresent 0 with
            clk := { u.clk with lsxOk := false, onRc := true, qual := .fallback, qualGood := 0, winFrom := u.now, qualEnd := u.now + 10 * rootPerMs } }))) ∧
    (∀ (dt : Nat) (count : Nat) (a : QualAttempt) (s u : State), u = elapse dt s →
      u.clk.qual = a →
      a = .primary ∨ a = .fallback →
      qualOk a count = true →
      u.clk.qualGood = 3 →
      u.now ≤ u.clk.qualEnd →
      exec (.qualWindowEnd dt count) s = .next (settle (passQual { u.wr .ckgQualLastCnt (min count 65535) with clk := { u.clk with qualGood := 4, winFrom := u.now } }))) ∧
    (∀ (dt : Nat) (count : Nat) (g : Nat) (s u : State), u = elapse dt s →
      u.clk.qual = .primary →
      (g = (if qualOk .primary count then u.clk.qualGood + 1 else 0)) →
      u.clk.qualEnd < u.now + (4 - g) * (u.now - u.clk.winFrom) →
      exec (.qualWindowEnd dt count) s = .next (settle ({ u.wr .ckgQualLastCnt (min count 65535) with
          clk := { u.clk with qual := .fallback, qualGood := 0, winFrom := u.now, qualFails := u.clk.qualFails + 1, qualEnd := u.now + 10 * rootPerMs } }))) ∧
    (∀ (dt : Nat) (count : Nat) (g : Nat) (s u : State), u = elapse dt s →
      u.clk.qual = .fallback →
      (g = (if qualOk .fallback count then u.clk.qualGood + 1 else 0)) →
      u.clk.qualEnd < u.now + (4 - g) * (u.now - u.clk.winFrom) →
      exec (.qualWindowEnd dt count) s = .next (settle ({ u.wr .ckgQualLastCnt (min count 65535) with
          clk := { u.clk with qual := .waiting, qualGood := g, winFrom := u.now, qualFails := u.clk.qualFails + 1, qualRetried := true, qualEnd := u.now + 100 * rootPerMs } }))) ∧
    (∀ (dt : Nat) (count : Nat) (a : QualAttempt) (g : Nat) (s u : State), u = elapse dt s →
      u.clk.qual = a →
      a = .primary ∨ a = .fallback →
      (g = (if qualOk a count then u.clk.qualGood + 1 else 0)) →
      g ≠ 4 →
      u.now + (4 - g) * (u.now - u.clk.winFrom) ≤ u.clk.qualEnd →
      exec (.qualWindowEnd dt count) s = .next (settle ({ u.wr .ckgQualLastCnt (min count 65535) with clk := { u.clk with qualGood := g, winFrom := u.now } }))) ∧
    (∀ (dt : Nat) (s u : State), u = elapse dt s →
      u.clk.qual = .waiting →
      u.now = u.clk.qualEnd →
      exec (.qualRetry dt) s = .next (settle (startRound u))) ∧
    (∀ (dt : Nat) (s u : State), u = elapse dt s →
      u.clk.lsxOk = true →
      exec (.lsxLost dt) s = .next (settle (raise .clkLsxAbsent 0 1 ({ u with clk := { u.clk with lsxOk := false, onRc := true } }.wr .ckgLsxLost 1))))

/-- When the PLL locks after qualification, DTIME is loaded with Veneer time, the lock instant is the epoch, and the ROM starts (or, in a wake, the domains of the wake begin to switch on); the held records enter the log in order before any later one; a monitor window inside its limits, or the first outside them, is only recorded; the second bad window in a row and a loss of lock are clock faults. Where the spec is silent it states the model's own choices and readings of log entries 10, 29. (R36, R42, R43, R44, R54, R513) -/
def Obligations.PllLockAndMonitor : Prop :=
    (∀ (dt : Nat) (s u : State), u = elapse dt s →
      u.clk.qual = .passed →
      u.clk.up = false →
      u.boot.run = true →
      u.pwr.waking = false →
      exec (.pllLock dt) s = .next (settle (romStart ({ u with
          clk := { u.clk with up := true, epoch := u.now, sec := u.clk.vticks / 32768, ns := u.clk.vticks % 32768 * 1000000000 / 32768, frac := 0,
                              base := u.rd .tbBase, basePend := none, monBad := false },
          loop := { u.loop with baseTick := 0, adc := .init } }.wr .ckgPllLock 1)))) ∧
    (∀ (dt : Nat) (s u : State), u = elapse dt s →
      u.clk.qual = .passed →
      u.clk.up = false →
      u.boot.run = true →
      u.pwr.waking = true →
      exec (.pllLock dt) s = .next (settle (wakeSwitch (lockPll u)))) ∧
    (∀ (dt : Nat) (l : LogSt) (s u : State), u = elapse dt s →
      u.log.run = false →
      u.clk.up = true →
      u.domOn 1 = true →
      (l = (heldSorted u.log.held).foldl (fun l r => l.enterAll r) { u.log with run := true, held := [] }) →
      exec (.heldRecordsFlush dt) s = .next (settle (countLost u.log.lost ({ u with log := l }.wr .hostEvseq l.next)))) ∧
    (∀ (dt : Nat) (count : Nat) (s u : State), u = elapse dt s →
      u.clk.up = true →
      u.domOn 1 = true →
      (21074 ≤ count ∧ count ≤ 21934) ∨ u.clk.monBad = false →
      exec (.clkmonWindowEnd dt count) s = .next (settle ({ u.wr .ckgMonLast (min count 65535) with clk := { u.clk with monBad := decide (count < 21074 ∨ 21934 < count) } }))) ∧
    (∀ (dt : Nat) (count : Nat) (s u : State), u = elapse dt s →
      u.clk.up = true →
      u.domOn 1 = true →
      count < 21074 ∨ 21934 < count →
      u.clk.monBad = true →
      exec (.clkmonWindowEnd dt count) s = .next (settle (clockFault 2 (u.wr .ckgMonLast (min count 65535))))) ∧
    (∀ (dt : Nat) (s u : State), u = elapse dt s →
      u.clk.up = true →
      u.domOn 1 = true →
      exec (.pllLockLoss dt) s = .next (settle (clockFault 1 u)))

/-- A write of CKG_EN takes every bit but the zeros of R48, which keep their value and raise EVT_CLK_CFG_REJECT; clocks that are selected run at once where their domain is on; a clock whose bit is 0 stops once the block is idle; an NREF of 0 is discarded with EVT_CLK_CFG_REJECT and the other fields are taken; a write with START while a measurement is pending is ignored; the meter starts otherwise, and ends, once NREF cycles of its reference have passed, with the prescaled count, or with OVR and a count without a meaning (a free value, log entry 3). Where the spec is silent it states the model's own choices and readings of log entries 3, 46. (R46, R48, R49) -/
def Obligations.ClockGatingAndMeter : Prop :=
    (∀ (dt : Nat) (tid : Nat) (v : Word) (s u : State), u = elapse dt s →
      (∀ b : Nat, b < 21 → bitOf v.toNat b = false → gateHeld u b = false) →
      exec (.ckgEnWrite dt tid v) s = .next (settle (foldN 21 gateOn (u.wr .ckgEn (v.toNat % 2 ^ 21))))) ∧
    (∀ (dt : Nat) (tid : Nat) (v : Word) (held : List Nat) (s u : State), u = elapse dt s →
      (held = whichOf 21 (fun b => !(bitOf v.toNat b) && gateHeld u b)) →
      held ≠ [] →
      exec (.ckgEnWrite dt tid v) s = .next (settle (raise .clkCfgReject tid 0x008
          (foldN 21 gateOn (u.wr .ckgEn (held.foldl (fun w b => setBit w b (u.rdBit .ckgEn b)) (v.toNat % 2 ^ 21))))))) ∧
    (∀ (dt : Nat) (bit : Fin 21) (s u : State), u = elapse dt s →
      u.clockOn bit = true →
      u.rdBit .ckgEn bit = false →
      blockWaits u bit = false →
      exec (.clockGateOff dt bit) s = .next (settle (stopClock bit u))) ∧
    (∀ (dt : Nat) (tid : Nat) (v : Word) (s u : State), u = elapse dt s →
      bitOf v.toNat 8 = true →
      u.clk.fmtr ≠ none →
      exec (.fmtrStart dt tid v) s = .next (settle u)) ∧
    (∀ (dt : Nat) (tid : Nat) (v : Word) (t : State) (s u : State), u = elapse dt s →
      bitsOf v.toNat 12 20 ≠ 0 →
      bitOf v.toNat 8 = false ∨ u.clk.fmtr = none →
      t = (((((u.wr .fmtrSrc v.toNat).wr .fmtrRef (bitsOf v.toNat 4 1)).wr .fmtrPre (bitsOf v.toNat 5 3)).wr .fmtrPort (bitsOf v.toNat 10 2)).wr
        .fmtrNref (bitsOf v.toNat 12 20)) →
      exec (.fmtrStart dt tid v) s = .next (settle (if bitOf v.toNat 8 = true then
          { t with clk := { t.clk with fmtr := some ⟨u.now, t.rd .fmtrSrc, t.rd .fmtrRef, t.rd .fmtrPre, t.rd .fmtrNref⟩ } }.wr .fmtrStart 1
        else t))) ∧
    (∀ (dt : Nat) (tid : Nat) (v : Word) (t : State) (s u : State), u = elapse dt s →
      bitsOf v.toNat 12 20 = 0 →
      bitOf v.toNat 8 = false ∨ u.clk.fmtr = none →
      t = raise .clkCfgReject tid 0x020 ((((u.wr .fmtrSrc v.toNat).wr .fmtrRef (bitsOf v.toNat 4 1)).wr .fmtrPre (bitsOf v.toNat 5 3)).wr .fmtrPort (bitsOf v.toNat 10 2)) →
      exec (.fmtrStart dt tid v) s = .next (settle (if bitOf v.toNat 8 = true then
          { t with clk := { t.clk with fmtr := some ⟨u.now, t.rd .fmtrSrc, t.rd .fmtrRef, t.rd .fmtrPre, t.rd .fmtrNref⟩ } }.wr .fmtrStart 1
        else t))) ∧
    (∀ (dt : Nat) (edges : Nat) (r : FmtrRun) (s u : State), u = elapse dt s →
      u.clk.fmtr = some r →
      (r.start + r.nref * (if r.ref = 0 then 336 else 420) ≤ u.now) →
      (edges / 2 ^ r.pre * (if r.ref = 0 then 25000000 else 20000000) ≤ 525000000 * r.nref) →
      exec (.fmtrDone dt edges) s = .next (settle ((({ u with clk := { u.clk with fmtr := none } }.wr .fmtrStart 0).wr .fmtrOvr 0).wr .fmtrCnt (edges / 2 ^ r.pre)))) ∧
    (∀ (dt : Nat) (edges : Nat) (r : FmtrRun) (s u : State), u = elapse dt s →
      u.clk.fmtr = some r →
      (r.start + r.nref * (if r.ref = 0 then 336 else 420) ≤ u.now) →
      (525000000 * r.nref < edges / 2 ^ r.pre * (if r.ref = 0 then 25000000 else 20000000)) →
      exec (.fmtrDone dt edges) s = .next (settle ((({ u with clk := { u.clk with fmtr := none }, freeCtr := u.freeCtr + 1 }.wr .fmtrStart 0).wr .fmtrOvr 1).wr .fmtrCnt
          (Config.free u.freeCtr).toNat)))

/-- A write of DTIME_INC_INT makes both parts of the increment wait for the next CECLK; a step of magnitude below 10^9 ns waits for the next CECLK, and one at or above it is discarded with EVT_CLK_CFG_REJECT; a read of DTIME_NSEC latches the seconds of the same instant. Where the spec is silent it states the model's own choices and readings of log entry 1. (R51, R52, R53) -/
def Obligations.DeviceTime : Prop :=
    (∀ (dt : Nat) (v : Word) (t : State) (s u : State), u = elapse dt s →
      t = u.wr .dtimeIncInt v.toNat →
      exec (.dtimeIncWrite dt v) s = .next (settle ({ t with clk := { t.clk with incPend := some (t.rd .dtimeIncInt * 2 ^ 32 + t.rd .dtimeIncFrac) } }))) ∧
    (∀ (dt : Nat) (tid : Nat) (v : Word) (s u : State), u = elapse dt s →
      -1000000000 < s32 v.toNat →
      s32 v.toNat < 1000000000 →
      exec (.dtimeAdj dt tid v) s = .next (settle ({ u with clk := { u.clk with adj := s32 v.toNat } }))) ∧
    (∀ (dt : Nat) (tid : Nat) (v : Word) (s u : State), u = elapse dt s →
      s32 v.toNat ≤ -1000000000 ∨ 1000000000 ≤ s32 v.toNat →
      exec (.dtimeAdj dt tid v) s = .next (settle (raise .clkCfgReject tid 0x074 u))) ∧
    (∀ (dt : Nat) (s u : State), u = elapse dt s →
      exec (.dtimeNsecRead dt) s = .next (settle (((u.wr .dtimeNsec u.clk.ns).wr .dtimeSecLo u.clk.sec).wr .dtimeSecHi (u.clk.sec / 2 ^ 32))))

/-- Arming captures the target while every axis is disabled and is discarded as a whole, with EVT_CLK_CFG_REJECT, otherwise; the move takes place at the first coincidence point after the arming at which DTIME has reached the target; TB_CFG is taken when nothing is enabled or ARMED and every phase fits, and applies at the first coincidence point after the write; AXn_TB is taken field by field while its axis is disabled and its slot not ARMED. Where the spec is silent it states the model's own choices and readings of log entries 16, 46. (R37, R56, R57, R103) -/
def Obligations.EpochAndGrid : Prop :=
    (∀ (dt : Nat) (tid : Nat) (v : Word) (t : State) (s u : State), u = elapse dt s →
      bitOf v.toNat 31 = true →
      u.anyEnabled = false →
      t = (u.wr .epochSecHi v.toNat).wr .epochArm 1 →
      exec (.epochArm dt tid v) s = .next (settle ({ t with clk := { t.clk with epochTgt := some ((t.rd .epochSecHi * 2 ^ 32 + t.rd .epochSecLo) * 1000000000 + t.rd .epochNsec), armedAt := u.now } }))) ∧
    (∀ (dt : Nat) (tid : Nat) (v : Word) (s u : State), u = elapse dt s →
      bitOf v.toNat 31 = true →
      u.anyEnabled = true →
      exec (.epochArm dt tid v) s = .next (settle (raise .clkCfgReject tid 0x080 u))) ∧
    (∀ (dt : Nat) (tid : Nat) (v : Word) (s u : State), u = elapse dt s →
      bitOf v.toNat 31 = false →
      exec (.epochArm dt tid v) s = .next (settle (u.wr .epochSecHi v.toNat))) ∧
    (∀ (dt : Nat) (t : Nat) (s u : State), u = elapse dt s →
      u.clk.epochTgt = some t →
      u.onCoin = true →
      u.clk.armedAt < u.now →
      t ≤ u.clk.sec * 1000000000 + u.clk.ns →
      u.now ≤ u.clk.armedAt + rootPerCoin ∨ u.clk.coinTot / dtUnit < t →
      exec (.epochMove dt) s = .next (settle (restartGrid ({ u with clk := { u.clk with epochTgt := none } }.wr .epochArm 0)))) ∧
    (∀ (dt : Nat) (tid : Nat) (v : Word) (s u : State), u = elapse dt s →
      u.anyEnabled = false →
      (∀ n : Nat, n < 8 → u.armed n = false) →
      phasesFit u (v.toNat % 4) = true →
      exec (.tbCfgWrite dt tid v) s = .next (settle ({ u with clk := { u.clk with basePend := some u.now } }.wr .tbBase (v.toNat % 4)))) ∧
    (∀ (dt : Nat) (t : Nat) (s u : State), u = elapse dt s →
      u.clk.basePend = some t →
      u.onCoin = true →
      t < u.now →
      u.now ≤ t + rootPerCoin →
      exec (.tbCfgApply dt) s = .next (settle (restartGrid { u with clk := { u.clk with basePend := none, base := u.rd .tbBase } }))) ∧
    (∀ (dt : Nat) (tid : Nat) (n : Fin 8) (v : Word) (t : State) (s u : State), u = elapse dt s →
      u.enabled n = false →
      u.armed n = false →
      v.toNat % 4 ≠ 3 →
      t = u.wr .axTbPer (v.toNat % 4) n →
      bitsOf v.toNat 8 18 < shortestPer (t.rd .tbBase) (t.rd .axTbPer n) →
      exec (.axnTbWrite dt tid n v) s = .next (settle (let t := t.wr .axTbPhase (bitsOf v.toNat 8 18) n
        t.setAx n { t.ax n with open_ := false }))) ∧
    (∀ (dt : Nat) (tid : Nat) (n : Fin 8) (v : Word) (s u : State), u = elapse dt s →
      u.enabled n = true ∨ u.armed n = true →
      exec (.axnTbWrite dt tid n v) s = .next (settle (raise .clkCfgReject tid (0x040 + 4 * n) u)))

/-- At its tick, while the clock of the CE runs, an axis carries its bridges over, lets an enable or disable that waits take effect, loads the shadows and latches the samples while the clock of the motor I/O runs, lets the Mitre slot change and opens the period; at t = 353 the latched samples reach the CE input bank and the current streams; at t_commit the CE latches the mailbox, and the axis where it runs; a latched axis issues at t_commit or at the first free CECLK after it when no axis of a lower number waits; 252 CECLK later its duties stand in the shadows, and a write that completes in the CECLK of a tick loads at the following one. Where the spec is silent it states the model's own choices and readings of log entry 16. (R20, R21, R55, R59, R74, R76, R424, R482) -/
def Obligations.AxisPeriodPoints : Prop :=
    (∀ (dt : Nat) (n : Fin 8) (sd : List (List (Option Bool))) (i per : Nat) (t : State) (s u : State), u = elapse dt s →
      u.tickNow n = some i →
      per = periodLen u n i →
      t = tickTakeover n (enableTick n per (carryHb n u)) →
      exec (.axisTick dt n sd) s = .next (settle (keepLatch n i (openPeriod n i per (mitreTick n (motorTick n per sd t)))))) ∧
    (∀ (dt : Nat) (n : Fin 8) (s u : State), u = elapse dt s →
      u.onCeEdge = true →
      u.mioOn = true →
      (u.ax n).delivered = false →
      u.now = (u.ax n).tickAt + 353 * rootPerCe →
      exec (.sampleDelivery dt n) s = .next (settle (deliverCurrents n (u.setAx n { u.ax n with bank := (u.ax n).smp, delivered := true })))) ∧
    (∀ (dt : Nat) (n : Fin 8) (s u : State), u = elapse dt s →
      atCommit u n = true →
      (u.ax n).lat = none →
      (u.ax n).run = true →
      (u.ax n).stopped = false →
      exec (.ceLatch dt n) s = .next (settle (latchMailbox n (latchAxis n u)))) ∧
    (∀ (dt : Nat) (n : Fin 8) (s u : State), u = elapse dt s →
      atCommit u n = true →
      (u.ax n).lat = none →
      (u.ax n).run = false →
      exec (.ceLatch dt n) s = .next (settle (latchMailbox n (preRollLatch n u)))) ∧
    (∀ (dt : Nat) (n : Fin 8) (ecc : Bool) (l : CeLat) (s u : State), u = elapse dt s →
      (u.ax n).lat = some l →
      issueDue u n = true →
      exec (.ceIssue dt n ecc) s = .next (settle (if ecc then ceFault n false u else issueAxis n l u))) ∧
    (∀ (dt : Nat) (n : Fin 8) (b : Nat) (l : CeLat) (a : CeAxis) (s u : State), u = elapse dt s →
      a = u.ax n →
      a.issuedAt = some b →
      a.lat = some l →
      u.now = b + 252 * rootPerCe →
      exec (.ceShadowComplete dt n) s = .next (settle ((((u.wrS .pwmSh a.duty.1 n 0).wrS .pwmSh a.duty.2.1 n 1).wrS .pwmSh a.duty.2.2 n 2).setAx n
         { a with lat := none, issuedAt := none, shOld := some (u.now, u.rdS .pwmSh n 0, u.rdS .pwmSh n 1, u.rdS .pwmSh n 2),
                  ceT := (if a.tickAt ≤ b then some (u.ceT n) else a.ceT), mirIdx := l.idx,
                  mir := [u.rd .axIntD n, u.rd .axIntQ n, u.rd .axIntS n, u.rd .axRefSrc n, u.rd .axRefEff n, a.ffrac, u32 a.dincPrev,
                          u32 a.posPrevS, u32 l.smp.pos, u32 a.rem, u32 a.y] }))) ∧
    (∀ (dt : Nat) (j : Nat) (s u : State), u = elapse dt s →
      u.baseNow = some j →
      u.loop.baseTick ≤ j →
      u.pair.on = false →
      exec (.baseTick dt) s = .next (settle ({ u with loop := { u.loop with baseTick := j + 1, alive := if u.pin.aliveOn then !u.loop.alive else u.loop.alive } }))) ∧
    (∀ (dt : Nat) (j : Nat) (t : State) (s u : State), u = elapse dt s →
      u.baseNow = some j →
      u.loop.baseTick ≤ j →
      u.pair.on = true →
      (t = { u with loop := { u.loop with baseTick := j + 1, alive := if u.pin.aliveOn then !u.loop.alive else u.loop.alive } }.bump .pairMirrorAge 1) →
      exec (.baseTick dt) s = .next (settle (if t.rd .pairRole = 1 then mirrorOut j t else t)))

/-- At period end the PST registers of the axis take the period, the enables and the times, and a read in that CECLK still sees those before; a completion of the CE that does not stand before period end is reported with EVT_PST_CE_MISS, a Mitre miss with EVT_PST_MITRE_MISS, a clean period with neither, and the CE faults of R482 follow; an axis that hardware stopped earlier in the period is not tested, and its PST registers stay as they are (the model's choice, log entry 16); CLR_CNT waits for the next CECLK. Where the spec is silent it states the model's own choices and readings of log entries 10, 11. (R20, R27, R33, R34, R114, R482) -/
def Obligations.EndOfPeriod : Prop :=
    (∀ (dt : Nat) (n : Fin 8) (f : CeFaultIn) (a : CeAxis) (m : MitSlot) (t : State) (s u : State), u = elapse dt s →
      atPeriodEnd u n = true →
      a = u.ax n →
      m = u.slot n →
      a.ranAtTick = true →
      a.stopped = false ∨ u.now ≤ a.stopAt →
      t = keepPst n (u.setAx n { a with open_ := false }) →
      exec (.endOfPeriodCheck dt n f) s = .next (settle (let miss := m.armedAtTick && m.commit.isNone
        let t := (pstUpdate n m.armedAtTick true (if m.armedAtTick then countSlot n miss t else t)).setSlot n { m with prevOk := m.commit.isSome }
        let t := pstOutcome n miss (!ceInTime a) m.late t
        match f with
        | .none => t
        | .sramEcc => ceFault n false t
        | .shadowCrc => ceFault n true t))) ∧
    (∀ (dt : Nat) (n : Fin 8) (f : CeFaultIn) (a : CeAxis) (m : MitSlot) (t : State) (s u : State), u = elapse dt s →
      atPeriodEnd u n = true →
      a = u.ax n →
      m = u.slot n →
      a.ranAtTick = false →
      t = keepPst n (u.setAx n { a with open_ := false }) →
      exec (.endOfPeriodCheck dt n f) s = .next (settle ((pstUpdate n m.armedAtTick false (if m.armedAtTick then countSlot n (m.armedAtTick && m.commit.isNone) t else t)).setSlot n
         { m with prevOk := m.commit.isSome }))) ∧
    (∀ (dt : Nat) (n : Fin 8) (f : CeFaultIn) (a : CeAxis) (m : MitSlot) (t : State) (s u : State), u = elapse dt s →
      atPeriodEnd u n = true →
      a = u.ax n →
      m = u.slot n →
      a.ranAtTick = true →
      a.stopped = true →
      a.stopAt < u.now →
      t = keepPst n (u.setAx n { a with open_ := false }) →
      exec (.endOfPeriodCheck dt n f) s = .next (settle ((if m.armedAtTick then countSlot n (m.armedAtTick && m.commit.isNone) t else t).setSlot n { m with prevOk := m.commit.isSome }))) ∧
    (∀ (dt : Nat) (s u : State), u = elapse dt s →
      exec (.pstClrCnt dt) s = .next (settle ({ u with clk := { u.clk with clrCnt := true } }.wr .pstClrCnt 1)))

/-- EN = 1 is accepted when the axis is armed, without a trip and without ESTOP, and the device may drive its pads, and then waits for the tick; otherwise it is discarded with EVT_CE_CFG_REJECT. EN = 0 waits for the tick of an enabled axis. A write of AX_CTRL takes every field of the word: a combination of mode and source that Table CE-2 allows is taken, another is discarded with the event; EN requests the enable or the disable. A publication takes value and stamp as one unit; the collision context publishes with the earlier of the stamp of the frame and the DTIME of its IPOS, and not while the window is withheld. Where the spec is silent it states the model's own choices and readings of log entry 16. (R60, R68, R71, R151, R512) -/
def Obligations.AxisControlWrites : Prop :=
    (∀ (dt : Nat) (tid : Nat) (n : Fin 8) (s u : State), u = elapse dt s →
      enableOk u n = true →
      exec (.axEnableWrite dt tid n) s = .next (settle ((u.wr .axEn 1 n).setAx n { u.ax n with enPend := if (u.ax n).run then none else some true }))) ∧
    (∀ (dt : Nat) (tid : Nat) (n : Fin 8) (s u : State), u = elapse dt s →
      enableOk u n = false →
      exec (.axEnableWrite dt tid n) s = .next (settle (raise .ceCfgReject tid (0x400 + n * 0x100) u))) ∧
    (∀ (dt : Nat) (n : Fin 8) (s u : State), u = elapse dt s →
      exec (.axDisableWrite dt n) s = .next (settle ((u.wr .axEn 0 n).setAx n { u.ax n with enPend := if (u.ax n).run then some false else none }))) ∧
    (∀ (dt : Nat) (tid : Nat) (n : Fin 8) (v : Word) (w : Nat) (t : State) (s u : State), u = elapse dt s →
      w = v.toNat →
      u.rd .ceLock = 0 →
      srcAllowed (bitsOf w 1 2) (bitsOf w 4 2) = true →
      bitsOf w 4 2 ≠ 2 ∨ u.enabled n = false ∨ u.rd .axAnaEn n = 1 →
      (bitOf w 0 = true → enableOk u n = true) →
      t = (((((u.wr .axMode (bitsOf w 1 2) n).wr .axSpsrc (bitsOf w 4 2) n).wr .axI3 (bitsOf w 6 1) n).wr .axNs (bitsOf w 8 4) n).wr .axNp (bitsOf w 12 4) n).wr .axAnaCh (bitsOf w 16 3) n →
      exec (.axCtrlCfgWrite dt tid n v) s = .next (settle (if bitOf w 0 then axEnableWrite tid n t else requestDisable n t))) ∧
    (∀ (dt : Nat) (tid : Nat) (n : Fin 8) (v : Word) (w : Nat) (t : State) (s u : State), u = elapse dt s →
      w = v.toNat →
      u.rd .ceLock = 0 →
      srcAllowed (bitsOf w 1 2) (bitsOf w 4 2) = false →
      bitOf w 0 = false →
      t = (((u.wr .axI3 (bitsOf w 6 1) n).wr .axNs (bitsOf w 8 4) n).wr .axNp (bitsOf w 12 4) n).wr .axAnaCh (bitsOf w 16 3) n →
      exec (.axCtrlCfgWrite dt tid n v) s = .next (settle (requestDisable n (raise .ceCfgReject tid (0x400 + n * 0x100) t)))) ∧
    (∀ (dt : Nat) (g : Fin 16) (v : Word) (t : State) (s u : State), u = elapse dt s →
      t = u.wr .gdTsS v.toNat g →
      exec (.guardPublish dt g (.given v)) s = .next (settle ({ t with loop := { t.loop with gVal := t.loop.gVal.set g (t.rd .gdVal g), gSec := t.loop.gSec.set g (t.rd .gdTsS g), gNs := t.loop.gNs.set g (t.rd .gdTsNs g) } }.wr .gdPub 1 g))) ∧
    (∀ (dt : Nat) (g : Fin 16) (sec ns : Nat) (s u : State), u = elapse dt s →
      u.comp.look.held = false →
      exec (.guardPublish dt g (.frame sec ns)) s = .next (settle (if sec < u.comp.look.sec ∨ (sec = u.comp.look.sec ∧ ns ≤ u.comp.look.ns) then guardPublish g (BitVec.ofNat 32 sec) (u.wr .gdTsNs ns g)
        else guardPublish g (BitVec.ofNat 32 u.comp.look.sec) (u.wr .gdTsNs u.comp.look.ns g)))) ∧
    (∀ (dt : Nat) (g : Fin 16) (sec ns : Nat) (s u : State), u = elapse dt s →
      u.comp.look.held = true →
      exec (.guardPublish dt g (.frame sec ns)) s = .next (settle u))

/-- A recognised ESTOP stops every axis, takes the armed mask to 0 and raises EVT_MIO_ESTOP; a recognised trip stops its axis and raises EVT_MIO_TRIP; at an edge of the channel's clock an over-current run longer than the count stops the axis of a channel that has not tripped and raises EVT_MIO_OVERCURRENT with the side of the excursion; a latch clears only where its pin is inactive, and an over-current bit only where every filter of its axis lies within its thresholds. Where the spec is silent it states the model's own choices and readings of log entries 11, 46. (R85, R86, R87, R92) -/
def Obligations.TripsAndEstop : Prop :=
    (∀ (dt : Nat) (t : State) (s u : State), u = elapse dt s →
      t = { ((u.wr .mioEstop 1).wr .mioTripInN u.pin.tripN).wr .mioEstopInN 0 with pin := { u.pin with estopN := false, tripN := u.pin.tripN % 256 } } →
      exec (.estopRecognised dt) s = .next (settle (raise .mioEstop 0 0 ((stopAll t).wr .safArmed 0)))) ∧
    (∀ (dt : Nat) (n : Fin 8) (m : Nat) (t : State) (s u : State), u = elapse dt s →
      m = setBit u.pin.tripN n false →
      t = { ((u.wrBit .mioTrip n true).wr .mioTripInN m).wr .mioEstopInN (b2n u.pin.estopN) with pin := { u.pin with tripN := m % 256 } } →
      exec (.tripRecognised dt n) s = .next (settle (raise .mioTrip 0 n (stopAxis n t)))) ∧
    (∀ (dt : Nat) (ch : Fin 24) (bits : List Bool) (vs : List Int) (s u : State), u = elapse dt s →
      vs = ocOf u ch bits →
      sdClkEdge u (u.rd .sdClksel ch) = true →
      u.rd .sdEn ch = 1 →
      u.rd .sdOcEn ch = 1 →
      u.rdBit .mioOc (ch / 3) = false ∨ (u.sdOf ch).tripped = false →
      u.rd .sdOcCnt ch + 1 ≤ ocRun (u.rdS .sdOcHi ch) (u.rdS .sdOcLo ch) vs →
      exec (.overcurrentTrip dt ch bits) s = .next (settle (let t := u.setSd ch { u.sdOf ch with tripped := true }
        raise .mioOvercurrent 0 (ch + b2n (decide (vs.getLast?.getD 0 < u.rdS .sdOcLo ch)) * 32) (stopAxis (ch / 3) (t.wrBit .mioOc (ch / 3) true))))) ∧
    (∀ (dt : Nat) (v : Word) (estopN : Bool) (tripN : BitVec 8) (oc : List (List Bool)) (t : State) (s u : State), u = elapse dt s →
      tripN = 0xFF →
      estopN = true →
      (∀ n : Nat, n < 8 → ocWithin u oc n = true) →
      bitOf v.toNat 16 = true →
      t = { (u.wr .mioTripInN 255).wr .mioEstopInN 1 with pin := { u.pin with estopN := true, tripN := 255 } } →
      exec (.mioTripClear dt v estopN tripN oc) s = .next (settle ((foldN 8 (fun n s => if bitOf v.toNat (8 + n) then clearOc n s else s)
          (foldN 8 (fun n s => if bitOf v.toNat n then s.wrBit .mioTrip n false else s) t)).wr .mioEstop 0))) ∧
    (∀ (dt : Nat) (v : Word) (estopN : Bool) (tripN : BitVec 8) (oc : List (List Bool)) (s u : State), u = elapse dt s →
      estopN = false →
      tripN = 0 →
      (∀ n : Nat, n < 8 → ocWithin u oc n = false) →
      exec (.mioTripClear dt v estopN tripN oc) s = .next (settle ({ (u.wr .mioTripInN 0).wr .mioEstopInN 0 with pin := { u.pin with estopN := false, tripN := 0 } })))

/-- An accepted quadrature edge counts by one in its direction; both levels at once count an error with EVT_MIO_ENC_ERROR; a Z edge latches the position and, where the mode says so, clears the modulo position; ENC_CPR takes any value but 0 outside LOCK; a change is accepted after FILT + 1 equal samples; an SSI frame starts SSI_LEAD before the tick, ends with the sample of its last bit and is good only in time and with even parity; the first good frame sets the position; a pulse port counts by its mode; the ADC walks the enabled channels in ascending order. Where the spec is silent it states the model's own choices and readings of log entry 46. (R93, R94, R95, R96, R98, R99) -/
def Obligations.EncodersAndPulses : Prop :=
    (∀ (dt : Nat) (p : Fin 8) (held : Nat) (a b : Bool) (e : EncPort) (d : Int) (s u : State), u = elapse dt s →
      u.mioOn = true →
      u.rd .encFilt p + 1 ≤ held →
      u.rd .encMode p = 1 →
      e = u.encOf p →
      e.a = a ∨ e.b = b →
      (d = (if u.rd .encDir p = 1 then -quadStep e.a e.b a b else quadStep e.a e.b a b)) →
      exec (.encEdge dt p ⟨a, b⟩ held) s = .next (settle (encAdd p d (u.setEnc p { e with a := a, b := b })))) ∧
    (∀ (dt : Nat) (p : Fin 8) (held : Nat) (a b : Bool) (e : EncPort) (s u : State), u = elapse dt s →
      u.mioOn = true →
      u.rd .encFilt p + 1 ≤ held →
      u.rd .encMode p = 1 →
      e = u.encOf p →
      e.a ≠ a →
      e.b ≠ b →
      exec (.encEdge dt p ⟨a, b⟩ held) s = .next (settle (raise .mioEncError 0 p ((u.setEnc p { e with a := a, b := b }).bump .encQerr 1 p)))) ∧
    (∀ (dt : Nat) (p : Fin 8) (held : Nat) (z : Nat) (t : State) (s u : State), u = elapse dt s →
      u.mioOn = true →
      u.rd .encFilt p + 1 ≤ held →
      u.rd .encMode p = 1 →
      z = u.rd .encZmode p →
      z ≠ 0 →
      t = u.wr .encZpos (u.rd .encPos p) p →
      exec (.encZEdge dt ⟨p, held⟩) s = .next (settle ((if z = 3 ∨ (z = 2 ∧ (u.encOf p).zDone = false) then t.wr .encPosmod 0 p else t).setEnc p { u.encOf p with zDone := true }))) ∧
    (∀ (dt : Nat) (tid : Nat) (n : Fin 8) (v : Word) (s u : State), u = elapse dt s →
      u.rd .ceLock = 0 →
      v.toNat ≠ 0 →
      exec (.encCprWrite dt tid n v) s = .next (settle ((u.wr .axEncCpr v.toNat n).wr .encPosmod 0 n))) ∧
    (∀ (dt : Nat) (p : Fin 8) (level : Bool) (t : Nat) (s u : State), u = elapse dt s →
      t = gridNext u p →
      u.mioOn = true →
      u.ceOn = true →
      u.onCeEdge = true →
      u.rd .encMode p = 2 →
      u.now + u.rd .ssiLead p * rootPerCe = t →
      exec (.ssiFrameStart dt p level) s = .next (settle (if level then u.setEnc p { u.encOf p with ssi := some ⟨u.now, t, u.rd .ssiBits p + 1 + u.rd .ssiPar p, u.rd .ssiDiv p, u.rd .ssiDly p⟩ }
         else raise .mioEncError 0 (p + 256) ((u.bump .encSsierr 1 p).setEnc p { u.encOf p with ssi := none })))) ∧
    (∀ (dt : Nat) (p : Fin 8) (data : Word) (parity : Bool) (r : SsiRun) (bits raw : Nat) (s u : State), u = elapse dt s →
      (u.encOf p).ssi = some r →
      u.mioOn = true →
      u.now = r.sampleAt (r.nb - 1) →
      bits = u.rd .ssiBits p + 1 →
      raw = data.toNat % 2 ^ bits →
      u.now + 8 * rootPerCe ≤ r.tick →
      (u.rd .ssiPar p = 1 → (popcount bits raw + b2n parity) % 2 = 0) →
      exec (.ssiFrameEnd dt p data parity) s = .next (settle (ssiGood p bits (if u.rd .ssiGray p = 1 then grayDecode bits raw else raw) u))) ∧
    (∀ (dt : Nat) (p : Fin 8) (data : Word) (parity : Bool) (r : SsiRun) (s u : State), u = elapse dt s →
      (u.encOf p).ssi = some r →
      u.mioOn = true →
      u.now = r.sampleAt (r.nb - 1) →
      r.tick < u.now + 8 * rootPerCe →
      exec (.ssiFrameEnd dt p data parity) s = .next (settle (ssiBad p 3 u))) ∧
    (∀ (dt : Nat) (p : Fin 8) (held : Nat) (a b : Bool) (e : PlsPort) (s u : State), u = elapse dt s →
      u.mioOn = true →
      u.rd .plsFilt p + 1 ≤ held →
      e = u.plsOf p →
      u.rd .plsMode p = 2 →
      e.a = a ∨ e.b = b →
      exec (.pulseEdge dt p ⟨a, b⟩ held) s = .next (settle ((u.setPls p ⟨a, b⟩).wrS .plsCnt (u.rdS .plsCnt p + (if u.rd .plsDirinv p = 1 then -quadStep e.a e.b a b else quadStep e.a e.b a b)) p))) ∧
    (∀ (dt : Nat) (p : Fin 8) (held : Nat) (a b : Bool) (e : PlsPort) (s u : State), u = elapse dt s →
      u.mioOn = true →
      u.rd .plsFilt p + 1 ≤ held →
      e = u.plsOf p →
      u.rd .plsMode p = 1 →
      e.a = false →
      a = true →
      exec (.pulseEdge dt p ⟨a, b⟩ held) s = .next (settle ((u.setPls p ⟨a, b⟩).wrS .plsCnt (u.rdS .plsCnt p + (if e.b = u.on .plsDirinv p then -1 else 1)) p))) ∧
    (∀ (dt : Nat) (c : Nat) (s u : State), u = elapse dt s →
      atAdcSlot u = true →
      nextAdc (u.rd .adcEn) u.loop.adc.last = some c →
      exec (.adcSlot dt) s = .next (settle ({ u with loop := { u.loop with adc := ⟨c, u.loop.adc.busy ++ [c]⟩ } }))) ∧
    (∀ (dt : Nat) (nanovolts : Int) (c : Nat) (l : List Nat) (s u : State), u = elapse dt s →
      u.loop.adc.busy = c :: l →
      u.mioOn = true →
      exec (.adcConversionDone dt nanovolts) s = .next (settle ({ u with loop := { u.loop with adc := { u.loop.adc with busy := l } } }.wr .adcCode (min 4095 (max 0 (nanovolts * 4096 / 1800000000)).toNat) c)))

/-- LOADED is accepted in OFF and LOADED and sets IMG; an arm request that meets R100, R103 and R104 waits for the tick, any other is discarded with EVT_MIT_CFG_REJECT; a disarm waits for the tick of an ARMED or FAULT slot and cancels a waiting arming otherwise; UNLOAD empties a LOADED slot; a model is reported as Fits or Rejected with what it is over by, and a load into an ARMED or FAULT slot fails with MOL_E_BUSY; the miss limit takes the slot to FAULT with cause 4. Where the spec is silent it states the model's own choices and readings of log entry 36. (R100, R102, R103, R104, R114) -/
def Obligations.MitreSlotCommands : Prop :=
    (∀ (dt : Nat) (tid : Nat) (n : Fin 8) (recAddr : Nat) (ringAddr : Nat) (s u : State), u = elapse dt s →
      u.rd .mitState n ≤ 1 →
      exec (.mitreLoaded dt tid n recAddr ringAddr) s = .next (settle (((u.wr .mitState 1 n).wr .mitImg 1 n).setSlot n { u.slot n with recAddr := recAddr, ringAddr := ringAddr }))) ∧
    (∀ (dt : Nat) (tid : Nat) (n : Fin 8) (recAddr : Nat) (ringAddr : Nat) (s u : State), u = elapse dt s →
      2 ≤ u.rd .mitState n →
      exec (.mitreLoaded dt tid n recAddr ringAddr) s = .next (settle (raise .mitCfgReject tid (0x100 + n * 0x100) u))) ∧
    (∀ (dt : Nat) (tid : Nat) (n : Fin 8) (s u : State), u = elapse dt s →
      u.rd .mitArm n = 0 →
      armOk u n = true →
      exec (.mitreArmRequest dt tid n) s = .next (settle ((u.wr .mitArm 1 n).setSlot n { u.slot n with armPend := some true }))) ∧
    (∀ (dt : Nat) (tid : Nat) (n : Fin 8) (s u : State), u = elapse dt s →
      u.rd .mitArm n = 0 →
      armOk u n = false →
      exec (.mitreArmRequest dt tid n) s = .next (settle (raise .mitCfgReject tid (0x100 + n * 0x100) u))) ∧
    (∀ (dt : Nat) (n : Fin 8) (s u : State), u = elapse dt s →
      exec (.mitreDisarm dt n) s = .next (settle ((u.wr .mitArm 0 n).setSlot n { u.slot n with armPend := if 2 ≤ u.rd .mitState n then some false else none }))) ∧
    (∀ (dt : Nat) (n : Fin 8) (l : Tab Nat) (s u : State), u = elapse dt s →
      u.rd .mitState n = 1 →
      (u.slot n).armPend ≠ some true →
      (l = (List.range 64).foldl (fun l t => if mitHasCore u n t = true then l.set t u.now else l) u.sch.idle) →
      exec (.mitreUnload dt n) s = .next (settle (({ u with sch := { u.sch with idle := l } }.wr .mitState 0 n).wr .mitImg 0 n))) ∧
    (∀ (dt : Nat) (n : Fin 8) (weightBytes : Nat) (wcet : Nat) (modelId : Nat) (prog act : Nat) (ops : List OpUse) (f : MitFit) (s u : State), u = elapse dt s →
      f = mitFit u n weightBytes prog act wcet →
      u.rd .mitState n ≤ 1 →
      f.ok = true →
      u.rd .mitLock = 0 →
      (u.slot n).armPend ≠ some true →
      exec (.mitreModelLoad dt n weightBytes ⟨prog, act, ops⟩ wcet modelId) s = .next (settle (({ u with sch := { u.sch with load := ⟨modelId, 0, 0, f.w, f.ls, f.t, 0, 0⟩ } }.setSlot n
          { u.slot n with weightBytes := weightBytes, prog := prog, act := act, modelId := modelId }).wr .mitWcet wcet n))) ∧
    (∀ (dt : Nat) (n : Fin 8) (weightBytes : Nat) (wcet : Nat) (modelId : Nat) (prog act : Nat) (ops : List OpUse) (f : MitFit) (s u : State), u = elapse dt s →
      f = mitFit u n weightBytes prog act wcet →
      u.rd .mitState n ≤ 1 →
      f.ok = false →
      exec (.mitreModelLoad dt n weightBytes ⟨prog, act, ops⟩ wcet modelId) s = .next (settle (raise .schMitreOversize 1 (n + (if f.w ≠ 0 then 0 else if f.ls ≠ 0 then 16 else 32))
          { u with sch := { u.sch with load := ⟨modelId, 3, 5, f.w, f.ls, f.t, 0, 3⟩ } }))) ∧
    (∀ (dt : Nat) (n : Fin 8) (weightBytes : Nat) (wcet : Nat) (modelId : Nat) (prog act : Nat) (ops : List OpUse) (s u : State), u = elapse dt s →
      2 ≤ u.rd .mitState n →
      exec (.mitreModelLoad dt n weightBytes ⟨prog, act, ops⟩ wcet modelId) s = .next (settle ({ u with sch := { u.sch with load := { u.sch.load with err := 1 } } }))) ∧
    (∀ (dt : Nat) (n : Fin 8) (s u : State), u = elapse dt s →
      u.rd .mitMissLimit n ≠ 0 →
      u.rd .mitMissLimit n ≤ u.rd .mitConsec n →
      exec (.mitreMissLimit dt n) s = .next (settle (mitreFault n 4 u)))

/-- At t = 420 an ARMED slot begins: MIT_SEQ takes the period index, the staging words take their fall-back values, and the input record is written; a program still running past the CECLK of t_commit stops with MIT_LAST_T at its limit, and no commit is made after it; a commit by the slot's own TID with the right sequence number is taken before t_commit and is late in that CECLK, a second one and one with another number only count and raise their events; a commit completes at the first CECLK edge at or after its write. Where the spec is silent it states the model's own choices and readings of log entry 36. (R23, R106, R107, R109, R110, R111, R112) -/
def Obligations.MitreInvocation : Prop :=
    (∀ (dt : Nat) (n : Fin 8) (t : State) (s u : State), u = elapse dt s →
      u.armed n = true →
      atInvocation u n = true →
      t = (u.wr .mitSeq (u.ax n).idx n).setSlot n { u.slot n with running := true, begun := true, startAt := u.now, seen := false, stage := [0, 0, u.rd .mitFbFeed n, 0] ++ (u.slot n).obs } →
      exec (.mitreInvocationStart dt n) s = .next (settle (mitWriteLs n ((t.slot n).recAddr / 128 * 128) ((inputRecord t n).flatMap (leBytes 4)) t))) ∧
    (∀ (dt : Nat) (n : Fin 8) (s u : State), u = elapse dt s →
      (u.slot n).running = true →
      pastCommit u n = true →
      exec (.mitreInvocationStop dt n) s = .next (settle ((u.wr .mitLastT 0xFFFFF n).setSlot n { u.slot n with running := false }))) ∧
    (∀ (dt : Nat) (tid : Nat) (n : Fin 8) (v : BitVec 16) (t : State) (s u : State), u = elapse dt s →
      tid = 16 + n →
      u.armed n = true →
      (u.slot n).begun = true →
      (u.ax n).open_ = true →
      t = endInvocation n u →
      v.toNat = t.rd .mitSeq n →
      (t.slot n).seen = false →
      commitEdge t n + 840 < (t.ax n).per →
      commitEdge t n = commitEdge u n →
      (t.ax n).per = (u.ax n).per →
      exec (.mitreCommit dt tid n v) s = .next (settle ((t.wr .mitSbuf (1 - t.rd .mitSbuf n) n).setSlot n
          { t.slot n with seen := true, commit := some (t.slot n).stage, commitT := commitEdge u n }))) ∧
    (∀ (dt : Nat) (tid : Nat) (n : Fin 8) (v : BitVec 16) (t : State) (s u : State), u = elapse dt s →
      tid = 16 + n →
      u.armed n = true →
      (u.slot n).begun = true →
      (u.ax n).open_ = true →
      t = endInvocation n u →
      v.toNat = t.rd .mitSeq n →
      (t.slot n).seen = false →
      commitEdge u n + 840 = (u.ax n).per →
      commitEdge t n = commitEdge u n →
      (t.ax n).per = (u.ax n).per →
      exec (.mitreCommit dt tid n v) s = .next (settle (t.setSlot n { t.slot n with seen := true, late := true }))) ∧
    (∀ (dt : Nat) (tid : Nat) (n : Fin 8) (v : BitVec 16) (t : State) (s u : State), u = elapse dt s →
      tid = 16 + n →
      u.armed n = true →
      (u.slot n).begun = true →
      (u.ax n).open_ = true →
      commitEdge u n + 840 ≤ (u.ax n).per →
      t = endInvocation n u →
      (v.toNat = t.rd .mitSeq n → (t.slot n).seen = true) →
      exec (.mitreCommit dt tid n v) s = .next (settle (if v.toNat = t.rd .mitSeq n then raise .mitDoubleCommit tid n (t.bump .mitDcommit 1 n)
         else raise .mitSeqMismatch tid n (t.bump .mitSeqerr 1 n)))) ∧
    (∀ (dt : Nat) (tid : Nat) (n : Fin 8) (v : BitVec 16) (s u : State), u = elapse dt s →
      tid = 16 + n →
      u.armed n = true →
      (u.slot n).begun = true →
      (u.ax n).open_ = true →
      (u.ax n).per < commitEdge u n + 840 →
      exec (.mitreCommit dt tid n v) s = .next (settle (mitreInvocationStop n u)))

/-- On an enabled port with its clocks, a Frame Start of an enabled stream opens its frame and a Frame End closes it, and for a stream that is not enabled every packet is dropped and counted, the short ones before it too; a corrected header counts for the port and for the stream; a good long packet of the stream's data type takes the next row, and a lost one leaves its row missing; the lanes leave ULPS with a packet and enter it as the packet says; a commit of an aligned address waits for the next Frame Start, and a misaligned one is discarded with EVT_STR_CFG_REJECT; APPLIED_POP removes the oldest record. Where the spec is silent it states the model's own choices and readings of log entry 37. (R119, R120, R123, R124, R125, R126, R132, R133, R134) -/
def Obligations.CameraFrames : Prop :=
    (∀ (dt : Nat) (k : Fin 16) (fnum : BitVec 16) (hd : CamHead) (t : State) (s u : State), u = elapse dt s →
      u.rd .csiEn (k / 4) = 1 →
      camOn u = true →
      hd.hdr ≠ .lost →
      strOn u k = true →
      t = openFrame k fnum.toNat false (csiCorrected k hd.hdr (u.wr .csiUlps 0 (k / 4))) →
      exec (.camFrameStart dt k fnum hd) s = .next (settle (if hd.ulps then t.wr .csiUlps 1 (k / 4) else t))) ∧
    (∀ (dt : Nat) (k : Fin 16) (fnum : BitVec 16) (hd : CamHead) (t : State) (s u : State), u = elapse dt s →
      u.rd .csiEn (k / 4) = 1 →
      camOn u = true →
      hd.hdr = .good →
      strOn u k = false →
      t = ((u.wr .csiUlps 0 (k / 4)).bump .csiErrDrop hd.shorts (k / 4)).bump .csiErrDrop 1 (k / 4) →
      exec (.camFrameStart dt k fnum hd) s = .next (settle (if hd.ulps then t.wr .csiUlps 1 (k / 4) else t))) ∧
    (∀ (dt : Nat) (k : Fin 16) (hd : CamHead) (t : State) (s u : State), u = elapse dt s →
      u.rd .csiEn (k / 4) = 1 →
      camOn u = true →
      hd.hdr ≠ .lost →
      strOn u k = true →
      t = closeFrame k false (csiCorrected k hd.hdr (u.wr .csiUlps 0 (k / 4))) →
      exec (.camFrameEnd dt k hd) s = .next (settle (if hd.ulps then t.wr .csiUlps 1 (k / 4) else t))) ∧
    (∀ (dt : Nat) (p : Fin 4) (vc : Fin 4) (dataType : BitVec 6) (line : Option Nat) (hd : CamHead) (crcOk : Bool) (payload : List Byte) (f : CamFrame) (s u : State), u = elapse dt s →
      u.rd .csiEn p = 1 →
      camOn u = true →
      hd.hdr = .good →
      hd.ulps = false →
      strOn u (4 * p + vc) = true →
      dataType.toNat = u.rd .camDt (4 * p + vc) →
      u.rd .camLnum (4 * p + vc) = 0 →
      (u.cam (4 * p + vc)).frame = some f →
      exec (.camLinePacket dt p vc dataType line hd crcOk payload) s = .next (settle (takeLine (4 * p + vc) f.next crcOk payload (u.wr .csiUlps 0 p)))) ∧
    (∀ (dt : Nat) (p : Fin 4) (vc : Fin 4) (dataType : BitVec 6) (line : Option Nat) (hd : CamHead) (crcOk : Bool) (payload : List Byte) (f : CamFrame) (t : State) (s u : State), u = elapse dt s →
      u.rd .csiEn p = 1 →
      camOn u = true →
      hd.hdr = .lost →
      hd.ulps = false →
      strOn u (4 * p + vc) = true →
      dataType.toNat = u.rd .camDt (4 * p + vc) →
      (u.cam (4 * p + vc)).frame = some f →
      t = (u.wr .csiUlps 0 p).bump .csiErrUncorr 1 p →
      exec (.camLinePacket dt p vc dataType line hd crcOk payload) s = .next (settle (t.setCam (4 * p + vc) { u.cam (4 * p + vc) with frame := some { f with next := f.next + 1 } }))) ∧
    (∀ (dt : Nat) (p : Fin 4) (vc : Fin 4) (dataType : BitVec 6) (line : Option Nat) (hd : CamHead) (crcOk : Bool) (payload : List Byte) (s u : State), u = elapse dt s →
      u.rd .csiEn p = 1 →
      camOn u = true →
      hd.hdr = .good →
      hd.ulps = false →
      strOn u (4 * p + vc) = false →
      exec (.camLinePacket dt p vc dataType line hd crcOk payload) s = .next (settle (((u.wr .csiUlps 0 p).bump .csiErrDrop hd.shorts p).bump .csiErrDrop (1 + b2n line.isSome) p))) ∧
    (∀ (dt : Nat) (tid : Nat) (k : Fin 16) (tag : Byte) (a : Nat) (t : State) (s u : State), u = elapse dt s →
      a = u.rd .camAddrHi k * 2 ^ 32 + u.rd .camAddrLo k →
      a % 128 = 0 →
      (u.cam k).pend = none →
      t = u.setCam k { u.cam k with pend := some ⟨a, tag.toNat, pclkNext u⟩ } →
      exec (.camCommit dt tid k tag) s = .next (settle ((t.wr .camPendP 1 k).wr .camPendTag tag.toNat k))) ∧
    (∀ (dt : Nat) (tid : Nat) (k : Fin 16) (tag : Byte) (s u : State), u = elapse dt s →
      (u.rd .camAddrHi k * 2 ^ 32 + u.rd .camAddrLo k) % 128 ≠ 0 →
      exec (.camCommit dt tid k tag) s = .next (settle (raise .strCfgReject tid (0x11C + k * 0x80) u))) ∧
    (∀ (dt : Nat) (k : Fin 16) (s u : State), u = elapse dt s →
      exec (.camAppliedPop dt k) s = .next (settle (showApplied k (u.setCam k { u.cam k with fifo := (u.cam k).fifo.drop 1 }))))

/-- An entry and a submission are taken while there is room and discarded with EVT_STR_CFG_REJECT otherwise; an acknowledge sends the next write of the set, or releases the set after its last; a first negative acknowledge repeats the write, a second ends the set, marks the epoch uncertain and raises EVT_SCQ_NACK; a TDM frame of an enabled port that ends on the grid of its FSYNC checks its slots. Where the spec is silent it states the model's own choices and readings of log entry 37. (R127, R128, R129, R130, R136, R137) -/
def Obligations.SensorQueueAndTdm : Prop :=
    (∀ (dt : Nat) (tid : Nat) (p : Fin 4) (v : Word) (s u : State), u = elapse dt s →
      u.rd .scqFree p ≠ 0 →
      exec (.scqEntry dt tid p v) s = .next (settle (showScq p (u.setScq p { u.scq p with acc := (u.scq p).acc ++ [(v.toNat % 65536, v.toNat / 65536 % 65536)] })))) ∧
    (∀ (dt : Nat) (tid : Nat) (p : Fin 4) (epoch : Byte) (s u : State), u = elapse dt s →
      u.rd .scqSets p < 4 →
      exec (.scqSubmit dt tid p epoch) s = .next (settle (showScq p (u.setScq p { u.scq p with acc := [], sets := (u.scq p).sets ++ [⟨epoch.toNat, (u.scq p).acc, pclkNext u⟩] })))) ∧
    (∀ (dt : Nat) (tid : Nat) (p : Fin 4) (epoch : Byte) (s u : State), u = elapse dt s →
      4 ≤ u.rd .scqSets p →
      exec (.scqSubmit dt tid p epoch) s = .next (settle (raise .strCfgReject tid (0x1808 + p * 0x20) u))) ∧
    (∀ (dt : Nat) (p : Fin 4) (r : ScqRun) (w w2 : Nat × Nat) (l : List (Nat × Nat)) (s u : State), u = elapse dt s →
      (u.scq p).run = some r →
      r.set.writes = w :: w2 :: l →
      exec (.scqWriteAck dt p) s = .next (settle (scqSend p w2 (showScq p (u.setScq p { u.scq p with run := some { r with set := { r.set with writes := w2 :: l }, again := false } }))))) ∧
    (∀ (dt : Nat) (p : Fin 4) (r : ScqRun) (w : Nat × Nat) (s u : State), u = elapse dt s →
      (u.scq p).run = some r →
      r.set.writes = [w] →
      exec (.scqWriteAck dt p) s = .next (settle (scqRelease p r u))) ∧
    (∀ (dt : Nat) (p : Fin 4) (r : ScqRun) (w : Nat × Nat) (l : List (Nat × Nat)) (s u : State), u = elapse dt s →
      (u.scq p).run = some r →
      r.set.writes = w :: l →
      r.again = false →
      exec (.scqWriteNack dt p) s = .next (settle (scqSend p w (u.setScq p { u.scq p with run := some { r with again := true } })))) ∧
    (∀ (dt : Nat) (p : Fin 4) (r : ScqRun) (w : Nat × Nat) (l : List (Nat × Nat)) (q : ScqSt) (s u : State), u = elapse dt s →
      q = u.scq p →
      q.run = some r →
      r.set.writes = w :: l →
      r.again = true →
      exec (.scqWriteNack dt p) s = .next (settle (raise .scqNack 3 (p + r.set.epoch * 256) (showScq p
          ((u.setScq p { q with run := none, unc := ((q.last + 1 + u.rd .scqD p) % 2 ^ 32, q.relNo) :: q.unc }).wr .scqUncertain 1 p))))) ∧
    (∀ (dt : Nat) (q : Fin 4) (a : Word) (b : Word) (t : State) (s u : State), u = elapse dt s →
      tdmEnds u q = true →
      strOn u (40 + 2 * q) = true →
      strOn u (41 + 2 * q) = false →
      t = tdmChannel q 0 a u →
      strOn t (41 + 2 * q) = false →
      exec (.tdmFrame dt q a b) s = .next (settle ({ t with str := { t.str with tdmFrom := t.str.tdmFrom.set q t.now } })))

/-- A dictionary image that passes R143 becomes the dictionary, another raises EVT_YAR_DICT_REJECT with its offence; a tail that R281 allows is taken and any other discarded with EVT_YAR_CFG_REJECT; a job starts on an enabled idle unit with a queued descriptor; its end writes the tokens and the block table and finishes the job, and a job for another dictionary ends with status 3; a job that ends on the host counts as on the unit; a PPU job starts from the ring with the TID of its descriptor, or from a stream, and its end writes its result and STATUS; IPOS outside the fed range restarts the feed, and results of jobs submitted before count no more. No job starts while its engine has used up its share of the window. Where the spec is silent it states the model's own choices and readings of log entries 14, 42. (R138, R143, R147, R148, R150, R151, R152, R153, R154, R281, R454) -/
def Obligations.YarrowAndPpuJobs : Prop :=
    (∀ (dt : Nat) (tid : Nat) (n : Fin 2) (x : List Byte × State) (l : List DictEnt) (k d : Nat) (s u : State), u = elapse dt s →
      u.rd .yarQTail n = u.rd .yarQHead n →
      x = dictImage (dictAddr u n) u →
      dictCheck (x.2.on .yarFold n) x.1 = .inr (l, k, d) →
      exec (.yarDictLoad dt tid n) s = .next (settle (((((x.2.setYar n { x.2.yar n with dict := l }).wr .yarDictValid 1 n).wr .yarDictN k n).wr .yarDictDigLo d n).wr .yarDictDigHi (d / 2 ^ 32) n))) ∧
    (∀ (dt : Nat) (tid : Nat) (n : Fin 2) (x : List Byte × State) (k : Nat) (s u : State), u = elapse dt s →
      u.rd .yarQTail n = u.rd .yarQHead n →
      x = dictImage (dictAddr u n) u →
      dictCheck (x.2.on .yarFold n) x.1 = .inl k →
      exec (.yarDictLoad dt tid n) s = .next (settle (raise .yarDictReject tid k x.2))) ∧
    (∀ (dt : Nat) (tid : Nat) (n : Fin 2) (v : BitVec 5) (host : List Nat) (t : State) (s u : State), u = elapse dt s →
      ringOk 32 (u.rd .yarQHead n) (u.rd .yarQTail n) v.toNat = true →
      t = showQbytes n (addJobs (newJobs n (u.rd .yarQTail n) v.toNat) (u.wr .yarQTail v.toNat n)) →
      exec (.yarQSubmit dt tid n ⟨v, host⟩) s = .next (settle (if tid = 1 then hostSubmit host t else t))) ∧
    (∀ (dt : Nat) (tid : Nat) (n : Fin 2) (v : BitVec 5) (host : List Nat) (s u : State), u = elapse dt s →
      ringOk 32 (u.rd .yarQHead n) (u.rd .yarQTail n) v.toNat = false →
      tid ≠ 1 →
      exec (.yarQSubmit dt tid n ⟨v, host⟩) s = .next (settle (raise .yarCfgReject tid (0x100 + n * 0x100 + 0x24) u))) ∧
    (∀ (dt : Nat) (n : Fin 2) (s u : State), u = elapse dt s →
      u.rd .yarEn n = 1 →
      u.clockOn 11 = true →
      (u.yar n).run = false →
      u.rd .yarQHead n ≠ u.rd .yarQTail n →
      startAllowed u (32 + n) = true →
      exec (.yarJobStart dt n) s = .next (settle (showQbytes n (u.setYar n { u.yar n with run := true, startAt := u.now })))) ∧
    (∀ (dt : Nat) (n : Fin 2) (x : List Byte × State) (tid : Nat) (r w w2 : XOut) (all whole : List Blk) (b : List Blk × Bool) (s u : State), u = elapse dt s →
      (u.yar n).run = true →
      u.mmu.stall.get none (32 + n) = none →
      x = ringRead (yarRing u n + u.rd .yarQHead n * 64) 64 u →
      tid = fieldAt x.1 48 2 % 1024 →
      x.2.rd .yarDictValid n = 1 →
      fieldAt x.1 40 8 = x.2.rd .yarDictDigHi n * 2 ^ 32 + x.2.rd .yarDictDigLo n →
      r = xRead (32 + n) tid (fieldAt x.1 0 8 % 2 ^ 48) (fieldAt x.1 8 4) x.2 →
      r.fault = none →
      all = tokenize (r.s.on .yarFold n) (x.2.yar n).dict (r.data.map BitVec.toNat) →
      (whole = (if bitOf (fieldAt x.1 50 1) 0 then all else all.filter Blk.lf)) →
      b = takeBlocks (fieldAt x.1 24 4) (fieldAt x.1 36 4) whole 0 0 →
      (w = xWrite (32 + n) tid (fieldAt x.1 16 8 % 2 ^ 48) (b.1.flatMap fun b => b.toks.flatMap Tok.bytes) r.s) →
      w.fault = none →
      (w2 = xWrite (32 + n) tid (fieldAt x.1 28 8 % 2 ^ 48) (b.1.foldl (fun (x : Nat × List Byte) b => (x.1 + b.toks.length, x.2 ++ leBytes 4 x.1 ++ leBytes 4 b.start)) (0, [])).2 w.s) →
      w2.fault = none →
      exec (.yarJobDone dt ⟨n, none⟩) s = .next (settle (yarFinish n ⟨tid, fieldAt x.1 12 4, b.1, b.2, decide (whole.length < all.length)⟩ w2.s))) ∧
    (∀ (dt : Nat) (n : Fin 2) (x : List Byte × State) (s u : State), u = elapse dt s →
      (u.yar n).run = true →
      u.mmu.stall.get none (32 + n) = none →
      x = ringRead (yarRing u n + u.rd .yarQHead n * 64) 64 u →
      x.2.rd .yarDictValid n = 0 →
      exec (.yarJobDone dt ⟨n, none⟩) s = .next (settle (yarEnd n 3 0 0 0 0 x.2))) ∧
    (∀ (dt : Nat) (n : Fin 2) (a : Nat) (m : YarMade) (t : State) (s u : State), u = elapse dt s →
      (u.comp.look.jobs.any (fun j => j.unit == 2 && j.key == a && j.ran.isNone) = true) →
      yarWork n a u = (.made m, t) →
      exec (.yarJobDone dt ⟨n, some a⟩) s = .next (settle (jobRan 2 a m.blk0 (m.blk0 + m.bs.length)
          ((yarBack a m.status m.consumed m.toks.length m.bs.length (yarCount n m t)).setOb .hostJobs (u.ob .hostJobs + 1))))) ∧
    (∀ (dt : Nat) (tid : Nat) (v : Fin 4) (t : BitVec 5) (s u : State), u = elapse dt s →
      ringOk 32 (u.rd .ppuQHead v) (u.rd .ppuQTail v) t.toNat = true →
      exec (.ppuQSubmit dt tid v t) s = .next (settle (u.wr .ppuQTail t.toNat v))) ∧
    (∀ (dt : Nat) (v : Fin 4) (stream : Bool) (job : PpuJob) (s u : State), u = elapse dt s →
      u.clockOn 11 = true →
      u.ppuRun v = none →
      ppuJobOk job = true →
      startAllowed u (34 + v) = true →
      stream = true →
      exec (.ppuJobStart dt v stream job) s = .next (settle (u.setPpu v (some ⟨false, { job with tid := 3 }, u.now⟩)))) ∧
    (∀ (dt : Nat) (v : Fin 4) (stream : Bool) (job : PpuJob) (x : List Byte × State) (s u : State), u = elapse dt s →
      u.clockOn 11 = true →
      u.ppuRun v = none →
      ppuJobOk job = true →
      startAllowed u (34 + v) = true →
      stream = false →
      u.rd .ppuQHead v ≠ u.rd .ppuQTail v →
      x = ringRead (u.rd .ppuQHi v * 2 ^ 32 + u.rd .ppuQLo v + u.rd .ppuQHead v * 64) 64 u →
      exec (.ppuJobStart dt v stream job) s = .next (settle (x.2.setPpu v (some ⟨true, { job with tid := fieldAt x.1 48 2 % 1024 }, x.2.now⟩)))) ∧
    (∀ (dt : Nat) (v : Fin 4) (r : PpuRun) (x sc : XOut) (t : PpuTen) (w w2 : XOut) (s u : State), u = elapse dt s →
      u.ppuRun v = some r →
      u.mmu.stall.get none (34 + v) = none →
      x = xRead (34 + v) r.job.tid r.job.src (packedLen r.job.fmt (r.job.w * r.job.h * r.job.ch)) u →
      x.fault = none →
      (sc = xRead (34 + v) r.job.tid r.job.srcScale (if blockLen r.job.fmt = 0 then 0 else ceilDiv (r.job.w * r.job.h * r.job.ch) (blockLen r.job.fmt)) x.s) →
      sc.fault = none →
      (t = r.job.ops.foldl (ppuStep fun k => u.rd .strWidx (k - 16)) ⟨r.job.fmt, r.job.w, r.job.h, r.job.ch, (decodeElts r.job.fmt x.data sc.data (r.job.w * r.job.h * r.job.ch)).map some⟩) →
      w = xWrite (34 + v) r.job.tid r.job.dst (ppuBytes t).1 sc.s →
      w.fault = none →
      w2 = xWrite (34 + v) r.job.tid r.job.dstScale (ppuBytes t).2 w.s →
      w2.fault = none →
      exec (.ppuJobDone dt v) s = .next (settle (let bad := (t.elts.filter Option.isNone).length
        let t := ppuEnd v 1 r (w2.s.bump .ppuCntErr bad v)
        if 0 < bad then raise .ppuElemError r.job.tid v t else t))) ∧
    (∀ (dt : Nat) (v : Word) (progEnd : Nat) (t : State) (s u : State), u = elapse dt s →
      t = { u.setOb .ipos v.toNat with comp := { u.comp with look := { u.comp.look with start := v.toNat, progEnd := progEnd, sec := u.clk.sec, ns := u.clk.ns } } } →
      u.comp.look.start ≤ v.toNat →
      v.toNat < u.ob .tokEnd →
      exec (.iposWrite dt v progEnd) s = .next (settle (showWindow t))) ∧
    (∀ (dt : Nat) (v : Word) (progEnd : Nat) (t : State) (s u : State), u = elapse dt s →
      t = { u.setOb .ipos v.toNat with comp := { u.comp with look := { u.comp.look with start := v.toNat, progEnd := progEnd, sec := u.clk.sec, ns := u.clk.ns } } } →
      u.ob .tokEnd ≤ v.toNat →
      exec (.iposWrite dt v progEnd) s = .next (settle (let t : State := { t with comp := { t.comp with look := { t.comp.look with jobs := t.comp.look.jobs.map fun j => { j with kept := false } } } }
        showWindow (raise .yarLaResync 1 (v.toNat % 65536) (t.setOb .tokEnd v.toNat)))))

/-- A valid array operation of a working core reads its rows and finishes; an invalid descriptor stops the core with cause 4; a vector instruction leaves its 64 lanes, its conditions and its time, and one that stops the core stops it with its cause; a conversion takes its lanes, and the exponents or scales of block formats; a restart frees a stopped core; a seed is loaded when the work in flight at its write has completed, 0 as 1. Where the spec is silent it states the model's own choices and readings of log entries 3, 43. (R157, R159, R160, R161, R162, R168, R171, R172) -/
def Obligations.TensorCommands : Prop :=
    (∀ (dt : Nat) (c : Fin 64) (pc : BitVec 20) (desc : List Byte) (wait : Nat) (d : ArrDesc) (as bs : List (List Byte × List Byte)) (t t2 : State) (s u : State), u = elapse dt s →
      coreWorks u c = true →
      d = arrDesc desc →
      arrValid u c d = true →
      d.acc = false →
      d.wr = false →
      readRows c (u.rd .tcTid c) d.fa d.k d.astr d.aaddr d.saaddr d.m 0 [] u = (.ok as, t) →
      readRows c (u.rd .tcTid c) d.fb d.k d.bstr d.baddr d.sbaddr d.n 0 [] t = (.ok bs, t2) →
      exec (.tenArrayOp dt c pc ⟨desc, wait⟩) s = .next (settle (arrFinish c pc.toNat wait d [] (arrAcc d (fun _ => 0) as bs) t2))) ∧
    (∀ (dt : Nat) (c : Fin 64) (pc : BitVec 20) (desc : List Byte) (wait : Nat) (s u : State), u = elapse dt s →
      coreWorks u c = true →
      arrValid u c (arrDesc desc) = false →
      exec (.tenArrayOp dt c pc ⟨desc, wait⟩) s = .next (settle (stopCore c 4 pc.toNat u))) ∧
    (∀ (dt : Nat) (c : Fin 64) (pc : BitVec 20) (op : VecOp) (sr : Bool) (a : List Nat) (b : List Nat) (e : List Nat) (x : List (Option Nat) × State) (out : List (Nat × NumFlags)) (t : State) (s u : State), u = elapse dt s →
      coreWorks u c = true →
      vecStop op = none →
      (match op with | .convert _ _ => false | _ => true) = true →
      x = srDraw c 64 sr u →
      (out = (List.range 64).map fun i => vecLane op (x.1.getD i none) (a.getD i 0) (b.getD i 0) (e.getD i 0) (Config.freeAt x.2.freeCtr i).toNat) →
      t = { x.2 with freeCtr := x.2.freeCtr + 1 } →
      exec (.tenVectorOp dt c pc op sr a b e) s = .next (settle ((flagAll c pc.toNat (out.map Prod.snd) 0 (t.setCore c { t.core c with lanes := out.map Prod.fst, scales := [], busyTo := max (t.core c).busyTo (t.now + vecTime op * rootPerT) })).2))) ∧
    (∀ (dt : Nat) (c : Fin 64) (pc : BitVec 20) (op : VecOp) (sr : Bool) (a : List Nat) (b : List Nat) (e : List Nat) (src dst : Nat) (x : List (Option Nat) × State) (out : List (Nat × NumFlags) × List Nat) (t : State) (s u : State), u = elapse dt s →
      coreWorks u c = true →
      op = .convert src dst →
      src < 16 →
      dst < 16 →
      x = srDraw c 64 sr u →
      out = vecConvert src dst x.1 a e →
      t = { x.2 with freeCtr := x.2.freeCtr + 1 } →
      exec (.tenVectorOp dt c pc op sr a b e) s = .next (settle ((flagAll c pc.toNat (out.1.map Prod.snd) 0 (t.setCore c { t.core c with lanes := out.1.map Prod.fst, scales := out.2, busyTo := max (t.core c).busyTo (t.now + vecTime op * rootPerT) })).2))) ∧
    (∀ (dt : Nat) (c : Fin 64) (pc : BitVec 20) (op : VecOp) (sr : Bool) (a : List Nat) (b : List Nat) (e : List Nat) (cause : Nat) (s u : State), u = elapse dt s →
      coreWorks u c = true →
      vecStop op = some cause →
      exec (.tenVectorOp dt c pc op sr a b e) s = .next (settle (stopCore c cause pc.toNat u))) ∧
    (∀ (dt : Nat) (c : Fin 64) (s u : State), u = elapse dt s →
      u.rd .tcState c = 3 →
      exec (.tcRestart dt c) s = .next (settle (({ u with sch := { u.sch with idle := u.sch.idle.set c u.now } }.wr .tcState 0 c).wr .tcTid 0 c))) ∧
    (∀ (dt : Nat) (c : Fin 64) (v : Word) (s u : State), u = elapse dt s →
      (u.core c).busyTo ≤ u.now →
      exec (.tcSrSeedWrite dt c v) s = .next (settle ((u.wr .tcSrSeed (if v.toNat = 0 then 1 else v.toNat) c).setCore c { u.core c with seed := none }))) ∧
    (∀ (dt : Nat) (c : Fin 64) (v : Word) (s u : State), u = elapse dt s →
      u.now < (u.core c).busyTo →
      exec (.tcSrSeedWrite dt c v) s = .next (settle (u.setCore c { u.core c with seed := some (if v.toNat = 0 then 1 else v.toNat, (u.core c).busyTo) }))) ∧
    (∀ (dt : Nat) (c : Fin 64) (x : Nat × Nat) (s u : State), u = elapse dt s →
      (u.core c).seed = some x →
      x.2 ≤ u.now →
      exec (.tcSrSeedLoad dt c) s = .next (settle ((u.wr .tcSrSeed x.1 c).setCore c { u.core c with seed := none })))

/-- A tail that R281 allows is taken, another raises EVT_CNV_DESC_INVALID with cause 6; an enabled idle engine reads the slot at its head under the TID of its job and begins it, or stops it where the read fails; an invalid job ends with status 3 and its cause, a stopped one with status 4; a valid job whose rows are written ends at its time with status 1 or, reloaded, 2. Where the spec is silent it states the model's own choices and readings of log entries 3, 43. (R173, R174, R178, R183, R184, R185, R281) -/
def Obligations.ConvolutionJobs : Prop :=
    (∀ (dt : Nat) (tid : Nat) (c : Fin 8) (v : BitVec 4) (s u : State), u = elapse dt s →
      ringOk 16 (u.rd .cnvQHead c) (u.rd .cnvQTail c) v.toNat = true →
      exec (.cnvQSubmit dt tid c v) s = .next (settle (u.wr .cnvQTail v.toNat c))) ∧
    (∀ (dt : Nat) (tid : Nat) (c : Fin 8) (v : BitVec 4) (s u : State), u = elapse dt s →
      ringOk 16 (u.rd .cnvQHead c) (u.rd .cnvQTail c) v.toNat = false →
      exec (.cnvQSubmit dt tid c v) s = .next (settle (cnvInvalid tid c 6 v.toNat u))) ∧
    (∀ (dt : Nat) (c : Fin 8) (raw : List Byte) (t : State) (s u : State), u = elapse dt s →
      u.rd .cnvEn c = 1 →
      u.clockOn (3 + c) = true →
      u.rd .cnvBusy c = 0 →
      u.rd .cnvQHead c ≠ u.rd .cnvQTail c →
      cnvFetch c u = (.ok raw, t) →
      exec (.cnvJobStart dt c) s = .next (settle (cnvBegin c raw none t))) ∧
    (∀ (dt : Nat) (c : Fin 8) (e : LocFail) (t : State) (s u : State), u = elapse dt s →
      u.rd .cnvEn c = 1 →
      u.clockOn (3 + c) = true →
      u.rd .cnvBusy c = 0 →
      u.rd .cnvQHead c ≠ u.rd .cnvQTail c →
      cnvFetch c u = (.error e, t) →
      exec (.cnvJobStart dt c) s = .next (settle (cnvBegin c (cnvPeek t c (cnvSlot t c (t.rd .cnvQHead c))) (some 1) t))) ∧
    (∀ (dt : Nat) (c : Fin 8) (wait : Nat) (raw : List Byte) (j : CnvJob) (s u : State), u = elapse dt s →
      (u.cnv c).job = some raw →
      j = cnvJob raw →
      (u.cnv c).stop = none →
      cnvCause u c (u.rd .cnvQHead c) raw ≠ 0 →
      exec (.cnvJobDone dt c wait) s = .next (settle (cnvRefused c j.hdr.tid (cnvCause u c (u.rd .cnvQHead c) raw) u))) ∧
    (∀ (dt : Nat) (c : Fin 8) (wait : Nat) (raw : List Byte) (e : Nat) (s u : State), u = elapse dt s →
      (u.cnv c).job = some raw →
      (u.cnv c).stop = some e →
      exec (.cnvJobDone dt c wait) s = .next (settle (cnvStopped c (cnvJob raw).hdr.tid u))) ∧
    (∀ (dt : Nat) (c : Fin 8) (wait : Nat) (raw : List Byte) (j : CnvJob) (n : Nat) (t : State) (s u : State), u = elapse dt s →
      (u.cnv c).job = some raw →
      j = cnvJob raw →
      cnvCause u c (u.rd .cnvQHead c) raw = 0 →
      (u.cnv c).stop = none →
      (u.cnv c).run.row = j.hdr.r0 + j.hdr.nr →
      n = j.time (u.cnv c).cont + wait →
      u.now = (u.cnv c).run.start + n * rootPerT →
      (cnvStatus c j.hdr.tid (if j.hdr.cont = true ∧ (u.cnv c).cont = false then 2 else 1) n u = (none, t)) →
      j.hdr.keep = false →
      exec (.cnvJobDone dt c wait) s = .next (settle (cnvEnd c n 1 (dropLb c (if j.hdr.cont = true ∧ (u.cnv c).cont = false then t.bump .cnvCntReload 1 c else t)))))

/-- A tail that R281 allows is taken and another raises EVT_EMB_DESC_INVALID with cause 5; an enabled idle engine reads the descriptor and the table descriptor and takes the job; the next row of an update is translated, locked, read and updated when the lock table has room and no other job holds the row, and the job waits otherwise; an acknowledged write writes the row piece by piece, releases the lock and counts the row; an update whose rows are written ends with status 1, or 2 where keys or rows were skipped; a job found invalid ends with status 3; a seed is loaded when no job runs. Where the spec is silent it states the model's own choices and readings of log entries 3, 15. (R186, R187, R193, R195, R199, R200, R281, R454) -/
def Obligations.EmbeddingJobs : Prop :=
    (∀ (dt : Nat) (tid : Nat) (e : Fin 2) (v : BitVec 5) (s u : State), u = elapse dt s →
      ringOk 32 (u.rd .embQHead e) (u.rd .embQTail e) v.toNat = true →
      exec (.embQSubmit dt tid e v) s = .next (settle (u.wr .embQTail v.toNat e))) ∧
    (∀ (dt : Nat) (tid : Nat) (e : Fin 2) (v : BitVec 5) (s u : State), u = elapse dt s →
      ringOk 32 (u.rd .embQHead e) (u.rd .embQTail e) v.toNat = false →
      exec (.embQSubmit dt tid e v) s = .next (settle (embInvalid tid e 5 v.toNat u))) ∧
    (∀ (dt : Nat) (e : Fin 2) (x : List Byte × State) (r : EmbRun) (o : XOut) (cause : Nat) (s u : State), u = elapse dt s →
      u.rd .embEn e = 1 →
      u.clockOn 13 = true →
      u.embRun e = none →
      u.rd .embQHead e ≠ u.rd .embQTail e →
      u.mmu.stall.get none (38 + e) = none →
      startAllowed u (38 + e) = true →
      x = ringRead (embRing u e + u.rd .embQHead e * 64) 64 u →
      r = ⟨x.1, [], 0, [], 0, 0, 0, 0, x.2.now, none⟩ →
      o = xRead (38 + e) (embDesc x.1).tid (embDesc x.1).tbl 128 (((x.2.setEmb e (some r)).wr .embBusy 1 e).wr .embTid (embDesc x.1).tid e) →
      o.fault = none →
      cause = embCause e x.1 o.data →
      (cause = 0 → (embDesc x.1).op = 1) →
      exec (.embJobStart dt e) s = .next (settle (o.s.setEmb e (some { r with tbl := o.data, stage := 2, end_ := if cause = 0 then 0 else 3, cause := cause })))) ∧
    (∀ (dt : Nat) (e : Fin 2) (r : EmbRun) (w : EmbGrad) (l : List EmbGrad) (ps : List (Nat × Nat)) (t : State) (y : List Byte × Bool × State) (z : List Byte × State) (s u : State), u = elapse dt s →
      u.embRun e = some r →
      r.todo = w :: l →
      u.mmu.stall.get none (38 + e) = none →
      rowPieces e (embDesc r.desc).tid ((embTbl r.tbl).rowLen + 1) w.va (embTbl r.tbl).rowLen [] u = (.ok ps, t) →
      t.comp.locks.length < 128 →
      rowLocked t ((ps.map Prod.fst).headD 0) = false →
      y = readPieces (embDesc r.desc).tid ps (lockTaken e r t) →
      y.2.1 = false →
      z = rowMake e (embTbl r.tbl) y.1 (w.grad.map f32) y.2.2 →
      exec (.embRowLockGrant dt e) s = .next (settle (let t := z.2.setEmb e (some { r with todo := l, rows := r.rows + 1, waitFrom := none })
        { t with comp := { t.comp with locks := t.comp.locks ++ [⟨e, (embDesc r.desc).tid, w.va, ps, z.1⟩] } }))) ∧
    (∀ (dt : Nat) (e : Fin 2) (r : EmbRun) (w : EmbGrad) (l : List EmbGrad) (ps : List (Nat × Nat)) (t : State) (s u : State), u = elapse dt s →
      u.embRun e = some r →
      r.todo = w :: l →
      u.mmu.stall.get none (38 + e) = none →
      rowPieces e (embDesc r.desc).tid ((embTbl r.tbl).rowLen + 1) w.va (embTbl r.tbl).rowLen [] u = (.ok ps, t) →
      128 ≤ t.comp.locks.length ∨ rowLocked t ((ps.map Prod.fst).headD 0) = true →
      exec (.embRowLockGrant dt e) s = .next (settle (t.setEmb e (some { r with waitFrom := some (r.waitFrom.getD t.now) })))) ∧
    (∀ (dt : Nat) (e : Fin 2) (addr : Nat) (l : EmbLock) (t : State) (s u : State), u = elapse dt s →
      (u.comp.locks.find? (fun l => l.e == e.val && (l.pieces.map Prod.fst).head? == some addr) = some l) →
      t = { u with comp := { u.comp with locks := u.comp.locks.filter (· != l) } } →
      exec (.embRowWriteAck dt e addr) s = .next (settle ((writePieces l.tid l.pieces l.data t).bump .embCntRows 1 e))) ∧
    (∀ (dt : Nat) (e : Fin 2) (x : List Upset) (r : EmbRun) (s u : State), u = elapse dt s →
      x = [] →
      u.embRun e = some r →
      u.mmu.stall.get none (38 + e) = none →
      r.end_ = 0 →
      r.stage = 2 →
      (embDesc r.desc).op = 2 →
      r.todo = [] →
      (u.comp.locks.any (fun l => l.e == e.val) = false) →
      exec (.embJobDone dt e x) s = .next (settle (embEnd e (if r.skipped = 0 then 1 else 2) r.skipped r.rows u))) ∧
    (∀ (dt : Nat) (e : Fin 2) (x : List Upset) (r : EmbRun) (s u : State), u = elapse dt s →
      x = [] →
      u.embRun e = some r →
      u.mmu.stall.get none (38 + e) = none →
      r.end_ = 0 →
      r.stage = 2 →
      (embDesc r.desc).op = 1 →
      (u.comp.locks.any (fun l => l.e == e.val) = false) →
      exec (.embJobDone dt e x) s = .next (settle (gatherDone e r u))) ∧
    (∀ (dt : Nat) (e : Fin 2) (x : List Upset) (r : EmbRun) (s u : State), u = elapse dt s →
      x = [] →
      u.embRun e = some r →
      u.mmu.stall.get none (38 + e) = none →
      r.end_ = 3 →
      (u.comp.locks.any (fun l => l.e == e.val) = false) →
      exec (.embJobDone dt e x) s = .next (settle (embDead e 3 r.cause (embDesc r.desc) u))) ∧
    (∀ (dt : Nat) (e : Fin 2) (v : Word) (s u : State), u = elapse dt s →
      u.embRun e = none →
      exec (.embSrSeedWrite dt e v) s = .next (settle (embSeedLoad e { u with comp := { u.comp with embSeed := u.comp.embSeed.set e (some v.toNat) } })))

/-- In each TCLK a bank grants one request that its Clamp allows: a wide one by R204, and then every other request waits and is counted, or without one a narrow one by R206, whose partial write first only opens its merge; a request that Clamp blocks is recorded, and a bank that has granted grants no more; a granted access takes effect at the grant and completes after its latency with its data, or fails where its grant met an uncorrectable word; a correction is written back while the bank is free; a narrow request that has waited the limit raises its event once; a zero-fill is refused for a cluster in use and otherwise takes 1,024 TCLK; the counters clear at the next TCLK. Where the spec is silent it states the model's own choices and readings of log entries 38, 41. (R101, R203, R204, R205, R206, R207, R208, R210, R211, R212, R213) -/
def Obligations.ScratchpadBanks : Prop :=
    (∀ (dt : Nat) (k : Fin 1280) (reqs : List SpmReq) (x : List Upset) (l : List SpmReq) (w : SpmReq) (s u : State), u = elapse dt s →
      x = [] →
      bankTaken u k = false →
      (l = reqs.filter fun r => isSpm r.addr && bankOf r.addr == k && !recordTime u r) →
      l.all (spmAllowed u) = true →
      wideWinner k (tclkNo u) (l.filter SpmReq.wide) = some w →
      exec (.spmAccessGrant dt k ⟨reqs, x⟩) s = .next (settle (grantWide k w (bankCount k false (l.filter fun r => !r.wide).length (bankCount k true ((l.filter SpmReq.wide).length - 1)
          (noteWaits k none (l.filter fun r => !r.wide) u)))))) ∧
    (∀ (dt : Nat) (k : Fin 1280) (reqs : List SpmReq) (x : List Upset) (l : List SpmReq) (r : SpmReq) (t : State) (s u : State), u = elapse dt s →
      x = [] →
      bankTaken u k = false →
      (l = reqs.filter fun r => isSpm r.addr && bankOf r.addr == k && !recordTime u r) →
      l.all (spmAllowed u) = true →
      wideWinner k (tclkNo u) (l.filter SpmReq.wide) = none →
      (narrowWinner u k (l.filter fun r => !r.wide) = some r) →
      r.data = none ∨ r.strobes % 256 = 255 ∨ (u.bank k).merge ≠ none →
      (t = noteWaits k (some r) (l.filter fun r => !r.wide) u) →
      exec (.spmAccessGrant dt k ⟨reqs, x⟩) s = .next (settle (takeEffect r (takeBank k (t.setBank k { t.bank k with merge := none, last := match r.who with | .narrow t _ _ => t % 4 | _ => (t.bank k).last }))))) ∧
    (∀ (dt : Nat) (k : Fin 1280) (reqs : List SpmReq) (x : List Upset) (l : List SpmReq) (r : SpmReq) (t : State) (s u : State), u = elapse dt s →
      x = [] →
      bankTaken u k = false →
      (l = reqs.filter fun r => isSpm r.addr && bankOf r.addr == k && !recordTime u r) →
      l.all (spmAllowed u) = true →
      wideWinner k (tclkNo u) (l.filter SpmReq.wide) = none →
      (narrowWinner u k (l.filter fun r => !r.wide) = some r) →
      r.data ≠ none →
      r.strobes % 256 ≠ 255 →
      (u.bank k).merge = none →
      (t = noteWaits k (some r) (l.filter fun r => !r.wide) u) →
      exec (.spmAccessGrant dt k ⟨reqs, x⟩) s = .next (settle (takeBank k (t.setBank k { t.bank k with merge := some r, last := match r.who with | .narrow t _ _ => t % 4 | _ => (t.bank k).last })))) ∧
    (∀ (dt : Nat) (k : Fin 1280) (reqs : List SpmReq) (x : List Upset) (r : SpmReq) (s u : State), u = elapse dt s →
      x = [] →
      reqs = [r] →
      bankTaken u k = false →
      isSpm r.addr = true →
      bankOf r.addr = k →
      recordTime u r = false →
      spmAllowed u r = false →
      exec (.spmAccessGrant dt k ⟨reqs, x⟩) s = .next (settle (spmBlocked r u))) ∧
    (∀ (dt : Nat) (k : Fin 1280) (reqs : List SpmReq) (x : List Upset) (s u : State), u = elapse dt s →
      x = [] →
      bankTaken u k = true →
      exec (.spmAccessGrant dt k ⟨reqs, x⟩) s = .next (settle u)) ∧
    (∀ (dt : Nat) (k : Nat) (x : List Upset) (f : SpmFlight) (s u : State), u = elapse dt s →
      x = [] →
      u.spm.flight[k]? = some f →
      f.bad = false →
      (f.grantAt + (spmLatency f.req.base + (if f.corr then 4 else 0)) * rootPerT ≤ u.now) →
      exec (.spmAccessComplete dt k x) s = .next (settle ({ u with spm := { u.spm with flight := u.spm.flight.eraseIdx k } }.respond 0 (spmData f)))) ∧
    (∀ (dt : Nat) (k : Nat) (x : List Upset) (f : SpmFlight) (s u : State), u = elapse dt s →
      x = [] →
      u.spm.flight[k]? = some f →
      f.bad = true →
      (f.grantAt + (spmLatency f.req.base + (if f.corr then 4 else 0)) * rootPerT ≤ u.now) →
      exec (.spmAccessComplete dt k x) s = .next (settle (spmFail f.req ({ u with spm := { u.spm with flight := u.spm.flight.eraseIdx k } }.respond rData (spmData f))))) ∧
    (∀ (dt : Nat) (k : Fin 1280) (a : Nat) (s u : State), u = elapse dt s →
      (u.ecc.wb.find? (fun a => bankOf a == k) = some a) →
      bankFree u k = true →
      exec (.spmEccWriteback dt k) s = .next (settle (takeBank k (eccFresh [a] u)))) ∧
    (∀ (dt : Nat) (tid : Nat) (addr : Nat) (port : Nat) (w : SpmWait) (s u : State), u = elapse dt s →
      u.rd .spmStarveLim ≠ 0 →
      u.spm.wait = [w] →
      starves u tid addr port w = true →
      exec (.spmNarrowStarve dt tid addr port) s = .next (settle (raise .spmNarrowStarve tid (spmArg addr) { u with spm := { u.spm with wait := [{ w with told := true }] } }))) ∧
    (∀ (dt : Nat) (tid : Nat) (v : Byte) (s u : State), u = elapse dt s →
      (∀ c : Nat, c < 8 → bitOf v.toNat c = true → clusterInUse u c = false) →
      exec (.spmInit dt tid v) s = .next (settle (foldN 8 (fun c t => if bitOf v.toNat c then spmInitStart c t else t) u))) ∧
    (∀ (dt : Nat) (c : Fin 8) (e : Nat) (s u : State), u = elapse dt s →
      u.spm.initEnd.get none c = some e →
      e ≤ u.now →
      exec (.spmInitDone dt c) s = .next (settle (let t := clearCluster c (u.wrBit .spmInit c false)
        gateOn (3 + c) { t with spm := { t.spm with initEnd := t.spm.initEnd.set c none } }))) ∧
    (∀ (dt : Nat) (s u : State), u = elapse dt s →
      exec (.spmCntClr dt) s = .next (settle ({ u.wr .spmCntClr 1 with spm := { u.spm with clr := true } }))) ∧
    (∀ (dt : Nat) (x : List Upset) (b : Nat) (s u : State), u = elapse dt s →
      x = [] →
      u.rd .memcScrubEn = 1 →
      u.memc.trained = true →
      u.clockOn 14 = true →
      scrubDue u = true →
      b = u.memc.scrubNext →
      b ∉ u.ecc.unc →
      b ∉ u.ecc.cor →
      exec (.memcScrubRead dt x) s = .next (settle ({ u with memc := { u.memc with scrubNext := (if b + 64 < dramUsable u then b + 64 else 0), scrubAt := u.now } }))) ∧
    (∀ (dt : Nat) (s u : State), u = elapse dt s →
      exec (.memcCntClr dt) s = .next (settle (foldN 8 (fun c s => s.wr .memcChCorr 0 c)
          { (u.wr .memcEccCorr 0).wr .memcEccUnc 0 with ecc := { u.ecc with memTold := false } })))

/-- A pool that meets R215 is enabled, or enabled anew, with every buffer FREE, and another raises EVT_BPU_CFG_REJECT; a pool whose buffers are all FREE is disabled; an allocation takes the oldest FREE buffer, counts its generation from 255 to 1 and returns the handle; a free by the owner puts the buffer last; a give changes the owner; a reclaim holds the unit for one NCLK per buffer and then frees every buffer of the TID. Where the spec is silent it states the model's own choices and readings of log entry 8. (R214, R215, R216, R217, R219) -/
def Obligations.BufferPools : Prop :=
    (∀ (dt : Nat) (tid : Nat) (p : Fin 32) (s u : State), u = elapse dt s →
      poolOk u p = true →
      exec (.poolEnable dt tid p) s = .next (settle ((((u.setPool p { bufs := (u.pool p).bufs.map fun e => (e.1, { e.2 with alloc := false }), free := List.range (poolCount u p), hadFree := true }).wr
          .poolEn 1 p).wr .poolFree (poolCount u p) p).wr .poolLow (poolCount u p) p))) ∧
    (∀ (dt : Nat) (tid : Nat) (p : Fin 32) (s u : State), u = elapse dt s →
      poolOk u p = false →
      exec (.poolEnable dt tid p) s = .next (settle (raise .bpuCfgReject tid (0x800 + p * 0x20) u))) ∧
    (∀ (dt : Nat) (tid : Nat) (p : Fin 32) (s u : State), u = elapse dt s →
      u.rd .poolEn p = 1 →
      (u.pool p).free.length = poolCount u p →
      exec (.poolDisable dt tid p) s = .next (settle (u.wr .poolEn 0 p))) ∧
    (∀ (dt : Nat) (tid : Nat) (p : Fin 32) (i : Nat) (l : List Nat) (x : BpuPool) (g : Nat) (s u : State), u = elapse dt s →
      u.bpu.reclaim = none →
      u.rd .poolEn p = 1 →
      x = u.pool p →
      x.free = i :: l →
      (g = (if (x.buf i).gen = 255 then 1 else (x.buf i).gen + 1)) →
      exec (.bpuAlloc dt tid p) s = .next (settle ((showFree p (u.setPool p { x with bufs := x.bufs.set i ⟨true, tid, g⟩, free := l })).respond 0 (leBytes 4 (g + i * 256 + p * 2 ^ 24))))) ∧
    (∀ (dt : Nat) (tid : Nat) (p : Fin 32) (h : Word) (i : Nat) (x : BpuPool) (b : BpuBuf) (s u : State), u = elapse dt s →
      u.bpu.reclaim = none →
      handleBad u p h.toNat none = none →
      x = u.pool p →
      i = h.toNat / 256 % 65536 →
      b = x.buf i →
      b.alloc = true →
      b.gen = h.toNat % 256 →
      b.owner = tid →
      exec (.bpuFree dt tid p h) s = .next (settle (showFree p (u.setPool p { bufs := x.bufs.set i { b with alloc := false }, free := x.free ++ [i], hadFree := true })))) ∧
    (∀ (dt : Nat) (tid : Nat) (p : Fin 32) (g : BitVec 10) (h : Word) (i : Nat) (x : BpuPool) (b : BpuBuf) (s u : State), u = elapse dt s →
      u.bpu.reclaim = none →
      handleBad u p h.toNat (some g.toNat) = none →
      x = u.pool p →
      i = h.toNat / 256 % 65536 →
      b = x.buf i →
      b.alloc = true →
      b.gen = h.toNat % 256 →
      b.owner = tid →
      exec (.bpuGive dt tid p g h) s = .next (settle (u.setPool p { x with bufs := x.bufs.set i { b with owner := g.toNat } }))) ∧
    (∀ (dt : Nat) (g : BitVec 10) (s u : State), u = elapse dt s →
      u.bpu.reclaim = none →
      exec (.bpuReclaim dt g) s = .next (settle ({ u with bpu := { u.bpu with reclaim := some (g.toNat, u.now + ((List.range 32).map fun p => if u.rd .poolEn p = 1 then poolCount u p else 0).sum * 10) } }.wr
          .bpuReclaimBusy 1))) ∧
    (∀ (dt : Nat) (g e : Nat) (t : State) (s u : State), u = elapse dt s →
      u.bpu.reclaim = some (g, e) →
      e ≤ u.now →
      t = foldN 32 (reclaimPool g) u →
      t.bpu.waiting = [] →
      exec (.bpuReclaimDone dt) s = .next (settle ({ t with bpu := { t.bpu with reclaim := none, waiting := [] } }.wr .bpuReclaimBusy 0)))

/-- A request that fails one of the checks of Table FAB-1 gets that response, zeros for a read, and the record of R242; a read of memory that passes returns the bytes, and a write stores them; a request to a block reads or writes its register; a target port takes one request in an NCLK, in the cyclic order of the initiator ports, and a request that it does not take has not been made yet; a request that waits past its timeout gets TIMEOUT, zeros for a read, and raises EVT_FAB_TIMEOUT, and an answer after that is counted. Where the spec is silent it states the model's own choices and readings of log entries 4, 8, 38. (R221, R224, R225, R226, R228, R242) -/
def Obligations.FabricRequests : Prop :=
    (∀ (dt : Nat) (f : FabIn) (env : RegEnv) (x : List Upset) (cu : List ClpUpset) (reply : FabReply) (q : Req) (t : State) (s u : State), u = elapse dt s →
      x = [] →
      cu = [] →
      fabOn u = true →
      hartTidOk u f.port f.tid = true →
      q = ⟨f.port, f.tid, f.addr, f.len, f.data.isSome⟩ →
      t = parityAt q u →
      respOf t q ≠ 0 →
      exec (.fabricRequest dt f env x cu reply) s = .next (settle ((denied q (respOf t q) t).respond (respOf t q) (if q.wr then [] else List.replicate q.len 0)))) ∧
    (∀ (dt : Nat) (f : FabIn) (env : RegEnv) (x : List Upset) (cu : List ClpUpset) (reply : FabReply) (q : Req) (t : State) (d : List Byte) (s u : State), u = elapse dt s →
      x = [] →
      cu = [] →
      fabOn u = true →
      hartTidOk u f.port f.tid = true →
      f.data = some d →
      q = ⟨f.port, f.tid, f.addr, f.len, true⟩ →
      respOf (parityAt q u) q = 0 →
      decodeAddr (parityAt q u) q.addr = some .dram →
      portTakes u f .dram = true →
      t = portTaken f .dram (parityAt q u) →
      decodeAddr t q.addr = some .dram →
      (eccWrite q.tid q.addr q.len t).1 = false →
      exec (.fabricRequest dt f env x cu reply) s = .next (settle (((eccWrite q.tid q.addr q.len t).2.wrBytes q.addr (sized f.len d)).respond 0 []))) ∧
    (∀ (dt : Nat) (f : FabIn) (env : RegEnv) (x : List Upset) (cu : List ClpUpset) (reply : FabReply) (q : Req) (t : State) (s u : State), u = elapse dt s →
      x = [] →
      cu = [] →
      fabOn u = true →
      hartTidOk u f.port f.tid = true →
      f.data = none →
      q = ⟨f.port, f.tid, f.addr, f.len, false⟩ →
      respOf (parityAt q u) q = 0 →
      decodeAddr (parityAt q u) q.addr = some .dram →
      portTakes u f .dram = true →
      t = portTaken f .dram (parityAt q u) →
      decodeAddr t q.addr = some .dram →
      (eccRead q.tid q.addr q.len t).1 = false →
      exec (.fabricRequest dt f env x cu reply) s = .next (settle ((eccRead q.tid q.addr q.len t).2.respond 0 ((eccRead q.tid q.addr q.len t).2.rdBytes q.addr q.len)))) ∧
    (∀ (dt : Nat) (f : FabIn) (env : RegEnv) (x : List Upset) (cu : List ClpUpset) (reply : FabReply) (q : Req) (t : State) (k : Nat) (s u : State), u = elapse dt s →
      x = [] →
      cu = [] →
      fabOn u = true →
      hartTidOk u f.port f.tid = true →
      q = ⟨f.port, f.tid, f.addr, f.len, f.data.isSome⟩ →
      respOf (parityAt q u) q = 0 →
      decodeAddr (parityAt q u) q.addr = some (.per k) →
      portTakes u f (.per k) = true →
      t = portTaken f (.per k) (parityAt q u) →
      decodeAddr t q.addr = some (.per k) →
      exec (.fabricRequest dt f env x cu reply) s = .next (settle (perServe q k (f.data.map (sized f.len)) env reply t))) ∧
    (∀ (dt : Nat) (f : FabIn) (env : RegEnv) (x : List Upset) (cu : List ClpUpset) (reply : FabReply) (q : Req) (k : Win) (s u : State), u = elapse dt s →
      x = [] →
      cu = [] →
      fabOn u = true →
      hartTidOk u f.port f.tid = true →
      q = ⟨f.port, f.tid, f.addr, f.len, f.data.isSome⟩ →
      respOf (parityAt q u) q = 0 →
      decodeAddr (parityAt q u) q.addr = some k →
      portTakes u f k = false →
      exec (.fabricRequest dt f env x cu reply) s = .next (settle u)) ∧
    (∀ (dt : Nat) (id : Nat) (r : FabReq) (s u : State), u = elapse dt s →
      (u.fab.reqs.find? (fun r => r.id == id) = some r) →
      r.timedOut = false →
      r.at_ + (timeoutOf u r.addr).1 ≤ u.now →
      exec (.fabricTimeout dt id) s = .next (settle (let q : Req := ⟨r.port, r.tid, r.addr, r.len, r.wr⟩
        let t := errRecord q 6 { u with fab := { u.fab with reqs := u.fab.reqs.map fun x => if x.id = id then { x with timedOut := true } else x } }
        (raise .fabTimeout r.tid (r.port + (timeoutOf t r.addr).2 * 256) t).respond 6 (if r.wr then [] else List.replicate r.len 0)))) ∧
    (∀ (dt : Nat) (id : Nat) (r : FabReq) (s u : State), u = elapse dt s →
      (u.fab.reqs.find? (fun r => r.id == id) = some r) →
      r.timedOut = true →
      ownAnswer u r = false →
      exec (.fabricLateResponse dt id) s = .next (settle ({ u with fab := { u.fab with reqs := u.fab.reqs.filter fun x => x.id != id } }.bump .fabLateCnt 1)))

/-- A commit by TID 0 captures the staging copy and waits, and a write by another TID starts none; while one waits the GO of another is discarded with EVT_FAB_CFG_REJECT and its AT_TICK and AXIS are taken; once the entries have been examined, one per NCLK, a table without an offence becomes active with EVT_FAB_CLAMP_COMMIT, and its CRC shows after a complete pass, and one with an offence leaves the active table, shows the cause and raises EVT_FAB_CFG_REJECT with the offset of the first offending entry. Where the spec is silent it states the model's own choices and readings of log entries 10, 38. (R235, R236, R237, R239) -/
def Obligations.ClampCommits : Prop :=
    (∀ (dt : Nat) (tid : Nat) (i : Fin 12) (v : Word) (w : State) (s u : State), u = elapse dt s →
      tid = 0 →
      bitOf v.toNat 0 = true →
      w = (u.wr .clpCommitAtTick (bitsOf v.toNat 1 1) i).wr .clpCommitAxis (bitsOf v.toNat 2 3) i →
      u.fab.pend.get none i = none →
      exec (.clampCommit dt tid i v) s = .next (settle ((w.wr .clpCommitGo 1 i).setClpPend i (some ⟨stagedTable w i, w.now, w.on .clpCommitAtTick i, w.rd .clpCommitAxis i⟩)))) ∧
    (∀ (dt : Nat) (tid : Nat) (i : Fin 12) (v : Word) (s u : State), u = elapse dt s →
      tid ≠ 0 →
      exec (.clampCommit dt tid i v) s = .next (settle u)) ∧
    (∀ (dt : Nat) (tid : Nat) (i : Fin 12) (v : Word) (p : ClpPend) (s u : State), u = elapse dt s →
      tid = 0 →
      bitOf v.toNat 0 = true →
      u.fab.pend.get none i = some p →
      exec (.clampCommit dt tid i v) s = .next (settle (raise .fabCfgReject tid (0x1000 + i * 0x20) ((u.wr .clpCommitAtTick (bitsOf v.toNat 1 1) i).wr .clpCommitAxis (bitsOf v.toNat 2 3) i)))) ∧
    (∀ (dt : Nat) (i : Fin 12) (p : ClpPend) (s u : State), u = elapse dt s →
      u.fab.pend.get none i = some p →
      p.goAt + clpEntries i * 10 ≤ u.now →
      clpOffence i p.tbl = none →
      (p.atTick = true → (u.tickNow p.axis).isSome = true) →
      exec (.clampCommitActivate dt i) s = .next (settle (let t := ((u.setClpPend i none).wr .clpCommitGo 0 i).wr .clpRej 0 i
        let t := holdCrc i (passEnd t i) { t with fab := { t.fab with own := t.fab.own.set i p.tbl } }
        raise .fabClampCommit 0 i (t.setClp i p.tbl)))) ∧
    (∀ (dt : Nat) (i : Fin 12) (p : ClpPend) (e c : Nat) (s u : State), u = elapse dt s →
      u.fab.pend.get none i = some p →
      p.goAt + clpEntries i * 10 ≤ u.now →
      clpOffence i p.tbl = some (e, c) →
      exec (.clampCommitActivate dt i) s = .next (settle (raise .fabCfgReject 0 (0x4000 + 4 * clpWord0 i + 16 * e) ((((u.setClpPend i none).wr .clpCommitGo 0 i).wr .clpRej 1 i).wr .clpCause c i))))

/-- A walk fills the TLBs or reports its fault, and one that was in flight when an invalidation of its TID started is made again; the probe returns the translation of a TID or its cause; a resume marks the stalls of its TID once the runtime has retired the replicas that it has written to and their invalidations have begun, and a retry ends the stall where the walk now succeeds; an invalidation advances the generation, drops the entries in its range, reads its GO as 1 and waits for 40 acknowledgements, of which an engine that holds a row of the range gives none, and one while another runs is discarded with EVT_MMU_CFG_REJECT; the last acknowledgement ends it; after 100 µs the missing ones are reported once. Where the spec is silent it states the model's own choices and readings of log entry 39. (R253, R260, R261, R263, R264, R265, R266, R267, R268, R272) -/
def Obligations.TranslationCommands : Prop :=
    (∀ (dt : Nat) (e : Fin 40) (tid : BitVec 10) (va : Nat) (wr : Bool) (begun : Nat) (r : XRes × State) (s u : State), u = elapse dt s →
      u.mmu.stall.get none e = none →
      u.mmu.invAt.get 0 tid.toNat + begun ≤ u.now →
      r = xlate e tid.toNat (va % 2 ^ 48) wr u →
      exec (.mmuWalkComplete dt e tid va ⟨wr, begun⟩) s = .next (settle (match r.1 with
        | .ok _ => r.2
        | .fault c l => engineFault e tid.toNat (va % 2 ^ 48) wr c l r.2))) ∧
    (∀ (dt : Nat) (e : Fin 40) (tid : BitVec 10) (va : Nat) (wr : Bool) (begun : Nat) (r : XRes × State) (s u : State), u = elapse dt s →
      u.mmu.stall.get none e = none →
      u.now < u.mmu.invAt.get 0 tid.toNat + begun →
      r = xlate e tid.toNat (va % 2 ^ 48) wr (u.bump .mmuCntWalk 1) →
      exec (.mmuWalkComplete dt e tid va ⟨wr, begun⟩) s = .next (settle (match r.1 with
        | .ok _ => r.2
        | .fault c l => engineFault e tid.toNat (va % 2 ^ 48) wr c l r.2))) ∧
    (∀ (dt : Nat) (v : Word) (t : State) (r : XRes × State) (s u : State), u = elapse dt s →
      v.toNat / 2 ^ 31 % 2 = 1 →
      t = (u.wr .mmuXlateTid v.toNat).wr .mmuXlateWr (bitsOf v.toNat 16 1) →
      24 ≤ t.rd .mmuXlateTid →
      t.rd .mmuDead (t.rd .mmuXlateTid) = 0 →
      r = xlateL2 (t.rd .mmuXlateTid) (t.rd .mmuXlateVaHi * 2 ^ 32 + t.rd .mmuXlateVaLo) (t.on .mmuXlateWr) t →
      exec (.mmuXlate dt v) s = .next (settle (match r.1 with
        | .fault c _ => ((r.2.wr .mmuXlateDone 1).wr .mmuXlateFault 1).wr .mmuXlateCause c
        | .ok x =>
          let pa := x.phys (t.rd .mmuXlateVaHi * 2 ^ 32 + t.rd .mmuXlateVaLo)
          let w := ((r.2.wr .mmuXlateDone 1).wr .mmuXlateFault 0).wr .mmuXlateCause 0
          let w := ((w.wr .mmuXlatePgs x.pgs).wr .mmuXlatePaLo (pa / 4096)).wr .mmuXlatePaHi (pa / 2 ^ 32)
          w.wr .mmuXlateGen (w.rd .mmuGen (t.rd .mmuXlateTid))))) ∧
    (∀ (dt : Nat) (tid : BitVec 10) (s u : State), u = elapse dt s →
      stalledReplicas u tid.toNat = [] →
      u.host.inv = [] →
      exec (.mmuResume dt tid) s = .next (settle (foldN 40 (fun e t => match t.mmu.stall.get none e with
          | some x => if x.tid = tid.toNat then { t with mmu := { t.mmu with stall := t.mmu.stall.set e (some { x with retry := true }) } } else t
          | none => t) u))) ∧
    (∀ (dt : Nat) (tid : BitVec 10) (x : List (Nat × Nat × Nat) × State) (s u : State), u = elapse dt s →
      x = startInvs ((stalledReplicas u tid.toNat).foldl retireReplica u).host.inv ((stalledReplicas u tid.toNat).foldl retireReplica u) →
      x.1 ≠ [] →
      exec (.mmuResume dt tid) s = .next (settle ({ x.2 with host := { x.2.host with inv := x.1 } }))) ∧
    (∀ (dt : Nat) (e : Fin 40) (x : MmuStall) (r : XRes × State) (y : TlbEnt) (s u : State), u = elapse dt s →
      u.mmu.stall.get none e = some x →
      x.retry = true →
      invRuns u x.tid = false →
      r = xlate e x.tid x.va x.wr (unstall e u) →
      r.1 = .ok y →
      exec (.mmuRetry dt e) s = .next (settle (r.2))) ∧
    (∀ (dt : Nat) (tid : Nat) (v : Word) (w t : State) (i : MmuInv) (s u : State), u = elapse dt s →
      v.toNat / 2 ^ 31 % 2 = 1 →
      u.rd .mmuInvBusy = 0 →
      w = u.wr .mmuInvTid v.toNat →
      i = ⟨w.rd .mmuInvTid, w.rd .mmuInvBaseHi * 2 ^ 32 + w.rd .mmuInvBaseLo * 4096, w.rd .mmuInvLen, w.now⟩ →
      t = (((((w.wr .mmuGen (nextGen (w.rd .mmuGen i.tid)) i.tid).wr .mmuInvBusy 1).wr .mmuInvGo 1).wr .mmuInvTimeout 0).wr .mmuInvAckLo 0).wr .mmuInvAckHi 0 →
      exec (.mmuInvalidate dt tid v) s = .next (settle (invDone (foldN 40 (fun e s => if ackAtOnce s e then setAck e s else s)
          { t with mmu := { t.mmu with inv := some i, invAt := t.mmu.invAt.set i.tid t.now, l1 := t.mmu.l1.map fun e => (e.1, e.2.filter fun x => !i.covers x),
                                       l2 := t.mmu.l2.map fun e => (e.1, e.2.filter fun x => !i.covers x) } })))) ∧
    (∀ (dt : Nat) (tid : Nat) (v : Word) (s u : State), u = elapse dt s →
      v.toNat / 2 ^ 31 % 2 = 1 →
      u.rd .mmuInvBusy = 1 →
      exec (.mmuInvalidate dt tid v) s = .next (settle (raise .mmuCfgReject tid 0x030 (u.wr .mmuInvTid v.toNat)))) ∧
    (∀ (dt : Nat) (e : Fin 40) (i : MmuInv) (s u : State), u = elapse dt s →
      u.mmu.inv = some i →
      invHeld u e = false →
      exec (.mmuInvAck dt e) s = .next (settle (invDone (setAck e u)))) ∧
    (∀ (dt : Nat) (i : MmuInv) (s u : State), u = elapse dt s →
      u.mmu.inv = some i →
      i.at_ + 840000 ≤ u.now →
      u.rd .mmuInvTimeout = 0 →
      exec (.mmuInvTimeout dt) s = .next (settle (raise .mmuInvTimeout 1 ((List.range 40).countP fun e => !ackBit u e) (u.wr .mmuInvTimeout 1))))

/-- ACTIVATE of a slot that meets the conditions of R275 takes it to ACTIVATING, reads as 1 until it is RESIDENT and counts a switch, and otherwise is discarded with EVT_SCH_CFG_REJECT; a slot becomes RESIDENT with the Clamp entries of its shares in its clusters raises EVT_SCH_CTX_RESIDENT and begins to take its resident weights, and one whose context has ended meanwhile is terminated then; RELEASE of a resident slot without work frees it, and its shares then hold free values (R276: their contents are lost; log entry 40), with work is discarded; TERMINATE cancels what is queued, takes the slot to DRAINING and reads as 1 until it is FREE; a draining slot without a running task becomes FREE and raises EVT_SCH_CTX_FREE; TID_RETIRE removes the Clamp entries that name the TID and releases it. Where the spec is silent it states the model's own choices and readings of log entry 40. (R6, R231, R274, R275, R276, R278, R279) -/
def Obligations.ContextSlots : Prop :=
    (∀ (dt : Nat) (tid : Nat) (k : Fin 64) (s u : State), u = elapse dt s →
      activateOk u k = true →
      exec (.ctxActivate dt tid k) s = .next (settle (showSlots ((({ u with sch := { u.sch with switches := satAdd 32 u.sch.switches 1 } }.setCtx k { CtxSt.init with actAt := u.now }).wr .ctxState 1 k).wr .ctxActivate 1 k)))) ∧
    (∀ (dt : Nat) (tid : Nat) (k : Fin 64) (s u : State), u = elapse dt s →
      activateOk u k = false →
      exec (.ctxActivate dt tid k) s = .next (settle (raise .schCfgReject tid (0x2000 + k * 0x40 + 0x18) u))) ∧
    (∀ (dt : Nat) (k : Fin 64) (t v : State) (s u : State), u = elapse dt s →
      u.rd .ctxState k = 1 →
      (t = foldN 8 (fun c s => if ctxHasCluster s k c then islandInstall (2 + c) (shareEntries s k c) s else s) u) →
      (t.ctx k).ending = false →
      (v = t.setCtx k { t.ctx k with switchUs := (t.now - (t.ctx k).actAt) / 8400, weightsAt := if (t.ctx k).weights = [] then none else some (t.now + weightTime t k) }) →
      exec (.ctxResident dt k) s = .next (settle (raise .schCtxResident (v.rd .ctxTid k) k ((v.wr .ctxState 2 k).wr .ctxActivate 0 k)))) ∧
    (∀ (dt : Nat) (k : Fin 64) (t v : State) (s u : State), u = elapse dt s →
      u.rd .ctxState k = 1 →
      (t = foldN 8 (fun c s => if ctxHasCluster s k c then islandInstall (2 + c) (shareEntries s k c) s else s) u) →
      (t.ctx k).ending = true →
      (v = t.setCtx k { t.ctx k with switchUs := (t.now - (t.ctx k).actAt) / 8400, weightsAt := if (t.ctx k).weights = [] then none else some (t.now + weightTime t k) }) →
      exec (.ctxResident dt k) s = .next (settle (ctxTerminate k (raise .schCtxResident (v.rd .ctxTid k) k ((v.wr .ctxState 2 k).wr .ctxActivate 0 k))))) ∧
    (∀ (dt : Nat) (tid : Nat) (k : Fin 64) (t : State) (s u : State), u = elapse dt s →
      u.rd .ctxState k = 2 →
      slotBusy u k = false →
      (t = loseShares k (dropShares k (foldN 64 (fun ch s => if s.rd .chSlot ch = k then s.wr .chEn 0 ch else s) u))) →
      exec (.ctxRelease dt tid k) s = .next (settle (showSlots ((((t.setCtx k { t.ctx k with weights := [], weightsAt := none, ending := false }).wr .ctxState 0 k).wr .ctxActivate 0 k).wr .ctxTerminate 0 k)))) ∧
    (∀ (dt : Nat) (tid : Nat) (k : Fin 64) (s u : State), u = elapse dt s →
      u.rd .ctxState k ≠ 2 ∨ slotBusy u k = true →
      exec (.ctxRelease dt tid k) s = .next (settle (raise .schCfgReject tid (0x2000 + k * 0x40 + 0x18) u))) ∧
    (∀ (dt : Nat) (k : Fin 64) (s u : State), u = elapse dt s →
      u.rd .ctxState k = 2 →
      exec (.ctxTerminate dt k) s = .next (settle ((disableChannels k (cancelStalled k
          (foldN 64 (fun ch s => if s.rd .chSlot ch = k then cancelQueued ch 8 s else s) u))).wr .ctxState 3 k |>.wr .ctxTerminate 1 k))) ∧
    (∀ (dt : Nat) (k : Fin 64) (t : State) (s u : State), u = elapse dt s →
      u.rd .ctxState k = 3 →
      (u.sch.runs.any (fun r => u.rd .chSlot r.ch == k.val) = false) →
      t = loseShares k (dropShares k u) →
      exec (.ctxFree dt k) s = .next (settle (raise .schCtxFree (u.rd .ctxTid k) k (showSlots ((((t.setCtx k { t.ctx k with weights := [], weightsAt := none, ending := false }).wr .ctxState 0 k).wr .ctxActivate 0 k).wr
          .ctxTerminate 0 k))))) ∧
    (∀ (dt : Nat) (tid : BitVec 10) (t : State) (s u : State), u = elapse dt s →
      24 ≤ tid.toNat →
      tidQuiet u tid.toNat = true →
      (t = foldN 12 (fun i s => if (s.clpTab i).any fun e => e.2.v && e.2.tlo ≤ tid.toNat && tid.toNat ≤ e.2.thi then islandRemove i (fun e => e.v && e.tlo ≤ tid.toNat && tid.toNat ≤ e.thi) s else s) u) →
      exec (.tidRetire dt tid) s = .next (settle ({ t with host := { t.host with tids := t.host.tids.filter (· != tid.toNat) } })))

/-- A tail that R281 allows is taken, another discarded with EVT_SCH_CFG_REJECT; a dispatcher starts the task of its choice on the resource it takes, completes a barrier with result 1 and ends an invalid task with result 7; a core task ends with the result that arose, 1 if none; a DMA task whose rows all move ends with result 1; a convolution task ends when its job has; a core or DMA task that still runs at TLIM ends with result 6, and its core is idle once its operations in flight have completed; RESUME takes a halted channel out of HALTED; FLUSH cancels what is queued with result 8. Where the spec is silent it states the model's own choices and readings of log entries 39, 40. (R280, R281, R284, R285, R286, R287, R288) -/
def Obligations.TaskChannels : Prop :=
    (∀ (dt : Nat) (tid : Nat) (ch : Fin 64) (v : BitVec 3) (s u : State), u = elapse dt s →
      ringOk 8 (u.rd .chDone ch % 8) (u.rd .chTail ch) v.toNat = true →
      exec (.chTailSubmit dt tid ch v) s = .next (settle (showCh ch (u.wr .chTail v.toNat ch)))) ∧
    (∀ (dt : Nat) (tid : Nat) (ch : Fin 64) (v : BitVec 3) (s u : State), u = elapse dt s →
      ringOk 8 (u.rd .chDone ch % 8) (u.rd .chTail ch) v.toNat = false →
      exec (.chTailSubmit dt tid ch v) s = .next (settle (raise .schCfgReject tid (0x100 + ch * 0x40 + 4) u))) ∧
    (∀ (dt : Nat) (c : Fin 8) (ch : Nat) (r : TaskRes) (s u : State), u = elapse dt s →
      (tdOrder u c).findSome? (tdTake u c) = some (ch, some r) →
      exec (.taskDispatch dt c) s = .next (settle (startTask ch (taskDesc u ch (u.rd .chHead ch)) r u))) ∧
    (∀ (dt : Nat) (c : Fin 8) (ch : Nat) (s u : State), u = elapse dt s →
      (tdOrder u c).findSome? (tdTake u c) = some (ch, none) →
      taskValid u ch (taskDesc u ch (u.rd .chHead ch)) = true →
      exec (.taskDispatch dt c) s = .next (settle (endEntry ch (u.rd .chHead ch) 1 0 (((u.setCh ch { u.ch ch with ready := none }).wr .chHead (u.rd .chHead ch + 1) ch).bump .schDispCnt 1)))) ∧
    (∀ (dt : Nat) (c : Fin 8) (ch : Nat) (s u : State), u = elapse dt s →
      (tdOrder u c).findSome? (tdTake u c) = some (ch, none) →
      taskValid u ch (taskDesc u ch (u.rd .chHead ch)) = false →
      exec (.taskDispatch dt c) s = .next (settle (endEntry ch (u.rd .chHead ch) 7 0 ((u.setCh ch { u.ch ch with ready := none }).wr .chHead (u.rd .chHead ch + 1) ch)))) ∧
    (∀ (dt : Nat) (ch : Fin 64) (i : Fin 8) (r : TaskRun) (k : Nat) (s u : State), u = elapse dt s →
      findRun u ch i = some r →
      r.stallFrom = none →
      r.res = .core k →
      r.fail ≠ 0 ∨ u.now - r.startAt - r.stalled < u.rd .schTlim * 8400 + 8 →
      exec (.taskComplete dt ch i) s = .next (settle (handOver (endRun r (if r.fail = 0 then 1 else r.fail) u)))) ∧
    (∀ (dt : Nat) (ch : Fin 64) (i : Fin 8) (r : TaskRun) (c x k : Nat) (t : State) (s u : State), u = elapse dt s →
      findRun u ch i = some r →
      r.stallFrom = none →
      r.res = .dma c x →
      u.now - r.startAt - r.stalled < u.rd .schTlim * 8400 + 8 →
      dmaRun r 65536 u = (0, k, t) →
      exec (.taskComplete dt ch i) s = .next (settle (handOver (endRun r 1 t)))) ∧
    (∀ (dt : Nat) (ch : Fin 64) (i : Fin 8) (r : TaskRun) (c : Nat) (s u : State), u = elapse dt s →
      findRun u ch i = some r →
      r.stallFrom = none →
      r.res = .cnv c →
      r.fail ≠ 0 →
      exec (.taskComplete dt ch i) s = .next (settle (handOver (endRun r (if u.rd .schTlim * 8400 < u.now - r.startAt - r.stalled then 6 else r.fail) u)))) ∧
    (∀ (dt : Nat) (ch : Fin 64) (i : Fin 8) (rows : Nat) (r : TaskRun) (k : Nat) (s u : State), u = elapse dt s →
      findRun u ch i = some r →
      r.stallFrom = none →
      u.rd .schTlim * 8400 ≤ u.now - r.startAt - r.stalled →
      u.now - r.startAt - r.stalled < u.rd .schTlim * 8400 + 8 →
      r.fail = 0 →
      r.res = .core k →
      u.rd .tcState k ≠ 1 ∨ (u.core k).busyTo ≤ u.now →
      exec (.taskOverrun dt ch i rows) s = .next (settle (handOver (endRun r 6 u)))) ∧
    (∀ (dt : Nat) (ch : Fin 64) (i : Fin 8) (rows : Nat) (r : TaskRun) (k : Nat) (t : State) (s u : State), u = elapse dt s →
      findRun u ch i = some r →
      r.stallFrom = none →
      u.rd .schTlim * 8400 ≤ u.now - r.startAt - r.stalled →
      u.now - r.startAt - r.stalled < u.rd .schTlim * 8400 + 8 →
      r.fail = 0 →
      r.res = .core k →
      u.rd .tcState k = 1 →
      u.now < (u.core k).busyTo →
      t = endRun r 6 u →
      exec (.taskOverrun dt ch i rows) s = .next (settle (handOver (({ t with sch := { t.sch with drain := k :: t.sch.drain } }.wr .tcState 1 k).wr .tcTid r.tid k)))) ∧
    (∀ (dt : Nat) (ch : Fin 64) (s u : State), u = elapse dt s →
      u.rd .chState ch = 2 →
      exec (.chResume dt ch) s = .next (settle (showCh ch (u.wr .chState 0 ch)))) ∧
    (∀ (dt : Nat) (ch : Fin 64) (i : Nat) (s u : State), u = elapse dt s →
      i = u.rd .chHead ch →
      chQueued u ch = 1 →
      chQueued (endEntry ch i 8 0 (u.wr .chHead (i + 1) ch)) ch = 0 →
      exec (.chFlush dt ch) s = .next (settle (endEntry ch i 8 0 (u.wr .chHead (i + 1) ch)))) ∧
    (∀ (dt : Nat) (ch : Fin 64) (s u : State), u = elapse dt s →
      chQueued u ch = 0 →
      exec (.chFlush dt ch) s = .next (settle u))

/-- A well-formed model whose arena fits and whose weights fit the weight space is class 0; one that exceeds it by at most a quarter is class 1 and raises EVT_SCH_FITS_STREAMED; a malformed report, or an arena that does not fit, is class 3 with reason 1 or 2 and raises EVT_SCH_MODEL_REJECTED with the reason. Where the spec is silent it states the model's own choices and readings of log entry 48. (R291, R292, R293) -/
def Obligations.ModelClassification : Prop :=
    (∀ (dt : Nat) (k : Fin 64) (modelId : Nat) (img : ModelImage) (w : Nat) (aCs : Nat) (aLs : Nat) (ls cs sh : Nat) (s u : State), u = elapse dt s →
      ls = u.rd .ctxLsNb k * 0x8000 →
      cs = u.rd .ctxCsNb k * 0x20000 →
      sh = ctxClusters u k * (cs - aCs) →
      img.ok = true →
      aLs ≤ ls →
      aCs < cs →
      w ≤ sh →
      exec (.modelLoad dt k modelId img w aCs aLs) s = .next (settle ({ u with sch := { u.sch with load := ⟨modelId, 0, 0, w - sh, aLs - ls, 0, 0, 0⟩ } }))) ∧
    (∀ (dt : Nat) (k : Fin 64) (modelId : Nat) (img : ModelImage) (w : Nat) (aCs : Nat) (aLs : Nat) (ls cs sh : Nat) (s u : State), u = elapse dt s →
      ls = u.rd .ctxLsNb k * 0x8000 →
      cs = u.rd .ctxCsNb k * 0x20000 →
      sh = ctxClusters u k * (cs - aCs) →
      img.ok = true →
      aLs ≤ ls →
      aCs < cs →
      sh < w →
      4 * w ≤ 5 * sh →
      exec (.modelLoad dt k modelId img w aCs aLs) s = .next (settle (raise .schFitsStreamed 1 k { u with sch := { u.sch with load := ⟨modelId, 1, 0, w - sh, aLs - ls, 0, ceilDiv (w - sh) (2 * u.rd .ctxBw k), 0⟩ } }))) ∧
    (∀ (dt : Nat) (k : Fin 64) (modelId : Nat) (img : ModelImage) (w : Nat) (aCs : Nat) (aLs : Nat) (ls cs sh : Nat) (s u : State), u = elapse dt s →
      ls = u.rd .ctxLsNb k * 0x8000 →
      cs = u.rd .ctxCsNb k * 0x20000 →
      sh = ctxClusters u k * (cs - aCs) →
      img.ok = false →
      exec (.modelLoad dt k modelId img w aCs aLs) s = .next (settle (raise .schModelRejected 1 1 { u with sch := { u.sch with load := ⟨modelId, 3, 1, w - sh, aLs - ls, 0, 0, 3⟩ } }))) ∧
    (∀ (dt : Nat) (k : Fin 64) (modelId : Nat) (img : ModelImage) (w : Nat) (aCs : Nat) (aLs : Nat) (ls cs sh : Nat) (s u : State), u = elapse dt s →
      ls = u.rd .ctxLsNb k * 0x8000 →
      cs = u.rd .ctxCsNb k * 0x20000 →
      sh = ctxClusters u k * (cs - aCs) →
      img.ok = true →
      ls < aLs ∨ cs ≤ aCs →
      exec (.modelLoad dt k modelId img w aCs aLs) s = .next (settle (raise .schModelRejected 1 2 { u with sch := { u.sch with load := ⟨modelId, 3, 2, w - sh, aLs - ls, 0, 0, 3⟩ } })))

/-- A request before the dictionary is ready is turned away; with fewer than 16 of its interface waiting it is queued, with 16 it is counted and turned away, and reported once; a read that Table OD-2 allows returns the bytes of the object, another its abort code; a write that passes the checks of Table OD-2 takes effect and is answered, another is answered with its abort code and changes nothing. Where the spec is silent it states the model's own choices and readings of log entry 18. (R294, R295, R296, R298, R299, R300) -/
def Obligations.DictionaryRequests : Prop :=
    (∀ (dt : Nat) (q : OdReq) (s u : State), u = elapse dt s →
      u.rd .hostDictReady ≠ 1 →
      q.src.port = 0 →
      exec (.odRequestReceive dt q) s = .next (settle (odReply q 1 0x08000022 [] u))) ∧
    (∀ (dt : Nat) (q : OdReq) (s u : State), u = elapse dt s →
      u.rd .hostDictReady = 1 →
      ((u.od.queue.filter fun r => r.src.port == q.src.port).length < 16) →
      exec (.odRequestReceive dt q) s = .next (settle ({ u with od := { u.od with queue := u.od.queue ++ [q.stamp u.now] } }))) ∧
    (∀ (dt : Nat) (q : OdReq) (s u : State), u = elapse dt s →
      u.rd .hostDictReady = 1 →
      (16 ≤ (u.od.queue.filter fun r => r.src.port == q.src.port).length) →
      q.src.port = 0 →
      0 ∉ u.od.ovfTold →
      exec (.odRequestReceive dt q) s = .next (settle (odReply q 1 0x05040005 [] (let t := u.setOb .odOvf (satAdd 32 (u.ob .odOvf 0 0) 1) 0 0
          raise .odQueueOvf 1 0 { t with od := { t.od with ovfTold := 0 :: t.od.ovfTold } })))) ∧
    (∀ (dt : Nat) (q : OdReq) (l : List OdReq) (x : State) (k : ObjKey) (s u : State), u = elapse dt s →
      u.od.auth = none →
      u.od.queue = q :: l →
      x = { u with od := { u.od with queue := l } } →
      q.op = .read →
      q.names .logRecord = false →
      q.names .logBlock = false →
      odAccess q.idx q.sub false = 0 →
      objAt q.idx q.sub = some k →
      exec (.odRead dt) s = .next (settle (odReply q 0 0 (odBytes x k) x))) ∧
    (∀ (dt : Nat) (q : OdReq) (l : List OdReq) (x : State) (s u : State), u = elapse dt s →
      u.od.auth = none →
      u.od.queue = q :: l →
      x = { u with od := { u.od with queue := l } } →
      q.op = .read →
      q.names .logRecord = false →
      q.names .logBlock = false →
      odAccess q.idx q.sub false ≠ 0 →
      exec (.odRead dt) s = .next (settle (odReply q 1 (odAccess q.idx q.sub false) [] x))) ∧
    (∀ (dt : Nat) (progEnd : Nat) (q : OdReq) (l : List OdReq) (x : State) (k : ObjKey) (v : List Byte) (s u : State), u = elapse dt s →
      u.od.auth = none →
      u.od.queue = q :: l →
      x = { u with od := { u.od with queue := l } } →
      q.op = .write v →
      objAt q.idx q.sub = some k →
      ownRow k.o = false →
      odWriteCheck x q.idx q.sub v = 0 →
      exec (.odWrite dt progEnd) s = .next (settle (odReply q 0 0 [] (odApply k (leNat v) progEnd x)))) ∧
    (∀ (dt : Nat) (progEnd : Nat) (q : OdReq) (l : List OdReq) (x : State) (v : List Byte) (s u : State), u = elapse dt s →
      u.od.auth = none →
      u.od.queue = q :: l →
      x = { u with od := { u.od with queue := l } } →
      q.op = .write v →
      ((objAt q.idx q.sub).any (fun k => ownRow k.o) = false) →
      odWriteCheck x q.idx q.sub v ≠ 0 →
      exec (.odWrite dt progEnd) s = .next (settle (odReply q 1 (odWriteCheck x q.idx q.sub v) [] x)))

/-- The word "save" snapshots the P objects and starts the store, which ends with a new copy and EVT_OD_STORED, or with EVT_OD_STORE_FAIL and abort 06060000; the word "load" makes the copies invalid; another word is answered 08000020; process data takes effect value by value as one unit; a read at the cursor returns one record and moves the cursor, a block read up to 64; clearing empties the log; the staging buffer is emptied, and extended by a chunk that fits. Where the spec is silent it states the model's own choices and readings of log entries 18, 24. (R301, R302, R303, R306, R308, R309, R365) -/
def Obligations.DictionaryStore : Prop :=
    (∀ (dt : Nat) (q : OdReq) (l : List OdReq) (x : State) (s u : State), u = elapse dt s →
      u.od.auth = none →
      u.od.queue = q :: l →
      x = { u with od := { u.od with queue := l } } →
      q.writes .storeAll = true →
      ownCheck q = 0 →
      q.num = 0x65766173 →
      x.od.store = none →
      exec (.odStore dt) s = .next (settle ({ x with od := { x.od with store := some ⟨snapshot x .p, q⟩ } }))) ∧
    (∀ (dt : Nat) (q : OdReq) (l : List OdReq) (x : State) (s u : State), u = elapse dt s →
      u.od.auth = none →
      u.od.queue = q :: l →
      x = { u with od := { u.od with queue := l } } →
      q.writes .storeAll = true →
      ownCheck q = 0 →
      q.num ≠ 0x65766173 →
      exec (.odStore dt) s = .next (settle (odReply q 1 0x08000020 [] x))) ∧
    (∀ (dt : Nat) (ok : Bool) (r : OdStoreRun) (n : Nat) (s u : State), u = elapse dt s →
      u.od.store = some r →
      ok = true →
      n = (match newestCopy u.od.copies with | some c => c.seq + 1 | none => 1) →
      exec (.odStoreDone dt ok) s = .next (settle (odReply r.req 0 0 [] (raise .odStored 1 n { u with od := { u.od with store := none, copies := putCopy ⟨n, true, r.vals⟩ u.od.copies } })))) ∧
    (∀ (dt : Nat) (ok : Bool) (r : OdStoreRun) (s u : State), u = elapse dt s →
      u.od.store = some r →
      ok = false →
      exec (.odStoreDone dt ok) s = .next (settle (odReply r.req 1 0x06060000 [] (raise .odStoreFail 1 0 { u with od := { u.od with store := none } })))) ∧
    (∀ (dt : Nat) (q : OdReq) (l : List OdReq) (x : State) (s u : State), u = elapse dt s →
      u.od.auth = none →
      u.od.queue = q :: l →
      x = { u with od := { u.od with queue := l } } →
      q.writes .restoreAll = true →
      ownCheck q = 0 →
      q.num = 0x64616F6C →
      exec (.odRestoreDefaults dt) s = .next (settle (odReply q 0 0 [] { x with od := { x.od with copies := x.od.copies.map fun c => { c with valid := false } } }))) ∧
    (∀ (dt : Nat) (l' : TripLive) (progEnd : Nat) (q : OdReq) (l : List OdReq) (x : State) (vs : List PdVal) (rx : Nat) (s u : State), u = elapse dt s →
      u.od.auth = none →
      u.od.queue = q :: l →
      x = { u with od := { u.od with queue := l } } →
      q.op = .process vs rx →
      exec (.processDataForward dt l' progEnd) s = .next (settle (odReply q 0 0 [] (watchErr 0 (vs.foldl (fun s y => pdWrite l' progEnd rx y s) x))))) ∧
    (∀ (dt : Nat) (q : OdReq) (l : List OdReq) (x : State) (n : Nat) (r : EvRec) (rs : List EvRec) (s u : State), u = elapse dt s →
      u.od.auth = none →
      u.od.queue = q :: l →
      x = { u with od := { u.od with queue := l } } →
      q.op = .read →
      q.names .logRecord = true →
      logFrom x.log = (n, r :: rs) →
      exec (.logReadCursor dt) s = .next (settle (odReply q 0 0 r.bytes { x with log := { x.log with cursor := (n + 1) % 2 ^ 32 } }))) ∧
    (∀ (dt : Nat) (q : OdReq) (l : List OdReq) (x : State) (n : Nat) (s u : State), u = elapse dt s →
      u.od.auth = none →
      u.od.queue = q :: l →
      x = { u with od := { u.od with queue := l } } →
      q.op = .read →
      q.names .logRecord = true →
      logFrom x.log = (n, []) →
      exec (.logReadCursor dt) s = .next (settle (odReply q 0 0 (List.replicate 16 0) x))) ∧
    (∀ (dt : Nat) (q : OdReq) (l : List OdReq) (x : State) (n : Nat) (rs : List EvRec) (s u : State), u = elapse dt s →
      u.od.auth = none →
      u.od.queue = q :: l →
      x = { u with od := { u.od with queue := l } } →
      q.op = .block →
      q.names .logBlock = true →
      logFrom x.log = (n, rs) →
      exec (.logBlockRead dt) s = .next (settle (odReply q 0 0 ((rs.take 64).flatMap EvRec.bytes) (moveCursor n (min 64 rs.length) x)))) ∧
    (∀ (dt : Nat) (q : OdReq) (l : List OdReq) (x : State) (s u : State), u = elapse dt s →
      u.od.auth = none →
      u.od.queue = q :: l →
      x = { u with od := { u.od with queue := l } } →
      q.writes .logClear = true →
      ownCheck q = 0 →
      exec (.logClear dt) s = .next (settle (odReply q 0 0 [] { x with log := { x.log with recs := [], overw := 0, ovfTold := false } }))) ∧
    (∀ (dt : Nat) (q : OdReq) (l : List OdReq) (x : State) (s u : State), u = elapse dt s →
      u.od.auth = none →
      u.od.queue = q :: l →
      x = { u with od := { u.od with queue := l } } →
      q.writes .stageReset = true →
      ownCheck q = 0 →
      exec (.stagingReset dt) s = .next (settle (odReply q 0 0 [] { x with od := { x.od with staging := [] } }))) ∧
    (∀ (dt : Nat) (q : OdReq) (l : List OdReq) (x : State) (v : List Byte) (s u : State), u = elapse dt s →
      u.od.auth = none →
      u.od.queue = q :: l →
      x = { u with od := { u.od with queue := l } } →
      q.writes .stageChunk = true →
      ownCheck q = 0 →
      q.op = .write v →
      x.od.staging.length + v.length ≤ 16777216 →
      exec (.stagingChunk dt) s = .next (settle (odReply q 0 0 [] { x with od := { x.od with staging := x.od.staging ++ v } })))

/-- A write of 0x6060 with a mode of Table OD-8 below Operation enabled sets mode and source, another value is answered 06090030 and above that state 08000022; a controlword that matches no transition is stored and does nothing else, transition 2 takes Switch on disabled to Ready, and transition 4 without an armed axis is refused with EVT_OD_AXIS_REFUSED and error code FF10; a fault condition takes an axis in Operation enabled to Fault with its error code, disables it and sends an emergency message. Where the spec is silent it states the model's own choices and readings of log entry 17. (R311, R312, R313, R315, R317) -/
def Obligations.DriveProfile : Prop :=
    (∀ (dt : Nat) (n : Fin 8) (q : OdReq) (l : List OdReq) (x : State) (m : Int) (mode src : Nat) (t : State) (s u : State), u = elapse dt s →
      u.od.auth = none →
      u.od.queue = q :: l →
      x = { u with od := { u.od with queue := l } } →
      q.axisWrite .axModeObj n = true →
      ownCheck q = 0 →
      m = signed 8 q.num →
      modeRow m = some (mode, src) →
      (x.prof n).st = 1 →
      modeTaken x n src = true →
      t = ((x.setOb .axModeObj (unsigned 8 m) n).wr .axMode mode n).wr .axSpsrc src n →
      exec (.modeOfOperationWrite dt n) s = .next (settle (odReply q 0 0 [] (forwardMode n t)))) ∧
    (∀ (dt : Nat) (n : Fin 8) (q : OdReq) (l : List OdReq) (x : State) (s u : State), u = elapse dt s →
      u.od.auth = none →
      u.od.queue = q :: l →
      x = { u with od := { u.od with queue := l } } →
      q.axisWrite .axModeObj n = true →
      ownCheck q = 0 →
      4 ≤ (x.prof n).st →
      signed 8 q.num = 0 ∨ (modeRow (signed 8 q.num)).isSome = true →
      exec (.modeOfOperationWrite dt n) s = .next (settle (odReply q 1 0x08000022 [] x))) ∧
    (∀ (dt : Nat) (n : Fin 8) (live : TripLive) (q : OdReq) (l : List OdReq) (x : State) (s u : State), u = elapse dt s →
      u.od.auth = none →
      u.od.queue = q :: l →
      x = { u with od := { u.od with queue := l } } →
      q.axisWrite .axControl n = true →
      ownCheck q = 0 →
      profMode x n ≠ 0 →
      (x.prof n).st ≠ 7 →
      cwRow (x.prof n).st q.num = none →
      exec (.controlwordWrite dt n live) s = .next (settle (odReply q 0 0 [] (watchErr 0 (x.setOb .axControl q.num n))))) ∧
    (∀ (dt : Nat) (n : Fin 8) (live : TripLive) (q : OdReq) (l : List OdReq) (x : State) (s u : State), u = elapse dt s →
      u.od.auth = none →
      u.od.queue = q :: l →
      x = { u with od := { u.od with queue := l } } →
      q.axisWrite .axControl n = true →
      ownCheck q = 0 →
      profMode x n ≠ 0 →
      (x.prof n).st = 1 →
      q.num = 6 →
      exec (.controlwordWrite dt n live) s = .next (settle (odReply q 0 0 [] (watchErr 0 (goState n 2 (x.setOb .axControl 6 n)))))) ∧
    (∀ (dt : Nat) (n : Fin 8) (live : TripLive) (q : OdReq) (l : List OdReq) (x : State) (s u : State), u = elapse dt s →
      u.od.auth = none →
      u.od.queue = q :: l →
      x = { u with od := { u.od with queue := l } } →
      q.axisWrite .axControl n = true →
      ownCheck q = 0 →
      profMode x n ≠ 0 →
      (x.prof n).st = 3 →
      q.num = 15 →
      x.rdBit .safArmed n = false →
      exec (.controlwordWrite dt n live) s = .next (settle (odReply q 0 0 [] (watchErr 0 (raise .odAxisRefused 1 n (((x.setOb .axControl 15 n).setOb .axErrCode 0xFF10 n).setProf n { x.prof n with refused := true })))))) ∧
    (∀ (dt : Nat) (n : Fin 8) (x t : State) (code bits : Nat) (s u : State), u = elapse dt s →
      x = { u with drv := { u.drv with miss := u.drv.miss.filter (· != n.val) } } →
      faultCause x n = some (code, bits) →
      profMode u n ≠ 0 →
      (u.prof n).st = 4 →
      t = (writeEn n 0 ((goState n 7 x).setOb .axErrCode code n)).setProf n ⟨7, false, bits, code == 0x2310⟩ →
      exec (.axisFaultEntry dt n) s = .next (settle (watchErr 0 (emcy (t.ob .axErrCode n) (faultEvent (t.ob .axErrCode n)) t))))

/-- A frame that an unrestricted controller receives is sorted, lowers REC and ends its rule history; an FD frame with FD off and protocol exceptions on is a protocol exception; an error moves the counter that ISO 11898-1 names and the confinement follows; SEND of a transmit mailbox makes it pending; ABORT of a pending mailbox off the bus ends it, on the bus it waits for the attempt; the mailbox that was offered at the SOF of a transmission is stamped and done; a lost attempt ends a mailbox that an ABORT waits for; ACK of an element in the queue frees the elements up to it, another is discarded with EVT_CAN_CFG_REJECT; recovery from bus-off starts once, and its end, 1,408 arbitration bits later at the earliest, clears the counters and raises EVT_CAN_BOFF_RECOVERED; the ROM bit takes effect. Where the spec is silent it states the model's own choices and readings of log entries 3, 19. (R325, R329, R330, R331, R332, R334, R335, R336, R337) -/
def Obligations.CanControllers : Prop :=
    (∀ (dt : Nat) (n : Fin 4) (f : CanFrame) (ago : Nat) (resRec : Bool) (t : State) (s u : State), u = elapse dt s →
      canLive u n = true →
      f.fd = false →
      (u.ctl n).rom = false →
      n.val ≠ 0 →
      t = sortFrame n f ago (u.wr .canBus 0 n) →
      (t.ctl n).rom = false →
      exec (.canFrameReceive dt n f ago resRec) s = .next (settle (watchErr 0 (recDown n (t.setCtl n { t.ctl n with hist := [] }))))) ∧
    (∀ (dt : Nat) (n : Fin 4) (f : CanFrame) (ago : Nat) (resRec : Bool) (s u : State), u = elapse dt s →
      canLive u n = true →
      f.fd = true →
      u.rd .canFdEn n = 0 →
      u.rd .canPexOff n = 0 →
      exec (.canFrameReceive dt n f ago resRec) s = .next (settle (raise .canProtocolExc 0 n ((u.bump .canCntPex 1 n).wr .canBus 3 n)))) ∧
    (∀ (dt : Nat) (n : Fin 4) (e : CanErr) (s u : State), u = elapse dt s →
      canLive u n = true →
      (u.ctl n).rom = false →
      e = .transmitter →
      exec (.canBusError dt n e) s = .next (settle (watchErr 0 (confine n false (u.wr .canTec (min 511 (u.rd .canTec n + 8)) n))))) ∧
    (∀ (dt : Nat) (n : Fin 4) (e : CanErr) (s u : State), u = elapse dt s →
      canLive u n = true →
      (u.ctl n).rom = false →
      e = .receiver →
      exec (.canBusError dt n e) s = .next (settle (watchErr 0 (confine n true (u.wr .canRec (min 255 (u.rd .canRec n + 1)) n))))) ∧
    (∀ (dt : Nat) (tid : Nat) (n : Fin 4) (b : Fin 64) (s u : State), u = elapse dt s →
      pairBit u .canMbdirLo .canMbdirHi b n = true →
      exec (.canMbSend dt tid n b) s = .next (settle (showTxnext n (setPair .canTxabtLo .canTxabtHi b false n (setPair .canTxdoneLo .canTxdoneHi b false n (setPair .canTxpendLo .canTxpendHi b true n (noteRequest n b u))))))) ∧
    (∀ (dt : Nat) (tid : Nat) (n : Fin 4) (b : Fin 64) (s u : State), u = elapse dt s →
      pairBit u .canMbdirLo .canMbdirHi b n = false →
      exec (.canMbSend dt tid n b) s = .next (settle (raise .canCfgReject tid (0x100 + n * 0x100 + 0x3C) u))) ∧
    (∀ (dt : Nat) (n : Fin 4) (b : Fin 64) (onBus : Bool) (s u : State), u = elapse dt s →
      pairBit u .canTxpendLo .canTxpendHi b n = true →
      onBus = false →
      exec (.canMbAbort dt n b onBus) s = .next (settle (endAborted n b u))) ∧
    (∀ (dt : Nat) (n : Fin 4) (b : Fin 64) (onBus : Bool) (s u : State), u = elapse dt s →
      pairBit u .canTxpendLo .canTxpendHi b n = true →
      onBus = true →
      canSends u n = true →
      exec (.canMbAbort dt n b onBus) s = .next (settle (u.setCtl n { u.ctl n with aborting := b.val :: (u.ctl n).aborting }))) ∧
    (∀ (dt : Nat) (n : Fin 4) (src : CanSrc) (ago : Nat) (delay : Nat) (b : Fin 64) (f : CanFrame) (t x : State) (s u : State), u = elapse dt s →
      canSends u n = true →
      src = .mb b →
      offeredAt u n b (u.now - ago) = true →
      f = canElement u n (mbWord b) →
      t = canPut n (mbWord b + 2) [(stampAt u ago).2, (stampAt u ago).1 % 2 ^ 32] u →
      x = setPair .canTxdoneLo .canTxdoneHi b true n (setPair .canTxpendLo .canTxpendHi b false n t) →
      exec (.canTxSuccess dt n src ago delay) s = .next (settle (watchErr 0 (showTxnext n (frameSent n f delay (x.setCtl n { x.ctl n with aborting := (x.ctl n).aborting.filter (· != b.val), gone := [] })))))) ∧
    (∀ (dt : Nat) (n : Fin 4) (src : CanSrc) (ago : Nat) (delay : Nat) (f : CanFrame) (s u : State), u = elapse dt s →
      canSends u n = true →
      src = .node →
      n.val = 0 →
      nodeNext u.node.tx = some f →
      exec (.canTxSuccess dt n src ago delay) s = .next (settle (watchErr 0 (booted f (frameSent 0 f delay (u.setNode { u.node with tx := u.node.tx.erase f })))))) ∧
    (∀ (dt : Nat) (n : Fin 4) (src : CanSrc) (b : Fin 64) (s u : State), u = elapse dt s →
      src = .mb b →
      b.val ∈ (u.ctl n).aborting →
      exec (.canTxRetry dt n src) s = .next (settle (endAborted n b u))) ∧
    (∀ (dt : Nat) (tid : Nat) (n : Fin 4) (q : Fin 2) (a : Fin 32) (d : Nat) (t : State) (s u : State), u = elapse dt s →
      d = (a.val + 32 - u.rd (qRd q) n) % 32 →
      d < u.rd (qFill q) n →
      t = (u.wr (qRd q) (a + 1) n).wr (qFill q) (u.rd (qFill q) n - d - 1) n →
      exec (.canQueueRelease dt tid n q a) s = .next (settle (t.setCtl n { t.ctl n with told := (t.ctl n).told.filter (· != q.val) }))) ∧
    (∀ (dt : Nat) (tid : Nat) (n : Fin 4) (q : Fin 2) (a : Fin 32) (s u : State), u = elapse dt s →
      u.rd (qFill q) n ≤ (a.val + 32 - u.rd (qRd q) n) % 32 →
      exec (.canQueueRelease dt tid n q a) s = .next (settle (raise .canCfgReject tid (0x100 + n * 0x100 + 0x20 + 8 * q) u))) ∧
    (∀ (dt : Nat) (n : Fin 4) (s u : State), u = elapse dt s →
      u.rd .canOff n = 1 →
      (u.ctl n).recov = false →
      exec (.canBoffRecover dt n) s = .next (settle (((u.setCtl n { u.ctl n with recov := true, recovAt := u.now }).wr .canBoffRecover 1 n).wr .canRecovCnt 0 n))) ∧
    (∀ (dt : Nat) (n : Fin 4) (t : State) (s u : State), u = elapse dt s →
      u.rd .canOff n = 1 →
      (u.ctl n).recov = true →
      canOn u = true →
      (u.ctl n).recovAt + 1408 * arbBit u n ≤ u.now →
      n.val ≠ 0 →
      t = (((((((u.wr .canTec 0 n).wr .canRec 0 n).wr .canOff 0 n).wr .canPassive 0 n).wr .canWarn 0 n).wr .canBoffRecover 0 n).wr .canBus 0 n).wr .canRecovCnt 128 n →
      exec (.canBoffRecovered dt n) s = .next (settle (raise .canBoffRecovered 0 n (t.setCtl n { t.ctl n with recov := false })))) ∧
    (∀ (dt : Nat) (n : Fin 4) (s u : State), u = elapse dt s →
      exec (.canRomApply dt n) s = .next (settle (u.setCtl n { u.ctl n with rom := u.rd .canRom n == 1 }))) ∧
    (∀ (dt : Nat) (s u : State), u = elapse dt s →
      u.node.up = true →
      u.rd .canOff = 1 →
      (u.ctl 0).offAt + 500 * 8400000 ≤ u.now →
      (u.ctl 0).recov = false →
      exec (.canBoffAutoRecover dt) s = .next (settle (((u.setCtl 0 { u.ctl 0 with recov := true, recovAt := u.now }).wr .canBoffRecover 1 0).wr .canRecovCnt 0 0)))

/-- An NMT command at the front of Q0 of CAN0 is released and changes the NMT state; a request on the SDO identifier goes to the dictionary once the node has booted; a transfer that has waited a second is aborted with 05040000; a TPDO of an operational node is sent when its event timer and its inhibit time have run; a consumer heartbeat that has not been heard for its time raises EVT_CAN_HB_TIMEOUT and an emergency message; a producer heartbeat is sent with its period. Where the spec is silent it states the model's own choices and readings of log entries 18, 19, 20, 22. (R340, R341, R342, R343) -/
def Obligations.CanopenNode : Prop :=
    (∀ (dt : Nat) (f : CanFrame) (s u : State), u = elapse dt s →
      u.node.up = true →
      q0Front u = some f →
      isNmt f = true →
      exec (.nmtCommand dt) s = .next (settle (nodePump 32 (nmtEffect f (releaseOne 0 0 u))))) ∧
    (∀ (dt : Nat) (usdo : SdoMsg) (f : CanFrame) (s u : State), u = elapse dt s →
      u.node.up = true →
      sdoTimeout u = u →
      q0Front u = some f →
      isSdo u f = true →
      f.fd = false →
      f.dlc = 8 →
      (releaseOne 0 0 u).node.boot = true →
      nodeServes (releaseOne 0 0 u) = true →
      exec (.sdoRequest dt usdo) s = .next (settle (nodePump 32 (sdoService false f.brs (sdoDecode f.data) (releaseOne 0 0 u))))) ∧
    (∀ (dt : Nat) (r : SdoRun) (s u : State), u = elapse dt s →
      u.node.sdo = some r →
      r.waits = false →
      r.lastAt + 1000 * 8400000 ≤ u.now →
      exec (.sdoTimeout dt) s = .next (settle (sdoAbort r.fd r.brs r.idx r.sub 0x05040000 (sdoEnd u)))) ∧
    (∀ (dt : Nat) (i : Fin 4) (c : Nat) (d : List Byte) (s u : State), u = elapse dt s →
      u.node.nmt = 5 →
      u.ob .tpdoTimer i ≠ 0 →
      c = odSpecial u .tpdoCob i 0 →
      bitOf c 31 = false →
      u.ob .tmapCount i ≠ 0 →
      u.node.tpdoFrom.get 0 i + u.ob .tpdoTimer i * 8400000 ≤ u.now →
      u.node.tpdoAt.get none i = none →
      d = tpdoBytes u i →
      d.length ≤ 8 →
      exec (.tpdoEventTimer dt i) s = .next (settle (nodeSend (classic (c % 2 ^ 11) d) (u.setNode { u.node with tpdoFrom := u.node.tpdoFrom.set i u.now, tpdoAt := u.node.tpdoAt.set i (some u.now) })))) ∧
    (∀ (dt : Nat) (j : Fin 4) (t k : Nat) (s u : State), u = elapse dt s →
      u.node.hbAt.get none j = some t →
      u.node.boot = true →
      k = u.ob .consHb 0 j →
      k % 65536 ≠ 0 →
      t + k % 65536 * 8400000 ≤ u.now →
      u.node.hbMiss.contains j.val = false →
      exec (.hbConsumerTimeout dt j) s = .next (settle (watchErr 0 (emcy 0x8130 Ev.canHbTimeout.code (raise .canHbTimeout 1 (bitsOf k 16 7) (u.setNode { u.node with hbMiss := j.val :: u.node.hbMiss })))))) ∧
    (∀ (dt : Nat) (k : Nat) (s u : State), u = elapse dt s →
      k = u.ob .prodHb →
      u.node.boot = true →
      k ≠ 0 →
      every u u.node.prodAt (k * 8400000) = true →
      exec (.heartbeatProducerTimer dt) s = .next (settle (nodeSend (classic (0x700 + nodeNo u) (leBytes 1 u.node.nmt)) (u.setNode { u.node with prodAt := u.now }))))

/-- A frame that R346 does not accept is counted, and an accepted IPv4 packet goes to the service of its protocol; a link that falls raises EVT_NET_LINK_DOWN; a Sync while LOCKED with an offset below four times the lock bound slews, and one after no Sync goes to LOCKING; three missing Sync intervals raise EVT_NET_GPTP_LOST; the gates follow DTIME; the highest queue that may start puts its frame on the line, and one that never fits is dropped with EVT_NET_GATE_DROP; GO holds the administrative list for its base time, at which it becomes operational. Where the spec is silent it states the model's own choices and readings of log entry 33. (R345, R346, R349, R350, R351, R352, R353, R354) -/
def Obligations.EthernetMacs : Prop :=
    (∀ (dt : Nat) (m : Fin 2) (f : EthFrame) (s u : State), u = elapse dt s →
      ethOn u m = true →
      u.rd .ethLink m = 1 →
      f.etype ≠ 0x88F7 →
      ethAccepts u m f = false →
      exec (.ethFrameReceive dt m f) s = .next (settle (u.bump .ethRxdrop 1 m))) ∧
    (∀ (dt : Nat) (m : Fin 2) (f : EthFrame) (s u : State), u = elapse dt s →
      ethOn u m = true →
      u.rd .ethLink m = 1 →
      f.etype = 0x0800 →
      ethAccepts u m f = true →
      u.boot.p120 = true →
      exec (.ethFrameReceive dt m f) s = .next (settle (ipReceive m f u))) ∧
    (∀ (dt : Nat) (m : Fin 2) (up : Bool) (speed : Fin 3) (s u : State), u = elapse dt s →
      ethOn u m = true →
      up = false →
      u.rd .ethLink m = 1 →
      exec (.ethLinkChange dt m up speed) s = .next (settle (raise .netLinkDown 1 m ((creditUp m u).wr .ethLink 0 m)))) ∧
    (∀ (dt : Nat) (gmSec : Nat) (gmNs : Nat) (newGm : Bool) (o : Int) (t : State) (near : Bool) (s u : State), u = elapse dt s →
      u.rd .gptpEn = 1 →
      ethOn u (u.rd .gptpPort) = true →
      u.boot.p120 = true →
      servoOff u = false →
      o = rxStamp u + secOfs u * 1000000000 - (gmSec * 1000000000 + gmNs) →
      newGm = false →
      u.rd .netState = 2 →
      o.natAbs < 4 * u.rd .servoLockNs →
      near = decide (o.natAbs < u.rd .servoLockNs) →
      t = (u.wrS .netOfsNs (satInt 32 o)).wr .netState 2 →
      exec (.gptpSync dt gmSec gmNs newGm) s = .next (settle (servoSlew o { t with eth := { t.eth with servo := { t.eth.servo with run := if near then u.eth.servo.run + 1 else 0, lastAt := t.now } } }))) ∧
    (∀ (dt : Nat) (gmSec : Nat) (gmNs : Nat) (newGm : Bool) (o : Int) (t : State) (s u : State), u = elapse dt s →
      u.rd .gptpEn = 1 →
      ethOn u (u.rd .gptpPort) = true →
      u.boot.p120 = true →
      servoOff u = false →
      o = rxStamp u + secOfs u * 1000000000 - (gmSec * 1000000000 + gmNs) →
      u.rd .netState = 0 →
      u.rd .servoLockNs ≤ o.natAbs →
      1000000000 ≤ o.natAbs →
      t = (u.wrS .netOfsNs (satInt 32 o)).wr .netState 1 →
      exec (.gptpSync dt gmSec gmNs newGm) s = .next (settle (let t := { t with eth := { t.eth with servo := { t.eth.servo with run := 0, lastAt := t.now } } }
        setSecOfs (secOfs t - wholeSec o) t))) ∧
    (∀ (dt : Nat) (s u : State), u = elapse dt s →
      u.rd .gptpEn = 1 →
      u.rd .netState = 1 ∨ u.rd .netState = 2 →
      u.eth.servo.lastAt * 10 + 3 * syncNs u * 84 ≤ u.now * 10 →
      exec (.gptpSyncTimeout dt) s = .next (settle (raise .netGptpLost 1 (u.rd .gptpPort) (u.wr .netState 3)))) ∧
    (∀ (dt : Nat) (m : Fin 2) (s u : State), u = elapse dt s →
      (u.mac m).adminAt = none →
      u.rd .tasEn m = 1 →
      exec (.tasGateEvent dt m) s = .next (settle (gateUpdate m u))) ∧
    (∀ (dt : Nat) (m : Fin 2) (s u : State), u = elapse dt s →
      (u.mac m).adminAt = none →
      u.rd .tasEn m = 0 →
      exec (.tasGateEvent dt m) s = .next (settle u)) ∧
    (∀ (dt : Nat) (tid : Nat) (m : Fin 2) (v : Word) (t x : State) (base go : Nat) (l : List GateEnt) (s u : State), u = elapse dt s →
      (u.mac m).adminAt = none →
      t = gateUpdate m (u.wr .tasEn v.toNat m) →
      bitOf v.toNat 1 = true →
      (t.mac m).adminAt = none →
      1000 ≤ t.rd .tasCycle m →
      t.rd .tasCycle m ≤ 1000000000 →
      base = (t.rd .tasBaseSecHi m * 2 ^ 32 + t.rd .tasBaseSecLo m) * 1000000000 + t.rd .tasBaseNsec m →
      go = nextStart base (t.rd .tasCycle m) t.dtNs →
      adminList t m = (l, x) →
      exec (.tasGo dt tid m v) s = .next (settle ((x.setMac m { x.mac m with adminAt := some go, admin := l, adminCycle := t.rd .tasCycle m, adminBase := go }).wr .tasGo 1 m))) ∧
    (∀ (dt : Nat) (tid : Nat) (m : Fin 2) (v : Word) (s u : State), u = elapse dt s →
      (u.mac m).adminAt = none →
      bitOf v.toNat 1 = false →
      exec (.tasGo dt tid m v) s = .next (settle (gateUpdate m (u.wr .tasEn v.toNat m)))) ∧
    (∀ (dt : Nat) (m : Fin 2) (t : Nat) (s u : State), u = elapse dt s →
      (u.mac m).adminAt = some t →
      t ≤ u.dtNs →
      exec (.tasListActivate dt m) s = .next (settle (gateUpdate m ((u.setMac m { u.mac m with adminAt := none, oper := (u.mac m).admin, cycle := (u.mac m).adminCycle, base := (u.mac m).adminBase }).wr .tasGo 0 m)))) ∧
    (∀ (dt : Nat) (m : Fin 2) (q : Nat) (f : EthOut) (s u : State), u = elapse dt s →
      (u.mac m).adminAt = none →
      ethOn u m = true →
      u.rd .ethLink m = 1 →
      (u.mac m).freeAt ≤ u.now →
      ((List.range 8).reverse.find? (fun q => mayStart u m q) = some q) →
      queueHead u m q = some f →
      exec (.ethFrameTransmit dt m) s = .next (settle (startFrame m q f u))) ∧
    (∀ (dt : Nat) (m : Fin 2) (q : Nat) (f : EthOut) (s u : State), u = elapse dt s →
      (u.mac m).adminAt = none →
      ethOn u m = true →
      u.rd .ethLink m = 1 →
      ((List.range 8).reverse.find? (fun q => mayStart u m q) = none) →
      ((List.range 8).reverse.find? (fun q => neverFits u m q) = some q) →
      queueHead u m q = some f →
      exec (.ethFrameTransmit dt m) s = .next (settle (raise .netGateDrop 1 (m + 2 * q) ((takeHead m q f u).bump .ethTasdrop 1 m))))

/-- The front datagram, if it carries the opcode and its session admits it, becomes a dictionary request with its object and its value; a SUBSCRIBE of a free channel opens it with its mapping, to publish from the next cycle, or to consume from now; a cyclic frame of the length of its mapping becomes process data and restarts the supervision of its channel. Where the spec is silent it states the model's own choices and readings of log entry 33. (R356, R357, R358, R359, R360, R364) -/
def Obligations.VdpRequests : Prop :=
    (∀ (dt : Nat) (x : VdpIn) (l : List VdpIn) (no : Nat) (t : State) (s u : State), u = elapse dt s →
      u.eth.vdpIn = x :: l →
      vdpOp x.data = 1 →
      vdpAdmit x (vdpSessionLapse { u with eth := { u.eth with vdpIn := l } }) = (some no, t) →
      exec (.vdpRead dt) s = .next (settle (odReceive ⟨.vdp no (vdpSeq x.data) 1, .read, payIdx (vdpPay x.data), paySub (vdpPay x.data)⟩ t))) ∧
    (∀ (dt : Nat) (x : VdpIn) (l : List VdpIn) (no : Nat) (t : State) (s u : State), u = elapse dt s →
      u.eth.vdpIn = x :: l →
      vdpOp x.data = 2 →
      vdpCyc x.data = false →
      vdpAdmit x (vdpSessionLapse { u with eth := { u.eth with vdpIn := l } }) = (some no, t) →
      exec (.vdpWrite dt) s = .next (settle (odReceive ⟨.vdp no (vdpSeq x.data) 2, .write ((vdpPay x.data).drop 4), payIdx (vdpPay x.data), paySub (vdpPay x.data)⟩ t))) ∧
    (∀ (dt : Nat) (x : VdpIn) (l : List VdpIn) (no : Nat) (t : State) (s u : State), u = elapse dt s →
      u.eth.vdpIn = x :: l →
      vdpOp x.data = 3 →
      vdpAdmit x (vdpSessionLapse { u with eth := { u.eth with vdpIn := l } }) = (some no, t) →
      exec (.vdpAuthWrite dt) s = .next (settle (odReceive ⟨.vdp no (vdpSeq x.data) 3, .write (vdpPay x.data), 0x3801, 1⟩ t))) ∧
    (∀ (dt : Nat) (x : VdpIn) (l : List VdpIn) (no : Nat) (t : State) (s u : State), u = elapse dt s →
      u.eth.vdpIn = x :: l →
      vdpOp x.data = 4 →
      vdpAdmit x (vdpSessionLapse { u with eth := { u.eth with vdpIn := l } }) = (some no, t) →
      exec (.vdpBlockRead dt) s = .next (settle (odReceive ⟨.vdp no (vdpSeq x.data) 4, .block, payIdx (vdpPay x.data), paySub (vdpPay x.data)⟩ t))) ∧
    (∀ (dt : Nat) (x : VdpIn) (l : List VdpIn) (no c dir : Nat) (t : State) (s u : State), u = elapse dt s →
      u.eth.vdpIn = x :: l →
      vdpOp x.data = 5 →
      vdpAdmit x (vdpSessionLapse { u with eth := { u.eth with vdpIn := l } }) = (some no, t) →
      t.rd .hostDictReady = 1 →
      c = payAt (vdpPay x.data) 0 →
      dir = payAt (vdpPay x.data) 1 →
      ((t.chan c).any (fun y => y.no != no) = false) →
      dir = 0 ∨ dir = 1 →
      payAt (vdpPay x.data) 2 ≠ 0 →
      (subMap (vdpPay x.data)).all (chanMapOk dir) = true →
      exec (.vdpSubscribe dt) s = .next (settle (vdpAnswer no (vdpSeq x.data) 5 0 [] (t.setChan c (some ⟨no, dir, payAt (vdpPay x.data) 3, subMap (vdpPay x.data), if t.on .tasEn x.mac then 0 else (cycleAt t x.mac t.dtNs).1 + 1, if dir = 1 then t.now else 0, false⟩))))) ∧
    (∀ (dt : Nat) (x : VdpIn) (l : List VdpIn) (c : Nat) (t : State) (y : VdpChan) (s u : State), u = elapse dt s →
      u.eth.vdpIn = x :: l →
      vdpOp x.data = 2 →
      vdpCyc x.data = true →
      vdpAdmit x (vdpSessionLapse { u with eth := { u.eth with vdpIn := l } }) = (some y.no, t) →
      c = payAt (vdpPay x.data) 0 →
      t.chan c = some y →
      y.dir = 1 →
      (vdpPay x.data).length = 4 + mapBytes y.map →
      exec (.vdpCyclicWrite dt) s = .next (settle (odReceive ⟨.vdp y.no (vdpSeq x.data) (vdpOp x.data), .process (unpack y.map ((vdpPay x.data).drop 4)) 0, 0, 0⟩ (t.setChan c (some { y with last := t.now, told := false })))))

/-- A publishing channel sends, when DTIME reaches the lead of its cycle, its values with the time block; a consuming channel without a frame for three of its cycles raises EVT_NET_CYC_TIMEOUT once; an event channel with records of its classes pushes up to 64 of them, at most one frame in a millisecond, and moves past them; a session silent for 10 s ends, and its channels with it. Where the spec is silent it states the model's own choices and readings of log entries 3, 33. (R357, R360, R361) -/
def Obligations.VdpChannels : Prop :=
    (∀ (dt : Nat) (c : Fin 8) (y : VdpChan) (z : VdpSess) (cyc start : Nat) (s u : State), u = elapse dt s →
      u.chan c = some y →
      u.liveSess y.no = some z →
      (u.mac z.mac).adminAt = none →
      u.rd .tasEn z.mac = 0 →
      cycleAt u z.mac (u.dtNs + u.rd .netCycLead * 1000) = (cyc, start) →
      y.dir = 0 →
      u.rd .hostDictReady = 1 →
      u.rd .netCycLead * 1000 ≤ start →
      dtReaches u (start - u.rd .netCycLead * 1000) = true →
      y.last ≤ cyc →
      y.from_ ≤ cyc →
      (cyc - y.from_) % y.m = 0 →
      exec (.vdpCyclicPublish dt c) s = .next (settle (publish c y z cyc start u))) ∧
    (∀ (dt : Nat) (c : Fin 8) (y : VdpChan) (z : VdpSess) (s u : State), u = elapse dt s →
      u.chan c = some y →
      u.liveSess y.no = some z →
      y.dir = 1 →
      y.told = false →
      y.last * 10 + 3 * y.m * cycleNs u z.mac * 84 ≤ u.now * 10 →
      exec (.vdpCycTimeout dt c) s = .next (settle (raise .netCycTimeout 1 c (u.setChan c (some { y with told := true }))))) ∧
    (∀ (dt : Nat) (c : Fin 8) (y : VdpChan) (z : VdpSess) (n0 : Nat) (l : List EvRec) (pick : List (EvRec × Nat)) (last : EvRec × Nat) (t : State) (s u : State), u = elapse dt s →
      u.chan c = some y →
      u.liveSess y.no = some z →
      y.dir = 2 →
      z.push = none →
      recsFrom u.log y.from_ = (n0, l) →
      (pick = ((l.zipIdx).filter fun r => bitOf y.m (classBit r.1.code)).take 64) →
      pick.getLast? = some last →
      t = setSess { z with push := some u.now } (u.setChan c (some { y with from_ := (n0 + last.2 + 1) % 2 ^ 32 })) →
      exec (.vdpEventPush dt c) s = .next (settle (vdpEvent z 0 0 0 (timeBlock t ++ pick.flatMap fun r => r.1.bytes) t))) ∧
    (∀ (dt : Nat) (s u : State), u = elapse dt s →
      exec (.vdpSessionLapse dt) s = .next (settle ((u.eth.sess.filter fun y => y.lastAt + 10 * 8400000000 ≤ u.now).foldl (fun s y => dropSess y.no s) u)))

/-- A record that fails a check of R367 is counted on its slot, answered 08000020 and reported with EVT_NET_AUTH_FAIL, and nothing else changes; one that passes, but whose counter runs 256 ahead of the flash copy, waits for the flash write; once that is done the counter is taken and the target written, and a failed flash write raises EVT_NET_CNT_FLASH_FAIL and answers 06060000; another valid record takes the counter and writes its target at once. Where the spec is silent it states the model's own choices and readings of log entry 13. (R363, R364, R365, R367, R368) -/
def Obligations.AuthenticatedWrites : Prop :=
    (∀ (dt : Nat) (flashOk : Bool) (q : OdReq) (l : List OdReq) (x : State) (r : List Byte) (k : ObjKey) (s u : State), u = elapse dt s →
      u.od.auth = none →
      u.od.queue = q :: l →
      x = { u with od := { u.od with queue := l } } →
      q.writes .authWrite = true →
      ownCheck q = 0 →
      q.op = .write r →
      objAt (recIdx r) (recSub r) = some k →
      odAccess (recIdx r) (recSub r) true ≠ 0x06010002 →
      x.rd .cryCnt (recSlot r) ≠ 0xFFFFFFFF →
      authFault x k.o r ≠ 0 →
      exec (.authWrite dt flashOk) s = .next (settle (odReply q 1 0x08000020 [] (raise .netAuthFail 1 (recSlot r + (authFault x k.o r - 1) * 256) (x.setOb .slotFails (satAdd 32 (x.ob .slotFails (recSlot r)) 1) (recSlot r)))))) ∧
    (∀ (dt : Nat) (flashOk : Bool) (q : OdReq) (l : List OdReq) (x : State) (r : List Byte) (k : ObjKey) (s u : State), u = elapse dt s →
      u.od.auth = none →
      u.od.queue = q :: l →
      x = { u with od := { u.od with queue := l } } →
      q.writes .authWrite = true →
      ownCheck q = 0 →
      q.op = .write r →
      objAt (recIdx r) (recSub r) = some k →
      odAccess (recIdx r) (recSub r) true ≠ 0x06010002 →
      x.rd .cryCnt (recSlot r) ≠ 0xFFFFFFFF →
      authFault x k.o r = 0 →
      x.od.flash.get 0 (recSlot r) + 256 ≤ recCounter r →
      exec (.authWrite dt flashOk) s = .next (settle ({ x with od := { x.od with auth := some ⟨recSlot r, recCounter r, r, q⟩ } }))) ∧
    (∀ (dt : Nat) (flashOk : Bool) (q : OdReq) (l : List OdReq) (x : State) (r : List Byte) (k : ObjKey) (s u : State), u = elapse dt s →
      u.od.auth = none →
      u.od.queue = q :: l →
      x = { u with od := { u.od with queue := l } } →
      q.writes .authWrite = true →
      ownCheck q = 0 →
      q.op = .write r →
      objAt (recIdx r) (recSub r) = some k →
      odAccess (recIdx r) (recSub r) true ≠ 0x06010002 →
      x.rd .cryCnt (recSlot r) ≠ 0xFFFFFFFF →
      authFault x k.o r = 0 →
      recCounter r < x.od.flash.get 0 (recSlot r) + 256 →
      exec (.authWrite dt flashOk) s = .next (settle (authTake q r k flashOk x))) ∧
    (∀ (dt : Nat) (ok : Bool) (flashOk : Bool) (a : AuthWait) (x : State) (k : ObjKey) (s u : State), u = elapse dt s →
      u.od.auth = some a →
      ok = true →
      objAt (recIdx a.record) (recSub a.record) = some k →
      x = { u with od := { u.od with auth := none, flash := u.od.flash.set a.slot a.counter } } →
      exec (.authCounterFlashDone dt ok flashOk) s = .next (settle (authTake a.req a.record k flashOk x))) ∧
    (∀ (dt : Nat) (ok : Bool) (flashOk : Bool) (a : AuthWait) (s u : State), u = elapse dt s →
      u.od.auth = some a →
      ok = false →
      exec (.authCounterFlashDone dt ok flashOk) s = .next (settle (odReply a.req 1 0x06060000 [] (raise .netCntFlashFail 1 a.slot { u with od := { u.od with auth := none } }))))

/-- A configuration request before READY gets Retry Status, a write after it takes effect, a read answers its register; a memory request that the endpoint does not serve is dropped, or completed with UR if it reads; a served read of BAR0 returns the register; HOST_CTRL.EN starts the admin queue pair, and its fall ends every queue pair; a function-level reset and the other resets do the effects of R393; D3hot is entered, and left with what it held; PME_Turn_Off takes the link down; the link comes up with EVT_PCI_LINK_UP; PERST_N is released. Where the spec is silent it states the model's own choices and readings of log entries 9, 34. (R371, R372, R374, R376, R380, R391, R393, R394, R395) -/
def Obligations.HostEndpoint : Prop :=
    (∀ (dt : Nat) (r : CfgReg) (w : Option Word) (s u : State), u = elapse dt s →
      u.rd .pcieUp = 1 →
      u.host.perst = false →
      u.rd .pcieReady = 0 →
      exec (.pcieConfigRequest dt r w) s = .next (settle (cpl 2 [] u))) ∧
    (∀ (dt : Nat) (r : CfgReg) (w : Option Word) (v : Word) (s u : State), u = elapse dt s →
      u.rd .pcieUp = 1 →
      u.host.perst = false →
      u.rd .pcieReady = 1 →
      w = some v →
      exec (.pcieConfigRequest dt r w) s = .next (settle (cpl 0 [] (cfgWrite r v.toNat u)))) ∧
    (∀ (dt : Nat) (r : CfgReg) (w : Option Word) (s u : State), u = elapse dt s →
      u.rd .pcieUp = 1 →
      u.host.perst = false →
      u.rd .pcieReady = 1 →
      w = none →
      r = .ids →
      exec (.pcieConfigRequest dt r w) s = .next (settle (cpl 0 (leBytes 4 0x42001F6B) { u with freeCtr := u.freeCtr + 1 }))) ∧
    (∀ (dt : Nat) (x : PciAcc) (env : RegEnv) (reply : FabReply) (s u : State), u = elapse dt s →
      u.rd .pcieUp = 1 →
      u.host.perst = false →
      inbServed x u = false →
      exec (.pcieInboundAccess dt x env reply) s = .next (settle (if x.wr then u else cpl 1 [] u))) ∧
    (∀ (dt : Nat) (x : PciAcc) (env : RegEnv) (reply : FabReply) (t : State) (s u : State), u = elapse dt s →
      u.rd .pcieUp = 1 →
      u.host.perst = false →
      inbServed x u = true →
      x.bar = 0 →
      x.off % 4 = 0 →
      x.len = 4 →
      x.full = true →
      x.wr = false →
      t = regRead 1 256 x.off u →
      exec (.pcieInboundAccess dt x env reply) s = .next (settle (cpl 0 (t.fab.lastData.map (BitVec.ofNat 8)) t))) ∧
    (∀ (dt : Nat) (s u : State), u = elapse dt s →
      u.rd .hostEn = 0 →
      exec (.hostEnable dt) s = .next (settle (showRdy (beginQp 0 { Qp.init with sqBase := u.rd .hostAqSqHi * 2 ^ 32 + u.rd .hostAqSqLo * 4096, cqBase := u.rd .hostAqCqHi * 2 ^ 32 + u.rd .hostAqCqLo * 4096, sqSize := u.rd .hostAqSizeSq + 1, cqSize := u.rd .hostAqSizeCq + 1, tid := 1 } (u.wr .hostEn 1))))) ∧
    (∀ (dt : Nat) (s u : State), u = elapse dt s →
      u.rd .hostEn = 1 →
      exec (.hostDisable dt) s = .next (settle (showRdy (foldN 64 endQp (u.wr .hostEn 0))))) ∧
    (∀ (dt : Nat) (s u : State), u = elapse dt s →
      u.rd .pcieUp = 1 →
      exec (.pcieFlr dt) s = .next (settle (functionReset 0 u))) ∧
    (∀ (dt : Nat) (s u : State), u = elapse dt s →
      exec (.pcieFlrComplete dt) s = .next (settle ({ u with host := { u.host with flr := none } }))) ∧
    (∀ (dt : Nat) (cause : Fin 3) (s u : State), u = elapse dt s →
      cause = 0 →
      u.rd .pcieUp = 1 →
      exec (.pcieReset dt cause) s = .next (settle (functionReset 1 u))) ∧
    (∀ (dt : Nat) (cause : Fin 3) (s u : State), u = elapse dt s →
      cause = 1 →
      u.host.perst = false →
      exec (.pcieReset dt cause) s = .next (settle (functionReset 2 (({ u with host := { u.host with perst := true } }.wr .pcieUp 0).wr .pcieReady 0)))) ∧
    (∀ (dt : Nat) (cause : Fin 3) (s u : State), u = elapse dt s →
      cause = 2 →
      u.rd .pcieUp = 1 →
      exec (.pcieReset dt cause) s = .next (settle (functionReset 3 (raise .pciLinkDown 1 0 (u.wr .pcieUp 0))))) ∧
    (∀ (dt : Nat) (s u : State), u = elapse dt s →
      u.rd .pcieUp = 1 →
      exec (.pcieD3hot dt) s = .next (settle (u.wr .pcieD3 1))) ∧
    (∀ (dt : Nat) (s u : State), u = elapse dt s →
      u.rd .pcieD3 = 1 →
      exec (.pcieD0Return dt) s = .next (settle (u.host.heldVec.foldl (fun s v => msix v s) (foldN 64 (fun q s => cqOverdue q (releaseHeld q s)) ({ u with host := { u.host with heldVec := [] } }.wr .pcieD3 0))))) ∧
    (∀ (dt : Nat) (s u : State), u = elapse dt s →
      u.rd .pcieUp = 1 →
      exec (.pciePmeTurnOff dt) s = .next (settle ({ u with host := { u.host with l2 := true } }.wr .pcieUp 0))) ∧
    (∀ (dt : Nat) (speed : BitVec 3) (width : BitVec 3) (t : State) (s u : State), u = elapse dt s →
      u.domOn 17 = true →
      u.clockOn 15 = true →
      u.host.perst = false →
      u.rd .pcieUp = 0 →
      t = ((u.wr .pcieSpeed speed.toNat).wr .pcieWidth width.toNat).wr .pcieUp 1 →
      exec (.pcieLinkUp dt speed width) s = .next (settle (raise .pciLinkUp 1 (speed.toNat + width.toNat * 16) { t with host := { t.host with l2 := false } }))) ∧
    (∀ (dt : Nat) (s u : State), u = elapse dt s →
      u.host.perst = true →
      exec (.perstNRelease dt) s = .next (settle ({ u with host := { u.host with perst := false, perstAt := u.now } })))

/-- A tail within the queue is taken and one outside ends the queue pair with an error; a head that frees posted entries is taken and another ends the queue pair; a fetched entry with an opcode that the queue pair may use becomes the running command, and one that it may not completes with FORMAT; CREATE_QP begins a queue pair with a fresh TID and DELETE_QP ends one; the dictionary opcodes become requests; a coalesced completion is signalled when its time has passed; new log records of the mask signal vector 128; a notification is cleared on both sides. Where the spec is silent it states the model's own choices and readings of log entry 34. (R380, R382, R383, R384, R385, R386, R389, R390) -/
def Obligations.QueuePairs : Prop :=
    (∀ (dt : Nat) (q : Fin 64) (v : BitVec 12) (s u : State), u = elapse dt s →
      (u.qp q).live = true →
      (u.qp q).err = false →
      v.toNat < (u.qp q).sqSize →
      exec (.pcieSqDoorbell dt q v) s = .next (settle (u.wr .sqTail v.toNat q))) ∧
    (∀ (dt : Nat) (q : Fin 64) (v : BitVec 12) (s u : State), u = elapse dt s →
      (u.qp q).live = true →
      (u.qp q).err = false →
      (u.qp q).sqSize ≤ v.toNat →
      exec (.pcieSqDoorbell dt q v) s = .next (settle (qpError q 0 u))) ∧
    (∀ (dt : Nat) (q : Fin 64) (v : BitVec 12) (n : Nat) (s u : State), u = elapse dt s →
      (u.qp q).live = true →
      (u.qp q).err = false →
      n = (v.toNat + (u.qp q).cqSize - u.rd .cqHead q) % (u.qp q).cqSize →
      v.toNat < (u.qp q).cqSize →
      n ≤ (u.qp q).posted →
      exec (.pcieCqDoorbell dt q v) s = .next (settle ((u.setQp q { u.qp q with posted := (u.qp q).posted - n }).wr .cqHead v.toNat q))) ∧
    (∀ (dt : Nat) (q : Fin 64) (v : BitVec 12) (s u : State), u = elapse dt s →
      (u.qp q).live = true →
      (u.qp q).err = false →
      (u.qp q).posted < (v.toNat + (u.qp q).cqSize - u.rd .cqHead q) % (u.qp q).cqSize →
      exec (.pcieCqDoorbell dt q v) s = .next (settle (qpError q 1 u))) ∧
    (∀ (dt : Nat) (q : Fin 64) (l : Option (List Byte)) (b : List Byte) (e : SqEntry) (t : State) (s u : State), u = elapse dt s →
      (u.qp q).live = true →
      (u.qp q).err = false →
      (u.qp q).cur = none →
      (u.qp q).sqHead ≠ u.rd .sqTail q →
      (u.qp q).posted + (u.qp q).held.length < (u.qp q).cqSize →
      hostServed u = true →
      u.rd .pcieD3 = 0 →
      flrRuns u = false →
      hostOpen u = true →
      l = some b →
      e = sqEntry (padTo 64 b) →
      t = u.setQp q { u.qp q with cur := some e, given := false, sqHead := ((u.qp q).sqHead + 1) % (u.qp q).sqSize } →
      exec (.pcieSqFetch dt q l) s = .next (settle (if sqOpOk q e then if e.op = 0x20 ∧ t.rd .hostDictReady ≠ 1 then cqBare q 2 t else t else cqBare q 3 t))) ∧
    (∀ (dt : Nat) (q : Fin 64) (tid : Nat) (e : SqEntry) (t : State) (s u : State), u = elapse dt s →
      (u.qp 0).cur = some e →
      (u.qp 0).live = true →
      (u.qp 0).err = false →
      (u.qp 0).given = false →
      e.op = 1 →
      qpParamsOk e = true →
      (u.qp q).live = false →
      tidFree u tid = true →
      q.val ≠ 0 →
      t = { u with host := { u.host with tids := tid :: u.host.tids } } →
      exec (.createQp dt q tid) s = .next (settle (cmdOk 0 (q + tid * 65536) (beginQp q { Qp.init with sqBase := e.par 16 8, cqBase := e.par 24 8, sqSize := e.par 32 2 + 1, cqSize := e.par 34 2 + 1, vec := e.par 36 2, cnt := e.par 38 1, time := e.par 39 1, tid := tid } t)))) ∧
    (∀ (dt : Nat) (e : SqEntry) (s u : State), u = elapse dt s →
      (u.qp 0).cur = some e →
      (u.qp 0).live = true →
      (u.qp 0).err = false →
      (u.qp 0).given = false →
      e.op = 2 →
      1 ≤ e.par 16 1 →
      e.par 16 1 < 64 →
      (u.qp (e.par 16 1)).live = true →
      exec (.deleteQp dt) s = .next (settle (cmdOk 0 0 (endQp (e.par 16 1) u)))) ∧
    (∀ (dt : Nat) (q : Fin 64) (e : SqEntry) (s u : State), u = elapse dt s →
      (u.qp q).cur = some e →
      (u.qp q).live = true →
      (u.qp q).err = false →
      (u.qp q).given = false →
      e.op = 0x10 →
      exec (.pcieOdRead dt q) s = .next (settle (odReceive ⟨.pcie q e.cid, .read, e.par 16 2, e.par 18 1⟩ (u.setQp q { u.qp q with given := true })))) ∧
    (∀ (dt : Nat) (q : Fin 64) (data : List Byte) (e : SqEntry) (s u : State), u = elapse dt s →
      (u.qp q).cur = some e →
      (u.qp q).live = true →
      (u.qp q).err = false →
      (u.qp q).given = false →
      e.op = 0x11 →
      e.len ≠ 0 →
      hostOpen u = true →
      exec (.pcieOdWrite dt q data) s = .next (settle (odReceive ⟨.pcie q e.cid, .write (padTo e.len (data.take e.len)), e.par 16 2, e.par 18 1⟩ (u.setQp q { u.qp q with given := true })))) ∧
    (∀ (dt : Nat) (q : Fin 64) (e : SqEntry) (s u : State), u = elapse dt s →
      (u.qp q).cur = some e →
      (u.qp q).live = true →
      (u.qp q).err = false →
      (u.qp q).given = false →
      e.op = 0x12 →
      exec (.pcieOdBlockRead dt q) s = .next (settle (odReceive ⟨.pcie q e.cid, .block, e.par 16 2, e.par 18 1⟩ (u.setQp q { u.qp q with given := true })))) ∧
    (∀ (dt : Nat) (q : Fin 64) (s u : State), u = elapse dt s →
      (u.qp q).live = true →
      (u.qp q).err = false →
      0 < (u.qp q).fresh →
      (u.qp q).time ≠ 0 →
      u.now = (u.qp q).oldest + (u.qp q).time * 8400 →
      u.rd .pcieD3 = 0 →
      exec (.cqCoalesceSignal dt q) s = .next (settle (cqSignal q u))) ∧
    (∀ (dt : Nat) (s u : State), u = elapse dt s →
      u.host.logAt = none →
      ((recsFrom u.log u.host.logSeq).2.any (fun r => u.rdBit .hostEvmask (classBit r.code)) = true) →
      exec (.logMsixSignal dt) s = .next (settle (msix 128 { u with host := { u.host with logAt := some u.now, logSeq := u.log.next } }))) ∧
    (∀ (dt : Nat) (hi : Bool) (v : Word) (s u : State), u = elapse dt s →
      exec (.hostNoteClear dt hi v) s = .next (settle (foldN 32 (fun k s => if bitOf v.toNat k then noteClear (k + 32 * b2n hi) s else s) u)))

/-- For the running CALL of its queue pair: mol_mem_alloc records the allocation, writes its entries and answers the address; mol_mem_free removes it, or fails with MOL_ARG; mol_model_load of a plan that its slot can take classifies the model, takes the TID, and activates the slot; mol_model_unload releases an idle slot, and fails with MOL_BUSY on a busy one; mol_invoke places the tasks in its channel; mol_prefetch fails with MOL_BUSY while a KILL context of the queue pair is busy, begins a batch of at most 512 pages of its range, ends it once its invalidations have completed, and notifies after the last; mol_advise records the hint; mol_bar_map enables an aperture, and mol_bar_unmap disables it. Where the spec is silent it states the model's own choices and readings of log entries 34, 48. (R271, R272, R377, R386, R387, R409) -/
def Obligations.LibmololCalls : Prop :=
    (∀ (dt : Nat) (q : Fin 64) (bytes : Nat) (place : Option Placed) (e : SqEntry) (p : Placed) (s u : State), u = elapse dt s →
      (u.qp q).cur = some e →
      (u.qp q).live = true →
      (u.qp q).err = false →
      (u.qp q).given = false →
      e.op = 0x20 →
      e.par 16 2 = 1 →
      place = some p →
      (p.any_ && !p.dev && hintedIn u q p.va bytes (· == Hint.preferredDevice)) = false →
      exec (.molMemAlloc dt q bytes place) s = .next (settle (cmdOk q p.va (rtWrites p.entries { u with host := { u.host with mems := u.host.mems ++ [⟨q, p.va, bytes⟩] } })))) ∧
    (∀ (dt : Nat) (q : Fin 64) (bytes : Nat) (place : Option Placed) (e : SqEntry) (p : Placed) (s u : State), u = elapse dt s →
      (u.qp q).cur = some e →
      (u.qp q).live = true →
      (u.qp q).err = false →
      (u.qp q).given = false →
      e.op = 0x20 →
      e.par 16 2 = 1 →
      place = some p →
      (p.any_ && !p.dev && hintedIn u q p.va bytes (· == Hint.preferredDevice)) = true →
      exec (.molMemAlloc dt q bytes place) s = .next (settle (cmdFail q molNomem u))) ∧
    (∀ (dt : Nat) (q : Fin 64) (ptr : Nat) (entries : List RtWrite) (e : SqEntry) (s u : State), u = elapse dt s →
      (u.qp q).cur = some e →
      (u.qp q).live = true →
      (u.qp q).err = false →
      (u.qp q).given = false →
      e.op = 0x20 →
      e.par 16 2 = 2 →
      (u.host.mems.any (fun m => m.qp == q.val && m.va == ptr) = true) →
      exec (.molMemFree dt q ptr entries) s = .next (settle (cmdOk q 0 (rtWrites entries { u with host := { u.host with mems := u.host.mems.filter fun m => !(m.qp == q.val && m.va == ptr) } })))) ∧
    (∀ (dt : Nat) (q : Fin 64) (ptr : Nat) (entries : List RtWrite) (e : SqEntry) (s u : State), u = elapse dt s →
      (u.qp q).cur = some e →
      (u.qp q).live = true →
      (u.qp q).err = false →
      (u.qp q).given = false →
      e.op = 0x20 →
      e.par 16 2 = 2 →
      (u.host.mems.any (fun m => m.qp == q.val && m.va == ptr) = false) →
      exec (.molMemFree dt q ptr entries) s = .next (settle (cmdFail q 4 u))) ∧
    (∀ (dt : Nat) (q : Fin 64) (plan : Option ModelPlan) (e : SqEntry) (p : ModelPlan) (t x : State) (s u : State), u = elapse dt s →
      (u.qp q).cur = some e →
      (u.qp q).live = true →
      (u.qp q).err = false →
      (u.qp q).given = false →
      e.op = 0x20 →
      e.par 16 2 = 3 →
      plan = some p →
      u.rd .ctxState p.slot = 0 →
      tidFree u p.tid = true →
      activateOk (planShares p u) p.slot = true →
      t = modelLoad p.slot p.modelId p.image p.w p.aCs p.aLs (planShares p u) →
      weightsOk p t = true →
      t.sch.load.cls = 0 →
      x = copyRoot (u.qp q).tid p.tid p.flags t →
      exec (.molModelLoad dt q plan) s = .next (settle (cmdOk q (p.slot + p.ch0 * 65536 + p.chs * 2 ^ 24) (planChannels p (takeWeights p (ctxActivate 1 p.slot { x with host := { x.host with tids := p.tid :: x.host.tids, models := x.host.models ++ [⟨q, p.slot, p.ch0, p.chs, p.nodes, p.deadline⟩] } })))))) ∧
    (∀ (dt : Nat) (q : Fin 64) (k : Fin 64) (e : SqEntry) (m : MolModel) (t : State) (s u : State), u = elapse dt s →
      (u.qp q).cur = some e →
      (u.qp q).live = true →
      (u.qp q).err = false →
      (u.qp q).given = false →
      e.op = 0x20 →
      e.par 16 2 = 4 →
      modelOf u q k = some m →
      u.rd .ctxState k = 2 →
      slotBusy u k = false →
      t = ctxRelease 1 k u →
      exec (.molModelUnload dt q k) s = .next (settle (cmdOk q 0 { t with host := { t.host with models := t.host.models.filter fun m => !(m.qp == q.val && m.slot == k.val) } }))) ∧
    (∀ (dt : Nat) (q : Fin 64) (k : Fin 64) (ch : Fin 64) (x : Invocation) (e : SqEntry) (m : MolModel) (s u : State), u = elapse dt s →
      (u.qp q).cur = some e →
      (u.qp q).live = true →
      (u.qp q).err = false →
      (u.qp q).given = false →
      e.op = 0x20 →
      e.par 16 2 = 5 →
      modelOf u q k = some m →
      m.ch0 ≤ ch.val →
      ch.val < m.ch0 + m.chs →
      nodesOk u m = true →
      u.rd .ctxState k = 2 →
      (u.rd .chTail ch + 8 - chH u ch) % 8 + x.tasks.length ≤ 7 →
      exec (.molInvoke dt q k ch x) s = .next (settle (cmdOk q 0 (waitHand k ch x.next (placeTasks ch x.tasks u))))) ∧
    (∀ (dt : Nat) (q : Fin 64) (va : Nat) (n : Nat) (target : Option Bool) (ch : Fin 64) (pages : List PageMove) (e : SqEntry) (s u : State), u = elapse dt s →
      (u.qp q).cur = some e →
      (u.qp q).live = true →
      (u.qp q).err = false →
      (u.qp q).given = false →
      e.op = 0x20 →
      e.par 16 2 = 6 →
      u.host.move = none →
      killBusy u q = true →
      exec (.molPrefetch dt q va n target ch pages) s = .next (settle (cmdFail q molBusy u))) ∧
    (∀ (dt : Nat) (q : Fin 64) (va : Nat) (n : Nat) (target : Option Bool) (ch : Fin 64) (pages : List PageMove) (e : SqEntry) (l : List PageJob) (s u : State), u = elapse dt s →
      (u.qp q).cur = some e →
      (u.qp q).live = true →
      (u.qp q).err = false →
      (u.qp q).given = false →
      e.op = 0x20 →
      e.par 16 2 = 6 →
      u.host.move = none →
      killBusy u q = false →
      u.rd .mmuInvBusy = 0 →
      (l = (pages.filter fun p => decide (va ≤ p.va) && decide (p.va < va + n)).filterMap (pageJob q target u)) →
      l = [] →
      exec (.molPrefetch dt q va n target ch pages) s = .next (settle (notifyCh ch (cmdOk q 0 { u with host := { u.host with move := none } })))) ∧
    (∀ (dt : Nat) (q : Fin 64) (va : Nat) (n : Nat) (target : Option Bool) (ch : Fin 64) (pages : List PageMove) (e : SqEntry) (l : List PageJob) (s u : State), u = elapse dt s →
      (u.qp q).cur = some e →
      (u.qp q).live = true →
      (u.qp q).err = false →
      (u.qp q).given = false →
      e.op = 0x20 →
      e.par 16 2 = 6 →
      u.host.move = none →
      killBusy u q = false →
      u.rd .mmuInvBusy = 0 →
      (l = (pages.filter fun p => decide (va ≤ p.va) && decide (p.va < va + n)).filterMap (pageJob q target u)) →
      l ≠ [] →
      exec (.molPrefetch dt q va n target ch pages) s = .next (settle (beginBatch ⟨q, ch, [], [], l⟩ u))) ∧
    (∀ (dt : Nat) (q : Fin 64) (va : Nat) (n : Nat) (target : Option Bool) (ch : Fin 64) (pages : List PageMove) (e : SqEntry) (m : MolMove) (s u : State), u = elapse dt s →
      (u.qp q).cur = some e →
      (u.qp q).live = true →
      (u.qp q).err = false →
      (u.qp q).given = false →
      e.op = 0x20 →
      e.par 16 2 = 6 →
      u.host.move = some m →
      m.qp = q →
      m.inv = [] →
      u.rd .mmuInvBusy = 0 →
      m.todo = [] →
      exec (.molPrefetch dt q va n target ch pages) s = .next (settle (notifyCh m.ch (cmdOk q 0 (let t := endBatch m u; { t with host := { t.host with move := none } }))))) ∧
    (∀ (dt : Nat) (q : Fin 64) (va : Nat) (n : Nat) (target : Option Bool) (ch : Fin 64) (pages : List PageMove) (e : SqEntry) (m : MolMove) (s u : State), u = elapse dt s →
      (u.qp q).cur = some e →
      (u.qp q).live = true →
      (u.qp q).err = false →
      (u.qp q).given = false →
      e.op = 0x20 →
      e.par 16 2 = 6 →
      u.host.move = some m →
      m.qp = q →
      m.inv = [] →
      u.rd .mmuInvBusy = 0 →
      m.todo ≠ [] →
      exec (.molPrefetch dt q va n target ch pages) s = .next (settle (beginBatch m (endBatch m u)))) ∧
    (∀ (dt : Nat) (q : Fin 64) (va : Nat) (n : Nat) (hint : Option Hint) (e : SqEntry) (x : Hint) (s u : State), u = elapse dt s →
      (u.qp q).cur = some e →
      (u.qp q).live = true →
      (u.qp q).err = false →
      (u.qp q).given = false →
      e.op = 0x20 →
      e.par 16 2 = 7 →
      hint = some x →
      exec (.molAdvise dt q va n hint) s = .next (settle (cmdOk q 0 { u with host := { u.host with hints := (u.host.hints.flatMap fun y => if y.qp == q.val && x.same y.hint then cutHint va n y else [y]) ++ [⟨q, va, n, x⟩] } }))) ∧
    (∀ (dt : Nat) (q : Fin 64) (bytes : Nat) (readonly : Bool) (pa : Option Nat) (a : Fin 64) (e : SqEntry) (p : Nat) (s u : State), u = elapse dt s →
      (u.qp q).cur = some e →
      (u.qp q).live = true →
      (u.qp q).err = false →
      (u.qp q).given = false →
      e.op = 0x20 →
      e.par 16 2 = 8 →
      pa = some p →
      bytes ≠ 0 →
      p / 2 ^ 26 = (p + bytes - 1) / 2 ^ 26 →
      u.rd .apEn a = 0 →
      exec (.molBarMap dt q bytes readonly pa a) s = .next (settle (cmdOk q (a * 2 ^ 26 + p % 2 ^ 26) ((((u.wr .apBase (p / 2 ^ 26) a).wr .apEn 1 a).wr .apRo (b2n readonly) a).wr .apTid (u.qp q).tid a)))) ∧
    (∀ (dt : Nat) (q : Fin 64) (off : Nat) (e : SqEntry) (s u : State), u = elapse dt s →
      (u.qp q).cur = some e →
      (u.qp q).live = true →
      (u.qp q).err = false →
      (u.qp q).given = false →
      e.op = 0x20 →
      e.par 16 2 = 9 →
      off / 2 ^ 26 < 64 →
      u.rd .apEn (off / 2 ^ 26) = 1 →
      u.rd .apTid (off / 2 ^ 26) = (u.qp q).tid →
      exec (.molBarUnmap dt q off) s = .next (settle (cmdOk q 0 (u.wr .apEn 0 (off / 2 ^ 26)))))

/-- A flit whose check fails is counted and answered with NAK; a good IDLE flit returns its credits and lets waiting flits go; outstanding flits without an ACK for 10 µs are sent again; block lock lost on an UP port starts a training; a training that is done brings the port UP with EVT_DWL_LINK_UP; a training is tried again a second after the last; a remote access to an enabled segment whose mask names the requester is made and answered, a read with the data that it gave, and another is answered UNMAPPED. Where the spec is silent it states the model's own choices and readings of log entry 35. (R397, R398, R399, R400, R401, R403, R404, R405) -/
def Obligations.DowelPorts : Prop :=
    (∀ (dt : Nat) (p : Fin 4) (l : List Byte) (res : Nat) (s u : State), u = elapse dt s →
      dwlOn u = true →
      portUp u p = true →
      l.length = 64 →
      crc32c ((l.take 60).map (·.toNat)) ≠ dAt l 60 4 →
      exec (.dwlFlitReceive dt p l res) s = .next (settle (nakBad p (u.bump .dwlCntCrc 1 p)))) ∧
    (∀ (dt : Nat) (p : Fin 4) (l : List Byte) (res : Nat) (t : State) (s u : State), u = elapse dt s →
      dwlOn u = true →
      portUp u p = true →
      l.length = 64 →
      crc32c ((l.take 60).map (·.toNat)) = dAt l 60 4 →
      (readFlit l).typ = 0 →
      bitOf (dAt l 0 1) 6 = false →
      t = takeAck p (dAt l 3 1) (dAt l 6 2 / 1024) (bitOf (dAt l 0 1) 7) u →
      exec (.dwlFlitReceive dt p l res) s = .next (settle (dwlPump p (t.dport p).wait.length t))) ∧
    (∀ (dt : Nat) (p : Fin 4) (s u : State), u = elapse dt s →
      dwlOn u = true →
      portUp u p = true →
      (u.dport p).out ≠ [] →
      u.now = (u.dport p).ackAt + 10 * 8400 →
      exec (.dwlReplayTimeout dt p) s = .next (settle (replay p u))) ∧
    (∀ (dt : Nat) (p : Fin 4) (lost : Bool) (t : State) (s u : State), u = elapse dt s →
      dwlOn u = true →
      portUp u p = true →
      lost = true →
      t = u.bump .dwlCntRetrain 1 p →
      exec (.dwlRetrain dt p lost) s = .next (settle (showPairLink ((t.wr .dwlPortState 1 p).setDport p { t.dport p with trainAt := t.now })))) ∧
    (∀ (dt : Nat) (p : Fin 4) (partner : Fin 16) (ppair : Bool) (t x : State) (s u : State), u = elapse dt s →
      dwlOn u = true →
      u.rd .dwlPortState p = 1 →
      u.now ≤ (u.dport p).trainAt + 30 * 8400000 →
      (u.dport p).wasUp = false →
      u.pair.on = false →
      t = ((u.wr .dwlPortState 2 p).wr .dwlPartner partner p).wr .dwlPpair (b2n ppair) p →
      t.pair.on = false →
      x = reroute (firstRoute p (showPairLink (raise .dwlLinkUp 1 p (t.setDport p { DwlPort.init with wasUp := true, replayTold := (u.dport p).replayTold, ackAt := t.now })))) →
      (dwlPump p (x.dport p).wait.length x).pair.on = false →
      exec (.dwlTrainingDone dt p partner ppair) s = .next (settle (dwlPump p (x.dport p).wait.length x))) ∧
    (∀ (dt : Nat) (p : Fin 4) (s u : State), u = elapse dt s →
      trains u p = true →
      u.boot.p150 = true →
      u.rd .dwlPortState p = 0 →
      every u (u.dport p).trainAt 8400000000 = true →
      exec (.dwlTrainRetry dt p) s = .next (settle ((u.wr .dwlPortState 1 p).setDport p { u.dport p with trainAt := u.now }))) ∧
    (∀ (dt : Nat) (env : RegEnv) (reply : FabReply) (m : DwlMsg) (t : State) (s u : State), u = elapse dt s →
      (takeMsg (fun m => m.typ == 2 && m.rsp == false) u = some (m, t)) →
      fabOn u = true →
      (u.dwl.msgs.find? (fun m => m.typ == 2 && !m.rsp) = some m) →
      bpuBusyAt u (u.rd .inbBase (dAt m.data 0 5 % 2 ^ 32 / 2 ^ 28) * 2 ^ 28 + dAt m.data 0 5 % 2 ^ 32 % 2 ^ 28) = false →
      exec (.dwlMemWr dt env reply) s = .next (settle (remAccess env reply m t))) ∧
    (∀ (dt : Nat) (env : RegEnv) (reply : FabReply) (m : DwlMsg) (t : State) (s u : State), u = elapse dt s →
      (takeMsg (fun m => m.typ == 3 && m.rsp == false) u = some (m, t)) →
      fabOn u = true →
      (u.dwl.msgs.find? (fun m => m.typ == 3 && !m.rsp) = some m) →
      bpuBusyAt u (u.rd .inbBase (dAt m.data 0 5 % 2 ^ 32 / 2 ^ 28) * 2 ^ 28 + dAt m.data 0 5 % 2 ^ 32 % 2 ^ 28) = false →
      t.rd .inbEn (dAt m.data 0 5 % 2 ^ 32 / 2 ^ 28) = 0 →
      exec (.dwlMemRd dt env reply) s = .next (settle (remAnswer m 2 (dAt m.data 5 1 % 128 + 1) [] t))) ∧
    (∀ (dt : Nat) (env : RegEnv) (reply : FabReply) (m : DwlMsg) (t : State) (o len : Nat) (r : RdOut) (s u : State), u = elapse dt s →
      (takeMsg (fun m => m.typ == 3 && m.rsp == false) u = some (m, t)) →
      fabOn u = true →
      (u.dwl.msgs.find? (fun m => m.typ == 3 && !m.rsp) = some m) →
      o = dAt m.data 0 5 % 2 ^ 32 →
      len = dAt m.data 5 1 % 128 + 1 →
      bpuBusyAt u (u.rd .inbBase (o / 2 ^ 28) * 2 ^ 28 + o % 2 ^ 28) = false →
      t.rd .inbEn (o / 2 ^ 28) = 1 →
      t.rdBit .inbSrcMask m.src (o / 2 ^ 28) = true →
      remServed t m (o / 2 ^ 28) = true →
      m.typ = 3 →
      r = inbPart ⟨18, t.rd .inbTid (o / 2 ^ 28), t.rd .inbBase (o / 2 ^ 28) * 2 ^ 28 + o % 2 ^ 28, len, false⟩ none env reply t →
      r.resp = 0 →
      exec (.dwlMemRd dt env reply) s = .next (settle (remAnswer m 0 len r.data r.s)))

/-- The manager keeps the HELLO of a worker and decides on it; a worker takes its verdict, with the epoch, the features and its routes; a TASK of subtype 0 is placed in its channel, and a forwarded request goes to the dictionary; SYNC sets the base and arms the epoch, and the grid counts as synchronised only if no axis is enabled; a TIME request is answered with the times of its arrival and departure; an answer gives the offset, half the difference of the two ways, and the servo follows it. Where the spec is silent it states the model's own choices and readings of log entries 21, 23, 35. (R407, R408, R410, R411, R412, R413, R415, R416) -/
def Obligations.AssemblyMessages : Prop :=
    (∀ (dt : Nat) (links : List (Nat × Nat)) (m : DwlMsg) (t : State) (s u : State), u = elapse dt s →
      (takeMsg (fun m => m.typ == 1 && m.rsp == false) u = some (m, t)) →
      onPair t m = false →
      isManager t = true →
      m.src ≠ 0 →
      exec (.dwlHello dt links) s = .next (settle (workerHello m.src m links t))) ∧
    (∀ (dt : Nat) (m : DwlMsg) (t : State) (s u : State), u = elapse dt s →
      (takeMsg (fun m => m.typ == 1 && m.rsp == true) u = some (m, t)) →
      t.rd .asmRole = 2 →
      m.src = 0 →
      exec (.dwlVerdict dt) s = .next (settle (verdictTake m t))) ∧
    (∀ (dt : Nat) (m : DwlMsg) (t : State) (s u : State), u = elapse dt s →
      (takeMsg (fun m => m.typ == 4 && m.rsp == false) u = some (m, t)) →
      dAt m.data 0 1 = 0 →
      3 ≤ ownState t →
      exec (.dwlTask dt) s = .next (settle (placeTasks (dAt m.data 1 1 % 64) [(List.range 16).map fun k => dAt m.data (8 + 4 * k) 4] t))) ∧
    (∀ (dt : Nat) (m : DwlMsg) (t : State) (r : List Byte) (s u : State), u = elapse dt s →
      (takeMsg (fun m => m.typ == 4 && m.rsp == false) u = some (m, t)) →
      dAt m.data 0 1 = 1 →
      t.rd .asmRole = 2 →
      m.src = 0 →
      2 ≤ ownState t →
      r = (m.data.drop 4).take (dAt m.data 2 2) →
      dAt r 1 1 ≠ 3 →
      exec (.dwlTask dt) s = .next (settle (odReceive ⟨.dowel m.tag, .write (r.drop 8), payIdx (r.drop 4), paySub (r.drop 4)⟩ t))) ∧
    (∀ (dt : Nat) (m : DwlMsg) (t : State) (e : Nat) (x : State) (s u : State), u = elapse dt s →
      (takeMsg (fun m => m.typ == 5 && m.rsp == false) u = some (m, t)) →
      takesSync t m = true →
      e = dAt m.data 1 6 →
      x = epochArm 1 (BitVec.ofNat 32 (e / 2 ^ 32 % 2 ^ 16 + 2 ^ 31)) (tbCfgWrite 1 (BitVec.ofNat 32 (dAt m.data 0 1)) ((t.wr .epochNsec 0).wr .epochSecLo e)) →
      exec (.dwlSync dt) s = .next (settle (x.wr .asmGridOk (b2n (!t.anyEnabled))))) ∧
    (∀ (dt : Nat) (m : DwlMsg) (t : State) (s u : State), u = elapse dt s →
      (takeMsg (fun m => m.typ == 6 && m.rsp == false) u = some (m, t)) →
      onPair t m = false →
      isManager t = true →
      m.src ≠ 0 →
      dAt m.data 14 1 ≠ 1 →
      exec (.dwlTimeRequest dt) s = .next (settle (dwlSend 6 true m.src m.tag 1 (timeAnswerPay t m) t))) ∧
    (∀ (dt : Nat) (m : DwlMsg) (t : State) (o : Int) (s u : State), u = elapse dt s →
      (takeMsg (fun m => m.typ == 6 && m.rsp == true) u = some (m, t)) →
      onPair t m = false →
      t.rd .asmRole = 2 →
      o = Int.tdiv (((t.dwl.t1 : Int) - (dAt m.data 0 6 * 1000000000 + dAt m.data 6 4)) + (m.at_ - (dAt m.data 10 6 * 1000000000 + dAt m.data 16 4)) + dAt m.data 20 4 - dAt m.data 48 4) 2 →
      exec (.dwlTimeAnswer dt) s = .next (settle (dwlServo o ({ t with dwl := { t.dwl with ofs := satInt 32 o } }.wrS .dwlOfsNs (satInt 32 o)))))

/-- A worker whose descriptor is new sends HELLO; the interval of TIME starts an exchange; the manager forms its Assembly 400 ms after T0 with EVT_ASM_FORMED and SYNC to each node in service; a worker silent for its time is lost with EVT_ASM_MEMBER_LOST; a worker that has not heard node 0 for its time holds its Assembly channels with EVT_ASM_MANAGER_LOST; a forward sends the request to its node, and one without an answer for 500 ms is answered 08000022 with EVT_ASM_FORWARD_TIMEOUT. Where the spec is silent it states the model's own choices and readings of log entries 3, 23, 35. (R407, R410, R411, R413, R414, R417, R418) -/
def Obligations.AssemblyTimers : Prop :=
    (∀ (dt : Nat) (s u : State), u = elapse dt s →
      u.rd .asmRole = 2 →
      u.rdBit .dwlRouteV 0 = true →
      u.dwl.sent ≠ descHead u →
      exec (.asmHelloTimer dt) s = .next (settle (dwlSend 1 false 0 0 1 (descriptor u) { u with dwl := { u.dwl with sent := descHead u, helloAt := u.now } }))) ∧
    (∀ (dt : Nat) (s u : State), u = elapse dt s →
      every u u.dwl.timeAt (u.rd .dwlTimeInt * 8400) = true →
      u.rd .pairRole ≠ 2 →
      u.rd .asmRole = 2 →
      u.rdBit .dwlRouteV 0 = true →
      exec (.asmTimeTimer dt) s = .next (settle (dwlSend 6 false 0 0 1 (timePay u) { u with dwl := { u.dwl with timeAt := u.now, t1 := u.dtNs } }))) ∧
    (∀ (dt : Nat) (x : State) (s u : State), u = elapse dt s →
      isManager u = true →
      u.rd .asmState = 1 →
      u.now = u.boot.t0 + 400 * 8400000 →
      x = u.wr .asmState 2 →
      exec (.asmFormed dt) s = .next (settle (foldN 16 (fun k s => if k ≠ 0 ∧ inService s k then dwlSend 5 false k 0 1 (syncPay s) s else s) (raise .asmFormed 1 (x.rd .asmMember + x.rd .asmSuspect) x)))) ∧
    (∀ (dt : Nat) (k : Fin 16) (s u : State), u = elapse dt s →
      isManager u = true →
      k.val ≠ 0 →
      0 < (u.wkr k).state →
      (u.wkr k).state < 5 →
      (u.wkr k).flitAt + u.rd .asmWkrTo * 8400000 ≤ u.now →
      exec (.asmWorkerLost dt k) s = .next (settle (reroute (raise .asmMemberLost 1 k (showNodes (u.setWkr k { u.wkr k with state := 5 })))))) ∧
    (∀ (dt : Nat) (s u : State), u = elapse dt s →
      u.rd .asmRole = 2 →
      u.dwl.verdict ≠ none →
      u.dwl.held = false →
      u.dwl.mgrAt + u.rd .asmMgrTo * 8400000 ≤ u.now →
      exec (.asmManagerLost dt) s = .next (settle (raise .asmManagerLost 1 0 ({ u with dwl := { u.dwl with held := true } }.wr .asmState 3)))) ∧
    (∀ (dt : Nat) (q : OdReq) (l : List OdReq) (x : State) (r : List Byte) (s u : State), u = elapse dt s →
      u.od.auth = none →
      u.od.queue = q :: l →
      x = { u with od := { u.od with queue := l } } →
      q.writes .asmForward = true →
      q.op = .write r →
      ownCheck q = 0 →
      isManager x = true →
      dAt r 2 2 = 0 →
      dAt r 1 1 = 2 ∨ dAt r 1 1 = 3 →
      vdpFormOk (dAt r 1 1) false (r.drop 4) = true →
      1 ≤ dAt r 0 1 →
      dAt r 0 1 ≤ 15 →
      2 ≤ (x.wkr (dAt r 0 1)).state →
      (x.wkr (dAt r 0 1)).state ≤ 4 →
      exec (.asmForward dt) s = .next (settle (dwlSend 4 false (dAt r 0 1) x.dwl.nextTag 1 (fwdPay 1 r) { x with dwl := { x.dwl with nextTag := (x.dwl.nextTag + 1) % 65536, fwd := x.dwl.fwd ++ [⟨x.dwl.nextTag, dAt r 0 1, q, x.now⟩] } }))) ∧
    (∀ (dt : Nat) (f : FwdRun) (s u : State), u = elapse dt s →
      (u.dwl.fwd.find? (fun f => decide (f.at_ + 500 * 8400000 ≤ u.now)) = some f) →
      exec (.asmForwardTimeout dt) s = .next (settle (odReply f.req 1 0x08000022 [] (raise .asmForwardTimeout 1 f.node { u with dwl := { u.dwl with fwd := u.dwl.fwd.filter fun g => g.tag != f.tag } }))))

/-- A shadow takes a mirror; a recognised PEER_FAIL_N takes a shadow over, and is reported by the active; an ALIVE window without an edge is counted, and the third in a row takes a shadow over; the active yields when PEER_ACTIVE_N falls, with EVT_PAIR_YIELD; a mirror too old is reported once; at the handover tick an active that has received READY gives up its role, and one that has not raises EVT_PAIR_HANDOVER with 1. Where the spec is silent it states the model's own choices and readings of log entries 23, 32. (R426, R428, R429, R431, R434) -/
def Obligations.PairCommands : Prop :=
    (∀ (dt : Nat) (m : DwlMsg) (t : State) (s u : State), u = elapse dt s →
      (takeMsg (fun m => m.typ == 7 && m.rsp == false) u = some (m, t)) →
      t.rd .pairRole = 2 →
      exec (.dwlMirror dt) s = .next (settle (takeMirror (readMirror m.data) t))) ∧
    (∀ (dt : Nat) (low : Bool) (s u : State), u = elapse dt s →
      u.pair.on = true →
      low = true →
      u.pair.failHigh = true →
      mayTakeOver (u.wr .pairPeerFail 1) = true →
      exec (.peerFailRecognised dt low) s = .next (settle (startTakeover 1 (u.wr .pairPeerFail 1)))) ∧
    (∀ (dt : Nat) (low : Bool) (t : State) (s u : State), u = elapse dt s →
      u.pair.on = true →
      low = true →
      u.pair.failHigh = true →
      t = u.wr .pairPeerFail 1 →
      t.rd .pairRole = 1 →
      exec (.peerFailRecognised dt low) s = .next (settle (raise .pairPeerFail 0 0 t))) ∧
    (∀ (dt : Nat) (edge : Bool) (k : Nat) (s u : State), u = elapse dt s →
      u.windowNow = some k →
      u.pair.on = true →
      u.pair.winAt < u.now →
      edge = true →
      exec (.aliveWindowEnd dt edge) s = .next (settle ({ u with pair := { u.pair with winAt := u.now, empty := 0 } }.wr .pairPeerAlive 1))) ∧
    (∀ (dt : Nat) (edge : Bool) (k : Nat) (t : State) (s u : State), u = elapse dt s →
      u.windowNow = some k →
      u.pair.on = true →
      u.pair.winAt < u.now →
      edge = false →
      u.boot.t0 + 100 * 8400000 ≤ windowStart u k →
      2 ≤ u.pair.empty →
      t = { u with pair := { u.pair with winAt := u.now, empty := u.pair.empty + 1 } }.wr .pairPeerAlive 0 →
      mayTakeOver t = true →
      exec (.aliveWindowEnd dt edge) s = .next (settle (startTakeover 2 t))) ∧
    (∀ (dt : Nat) (low : Bool) (t : State) (s u : State), u = elapse dt s →
      u.pair.on = true →
      low = true →
      u.rd .pairPeerActive = 0 →
      u.pin.activeN = some false →
      t = u.wr .pairPeerActive 1 →
      t.pin.activeN = some false →
      exec (.peerActiveFall dt low) s = .next (settle (raise .pairYield 0 0 (releaseRole t)))) ∧
    (∀ (dt : Nat) (s u : State), u = elapse dt s →
      u.pair.on = true →
      u.pair.portLost = false →
      mirrorStale u = true →
      u.pair.linkTold = false →
      exec (.pairMirrorStale dt) s = .next (settle (raise .pairLinkLost 1 1 { u with pair := { u.pair with linkTold := true } }))) ∧
    (∀ (dt : Nat) (s u : State), u = elapse dt s →
      u.pair.on = true →
      u.pair.portLost = true →
      u.rd .pairRole = 1 ∨ u.rd .pairRole = 2 →
      u.pair.linkTold = false →
      exec (.pairMirrorStale dt) s = .next (settle (raise .pairLinkLost 1 0 { u with pair := { u.pair with portLost := false, linkTold := true } }))) ∧
    (∀ (dt : Nat) (t : State) (s u : State), u = elapse dt s →
      atHandover u = true →
      t = { u with pair := { u.pair with ho := none, ready := false } }.wr .pairHoTick 0 →
      t.rd .pairRole = 1 →
      exec (.pairHandoverTick dt) s = .next (settle (if u.pair.ready then raise .pairHandover 1 0 (releaseRole t) else raise .pairHandover 1 1 t))) ∧
    (∀ (dt : Nat) (t : State) (s u : State), u = elapse dt s →
      atHandover u = true →
      t = { u with pair := { u.pair with ho := none, ready := false } }.wr .pairHoTick 0 →
      t.rd .pairRole = 2 →
      exec (.pairHandoverTick dt) s = .next (settle (if u.pair.ready then finishTko (claimActive t) else setTko none t)))

/-- A domain request that names no domain in use switches what it names, and a refused bit raises EVT_PWR_CFG_REJECT; a switching domain whose needs are on goes on, and one going down goes off; a partial reset cycles the domains it names; a request for a rest state that R441 does not allow is answered 08000022, and one that it allows drives STO, answers, and enters the state; a third critical reading enters STANDBY; an enabled source, the alarm, and a cooled device wake it. Where the spec is silent it states the model's own choices and readings of log entries 29, 30. (R438, R439, R441, R443, R445, R451, R474) -/
def Obligations.PowerDomains : Prop :=
    (∀ (dt : Nat) (tid : Nat) (v : Word) (ds : List Nat) (s u : State), u = elapse dt s →
      tid < 2 →
      ds = (List.range 24).filter onDemand →
      ds.filter (domReqBad u v.toNat) = [] →
      exec (.pwrDomainRequest dt tid v) s = .next (settle (ds.foldl (fun s d => domReqBit v.toNat d s) u))) ∧
    (∀ (dt : Nat) (tid : Nat) (v : Word) (s u : State), u = elapse dt s →
      2 ≤ tid →
      exec (.pwrDomainRequest dt tid v) s = .next (settle (raise .pwrCfgReject tid 0x00C u))) ∧
    (∀ (dt : Nat) (d : Fin 24) (t : Nat) (s u : State), u = elapse dt s →
      u.pwr.sw.get none d = some (true, t) →
      (domainNeeds d).all u.domOn = true →
      u.now = upAt u d t →
      exec (.pwrDomainSwitched dt d) s = .next (settle ((domainOn d u).wrBit .vnrRstDom d false))) ∧
    (∀ (dt : Nat) (d : Fin 24) (t : Nat) (s u : State), u = elapse dt s →
      u.pwr.sw.get none d = some (false, t) →
      t + downTime d ≤ u.now →
      domainQuiet u d = true →
      exec (.pwrDomainSwitched dt d) s = .next (settle (domainOff d u))) ∧
    (∀ (dt : Nat) (tid : Nat) (v : Word) (w : Nat) (s u : State), u = elapse dt s →
      tid = 0 →
      (w = (if bitOf v.toNat 16 then setBit v.toNat 4 true else v.toNat)) →
      ((List.range 24).any (fun d => bitOf w d && !rstDomOk d) = false) →
      exec (.partialReset dt tid v) s = .next (settle (let t := ((List.range 24).filter fun d => bitOf w d && rstDomOk d).foldl (fun s d => cycleDomain d s) u
        if bitOf w 23 then lockDebug t else t))) ∧
    (∀ (dt : Nat) (flashOk : Bool) (q : OdReq) (l : List OdReq) (x : State) (s u : State), u = elapse dt s →
      u.od.auth = none →
      u.od.queue = q :: l →
      x = { u with od := { u.od with queue := l } } →
      q.writes .pwrReq = true →
      ownCheck q = 0 →
      q.num ≠ 3 →
      restOk x = false →
      exec (.pwrStateRequest dt flashOk) s = .next (settle (odReply q 1 0x08000022 [] x))) ∧
    (∀ (dt : Nat) (flashOk : Bool) (q : OdReq) (l : List OdReq) (x : State) (s u : State), u = elapse dt s →
      u.od.auth = none →
      u.od.queue = q :: l →
      x = { u with od := { u.od with queue := l } } →
      q.writes .pwrReq = true →
      ownCheck q = 0 →
      q.num = 2 →
      restOk x = true →
      exec (.pwrStateRequest dt flashOk) s = .next (settle (enterRest 2 (sendWaiting (applySto 9 (odReply q 0 0 [] (x.setOb .pwrReq 2))))))) ∧
    (∀ (dt : Nat) (t : State) (s u : State), u = elapse dt s →
      3 ≤ u.pwr.crit →
      3 ≤ u.rd .pwrState →
      t = enterRest 2 (applySto 9 (raise .thmCrit 0 (hottest u) { u with pwr := { u.pwr with crit := 0, coolAt := none } })) →
      exec (.thmCrit dt) s = .next (settle ({ t with pwr := { t.pwr with critRest := true } }))) ∧
    (∀ (dt : Nat) (b : Fin 6) (s u : State), u = elapse dt s →
      canWake u b = true →
      exec (.pwrWake dt b) s = .next (settle (wake b u))) ∧
    (∀ (dt : Nat) (s u : State), u = elapse dt s →
      canWake u 6 = true →
      u.clk.veneerSec % 2 ^ 32 = u.rd .pwrAlarm →
      exec (.pwrAlarmWake dt) s = .next (settle (wake 6 u))) ∧
    (∀ (dt : Nat) (s u : State), u = elapse dt s →
      u.rd .pwrState = 2 →
      u.pwr.critRest = true →
      u.pwr.waking = false →
      heldFor u.pwr.coolAt (10 * 8400000000) u.now = true →
      exec (.thmRecoveryWake dt) s = .next (settle (wake 7 u)))

/-- A window above the cap raises the throttle level; 10 windows above the cap at level 4 raise EVT_PWR_CAP_UNMET once; a reading below the lower margin raises VID by one step; the AVS limit applies once; a conversion reads the sensors and sets the fans; the MR4 codes set the refresh temperature; a fan that is enabled spins up, shows its speed at a tach edge, is stalled after its third retry with EVT_FAN_STALL, loses its tach with EVT_FAN_TACH_LOST and recovers with EVT_FAN_RECOVERED. Where the spec is silent it states the model's own choices and readings of log entries 3, 44. (R249, R448, R449, R450, R453, R455, R456, R457, R458, R459) -/
def Obligations.PowerSupervision : Prop :=
    (∀ (dt : Nat) (est : Nat) (t : State) (s u : State), u = elapse dt s →
      winStart u = u.now →
      u.pwr.winAt < u.now →
      u.rd .pwrCap * 1000 < est →
      (t = { u with pwr := { u.pwr with winAt := u.now, lastL := u.rd .pwrL, above := if u.rd .pwrL = 4 then u.pwr.above + 1 else 0, aboveTold := u.pwr.aboveTold } }.wr .pwrEst (min est 65535)) →
      exec (.throttleWindow dt est) s = .next (settle (throttleUp t))) ∧
    (∀ (dt : Nat) (s u : State), u = elapse dt s →
      10 ≤ u.pwr.above →
      u.pwr.aboveTold = false →
      exec (.pwrCapUnmet dt) s = .next (settle (raise .pwrCapUnmet 0 (u.rd .pwrEst / 100) { u with pwr := { u.pwr with aboveTold := true } }))) ∧
    (∀ (dt : Nat) (low : Bool) (high : Bool) (w : PwrSt) (s u : State), u = elapse dt s →
      avsOn u = true →
      onPeriod u u.pwr.avsSeen rootPerMs = true →
      low = true →
      u.rd .pwrVid < 20 →
      u.pwr.avsAt + 200 * 8400 ≤ u.now →
      u.pwr.avsLimit = false →
      w = { u.pwr with avsSeen := some u.now, avsAt := u.now, avsHigh := none, avsLow := none, avsOk := none } →
      exec (.avsMonitor dt low high) s = .next (settle ({ u with pwr := w }.wr .pwrVid (u.rd .pwrVid + 1)))) ∧
    (∀ (dt : Nat) (s u : State), u = elapse dt s →
      avsOn u = true →
      u.rd .pwrVid = 20 →
      heldFor u.pwr.avsLow (10 * 8400000) u.now = true →
      u.pwr.avsLimit = false →
      exec (.avsLimit dt) s = .next (settle (updCap (raise .pwrAvsLimit 0 0 { u with pwr := { u.pwr with avsLimit := true, avsOk := none } })))) ∧
    (∀ (dt : Nat) (l : List Int) (t x : State) (good : List (Nat × Int)) (r : Nat × Int) (rest : List (Nat × Int)) (s u : State), u = elapse dt s →
      u.domOn 1 = true →
      onPeriod u u.pwr.thmSeen (100 * rootPerUs) = true →
      (t = foldN 12 (fun k s => if l.getD k 0 < -400 ∨ 1200 < l.getD k 0 then sensorFail k s else s) (foldN 12 (fun k s => s.wr .thmT (unsigned 12 (l.getD k 0)) k) { u with pwr := { u.pwr with thmSeen := some u.now } })) →
      (x = foldN 12 (fun k s => judgeSensor (goodReadings t l) k s) t) →
      good = goodReadings x l →
      good = r :: rest →
      exec (.thmConversion dt l) s = .next (settle (let top := rest.foldl (fun m p => if m.2 < p.2 then p else m) r
        fanDuty 1 (fanDuty 0 (updCap (thmThresholds top.1 top.2 (foldN 12 (fun k s => s.wr .thmValid (b2n (!(decide (k ∈ s.pwr.thmBad)))) k) x))))))) ∧
    (∀ (dt : Nat) (codes : List Nat) (hot : BitVec 8) (t : State) (s u : State), u = elapse dt s →
      u.memc.trained = true →
      u.clockOn 14 = true →
      onPeriod u u.memc.polled (16 * rootPerMs) = true →
      (t = foldN 8 (fun ch s => { s with memc := { s.memc with rate := s.memc.rate.set ch (codes.getD ch 0 % 8) } }) { u with memc := { u.memc with polled := some u.now } }) →
      exec (.memcMr4Poll dt codes hot) s = .next (settle (updCap (foldN 8 (fun ch s => dramHot ch (bitOf hot.toNat ch) s) (t.wr .memcTemp ((List.range 8).foldl (fun m ch => max m (t.memc.rate.get 0 ch)) 0)))))) ∧
    (∀ (dt : Nat) (f : Fin 2) (s u : State), u = elapse dt s →
      fansOn u = true →
      exec (.fanEnable dt f) s = .next (settle (updCap ((((let t := u.wr .fanEn 1 f
        t.setFan f ⟨t.now, none, none⟩).wr .fanState 1 f).wr .fanRetry 0 f).wr .fanD 255 f)))) ∧
    (∀ (dt : Nat) (f : Fin 2) (t : Nat) (s u : State), u = elapse dt s →
      u.rd .fanEn f = 1 →
      fansOn u = true →
      (u.fan f).edgeAt = some t →
      t < u.now →
      u.now - t < tachLimit u f →
      exec (.fanTachEdge dt f) s = .next (settle (fanSpeed f (30 * 8400000000 / (u.now - t)) (u.setFan f { u.fan f with edgeAt := some u.now })))) ∧
    (∀ (dt : Nat) (f : Fin 2) (s u : State), u = elapse dt s →
      fansOn u = true →
      u.rd .fanState f = 1 →
      u.now = (u.fan f).startAt + 2 * 8400000000 →
      u.rd .fanRetry f = 3 →
      exec (.fanSpinupTimeout dt f) s = .next (settle (fanDuty (1 - f.val) (updCap (raise .fanStall 0 f (u.wr .fanState 3 f)))))) ∧
    (∀ (dt : Nat) (f : Fin 2) (s u : State), u = elapse dt s →
      fansOn u = true →
      u.rd .fanState f = 1 →
      u.now = (u.fan f).startAt + 5 * 8400000000 →
      u.rd .fanRetry f < 3 →
      exec (.fanSpinupRetry dt f) s = .next (settle (((u.setFan f { u.fan f with startAt := u.now }).wr .fanD 255 f).wr .fanRetry (u.rd .fanRetry f + 1) f))) ∧
    (∀ (dt : Nat) (f : Fin 2) (s u : State), u = elapse dt s →
      fansOn u = true →
      u.rd .fanState f = 2 →
      tachSilent u f = true →
      exec (.fanTachLost dt f) s = .next (settle (fanDuty (1 - f.val) (fanDuty f (updCap (raise .fanTachLost 0 f ((u.setFan f { u.fan f with okFrom := none }).wr .fanState 4 f))))))) ∧
    (∀ (dt : Nat) (f : Fin 2) (s u : State), u = elapse dt s →
      fansOn u = true →
      3 ≤ u.rd .fanState f →
      heldFor (u.fan f).okFrom (10 * 8400000000) u.now = true →
      tachSilent u f = false →
      exec (.fanRecovered dt f) s = .next (settle (fanDuty (1 - f.val) (fanDuty f (updCap (raise .fanRecovered 0 f (u.wr .fanState 2 f)))))))

/-- VDD_AO brings up the Veneer; the release starts a run at T0; the straps are latched 100 µs later; the SIF in flash is verified with its default Clamp tables; 40 ms brings CAN in restricted mode, 60 ms the CE and the pair role, a training DRAM, a verified image the runtime, which starts at 120 ms, trains Dowel at 150 ms and serves the dictionary at 300 ms. Where the spec is silent it states the model's own choices and readings of log entries 5, 28, 30, 31. (R339, R369, R421, R461, R462, R463, R464, R467, R468, R470, R498, R499) -/
def Obligations.BootTimeline : Prop :=
    (∀ (dt : Nat) (s u : State), u = elapse dt s →
      u.boot.vdd = false →
      exec (.vddAoValid dt) s = .next (settle ({ u with boot := { u.boot with vdd := true }, clk := { u.clk with vticks := 0 }, pin := { u.pin with mainEn := true, pwrHold := true } }))) ∧
    (∀ (dt : Nat) (cause : Fin 3) (s u : State), u = elapse dt s →
      u.boot.vdd = true →
      cause = 0 →
      u.pin.mainEn = false →
      exec (.powerOnReset dt cause) s = .next (settle u)) ∧
    (∀ (dt : Nat) (cause : Fin 3) (s u : State), u = elapse dt s →
      u.boot.vdd = true →
      cause ≠ 2 →
      (cause = 0 → u.pin.mainEn = true) →
      exec (.powerOnReset dt cause) s = .next (settle (porReset false u))) ∧
    (∀ (dt : Nat) (cause : Fin 3) (s u : State), u = elapse dt s →
      u.boot.vdd = true →
      cause = 2 →
      exec (.powerOnReset dt cause) s = .next (settle (porReset true u))) ∧
    (∀ (dt : Nat) (x : State) (s u : State), u = elapse dt s →
      u.boot.vdd = true →
      u.pin.mainEn = true →
      u.boot.run = false →
      u.rd .pwrState ≠ 1 →
      x = resetCause 0 { u with boot := { u.boot with run := true, t0 := u.now }, clk := { u.clk with t0 := u.now, qual := .idle, qualGood := 0, qualFails := 0, qualRetried := false } } →
      exec (.t0Release dt) s = .next (settle (tellReset (loadCounters ((readFuses x).wr .vnrLifecycle (b2n x.boot.fuse)))))) ∧
    (∀ (dt : Nat) (v : BitVec 11) (s u : State), u = elapse dt s →
      u.boot.run = true →
      u.boot.strapped = false →
      u.now = u.boot.t0 + 100 * rootPerUs →
      v.toNat % 4 ≠ 3 →
      exec (.strapLatch dt v) s = .next (settle (strapFields 20 (strapFields 19 (strapFields 3
              { u.wr .vnrStrap v.toNat with boot := { u.boot with strapped := true, src := v.toNat % 4 } }))))) ∧
    (∀ (dt : Nat) (v : BitVec 11) (s u : State), u = elapse dt s →
      u.boot.run = true →
      u.boot.strapped = false →
      u.now = u.boot.t0 + 100 * rootPerUs →
      v.toNat % 4 = 3 →
      exec (.strapLatch dt v) s = .next (settle (raise .bootStrapErr 0 v.toNat (strapFields 20 (strapFields 19 (strapFields 3
              { u.wr .vnrStrap v.toNat with boot := { u.boot with strapped := true, src := 0 } })))))) ∧
    (∀ (dt : Nat) (b : List Byte) (err : Bool) (s u : State), u = elapse dt s →
      romWaits u = true →
      mailboxOn u = false →
      u.boot.src = 0 →
      u.boot.firstCause = none →
      err = false →
      bunSifCause u (u.boot.bank.get [] u.boot.act) = 0 →
      exec (.bootSifVerified dt b err) s = .next (settle (sifVerified (u.boot.bank.get [] u.boot.act) (u.wr .vnrBootBank u.boot.act)))) ∧
    (∀ (dt : Nat) (b : List Byte) (err : Bool) (s u : State), u = elapse dt s →
      romWaits u = true →
      mailboxOn u = false →
      u.boot.src = 0 →
      u.boot.firstCause = none →
      err = true →
      exec (.bootSifVerified dt b err) s = .next (settle ({ u with boot := { u.boot with firstCause := some 10, sif := false, img := [] } }.wr .vnrBootStage 0))) ∧
    (∀ (dt : Nat) (s u : State), u = elapse dt s →
      u.boot.sif = true →
      u.boot.p40 = false →
      u.boot.failed = false →
      u.now = pointAt u 40 →
      exec (.bootCanRom dt) s = .next (settle (domainOn 16 ((canRestricted { u with boot := { u.boot with p40 := true } }).wr .vnrBootStage 2)))) ∧
    (∀ (dt : Nat) (peerHigh : Bool) (s u : State), u = elapse dt s →
      u.boot.p60 = false →
      u.pwr.waking = false →
      u.boot.sif = true →
      u.boot.p40 = true →
      u.boot.failed = false →
      u.now = pointAt u 60 →
      exec (.bootCeReady dt peerHigh) s = .next (settle (takeRole peerHigh
            (let x := enableClocks [0, 1] (domainsOn [2, 3] { u with boot := { u.boot with p60 := true } });
             { x with pin := { x.pin with aliveOn := true, failN := some true } })))) ∧
    (∀ (dt : Nat) (ok : Bool) (s u : State), u = elapse dt s →
      ok = true →
      u.boot.sif = true →
      u.boot.p40 = true →
      u.boot.dram = false →
      u.boot.failed = false →
      u.rd .mbPhase = 0 →
      exec (.dramTrainingDone dt ok) s = .next (settle (dramOpen ({ u with boot := { u.boot with dram := true } }.wr .vnrBootStage 3)))) ∧
    (∀ (dt : Nat) (ok : Bool) (s u : State), u = elapse dt s →
      ok = false →
      u.boot.sif = true →
      u.boot.p40 = true →
      u.boot.dram = false →
      u.boot.failed = false →
      u.boot.trainFails = 1 →
      exec (.dramTrainingDone dt ok) s = .next (settle (bootFail 8 { u with boot := { u.boot with trainFails := 2 } }))) ∧
    (∀ (dt : Nat) (more : List Byte) (err : Bool) (s u : State), u = elapse dt s →
      u.boot.sif = true →
      u.boot.dram = true →
      u.boot.rtOk = false →
      u.boot.failed = false →
      mailboxOn u = false →
      u.boot.src = 0 →
      err = false →
      bunRtOk u u.boot.img = true →
      exec (.bootRuntimeVerified dt more err) s = .next (settle (rtVerified u.boot.img u))) ∧
    (∀ (dt : Nat) (s u : State), u = elapse dt s →
      u.boot.rtOk = true →
      u.boot.p60 = true →
      u.boot.p120 = false →
      u.boot.failed = false →
      u.now = pointAt u 120 →
      exec (.bootRuntimeStart dt) s = .next (settle (let x := enableClocks [2] (domainsOn [4, 17, 18, 20] u);
            let x := showReady { x with boot := { x.boot with p120 := true }, can := { x.can with node := { x.can.node with up := true } } };
            showRdy (pumpAll (fanStart 1 (fanStart 0 (demandDomains (runtimeInterfaces (updCap (objectsStart x)))))))))) ∧
    (∀ (dt : Nat) (s u : State), u = elapse dt s →
      u.boot.p120 = true →
      u.boot.p150 = false →
      u.now = pointAt u 150 →
      ((List.range 4).any (fun p => u.rd .dwlPortUse p != 0) = true) →
      exec (.bootDowelTraining dt) s = .next (settle (beginAssembly (foldN 4 (fun p s => if trains s p ∧ s.rd .dwlPortState p = 0 then startTraining p s else s)
            (enableClocks [18] { u with boot := { u.boot with p150 := true } }))))) ∧
    (∀ (dt : Nat) (s u : State), u = elapse dt s →
      u.pwr.waking = false →
      u.boot.p120 = true →
      u.boot.p300 = false →
      u.saf.restart = none →
      u.now = pointAt u 300 →
      exec (.bootDictReady dt) s = .next (settle (let x := { u with boot := { u.boot with p300 := true }, saf := { u.saf with bootDone := true } };
            let x := serveDictionary ((x.wr .vnrBootStage 4).wr .vnrBootTDict (min (sinceT0 x) 65535));
            raise .bootDone 1 (bootDoneArg x) x)))

/-- READY is set by its fallback; a chunk of the bundle at the next offset is copied, another offset is refused with cause 1; a silent Dowel source fails the boot with cause 9 and is tried again; a write of 0x1F51:01 makes a bank active or raises OTP_SVN, and is refused without a verified download. Where the spec is silent it states the model's own choices and readings of log entry 31. (R465, R469, R470, R471, R472, R475) -/
def Obligations.BootMailbox : Prop :=
    (∀ (dt : Nat) (s u : State), u = elapse dt s →
      u.boot.run = true →
      u.domOn 1 = true →
      u.rd .pcieReady = 0 →
      u.now = max u.boot.t0 u.host.perstAt + rootPerS →
      exec (.pcieReadyFallback dt) s = .next (settle (readyPcie u))) ∧
    (∀ (dt : Nat) (s u : State), u = elapse dt s →
      u.boot.run = true →
      u.domOn 1 = true →
      u.rd .pcieReady = 0 →
      u.boot.src = 1 →
      u.now = mailboxReadyAt u →
      exec (.pcieReadyFallback dt) s = .next (settle (readyPcie u))) ∧
    (∀ (dt : Nat) (s u : State), u = elapse dt s →
      mailboxOpen u = true →
      u.rd .mbGo = 0 →
      u.rd .mbPhase ≠ 4 →
      u.rd .mbOfs = u.boot.mb.length →
      1 ≤ u.rd .mbLen →
      u.rd .mbLen ≤ 3840 →
      exec (.bootMbGo dt) s = .next (settle ({ u with boot := { u.boot with mbRun := true } }.wr .mbGo 1))) ∧
    (∀ (dt : Nat) (s u : State), u = elapse dt s →
      mailboxOpen u = true →
      u.rd .mbGo = 0 →
      u.rd .mbOfs ≠ u.boot.mb.length →
      exec (.bootMbGo dt) s = .next (settle (u.wr .mbCause 1))) ∧
    (∀ (dt : Nat) (all : List Byte) (s u : State), u = elapse dt s →
      mailboxOpen u = true →
      u.boot.mbRun = true →
      all = u.boot.mb.take (u.rd .mbOfs) ++ mbChunk u →
      u.rd .mbPhase = 2 ∨ all.length < 256 →
      exec (.bootMbChunkCopied dt) s = .next (settle ({ u with boot := { u.boot with mb := all, mbRun := false } }.wr .mbGo 0))) ∧
    (∀ (dt : Nat) (s u : State), u = elapse dt s →
      u.boot.src = 2 →
      u.boot.rtOk = false →
      u.boot.failed = false →
      u.clk.up = true →
      u.domOn 1 = true →
      u.boot.run = true →
      u.now = u.boot.dwlAt + 10 * rootPerS →
      exec (.bootDowelTimeout dt) s = .next (settle (bootFail 9 { u with boot := { u.boot with sif := false, img := [] } }))) ∧
    (∀ (dt : Nat) (s u : State), u = elapse dt s →
      u.boot.src = 2 →
      u.boot.failed = true →
      u.boot.sif = false →
      every u u.boot.dwlAt rootPerS = true →
      exec (.bootDowelRetry dt) s = .next (settle ({ u with boot := { u.boot with dwlAt := u.now, img := [] } }.wr .dwlPortState 1 0))) ∧
    (∀ (dt : Nat) (q : OdReq) (l : List OdReq) (s u : State), u = elapse dt s →
      u.od.auth = none →
      u.od.queue = q :: l →
      q.writes .progControl = true →
      ownCheck q = 0 →
      q.num = 1 →
      u.boot.written = none →
      exec (.programControl dt) s = .next (settle (odReply q 1 0x08000022 [] { u with od := { u.od with queue := l } }))) ∧
    (∀ (dt : Nat) (q : OdReq) (l : List OdReq) (b : Nat) (s u : State), u = elapse dt s →
      u.od.auth = none →
      u.od.queue = q :: l →
      q.writes .progControl = true →
      ownCheck q = 0 →
      q.num = 1 →
      u.boot.written = some b →
      exec (.programControl dt) s = .next (settle (odReply q 0 0 [] ((setActiveBank b { u with od := { u.od with queue := l } }).setOb .progControl 1)))) ∧
    (∀ (dt : Nat) (q : OdReq) (l : List OdReq) (s u : State), u = elapse dt s →
      u.od.auth = none →
      u.od.queue = q :: l →
      q.writes .progControl = true →
      ownCheck q = 0 →
      q.num = 2 →
      exec (.programControl dt) s = .next (settle (odReply q 0 0 [] (({ u with od := { u.od with queue := l } }.wr .vnrOtpSvn (max (u.rd .vnrOtpSvn) (bunSvn u.boot.img))).setOb .progControl 2)))) ∧
    (∀ (dt : Nat) (w : OtpWr) (s u : State), u = elapse dt s →
      w = OtpWr.secure →
      u.rd .vnrLifecycle = 0 →
      exec (.otpWrite dt w) s = .next (settle ({ u with boot := { u.boot with fuse := true } }))) ∧
    (∀ (dt : Nat) (w : OtpWr) (s u : State), u = elapse dt s →
      u.rd .vnrLifecycle = 1 →
      u.rd .vnrDbgUnlocked = 0 →
      exec (.otpWrite dt w) s = .next (settle u))

/-- A warm reset that the pin or RST_CTRL.WARM asserts resets PD1 to PD23 and records its cause; its release starts the ROM with T0 replaced by T_W - 13 ms; an uncorrectable fault of the island is kept in SAF_LS and asserts a warm reset, a corrected SRAM error is counted. Where the spec is silent it states the model's own choices and readings of log entries 26, 29. (R461, R473, R487) -/
def Obligations.WarmResetAndIslandFaults : Prop :=
    (∀ (dt : Nat) (pinLow : Bool) (release : Bool) (s u : State), u = elapse dt s →
      u.clk.up = true →
      u.boot.run = true →
      u.boot.warm = none →
      release = false →
      pinLow = true →
      exec (.warmReset dt pinLow release) s = .next (settle (warmAssert 2 u))) ∧
    (∀ (dt : Nat) (pinLow : Bool) (release : Bool) (s u : State), u = elapse dt s →
      u.clk.up = true →
      u.boot.run = true →
      u.boot.warm = none →
      release = false →
      pinLow = false →
      u.rd .vnrWarm = 1 →
      exec (.warmReset dt pinLow release) s = .next (settle (warmAssert 3 u))) ∧
    (∀ (dt : Nat) (pinLow : Bool) (release : Bool) (s u : State), u = elapse dt s →
      u.boot.run = true →
      u.clk.up = false →
      u.domOn 1 = true →
      pinLow = true →
      release = false →
      exec (.warmReset dt pinLow release) s = .next (settle (warmStandby 2 u))) ∧
    (∀ (dt : Nat) (pinLow : Bool) (release : Bool) (c : Nat) (s u : State), u = elapse dt s →
      u.clk.up = true →
      u.boot.run = true →
      u.boot.warm = some c →
      release = true →
      c ≠ 4 →
      exec (.warmReset dt pinLow release) s = .next (settle (romStart { u with boot := { u.boot with warm := none, t0 := u.now - 13 * rootPerMs }, clk := { u.clk with monBad := false } }))) ∧
    (∀ (dt : Nat) (kind : Fin 4) (s u : State), u = elapse dt s →
      u.domOn 1 = true →
      kind = 3 →
      exec (.islandFault dt kind) s = .next (settle (u.wr .safSramCorr (satAdd 16 (u.rd .safSramCorr) 1)))) ∧
    (∀ (dt : Nat) (kind : Fin 4) (s u : State), u = elapse dt s →
      u.domOn 1 = true →
      kind ≠ 3 →
      u.clk.up = true →
      exec (.islandFault dt kind) s = .next (settle (warmAssert 4 (u.wrBit .safLs kind true))))

/-- The oldest trigger begins a restart, or escalates as a third one within 60 s, or does nothing more while one runs or after an escalation; the restart is done once PD4 to PD15 have switched, and escalates with ARG 0 when 150 ms have passed. Where the spec is silent it states the model's own choices and readings of log entry 12. (R477, R478, R479) -/
def Obligations.SafeStateRestarts : Prop :=
    (∀ (dt : Nat) (sub t : Nat) (l : List (Nat × Nat)) (s u : State), u = elapse dt s →
      liveTriggers u = (sub, t) :: l →
      u.saf.restart = none →
      u.saf.escalated = false →
      thirdRestart u = false →
      exec (.safeStateRestart dt) s = .next (settle (beginRestart sub t { u with saf := { u.saf with trig := l } }))) ∧
    (∀ (dt : Nat) (sub t : Nat) (l : List (Nat × Nat)) (s u : State), u = elapse dt s →
      liveTriggers u = (sub, t) :: l →
      u.saf.restart = none →
      u.saf.escalated = false →
      thirdRestart u = true →
      exec (.safeStateRestart dt) s = .next (settle (escalate 1 { u with saf := { u.saf with trig := l } }))) ∧
    (∀ (dt : Nat) (sub t : Nat) (l : List (Nat × Nat)) (s u : State), u = elapse dt s →
      liveTriggers u = (sub, t) :: l →
      u.saf.restart.isSome = true ∨ u.saf.escalated = true →
      exec (.safeStateRestart dt) s = .next (settle ({ u with saf := { u.saf with trig := l } }))) ∧
    (∀ (dt : Nat) (r : RestartRun) (x : State) (s u : State), u = elapse dt s →
      u.saf.restart = some r →
      u.domOn 4 = true →
      ((List.range 12).all (fun d => (u.pwr.sw.get none (d + 4)).isNone) = true) →
      u.now ≤ r.trigAt + 150 * rootPerMs →
      x = serveDictionary { u with saf := { u.saf with restart := none } } →
      exec (.safRestartDone dt) s = .next (settle (updSafState (raise .safRestartDone 0 ((x.now - r.trigAt) / rootPerMs) (showRdy x))))) ∧
    (∀ (dt : Nat) (r : RestartRun) (s u : State), u = elapse dt s →
      u.saf.restart = some r →
      u.now = r.trigAt + 150 * rootPerMs →
      exec (.safRestartTimeout dt) s = .next (settle (escalate 0 u))) ∧
    (∀ (dt : Nat) (r : RestartRun) (s u : State), u = elapse dt s →
      u.saf.restart = some r →
      u.now ≠ r.trigAt + 150 * rootPerMs →
      exec (.safRestartTimeout dt) s = .next (settle u))

/-- A write of 0x2A10:02 clears the bits of its mask; a readback that differs sets RB_FAIL and raises EVT_SAF_STO_READBACK; an SS1 starts at its GPIO, is ignored while one runs, and ends in STO with cause bit 5; a valid kick is the complement of the last one, an invalid one is counted; a window without a kick raises EVT_SAF_WDG_EXPIRED; a Clamp table that differs is committed again from the island's copy. Where the spec is silent it states the model's own choices and readings of log entries 11, 12. (R481, R483, R484, R485, R486, R488) -/
def Obligations.SafetyDiagnostics : Prop :=
    (∀ (dt : Nat) (q : OdReq) (l : List OdReq) (s u : State), u = elapse dt s →
      u.od.auth = none →
      u.od.queue = q :: l →
      q.writes .safDisarm = true →
      ownCheck q = 0 →
      exec (.safDisarm dt) s = .next (settle (odReply q 0 0 [] (safDisarm q.num { u with od := { u.od with queue := l } })))) ∧
    (∀ (dt : Nat) (pad : Bool) (s u : State), u = elapse dt s →
      u.domOn 1 = true →
      u.clk.up = true →
      u.pin.stoN.isSome = true →
      pad = (u.rd .safStoDrv == 1) →
      exec (.safStoReadback dt pad) s = .next (settle (u.wr .safStoPad (b2n pad)))) ∧
    (∀ (dt : Nat) (pad : Bool) (s u : State), u = elapse dt s →
      u.domOn 1 = true →
      u.clk.up = true →
      u.pin.stoN.isSome = true →
      pad ≠ (u.rd .safStoDrv == 1) →
      pad ≠ (u.rd .safStoPad == 1) →
      exec (.safStoReadback dt pad) s = .next (settle ((raise .safStoReadback 0 (u.rd .safStoDrv) (u.wr .safRbFail 1)).wr .safStoPad (b2n pad)))) ∧
    (∀ (dt : Nat) (gpio : Option (Fin 32)) (k : Fin 32) (s u : State), u = elapse dt s →
      gpio = some k →
      u.domOn 1 = true →
      u.rd .safSs1GpioEn = 1 →
      u.rd .safSs1Gpio = k →
      u.saf.ss1End = none →
      u.rd .safArmed ≠ 0 →
      exec (.ss1Request dt gpio) s = .next (settle (let x := { u with saf := { u.saf with ss1End := some (u.now + u.rd .safSs1T * rootPerMs) } };
            logEv .safSs1 0 0 (updSafState ((foldN 8 (fun n s => if s.rd .axMode n = 2 ∧ s.on .axEn n then requestDisable n s else s) x).wr
              .safSs1Rem ((foldN 8 (fun n s => if s.rd .axMode n = 2 ∧ s.on .axEn n then requestDisable n s else s) x).rd .safSs1T)))))) ∧
    (∀ (dt : Nat) (gpio : Option (Fin 32)) (k : Fin 32) (s u : State), u = elapse dt s →
      gpio = some k →
      u.saf.ss1End.isSome = true →
      exec (.ss1Request dt gpio) s = .next (settle u)) ∧
    (∀ (dt : Nat) (e : Nat) (s u : State), u = elapse dt s →
      u.saf.ss1End = some e →
      e = u.now →
      exec (.ss1Expire dt) s = .next (settle (applySto 5 (raise .safSs1 0 1 ({ u with saf := { u.saf with ss1End := none } }.wr .safSs1Rem 0))))) ∧
    (∀ (dt : Nat) (v : BitVec 16) (s u : State), u = elapse dt s →
      u.domOn 1 = true →
      u.saf.restart = none →
      u.saf.escalated = false →
      v.toNat = kickDue u →
      exec (.wdgKick dt v) s = .next (settle ({ u with saf := { u.saf with wdgLast := some v.toNat, wdgFrom := if u.saf.wdgLast.isNone then u.now else u.saf.wdgFrom, wdgOk := true } }))) ∧
    (∀ (dt : Nat) (v : BitVec 16) (s u : State), u = elapse dt s →
      u.domOn 1 = true →
      u.saf.restart = none →
      u.saf.escalated = false →
      v.toNat ≠ kickDue u →
      exec (.wdgKick dt v) s = .next (settle (u.wr .safWdgBad (satAdd 16 (u.rd .safWdgBad) 1)))) ∧
    (∀ (dt : Nat) (s u : State), u = elapse dt s →
      u.saf.wdgLast.isSome = true →
      wdgEnd u = u.now →
      u.saf.wdgOk = true →
      exec (.wdgWindowEnd dt) s = .next (settle ({ u with saf := { u.saf with wdgFrom := wdgEnd u, wdgOk := false } }))) ∧
    (∀ (dt : Nat) (s u : State), u = elapse dt s →
      u.saf.wdgLast.isSome = true →
      wdgEnd u = u.now →
      u.saf.wdgOk = false →
      exec (.wdgWindowEnd dt) s = .next (settle (raise .safWdgExpired 0 0 (let x := { u with saf := { u.saf with wdgFrom := wdgEnd u, wdgOk := false } }; x.bump .safWdgExp 1)))) ∧
    (∀ (dt : Nat) (l : List ClpUpset) (s u : State), u = elapse dt s →
      l = [] →
      u.domOn 21 = true →
      u.domOn 1 = true →
      onPeriod u u.saf.crcFrom (10 * rootPerMs) = true →
      exec (.safClampCrcCheck dt l) s = .next (settle (foldN 12 (fun i s => if !comparesCrc s true i ∨ shownCrc s i = clpCrcOf i (s.fab.own.get [] i) then s
             else activateClamp i (s.fab.own.get [] i) (s.fab.own.get [] i) (raise .safClampCrc 0 i s)) { u with saf := { u.saf with crcFrom := some u.now } })))

/-- A write of a register of a block whose domain and clock run has the effect of its block's registers; of a block that does not run, none. A write of 1 to a LOCK bit sets it. Where the spec is silent it states the model's own choices and readings of log entries 6, 7, 27. (R5, R6, R7, R10, R47) -/
def Obligations.RegisterAccesses : Prop :=
    (∀ (dt : Nat) (tid : Nat) (slot : Nat) (off : Nat) (v : Word) (env : RegEnv) (b : Nat × Nat) (s u : State), u = elapse dt s →
      slotAssigned slot = true →
      off < 0x10000 →
      off % 4 = 0 →
      blockLive u slot off = true →
      fabHardOk (.per slot) off tid true = true →
      (b = (if 12 ≤ slot ∧ slot ≤ 19 then (12, (slot - 12) * 0x10000 + off) else (slot, off))) →
      exec (.registerWrite dt tid slot off v env) s = .next (settle (regWrite ⟨tid, b.1, b.2, v.toNat, env⟩ u))) ∧
    (∀ (dt : Nat) (tid : Nat) (slot : Nat) (off : Nat) (v : Word) (env : RegEnv) (s u : State), u = elapse dt s →
      blockLive u slot off = false →
      exec (.registerWrite dt tid slot off v env) s = .next (settle u)) ∧
    (∀ (dt : Nat) (slot : Nat) (s u : State), u = elapse dt s →
      blockLive u slot 0 = true →
      exec (.lockSet dt slot) s = .next (settle (((RegId.ofSlot slot).filter fun r => r.info.ty == .lock).foldl (fun s r => s.wr r 1) u)))

/-- A step takes the front command and runs it with the queue's rest; with nothing waiting the part idles, which is the model's choice (log entry 2). Where the spec is silent it states the model's own choices and readings of log entry 2. (95_what_each_step_holds.md) -/
def Obligations.FrontCommandRuns : Prop :=
    ((∀ (c : Instr) (l : List Instr) (s : State), step { s with pending := c :: l } = exec c { s with pending := l })) ∧
    ((∀ s : State, s.pending = [] → step s = .next s))

/-- No command ends in a fault or a refusal, in any state. Where the spec is silent it states the model's own choices and readings of log entry 3. (95_what_each_step_holds.md) -/
def Obligations.EveryCommandCompletes : Prop :=
    ∀ (c : Instr) (s : State), Completes c s

/-- At reset the reported power state follows its conditions. Where the spec is silent it states the model's own choices and readings of log entry 5. (R440) -/
def Obligations.ResetIsSettled : Prop :=
    Settled State.reset

/-- READY, MOTION and FULL are derived at every change of their conditions: whatever command runs, in whatever state, the reported state after it is that of what is enabled and resident, from the start of the runtime on. Where the spec is silent it states the model's own choices and readings of log entry 45. (R440) -/
def Obligations.ReportedStateFollows : Prop :=
    ∀ s t : State, Settled s → step s = .next t → Settled t

/-- When SS1 expires, and when a restart has not completed in 150 ms, every axis is disabled, the armed mask is 0, STO_N is driven low, and the cause bit is set. (R479, R480, R484) -/
def Obligations.StoBringsSafeState : Prop :=
    ((∀ (dt : Nat) (s u : State) (e : Nat), u = elapse dt s → u.saf.ss1End = some e → e = u.now →
      ∃ t, exec (.ss1Expire dt) s = .next t ∧ SafeState t ∧ t.rdBit .safStoCause 5 = true)) ∧
    ((∀ (dt : Nat) (s u : State) (r : RestartRun), u = elapse dt s → u.saf.restart = some r → u.now = r.trigAt + 150 * rootPerMs →
      ∃ t, exec (.safRestartTimeout dt) s = .next t ∧ SafeState t ∧ t.rdBit .safStoCause 6 = true ∧ t.saf.escalated = true))

/-- While any axis is enabled, a write of 0 to CKG_EN.CE, CKG_EN.MIO or the bit of a cluster that holds an enabled Mitre group is discarded and raises EVT_CLK_CFG_REJECT; the other bits of the same write take effect. (R48) -/
def Obligations.HeldClockGates : Prop :=
    ∀ (dt tid : Nat) (v : Word) (s u : State) (held : Nat → Bool), u = elapse dt s →
      (held = fun b => !(bitOf v.toNat b) && u.anyEnabled && (b == 0 || b == 1 || (decide (3 ≤ b) && decide (b ≤ 10) && u.mitreIn (b - 3)))) →
      ∃ x, exec (.ckgEnWrite dt tid v) s =
          .next (settle (if (List.range 21).any held then raise .clkCfgReject tid 0x008 x else x)) ∧
        ∀ b, b < 21 → x.rdBit .ckgEn b = if held b then u.rdBit .ckgEn b else bitOf v.toNat b

/-- A write of AXn_TB while its axis is enabled is discarded as a whole; otherwise PER 0b11 discards PER, and PHASE at or above the shortest period of the PER left and of the base tick last accepted discards PHASE; a TB_CFG write is discarded while any axis is enabled and when a phase would not fit the new base tick. Each raises EVT_CLK_CFG_REJECT. (R56) -/
def Obligations.PhaseBelowShortestPeriod : Prop :=
    ((∀ (dt tid : Nat) (n : Fin 8) (v : Word) (s u : State), u = elapse dt s → u.enabled n = true →
      exec (.axnTbWrite dt tid n v) s = .next (settle (raise .clkCfgReject tid (0x040 + 4 * n) u)))) ∧
    ((∀ (dt tid : Nat) (n : Fin 8) (v : Word) (s u : State) (per ph : Nat), u = elapse dt s → u.enabled n = false →
      u.armed n = false → per = bitsOf v.toNat 0 2 → ph = bitsOf v.toNat 8 18 →
      ∃ x, x.rd .axTbPer n = (if per = 3 then u.rd .axTbPer n else per) ∧
        x.rd .axTbPhase n = (if ph < shortestPer (u.rd .tbBase) (x.rd .axTbPer n) then ph else u.rd .axTbPhase n) ∧
        exec (.axnTbWrite dt tid n v) s = .next (settle (if per = 3 ∨ shortestPer (u.rd .tbBase) (x.rd .axTbPer n) ≤ ph then
          raise .clkCfgReject tid (0x040 + 4 * n) x else x)))) ∧
    ((∀ (dt tid : Nat) (v : Word) (s u : State), u = elapse dt s →
      (u.anyEnabled = true ∨ ∃ n, n < 8 ∧ shortestPer (bitsOf v.toNat 0 2) (u.rd .axTbPer n) ≤ u.rd .axTbPhase n) →
      exec (.tbCfgWrite dt tid v) s = .next (settle (raise .clkCfgReject tid 0x030 u))))

/-- If an end-of-period check increments a counter in the CECLK in which CLR_CNT clears it, the clear comes first and the counter reads 1. (R34) -/
def Obligations.ClearBeforeCount : Prop :=
    ∀ (dt : Nat) (n : Fin 8) (f : CeFaultIn) (s u : State), u = elapse dt s → s.clk.clrCnt = true → u.clk.clrCnt = false →
      atPeriodEnd u n = true → (u.ax n).ranAtTick = true → (u.ax n).stopped = false →
      ∃ t, exec (.endOfPeriodCheck dt n f) s = .next t ∧ ((u.ax n).ceT = none → t.rd .pstCeMiss n = 1) ∧
        ((u.slot n).armedAtTick = true → (u.slot n).commit = none → t.rd .pstMitMiss n = 1)

/-- A write changes only fields of its register, none that software does not write, and under LOCK no RWL field; a field of type RW or RWS, or RWL without LOCK, whose value is in range, takes the written bits. Where the spec is silent it states the model's own choices and readings of log entry 6. (R6, R7, R10, R512) -/
def Obligations.RegisterWriteFrame : Prop :=
    ((∀ (w : RegW) (skip : RegId → Bool) (bad : RegKey → Nat → Bool) (s : State) (k : RegKey), lockOn w.slot s = false →
      (k ∉ fieldsAt w.slot w.off ∨ k.r.info.ty ∉ [RegType.rw, .rws, .rwl, .w1c, .lock]) →
      (wordWrite w none skip bad s).rd k.r k.i k.j = s.rd k.r k.i k.j)) ∧
    ((∀ (w : RegW) (skip : RegId → Bool) (bad : RegKey → Nat → Bool) (s : State) (k : RegKey), lockOn w.slot s = false →
      k ∈ fieldsAt w.slot w.off → k.r.info.ty ∈ [RegType.rw, .rws, .rwl] → skip k.r = false → bad k (k.part w.v) = false →
      (wordWrite w none skip bad s).rd k.r k.i k.j = k.part w.v)) ∧
    ((∀ (w : RegW) (skip : RegId → Bool) (bad : RegKey → Nat → Bool) (s : State) (k : RegKey), lockOn w.slot s = true →
      k.r.info.ty = .rwl → (wordWrite w none skip bad s).rd k.r k.i k.j = s.rd k.r k.i k.j))

/-- A number written to memory reads back as written, cut to its bytes, and still does after a write of other bytes. Where the spec is silent it states the model's own choices and readings of log entry 4. (R155, R297) -/
def Obligations.MemoryReadBack : Prop :=
    ((∀ (s : State) (a n v : Nat), (s.wrMem a n v).rdMem a n = v % 256 ^ n)) ∧
    ((∀ (s : State) (a n v b m w : Nat), b + m ≤ a ∨ a + n ≤ b → ((s.wrMem a n v).wrMem b m w).rdMem a n = v % 256 ^ n))
end

