-- ==== Sys2Proof/Laws/Exec.lean ====
section
/-! SUPPORT. The arm of each command, and a command over the state that the elapsed time leaves. -/

namespace Sys2Proof.Machine

set_option Elab.async false

/-- A command over the state `u` that the elapsed time leaves. -/
theorem after_eq {dt : Nat} {s u : State} (hu : u = elapse dt s) (f : State → State) : after dt s f = .next (settle (f u)) := by
  rw [after, hu]

theorem exec_registerWrite {s : State} {dt tid slot off v env} :
    exec (.registerWrite dt tid slot off v env) s = execRegisterWrite dt tid slot off v env s := rfl
theorem exec_lockSet {s : State} {dt slot} :
    exec (.lockSet dt slot) s = execLockSet dt slot s := rfl
theorem exec_heldRecordsFlush {s : State} {dt} :
    exec (.heldRecordsFlush dt) s = execHeldRecordsFlush dt s := rfl
theorem exec_baseTick {s : State} {dt} :
    exec (.baseTick dt) s = execBaseTick dt s := rfl
theorem exec_axisTick {s : State} {dt n sd} :
    exec (.axisTick dt n sd) s = execAxisTick dt n sd s := rfl
theorem exec_sampleDelivery {s : State} {dt n} :
    exec (.sampleDelivery dt n) s = execSampleDelivery dt n s := rfl
theorem exec_mitreInvocationStart {s : State} {dt n} :
    exec (.mitreInvocationStart dt n) s = execMitreInvocationStart dt n s := rfl
theorem exec_mitreInvocationStop {s : State} {dt n} :
    exec (.mitreInvocationStop dt n) s = execMitreInvocationStop dt n s := rfl
theorem exec_mitreCommit {s : State} {dt tid n v} :
    exec (.mitreCommit dt tid n v) s = execMitreCommit dt tid n v s := rfl
theorem exec_ceLatch {s : State} {dt n} :
    exec (.ceLatch dt n) s = execCeLatch dt n s := rfl
theorem exec_ceIssue {s : State} {dt n ecc} :
    exec (.ceIssue dt n ecc) s = execCeIssue dt n ecc s := rfl
theorem exec_ceShadowComplete {s : State} {dt n} :
    exec (.ceShadowComplete dt n) s = execCeShadowComplete dt n s := rfl
theorem exec_endOfPeriodCheck {s : State} {dt n f} :
    exec (.endOfPeriodCheck dt n f) s = execEndOfPeriodCheck dt n f s := rfl
theorem exec_pstClrCnt {s : State} {dt} :
    exec (.pstClrCnt dt) s = execPstClrCnt dt s := rfl
theorem exec_epochArm {s : State} {dt tid v} :
    exec (.epochArm dt tid v) s = execEpochArm dt tid v s := rfl
theorem exec_epochMove {s : State} {dt} :
    exec (.epochMove dt) s = execEpochMove dt s := rfl
theorem exec_lsxPresenceJudge {s : State} {dt regulated} :
    exec (.lsxPresenceJudge dt regulated) s = execLsxPresenceJudge dt regulated s := rfl
theorem exec_qualWindowEnd {s : State} {dt count} :
    exec (.qualWindowEnd dt count) s = execQualWindowEnd dt count s := rfl
theorem exec_qualRetry {s : State} {dt} :
    exec (.qualRetry dt) s = execQualRetry dt s := rfl
theorem exec_pllLock {s : State} {dt} :
    exec (.pllLock dt) s = execPllLock dt s := rfl
theorem exec_clkmonWindowEnd {s : State} {dt count} :
    exec (.clkmonWindowEnd dt count) s = execClkmonWindowEnd dt count s := rfl
theorem exec_pllLockLoss {s : State} {dt} :
    exec (.pllLockLoss dt) s = execPllLockLoss dt s := rfl
theorem exec_lsxLost {s : State} {dt} :
    exec (.lsxLost dt) s = execLsxLost dt s := rfl
theorem exec_ckgEnWrite {s : State} {dt tid v} :
    exec (.ckgEnWrite dt tid v) s = execCkgEnWrite dt tid v s := rfl
theorem exec_clockGateOff {s : State} {dt bit} :
    exec (.clockGateOff dt bit) s = execClockGateOff dt bit s := rfl
theorem exec_fmtrStart {s : State} {dt tid v} :
    exec (.fmtrStart dt tid v) s = execFmtrStart dt tid v s := rfl
theorem exec_fmtrDone {s : State} {dt edges} :
    exec (.fmtrDone dt edges) s = execFmtrDone dt edges s := rfl
theorem exec_dtimeIncWrite {s : State} {dt v} :
    exec (.dtimeIncWrite dt v) s = execDtimeIncWrite dt v s := rfl
theorem exec_dtimeAdj {s : State} {dt tid v} :
    exec (.dtimeAdj dt tid v) s = execDtimeAdj dt tid v s := rfl
theorem exec_dtimeNsecRead {s : State} {dt} :
    exec (.dtimeNsecRead dt) s = execDtimeNsecRead dt s := rfl
theorem exec_tbCfgWrite {s : State} {dt tid v} :
    exec (.tbCfgWrite dt tid v) s = execTbCfgWrite dt tid v s := rfl
theorem exec_tbCfgApply {s : State} {dt} :
    exec (.tbCfgApply dt) s = execTbCfgApply dt s := rfl
theorem exec_axnTbWrite {s : State} {dt tid n v} :
    exec (.axnTbWrite dt tid n v) s = execAxnTbWrite dt tid n v s := rfl
theorem exec_axEnableWrite {s : State} {dt tid n} :
    exec (.axEnableWrite dt tid n) s = execAxEnableWrite dt tid n s := rfl
theorem exec_axDisableWrite {s : State} {dt n} :
    exec (.axDisableWrite dt n) s = execAxDisableWrite dt n s := rfl
theorem exec_axCtrlCfgWrite {s : State} {dt tid n v} :
    exec (.axCtrlCfgWrite dt tid n v) s = execAxCtrlCfgWrite dt tid n v s := rfl
theorem exec_guardPublish {s : State} {dt g v} :
    exec (.guardPublish dt g v) s = execGuardPublish dt g v s := rfl
theorem exec_estopRecognised {s : State} {dt} :
    exec (.estopRecognised dt) s = execEstopRecognised dt s := rfl
theorem exec_tripRecognised {s : State} {dt n} :
    exec (.tripRecognised dt n) s = execTripRecognised dt n s := rfl
theorem exec_overcurrentTrip {s : State} {dt ch bits} :
    exec (.overcurrentTrip dt ch bits) s = execOvercurrentTrip dt ch bits s := rfl
theorem exec_mioTripClear {s : State} {dt v estopN tripN oc} :
    exec (.mioTripClear dt v estopN tripN oc) s = execMioTripClear dt v estopN tripN oc s := rfl
theorem exec_encEdge {s : State} {dt p l held} :
    exec (.encEdge dt p l held) s = execEncEdge dt p l held s := rfl
theorem exec_encZEdge {s : State} {dt z} :
    exec (.encZEdge dt z) s = execEncZEdge dt z s := rfl
theorem exec_encCprWrite {s : State} {dt tid n v} :
    exec (.encCprWrite dt tid n v) s = execEncCprWrite dt tid n v s := rfl
theorem exec_ssiFrameStart {s : State} {dt p level} :
    exec (.ssiFrameStart dt p level) s = execSsiFrameStart dt p level s := rfl
theorem exec_ssiFrameEnd {s : State} {dt p data parity} :
    exec (.ssiFrameEnd dt p data parity) s = execSsiFrameEnd dt p data parity s := rfl
theorem exec_pulseEdge {s : State} {dt p l held} :
    exec (.pulseEdge dt p l held) s = execPulseEdge dt p l held s := rfl
theorem exec_adcSlot {s : State} {dt} :
    exec (.adcSlot dt) s = execAdcSlot dt s := rfl
theorem exec_adcConversionDone {s : State} {dt nanovolts} :
    exec (.adcConversionDone dt nanovolts) s = execAdcConversionDone dt nanovolts s := rfl
theorem exec_mitreLoaded {s : State} {dt tid n recAddr ringAddr} :
    exec (.mitreLoaded dt tid n recAddr ringAddr) s = execMitreLoaded dt tid n recAddr ringAddr s := rfl
theorem exec_mitreArmRequest {s : State} {dt tid n} :
    exec (.mitreArmRequest dt tid n) s = execMitreArmRequest dt tid n s := rfl
theorem exec_mitreDisarm {s : State} {dt n} :
    exec (.mitreDisarm dt n) s = execMitreDisarm dt n s := rfl
theorem exec_mitreUnload {s : State} {dt n} :
    exec (.mitreUnload dt n) s = execMitreUnload dt n s := rfl
theorem exec_mitreModelLoad {s : State} {dt n weightBytes ls wcet modelId} :
    exec (.mitreModelLoad dt n weightBytes ls wcet modelId) s = execMitreModelLoad dt n weightBytes ls wcet modelId s := rfl
theorem exec_mitreMissLimit {s : State} {dt n} :
    exec (.mitreMissLimit dt n) s = execMitreMissLimit dt n s := rfl
theorem exec_camLinePacket {s : State} {dt p vc dataType line h crcOk payload} :
    exec (.camLinePacket dt p vc dataType line h crcOk payload) s = execCamLinePacket dt p vc dataType line h crcOk payload s := rfl
theorem exec_camFrameStart {s : State} {dt k fnum h} :
    exec (.camFrameStart dt k fnum h) s = execCamFrameStart dt k fnum h s := rfl
theorem exec_camFrameEnd {s : State} {dt k h} :
    exec (.camFrameEnd dt k h) s = execCamFrameEnd dt k h s := rfl
theorem exec_camCommit {s : State} {dt tid k tag} :
    exec (.camCommit dt tid k tag) s = execCamCommit dt tid k tag s := rfl
theorem exec_camAppliedPop {s : State} {dt k} :
    exec (.camAppliedPop dt k) s = execCamAppliedPop dt k s := rfl
theorem exec_scqEntry {s : State} {dt tid p v} :
    exec (.scqEntry dt tid p v) s = execScqEntry dt tid p v s := rfl
theorem exec_scqSubmit {s : State} {dt tid p epoch} :
    exec (.scqSubmit dt tid p epoch) s = execScqSubmit dt tid p epoch s := rfl
theorem exec_scqWriteAck {s : State} {dt p} :
    exec (.scqWriteAck dt p) s = execScqWriteAck dt p s := rfl
theorem exec_scqWriteNack {s : State} {dt p} :
    exec (.scqWriteNack dt p) s = execScqWriteNack dt p s := rfl
theorem exec_tdmFrame {s : State} {dt q a b} :
    exec (.tdmFrame dt q a b) s = execTdmFrame dt q a b s := rfl
theorem exec_yarDictLoad {s : State} {dt tid u} :
    exec (.yarDictLoad dt tid u) s = execYarDictLoad dt tid u s := rfl
theorem exec_yarQSubmit {s : State} {dt tid u x} :
    exec (.yarQSubmit dt tid u x) s = execYarQSubmit dt tid u x s := rfl
theorem exec_yarJobStart {s : State} {dt u} :
    exec (.yarJobStart dt u) s = execYarJobStart dt u s := rfl
theorem exec_yarJobDone {s : State} {dt x} :
    exec (.yarJobDone dt x) s = execYarJobDone dt x s := rfl
theorem exec_ppuQSubmit {s : State} {dt tid v t} :
    exec (.ppuQSubmit dt tid v t) s = execPpuQSubmit dt tid v t s := rfl
theorem exec_ppuJobStart {s : State} {dt v stream job} :
    exec (.ppuJobStart dt v stream job) s = execPpuJobStart dt v stream job s := rfl
theorem exec_ppuJobDone {s : State} {dt v} :
    exec (.ppuJobDone dt v) s = execPpuJobDone dt v s := rfl
theorem exec_iposWrite {s : State} {dt v progEnd} :
    exec (.iposWrite dt v progEnd) s = execIposWrite dt v progEnd s := rfl
theorem exec_tenArrayOp {s : State} {dt c pc x} :
    exec (.tenArrayOp dt c pc x) s = execTenArrayOp dt c pc x s := rfl
theorem exec_tenVectorOp {s : State} {dt c pc op sr a b e} :
    exec (.tenVectorOp dt c pc op sr a b e) s = execTenVectorOp dt c pc op sr a b e s := rfl
theorem exec_tcRestart {s : State} {dt c} :
    exec (.tcRestart dt c) s = execTcRestart dt c s := rfl
theorem exec_tcSrSeedWrite {s : State} {dt c v} :
    exec (.tcSrSeedWrite dt c v) s = execTcSrSeedWrite dt c v s := rfl
theorem exec_tcSrSeedLoad {s : State} {dt c} :
    exec (.tcSrSeedLoad dt c) s = execTcSrSeedLoad dt c s := rfl
theorem exec_cnvQSubmit {s : State} {dt tid c v} :
    exec (.cnvQSubmit dt tid c v) s = execCnvQSubmit dt tid c v s := rfl
theorem exec_cnvJobStart {s : State} {dt c} :
    exec (.cnvJobStart dt c) s = execCnvJobStart dt c s := rfl
theorem exec_cnvJobDone {s : State} {dt c wait} :
    exec (.cnvJobDone dt c wait) s = execCnvJobDone dt c wait s := rfl
theorem exec_embQSubmit {s : State} {dt tid e v} :
    exec (.embQSubmit dt tid e v) s = execEmbQSubmit dt tid e v s := rfl
theorem exec_embJobStart {s : State} {dt e} :
    exec (.embJobStart dt e) s = execEmbJobStart dt e s := rfl
theorem exec_embJobDone {s : State} {dt e u} :
    exec (.embJobDone dt e u) s = execEmbJobDone dt e u s := rfl
theorem exec_embRowLockGrant {s : State} {dt e} :
    exec (.embRowLockGrant dt e) s = execEmbRowLockGrant dt e s := rfl
theorem exec_embRowWriteAck {s : State} {dt e addr} :
    exec (.embRowWriteAck dt e addr) s = execEmbRowWriteAck dt e addr s := rfl
theorem exec_embSrSeedWrite {s : State} {dt e v} :
    exec (.embSrSeedWrite dt e v) s = execEmbSrSeedWrite dt e v s := rfl
theorem exec_spmAccessGrant {s : State} {dt k x} :
    exec (.spmAccessGrant dt k x) s = execSpmAccessGrant dt k x s := rfl
theorem exec_spmAccessComplete {s : State} {dt k u} :
    exec (.spmAccessComplete dt k u) s = execSpmAccessComplete dt k u s := rfl
theorem exec_spmEccWriteback {s : State} {dt k} :
    exec (.spmEccWriteback dt k) s = execSpmEccWriteback dt k s := rfl
theorem exec_spmNarrowStarve {s : State} {dt tid addr port} :
    exec (.spmNarrowStarve dt tid addr port) s = execSpmNarrowStarve dt tid addr port s := rfl
theorem exec_spmInit {s : State} {dt tid v} :
    exec (.spmInit dt tid v) s = execSpmInit dt tid v s := rfl
theorem exec_spmCntClr {s : State} {dt} :
    exec (.spmCntClr dt) s = execSpmCntClr dt s := rfl
theorem exec_poolEnable {s : State} {dt tid p} :
    exec (.poolEnable dt tid p) s = execPoolEnable dt tid p s := rfl
theorem exec_poolDisable {s : State} {dt tid p} :
    exec (.poolDisable dt tid p) s = execPoolDisable dt tid p s := rfl
theorem exec_bpuAlloc {s : State} {dt tid p} :
    exec (.bpuAlloc dt tid p) s = execBpuAlloc dt tid p s := rfl
theorem exec_bpuFree {s : State} {dt tid p h} :
    exec (.bpuFree dt tid p h) s = execBpuFree dt tid p h s := rfl
theorem exec_bpuGive {s : State} {dt tid p g h} :
    exec (.bpuGive dt tid p g h) s = execBpuGive dt tid p g h s := rfl
theorem exec_bpuReclaim {s : State} {dt g} :
    exec (.bpuReclaim dt g) s = execBpuReclaim dt g s := rfl
theorem exec_bpuReclaimDone {s : State} {dt} :
    exec (.bpuReclaimDone dt) s = execBpuReclaimDone dt s := rfl
theorem exec_fabricRequest {s : State} {dt f env u cu reply} :
    exec (.fabricRequest dt f env u cu reply) s = execFabricRequest dt f env u cu reply s := rfl
theorem exec_fabricTimeout {s : State} {dt id} :
    exec (.fabricTimeout dt id) s = execFabricTimeout dt id s := rfl
theorem exec_fabricLateResponse {s : State} {dt id} :
    exec (.fabricLateResponse dt id) s = execFabricLateResponse dt id s := rfl
theorem exec_clampCommit {s : State} {dt tid k0 v} :
    exec (.clampCommit dt tid k0 v) s = execClampCommit dt tid k0 v s := rfl
theorem exec_clampCommitActivate {s : State} {dt k0} :
    exec (.clampCommitActivate dt k0) s = execClampCommitActivate dt k0 s := rfl
theorem exec_tidRetire {s : State} {dt tid} :
    exec (.tidRetire dt tid) s = execTidRetire dt tid s := rfl
theorem exec_memcScrubRead {s : State} {dt u} :
    exec (.memcScrubRead dt u) s = execMemcScrubRead dt u s := rfl
theorem exec_memcMr4Poll {s : State} {dt codes hot} :
    exec (.memcMr4Poll dt codes hot) s = execMemcMr4Poll dt codes hot s := rfl
theorem exec_memcCntClr {s : State} {dt} :
    exec (.memcCntClr dt) s = execMemcCntClr dt s := rfl
theorem exec_mmuWalkComplete {s : State} {dt e tid va w} :
    exec (.mmuWalkComplete dt e tid va w) s = execMmuWalkComplete dt e tid va w s := rfl
theorem exec_mmuXlate {s : State} {dt v} :
    exec (.mmuXlate dt v) s = execMmuXlate dt v s := rfl
theorem exec_mmuResume {s : State} {dt tid} :
    exec (.mmuResume dt tid) s = execMmuResume dt tid s := rfl
theorem exec_mmuRetry {s : State} {dt e} :
    exec (.mmuRetry dt e) s = execMmuRetry dt e s := rfl
theorem exec_mmuInvalidate {s : State} {dt tid v} :
    exec (.mmuInvalidate dt tid v) s = execMmuInvalidate dt tid v s := rfl
theorem exec_mmuInvAck {s : State} {dt e} :
    exec (.mmuInvAck dt e) s = execMmuInvAck dt e s := rfl
theorem exec_mmuInvTimeout {s : State} {dt} :
    exec (.mmuInvTimeout dt) s = execMmuInvTimeout dt s := rfl
theorem exec_ctxActivate {s : State} {dt tid k} :
    exec (.ctxActivate dt tid k) s = execCtxActivate dt tid k s := rfl
theorem exec_ctxResident {s : State} {dt k} :
    exec (.ctxResident dt k) s = execCtxResident dt k s := rfl
theorem exec_ctxRelease {s : State} {dt tid k} :
    exec (.ctxRelease dt tid k) s = execCtxRelease dt tid k s := rfl
theorem exec_ctxTerminate {s : State} {dt k} :
    exec (.ctxTerminate dt k) s = execCtxTerminate dt k s := rfl
theorem exec_ctxFree {s : State} {dt k} :
    exec (.ctxFree dt k) s = execCtxFree dt k s := rfl
theorem exec_chTailSubmit {s : State} {dt tid ch v} :
    exec (.chTailSubmit dt tid ch v) s = execChTailSubmit dt tid ch v s := rfl
theorem exec_taskDispatch {s : State} {dt c} :
    exec (.taskDispatch dt c) s = execTaskDispatch dt c s := rfl
theorem exec_taskComplete {s : State} {dt ch k0} :
    exec (.taskComplete dt ch k0) s = execTaskComplete dt ch k0 s := rfl
theorem exec_taskOverrun {s : State} {dt ch k0 rows} :
    exec (.taskOverrun dt ch k0 rows) s = execTaskOverrun dt ch k0 rows s := rfl
theorem exec_chResume {s : State} {dt ch} :
    exec (.chResume dt ch) s = execChResume dt ch s := rfl
theorem exec_chFlush {s : State} {dt ch} :
    exec (.chFlush dt ch) s = execChFlush dt ch s := rfl
theorem exec_modelLoad {s : State} {dt k modelId image w aCs aLs} :
    exec (.modelLoad dt k modelId image w aCs aLs) s = execModelLoad dt k modelId image w aCs aLs s := rfl
theorem exec_odRequestReceive {s : State} {dt q} :
    exec (.odRequestReceive dt q) s = execOdRequestReceive dt q s := rfl
theorem exec_odRead {s : State} {dt} :
    exec (.odRead dt) s = execOdRead dt s := rfl
theorem exec_odWrite {s : State} {dt progEnd} :
    exec (.odWrite dt progEnd) s = execOdWrite dt progEnd s := rfl
theorem exec_odStore {s : State} {dt} :
    exec (.odStore dt) s = execOdStore dt s := rfl
theorem exec_odStoreDone {s : State} {dt ok} :
    exec (.odStoreDone dt ok) s = execOdStoreDone dt ok s := rfl
theorem exec_odRestoreDefaults {s : State} {dt} :
    exec (.odRestoreDefaults dt) s = execOdRestoreDefaults dt s := rfl
theorem exec_processDataForward {s : State} {dt l progEnd} :
    exec (.processDataForward dt l progEnd) s = execProcessDataForward dt l progEnd s := rfl
theorem exec_logReadCursor {s : State} {dt} :
    exec (.logReadCursor dt) s = execLogReadCursor dt s := rfl
theorem exec_logBlockRead {s : State} {dt} :
    exec (.logBlockRead dt) s = execLogBlockRead dt s := rfl
theorem exec_logClear {s : State} {dt} :
    exec (.logClear dt) s = execLogClear dt s := rfl
theorem exec_modeOfOperationWrite {s : State} {dt n} :
    exec (.modeOfOperationWrite dt n) s = execModeOfOperationWrite dt n s := rfl
theorem exec_controlwordWrite {s : State} {dt n l} :
    exec (.controlwordWrite dt n l) s = execControlwordWrite dt n l s := rfl
theorem exec_axisFaultEntry {s : State} {dt n} :
    exec (.axisFaultEntry dt n) s = execAxisFaultEntry dt n s := rfl
theorem exec_canFrameReceive {s : State} {dt n f ago resRec} :
    exec (.canFrameReceive dt n f ago resRec) s = execCanFrameReceive dt n f ago resRec s := rfl
theorem exec_canBusError {s : State} {dt n e} :
    exec (.canBusError dt n e) s = execCanBusError dt n e s := rfl
theorem exec_canTxSuccess {s : State} {dt n src ago delay} :
    exec (.canTxSuccess dt n src ago delay) s = execCanTxSuccess dt n src ago delay s := rfl
theorem exec_canTxRetry {s : State} {dt n src} :
    exec (.canTxRetry dt n src) s = execCanTxRetry dt n src s := rfl
theorem exec_canMbSend {s : State} {dt tid n b} :
    exec (.canMbSend dt tid n b) s = execCanMbSend dt tid n b s := rfl
theorem exec_canMbAbort {s : State} {dt n b onBus} :
    exec (.canMbAbort dt n b onBus) s = execCanMbAbort dt n b onBus s := rfl
theorem exec_canQueueRelease {s : State} {dt tid n q a} :
    exec (.canQueueRelease dt tid n q a) s = execCanQueueRelease dt tid n q a s := rfl
theorem exec_canBoffRecover {s : State} {dt n} :
    exec (.canBoffRecover dt n) s = execCanBoffRecover dt n s := rfl
theorem exec_canBoffRecovered {s : State} {dt n} :
    exec (.canBoffRecovered dt n) s = execCanBoffRecovered dt n s := rfl
theorem exec_canRomApply {s : State} {dt n} :
    exec (.canRomApply dt n) s = execCanRomApply dt n s := rfl
theorem exec_canBoffAutoRecover {s : State} {dt} :
    exec (.canBoffAutoRecover dt) s = execCanBoffAutoRecover dt s := rfl
theorem exec_nmtCommand {s : State} {dt} :
    exec (.nmtCommand dt) s = execNmtCommand dt s := rfl
theorem exec_sdoRequest {s : State} {dt usdo} :
    exec (.sdoRequest dt usdo) s = execSdoRequest dt usdo s := rfl
theorem exec_sdoTimeout {s : State} {dt} :
    exec (.sdoTimeout dt) s = execSdoTimeout dt s := rfl
theorem exec_tpdoEventTimer {s : State} {dt k0} :
    exec (.tpdoEventTimer dt k0) s = execTpdoEventTimer dt k0 s := rfl
theorem exec_hbConsumerTimeout {s : State} {dt j} :
    exec (.hbConsumerTimeout dt j) s = execHbConsumerTimeout dt j s := rfl
theorem exec_ethFrameReceive {s : State} {dt m f} :
    exec (.ethFrameReceive dt m f) s = execEthFrameReceive dt m f s := rfl
theorem exec_ethLinkChange {s : State} {dt m up speed} :
    exec (.ethLinkChange dt m up speed) s = execEthLinkChange dt m up speed s := rfl
theorem exec_gptpSync {s : State} {dt gmSec gmNs newGm} :
    exec (.gptpSync dt gmSec gmNs newGm) s = execGptpSync dt gmSec gmNs newGm s := rfl
theorem exec_gptpSyncTimeout {s : State} {dt} :
    exec (.gptpSyncTimeout dt) s = execGptpSyncTimeout dt s := rfl
theorem exec_tasGateEvent {s : State} {dt m} :
    exec (.tasGateEvent dt m) s = execTasGateEvent dt m s := rfl
theorem exec_ethFrameTransmit {s : State} {dt m} :
    exec (.ethFrameTransmit dt m) s = execEthFrameTransmit dt m s := rfl
theorem exec_tasGo {s : State} {dt tid m v} :
    exec (.tasGo dt tid m v) s = execTasGo dt tid m v s := rfl
theorem exec_tasListActivate {s : State} {dt m} :
    exec (.tasListActivate dt m) s = execTasListActivate dt m s := rfl
theorem exec_vdpRead {s : State} {dt} :
    exec (.vdpRead dt) s = execVdpRead dt s := rfl
theorem exec_vdpWrite {s : State} {dt} :
    exec (.vdpWrite dt) s = execVdpWrite dt s := rfl
theorem exec_vdpAuthWrite {s : State} {dt} :
    exec (.vdpAuthWrite dt) s = execVdpAuthWrite dt s := rfl
theorem exec_vdpBlockRead {s : State} {dt} :
    exec (.vdpBlockRead dt) s = execVdpBlockRead dt s := rfl
theorem exec_vdpSubscribe {s : State} {dt} :
    exec (.vdpSubscribe dt) s = execVdpSubscribe dt s := rfl
theorem exec_vdpCyclicWrite {s : State} {dt} :
    exec (.vdpCyclicWrite dt) s = execVdpCyclicWrite dt s := rfl
theorem exec_vdpCyclicPublish {s : State} {dt c} :
    exec (.vdpCyclicPublish dt c) s = execVdpCyclicPublish dt c s := rfl
theorem exec_vdpCycTimeout {s : State} {dt c} :
    exec (.vdpCycTimeout dt c) s = execVdpCycTimeout dt c s := rfl
theorem exec_vdpEventPush {s : State} {dt c} :
    exec (.vdpEventPush dt c) s = execVdpEventPush dt c s := rfl
theorem exec_vdpSessionLapse {s : State} {dt} :
    exec (.vdpSessionLapse dt) s = execVdpSessionLapse dt s := rfl
theorem exec_authWrite {s : State} {dt flashOk} :
    exec (.authWrite dt flashOk) s = execAuthWrite dt flashOk s := rfl
theorem exec_authCounterFlashDone {s : State} {dt ok flashOk} :
    exec (.authCounterFlashDone dt ok flashOk) s = execAuthCounterFlashDone dt ok flashOk s := rfl
theorem exec_stagingReset {s : State} {dt} :
    exec (.stagingReset dt) s = execStagingReset dt s := rfl
theorem exec_stagingChunk {s : State} {dt} :
    exec (.stagingChunk dt) s = execStagingChunk dt s := rfl
theorem exec_pcieConfigRequest {s : State} {dt r w} :
    exec (.pcieConfigRequest dt r w) s = execPcieConfigRequest dt r w s := rfl
theorem exec_pcieInboundAccess {s : State} {dt x env reply} :
    exec (.pcieInboundAccess dt x env reply) s = execPcieInboundAccess dt x env reply s := rfl
theorem exec_hostEnable {s : State} {dt} :
    exec (.hostEnable dt) s = execHostEnable dt s := rfl
theorem exec_hostDisable {s : State} {dt} :
    exec (.hostDisable dt) s = execHostDisable dt s := rfl
theorem exec_pcieSqDoorbell {s : State} {dt q v} :
    exec (.pcieSqDoorbell dt q v) s = execPcieSqDoorbell dt q v s := rfl
theorem exec_pcieCqDoorbell {s : State} {dt q v} :
    exec (.pcieCqDoorbell dt q v) s = execPcieCqDoorbell dt q v s := rfl
theorem exec_pcieSqFetch {s : State} {dt q l} :
    exec (.pcieSqFetch dt q l) s = execPcieSqFetch dt q l s := rfl
theorem exec_createQp {s : State} {dt q tid} :
    exec (.createQp dt q tid) s = execCreateQp dt q tid s := rfl
theorem exec_deleteQp {s : State} {dt} :
    exec (.deleteQp dt) s = execDeleteQp dt s := rfl
theorem exec_pcieOdRead {s : State} {dt q} :
    exec (.pcieOdRead dt q) s = execPcieOdRead dt q s := rfl
theorem exec_pcieOdWrite {s : State} {dt q data} :
    exec (.pcieOdWrite dt q data) s = execPcieOdWrite dt q data s := rfl
theorem exec_pcieOdBlockRead {s : State} {dt q} :
    exec (.pcieOdBlockRead dt q) s = execPcieOdBlockRead dt q s := rfl
theorem exec_molMemAlloc {s : State} {dt q bytes place} :
    exec (.molMemAlloc dt q bytes place) s = execMolMemAlloc dt q bytes place s := rfl
theorem exec_molMemFree {s : State} {dt q ptr entries} :
    exec (.molMemFree dt q ptr entries) s = execMolMemFree dt q ptr entries s := rfl
theorem exec_molModelLoad {s : State} {dt q plan} :
    exec (.molModelLoad dt q plan) s = execMolModelLoad dt q plan s := rfl
theorem exec_molModelUnload {s : State} {dt q k} :
    exec (.molModelUnload dt q k) s = execMolModelUnload dt q k s := rfl
theorem exec_molInvoke {s : State} {dt q k ch x} :
    exec (.molInvoke dt q k ch x) s = execMolInvoke dt q k ch x s := rfl
theorem exec_molPrefetch {s : State} {dt q va n target ch pages} :
    exec (.molPrefetch dt q va n target ch pages) s = execMolPrefetch dt q va n target ch pages s := rfl
theorem exec_molAdvise {s : State} {dt q va n h} :
    exec (.molAdvise dt q va n h) s = execMolAdvise dt q va n h s := rfl
theorem exec_molBarMap {s : State} {dt q bytes readonly pa a} :
    exec (.molBarMap dt q bytes readonly pa a) s = execMolBarMap dt q bytes readonly pa a s := rfl
theorem exec_molBarUnmap {s : State} {dt q off} :
    exec (.molBarUnmap dt q off) s = execMolBarUnmap dt q off s := rfl
theorem exec_cqCoalesceSignal {s : State} {dt q} :
    exec (.cqCoalesceSignal dt q) s = execCqCoalesceSignal dt q s := rfl
theorem exec_logMsixSignal {s : State} {dt} :
    exec (.logMsixSignal dt) s = execLogMsixSignal dt s := rfl
theorem exec_hostNoteClear {s : State} {dt hi v} :
    exec (.hostNoteClear dt hi v) s = execHostNoteClear dt hi v s := rfl
theorem exec_pcieFlr {s : State} {dt} :
    exec (.pcieFlr dt) s = execPcieFlr dt s := rfl
theorem exec_pcieReset {s : State} {dt cause} :
    exec (.pcieReset dt cause) s = execPcieReset dt cause s := rfl
theorem exec_pcieD3hot {s : State} {dt} :
    exec (.pcieD3hot dt) s = execPcieD3hot dt s := rfl
theorem exec_pcieD0Return {s : State} {dt} :
    exec (.pcieD0Return dt) s = execPcieD0Return dt s := rfl
theorem exec_dwlFlitReceive {s : State} {dt p l res} :
    exec (.dwlFlitReceive dt p l res) s = execDwlFlitReceive dt p l res s := rfl
theorem exec_dwlReplayTimeout {s : State} {dt p} :
    exec (.dwlReplayTimeout dt p) s = execDwlReplayTimeout dt p s := rfl
theorem exec_dwlRetrain {s : State} {dt p lost} :
    exec (.dwlRetrain dt p lost) s = execDwlRetrain dt p lost s := rfl
theorem exec_dwlTrainingDone {s : State} {dt p partner ppair} :
    exec (.dwlTrainingDone dt p partner ppair) s = execDwlTrainingDone dt p partner ppair s := rfl
theorem exec_dwlTrainRetry {s : State} {dt p} :
    exec (.dwlTrainRetry dt p) s = execDwlTrainRetry dt p s := rfl
theorem exec_dwlHello {s : State} {dt links} :
    exec (.dwlHello dt links) s = execDwlHello dt links s := rfl
theorem exec_dwlVerdict {s : State} {dt} :
    exec (.dwlVerdict dt) s = execDwlVerdict dt s := rfl
theorem exec_dwlMemWr {s : State} {dt env reply} :
    exec (.dwlMemWr dt env reply) s = execDwlMemWr dt env reply s := rfl
theorem exec_dwlMemRd {s : State} {dt env reply} :
    exec (.dwlMemRd dt env reply) s = execDwlMemRd dt env reply s := rfl
theorem exec_dwlTask {s : State} {dt} :
    exec (.dwlTask dt) s = execDwlTask dt s := rfl
theorem exec_dwlSync {s : State} {dt} :
    exec (.dwlSync dt) s = execDwlSync dt s := rfl
theorem exec_dwlTimeRequest {s : State} {dt} :
    exec (.dwlTimeRequest dt) s = execDwlTimeRequest dt s := rfl
theorem exec_dwlTimeAnswer {s : State} {dt} :
    exec (.dwlTimeAnswer dt) s = execDwlTimeAnswer dt s := rfl
theorem exec_dwlMirror {s : State} {dt} :
    exec (.dwlMirror dt) s = execDwlMirror dt s := rfl
theorem exec_asmHelloTimer {s : State} {dt} :
    exec (.asmHelloTimer dt) s = execAsmHelloTimer dt s := rfl
theorem exec_asmTimeTimer {s : State} {dt} :
    exec (.asmTimeTimer dt) s = execAsmTimeTimer dt s := rfl
theorem exec_asmFormed {s : State} {dt} :
    exec (.asmFormed dt) s = execAsmFormed dt s := rfl
theorem exec_asmWorkerLost {s : State} {dt k} :
    exec (.asmWorkerLost dt k) s = execAsmWorkerLost dt k s := rfl
theorem exec_asmManagerLost {s : State} {dt} :
    exec (.asmManagerLost dt) s = execAsmManagerLost dt s := rfl
theorem exec_asmForward {s : State} {dt} :
    exec (.asmForward dt) s = execAsmForward dt s := rfl
theorem exec_asmForwardTimeout {s : State} {dt} :
    exec (.asmForwardTimeout dt) s = execAsmForwardTimeout dt s := rfl
theorem exec_peerFailRecognised {s : State} {dt low} :
    exec (.peerFailRecognised dt low) s = execPeerFailRecognised dt low s := rfl
theorem exec_aliveWindowEnd {s : State} {dt edge} :
    exec (.aliveWindowEnd dt edge) s = execAliveWindowEnd dt edge s := rfl
theorem exec_peerActiveFall {s : State} {dt low} :
    exec (.peerActiveFall dt low) s = execPeerActiveFall dt low s := rfl
theorem exec_pairMirrorStale {s : State} {dt} :
    exec (.pairMirrorStale dt) s = execPairMirrorStale dt s := rfl
theorem exec_pairHandoverTick {s : State} {dt} :
    exec (.pairHandoverTick dt) s = execPairHandoverTick dt s := rfl
theorem exec_pwrDomainRequest {s : State} {dt tid v} :
    exec (.pwrDomainRequest dt tid v) s = execPwrDomainRequest dt tid v s := rfl
theorem exec_pwrDomainSwitched {s : State} {dt d} :
    exec (.pwrDomainSwitched dt d) s = execPwrDomainSwitched dt d s := rfl
theorem exec_pwrStateRequest {s : State} {dt flashOk} :
    exec (.pwrStateRequest dt flashOk) s = execPwrStateRequest dt flashOk s := rfl
theorem exec_pwrWake {s : State} {dt b} :
    exec (.pwrWake dt b) s = execPwrWake dt b s := rfl
theorem exec_pwrAlarmWake {s : State} {dt} :
    exec (.pwrAlarmWake dt) s = execPwrAlarmWake dt s := rfl
theorem exec_thmRecoveryWake {s : State} {dt} :
    exec (.thmRecoveryWake dt) s = execThmRecoveryWake dt s := rfl
theorem exec_avsMonitor {s : State} {dt low high} :
    exec (.avsMonitor dt low high) s = execAvsMonitor dt low high s := rfl
theorem exec_avsLimit {s : State} {dt} :
    exec (.avsLimit dt) s = execAvsLimit dt s := rfl
theorem exec_thmConversion {s : State} {dt l} :
    exec (.thmConversion dt l) s = execThmConversion dt l s := rfl
theorem exec_thmCrit {s : State} {dt} :
    exec (.thmCrit dt) s = execThmCrit dt s := rfl
theorem exec_throttleWindow {s : State} {dt est} :
    exec (.throttleWindow dt est) s = execThrottleWindow dt est s := rfl
theorem exec_pwrCapUnmet {s : State} {dt} :
    exec (.pwrCapUnmet dt) s = execPwrCapUnmet dt s := rfl
theorem exec_fanEnable {s : State} {dt f} :
    exec (.fanEnable dt f) s = execFanEnable dt f s := rfl
theorem exec_fanTachEdge {s : State} {dt f} :
    exec (.fanTachEdge dt f) s = execFanTachEdge dt f s := rfl
theorem exec_fanSpinupTimeout {s : State} {dt f} :
    exec (.fanSpinupTimeout dt f) s = execFanSpinupTimeout dt f s := rfl
theorem exec_fanTachLost {s : State} {dt f} :
    exec (.fanTachLost dt f) s = execFanTachLost dt f s := rfl
theorem exec_fanRecovered {s : State} {dt f} :
    exec (.fanRecovered dt f) s = execFanRecovered dt f s := rfl
theorem exec_powerOnReset {s : State} {dt cause} :
    exec (.powerOnReset dt cause) s = execPowerOnReset dt cause s := rfl
theorem exec_t0Release {s : State} {dt} :
    exec (.t0Release dt) s = execT0Release dt s := rfl
theorem exec_strapLatch {s : State} {dt v} :
    exec (.strapLatch dt v) s = execStrapLatch dt v s := rfl
theorem exec_bootSifVerified {s : State} {dt b err} :
    exec (.bootSifVerified dt b err) s = execBootSifVerified dt b err s := rfl
theorem exec_bootCanRom {s : State} {dt} :
    exec (.bootCanRom dt) s = execBootCanRom dt s := rfl
theorem exec_bootCeReady {s : State} {dt peerHigh} :
    exec (.bootCeReady dt peerHigh) s = execBootCeReady dt peerHigh s := rfl
theorem exec_dramTrainingDone {s : State} {dt ok} :
    exec (.dramTrainingDone dt ok) s = execDramTrainingDone dt ok s := rfl
theorem exec_bootRuntimeVerified {s : State} {dt more err} :
    exec (.bootRuntimeVerified dt more err) s = execBootRuntimeVerified dt more err s := rfl
theorem exec_bootRuntimeStart {s : State} {dt} :
    exec (.bootRuntimeStart dt) s = execBootRuntimeStart dt s := rfl
theorem exec_bootDowelTraining {s : State} {dt} :
    exec (.bootDowelTraining dt) s = execBootDowelTraining dt s := rfl
theorem exec_bootDictReady {s : State} {dt} :
    exec (.bootDictReady dt) s = execBootDictReady dt s := rfl
theorem exec_pcieReadyFallback {s : State} {dt} :
    exec (.pcieReadyFallback dt) s = execPcieReadyFallback dt s := rfl
theorem exec_bootMbGo {s : State} {dt} :
    exec (.bootMbGo dt) s = execBootMbGo dt s := rfl
theorem exec_bootDowelTimeout {s : State} {dt} :
    exec (.bootDowelTimeout dt) s = execBootDowelTimeout dt s := rfl
theorem exec_warmReset {s : State} {dt pinLow release} :
    exec (.warmReset dt pinLow release) s = execWarmReset dt pinLow release s := rfl
theorem exec_partialReset {s : State} {dt tid v} :
    exec (.partialReset dt tid v) s = execPartialReset dt tid v s := rfl
theorem exec_programControl {s : State} {dt} :
    exec (.programControl dt) s = execProgramControl dt s := rfl
theorem exec_otpWrite {s : State} {dt w} :
    exec (.otpWrite dt w) s = execOtpWrite dt w s := rfl
theorem exec_safeStateRestart {s : State} {dt} :
    exec (.safeStateRestart dt) s = execSafeStateRestart dt s := rfl
theorem exec_safRestartDone {s : State} {dt} :
    exec (.safRestartDone dt) s = execSafRestartDone dt s := rfl
theorem exec_safRestartTimeout {s : State} {dt} :
    exec (.safRestartTimeout dt) s = execSafRestartTimeout dt s := rfl
theorem exec_safDisarm {s : State} {dt} :
    exec (.safDisarm dt) s = execSafDisarm dt s := rfl
theorem exec_safStoReadback {s : State} {dt pad} :
    exec (.safStoReadback dt pad) s = execSafStoReadback dt pad s := rfl
theorem exec_ss1Request {s : State} {dt gpio} :
    exec (.ss1Request dt gpio) s = execSs1Request dt gpio s := rfl
theorem exec_ss1Expire {s : State} {dt} :
    exec (.ss1Expire dt) s = execSs1Expire dt s := rfl
theorem exec_wdgKick {s : State} {dt v} :
    exec (.wdgKick dt v) s = execWdgKick dt v s := rfl
theorem exec_wdgWindowEnd {s : State} {dt} :
    exec (.wdgWindowEnd dt) s = execWdgWindowEnd dt s := rfl
theorem exec_islandFault {s : State} {dt kind} :
    exec (.islandFault dt kind) s = execIslandFault dt kind s := rfl
theorem exec_safClampCrcCheck {s : State} {dt l} :
    exec (.safClampCrcCheck dt l) s = execSafClampCrcCheck dt l s := rfl
theorem exec_spmInitDone {s : State} {dt c} :
    exec (.spmInitDone dt c) s = execSpmInitDone dt c s := rfl
theorem exec_bootMbChunkCopied {s : State} {dt} :
    exec (.bootMbChunkCopied dt) s = execBootMbChunkCopied dt s := rfl
theorem exec_heartbeatProducerTimer {s : State} {dt} :
    exec (.heartbeatProducerTimer dt) s = execHeartbeatProducerTimer dt s := rfl
theorem exec_pcieLinkUp {s : State} {dt speed width} :
    exec (.pcieLinkUp dt speed width) s = execPcieLinkUp dt speed width s := rfl
theorem exec_perstNRelease {s : State} {dt} :
    exec (.perstNRelease dt) s = execPerstNRelease dt s := rfl
theorem exec_pciePmeTurnOff {s : State} {dt} :
    exec (.pciePmeTurnOff dt) s = execPciePmeTurnOff dt s := rfl
theorem exec_pcieFlrComplete {s : State} {dt} :
    exec (.pcieFlrComplete dt) s = execPcieFlrComplete dt s := rfl
theorem exec_fanSpinupRetry {s : State} {dt f} :
    exec (.fanSpinupRetry dt f) s = execFanSpinupRetry dt f s := rfl
theorem exec_bootDowelRetry {s : State} {dt} :
    exec (.bootDowelRetry dt) s = execBootDowelRetry dt s := rfl
theorem exec_vddAoValid {s : State} {dt} :
    exec (.vddAoValid dt) s = execVddAoValid dt s := rfl

end Sys2Proof.Machine
end

