-- ==== Sys2Proof/Laws/State.lean ====
section
/-! SUPPORT. One law for each field under each update of the state: the update leaves every other field alone. -/

namespace Sys2Proof.Machine

set_option Elab.async false

@[simp] theorem State.wr_now (s : State) (r : RegId) (v i j : Nat) : (s.wr r v i j).now = s.now := rfl
@[simp] theorem State.wr_mem (s : State) (r : RegId) (v i j : Nat) : (s.wr r v i j).mem = s.mem := rfl
@[simp] theorem State.wr_pending (s : State) (r : RegId) (v i j : Nat) : (s.wr r v i j).pending = s.pending := rfl
@[simp] theorem State.wr_freeCtr (s : State) (r : RegId) (v i j : Nat) : (s.wr r v i j).freeCtr = s.freeCtr := rfl
@[simp] theorem State.wr_tx (s : State) (r : RegId) (v i j : Nat) : (s.wr r v i j).tx = s.tx := rfl
@[simp] theorem State.wr_clk (s : State) (r : RegId) (v i j : Nat) : (s.wr r v i j).clk = s.clk := rfl
@[simp] theorem State.wr_loop (s : State) (r : RegId) (v i j : Nat) : (s.wr r v i j).loop = s.loop := rfl
@[simp] theorem State.wr_log (s : State) (r : RegId) (v i j : Nat) : (s.wr r v i j).log = s.log := rfl
@[simp] theorem State.wr_saf (s : State) (r : RegId) (v i j : Nat) : (s.wr r v i j).saf = s.saf := rfl
@[simp] theorem State.wr_pin (s : State) (r : RegId) (v i j : Nat) : (s.wr r v i j).pin = s.pin := rfl
@[simp] theorem State.wr_fab (s : State) (r : RegId) (v i j : Nat) : (s.wr r v i j).fab = s.fab := rfl
@[simp] theorem State.wr_sch (s : State) (r : RegId) (v i j : Nat) : (s.wr r v i j).sch = s.sch := rfl
@[simp] theorem State.wr_str (s : State) (r : RegId) (v i j : Nat) : (s.wr r v i j).str = s.str := rfl
@[simp] theorem State.wr_ecc (s : State) (r : RegId) (v i j : Nat) : (s.wr r v i j).ecc = s.ecc := rfl
@[simp] theorem State.wr_spm (s : State) (r : RegId) (v i j : Nat) : (s.wr r v i j).spm = s.spm := rfl
@[simp] theorem State.wr_bpu (s : State) (r : RegId) (v i j : Nat) : (s.wr r v i j).bpu = s.bpu := rfl
@[simp] theorem State.wr_mmu (s : State) (r : RegId) (v i j : Nat) : (s.wr r v i j).mmu = s.mmu := rfl
@[simp] theorem State.wr_memc (s : State) (r : RegId) (v i j : Nat) : (s.wr r v i j).memc = s.memc := rfl
@[simp] theorem State.wr_host (s : State) (r : RegId) (v i j : Nat) : (s.wr r v i j).host = s.host := rfl
@[simp] theorem State.wr_comp (s : State) (r : RegId) (v i j : Nat) : (s.wr r v i j).comp = s.comp := rfl
@[simp] theorem State.wr_od (s : State) (r : RegId) (v i j : Nat) : (s.wr r v i j).od = s.od := rfl
@[simp] theorem State.wr_can (s : State) (r : RegId) (v i j : Nat) : (s.wr r v i j).can = s.can := rfl
@[simp] theorem State.wr_eth (s : State) (r : RegId) (v i j : Nat) : (s.wr r v i j).eth = s.eth := rfl
@[simp] theorem State.wr_dwl (s : State) (r : RegId) (v i j : Nat) : (s.wr r v i j).dwl = s.dwl := rfl
@[simp] theorem State.wr_pair (s : State) (r : RegId) (v i j : Nat) : (s.wr r v i j).pair = s.pair := rfl
@[simp] theorem State.wr_pwr (s : State) (r : RegId) (v i j : Nat) : (s.wr r v i j).pwr = s.pwr := rfl
@[simp] theorem State.wr_boot (s : State) (r : RegId) (v i j : Nat) : (s.wr r v i j).boot = s.boot := rfl
@[simp] theorem State.wr_drv (s : State) (r : RegId) (v i j : Nat) : (s.wr r v i j).drv = s.drv := rfl

@[simp] theorem State.wrS_now (s : State) (r : RegId) (v : Int) (i j : Nat) : (s.wrS r v i j).now = s.now := rfl
@[simp] theorem State.wrS_mem (s : State) (r : RegId) (v : Int) (i j : Nat) : (s.wrS r v i j).mem = s.mem := rfl
@[simp] theorem State.wrS_pending (s : State) (r : RegId) (v : Int) (i j : Nat) : (s.wrS r v i j).pending = s.pending := rfl
@[simp] theorem State.wrS_freeCtr (s : State) (r : RegId) (v : Int) (i j : Nat) : (s.wrS r v i j).freeCtr = s.freeCtr := rfl
@[simp] theorem State.wrS_tx (s : State) (r : RegId) (v : Int) (i j : Nat) : (s.wrS r v i j).tx = s.tx := rfl
@[simp] theorem State.wrS_clk (s : State) (r : RegId) (v : Int) (i j : Nat) : (s.wrS r v i j).clk = s.clk := rfl
@[simp] theorem State.wrS_loop (s : State) (r : RegId) (v : Int) (i j : Nat) : (s.wrS r v i j).loop = s.loop := rfl
@[simp] theorem State.wrS_log (s : State) (r : RegId) (v : Int) (i j : Nat) : (s.wrS r v i j).log = s.log := rfl
@[simp] theorem State.wrS_saf (s : State) (r : RegId) (v : Int) (i j : Nat) : (s.wrS r v i j).saf = s.saf := rfl
@[simp] theorem State.wrS_pin (s : State) (r : RegId) (v : Int) (i j : Nat) : (s.wrS r v i j).pin = s.pin := rfl
@[simp] theorem State.wrS_fab (s : State) (r : RegId) (v : Int) (i j : Nat) : (s.wrS r v i j).fab = s.fab := rfl
@[simp] theorem State.wrS_sch (s : State) (r : RegId) (v : Int) (i j : Nat) : (s.wrS r v i j).sch = s.sch := rfl
@[simp] theorem State.wrS_str (s : State) (r : RegId) (v : Int) (i j : Nat) : (s.wrS r v i j).str = s.str := rfl
@[simp] theorem State.wrS_ecc (s : State) (r : RegId) (v : Int) (i j : Nat) : (s.wrS r v i j).ecc = s.ecc := rfl
@[simp] theorem State.wrS_spm (s : State) (r : RegId) (v : Int) (i j : Nat) : (s.wrS r v i j).spm = s.spm := rfl
@[simp] theorem State.wrS_bpu (s : State) (r : RegId) (v : Int) (i j : Nat) : (s.wrS r v i j).bpu = s.bpu := rfl
@[simp] theorem State.wrS_mmu (s : State) (r : RegId) (v : Int) (i j : Nat) : (s.wrS r v i j).mmu = s.mmu := rfl
@[simp] theorem State.wrS_memc (s : State) (r : RegId) (v : Int) (i j : Nat) : (s.wrS r v i j).memc = s.memc := rfl
@[simp] theorem State.wrS_host (s : State) (r : RegId) (v : Int) (i j : Nat) : (s.wrS r v i j).host = s.host := rfl
@[simp] theorem State.wrS_comp (s : State) (r : RegId) (v : Int) (i j : Nat) : (s.wrS r v i j).comp = s.comp := rfl
@[simp] theorem State.wrS_od (s : State) (r : RegId) (v : Int) (i j : Nat) : (s.wrS r v i j).od = s.od := rfl
@[simp] theorem State.wrS_can (s : State) (r : RegId) (v : Int) (i j : Nat) : (s.wrS r v i j).can = s.can := rfl
@[simp] theorem State.wrS_eth (s : State) (r : RegId) (v : Int) (i j : Nat) : (s.wrS r v i j).eth = s.eth := rfl
@[simp] theorem State.wrS_dwl (s : State) (r : RegId) (v : Int) (i j : Nat) : (s.wrS r v i j).dwl = s.dwl := rfl
@[simp] theorem State.wrS_pair (s : State) (r : RegId) (v : Int) (i j : Nat) : (s.wrS r v i j).pair = s.pair := rfl
@[simp] theorem State.wrS_pwr (s : State) (r : RegId) (v : Int) (i j : Nat) : (s.wrS r v i j).pwr = s.pwr := rfl
@[simp] theorem State.wrS_boot (s : State) (r : RegId) (v : Int) (i j : Nat) : (s.wrS r v i j).boot = s.boot := rfl
@[simp] theorem State.wrS_drv (s : State) (r : RegId) (v : Int) (i j : Nat) : (s.wrS r v i j).drv = s.drv := rfl

@[simp] theorem State.bump_now (s : State) (r : RegId) (k i j : Nat) : (s.bump r k i j).now = s.now := rfl
@[simp] theorem State.bump_mem (s : State) (r : RegId) (k i j : Nat) : (s.bump r k i j).mem = s.mem := rfl
@[simp] theorem State.bump_pending (s : State) (r : RegId) (k i j : Nat) : (s.bump r k i j).pending = s.pending := rfl
@[simp] theorem State.bump_freeCtr (s : State) (r : RegId) (k i j : Nat) : (s.bump r k i j).freeCtr = s.freeCtr := rfl
@[simp] theorem State.bump_tx (s : State) (r : RegId) (k i j : Nat) : (s.bump r k i j).tx = s.tx := rfl
@[simp] theorem State.bump_clk (s : State) (r : RegId) (k i j : Nat) : (s.bump r k i j).clk = s.clk := rfl
@[simp] theorem State.bump_loop (s : State) (r : RegId) (k i j : Nat) : (s.bump r k i j).loop = s.loop := rfl
@[simp] theorem State.bump_log (s : State) (r : RegId) (k i j : Nat) : (s.bump r k i j).log = s.log := rfl
@[simp] theorem State.bump_saf (s : State) (r : RegId) (k i j : Nat) : (s.bump r k i j).saf = s.saf := rfl
@[simp] theorem State.bump_pin (s : State) (r : RegId) (k i j : Nat) : (s.bump r k i j).pin = s.pin := rfl
@[simp] theorem State.bump_fab (s : State) (r : RegId) (k i j : Nat) : (s.bump r k i j).fab = s.fab := rfl
@[simp] theorem State.bump_sch (s : State) (r : RegId) (k i j : Nat) : (s.bump r k i j).sch = s.sch := rfl
@[simp] theorem State.bump_str (s : State) (r : RegId) (k i j : Nat) : (s.bump r k i j).str = s.str := rfl
@[simp] theorem State.bump_ecc (s : State) (r : RegId) (k i j : Nat) : (s.bump r k i j).ecc = s.ecc := rfl
@[simp] theorem State.bump_spm (s : State) (r : RegId) (k i j : Nat) : (s.bump r k i j).spm = s.spm := rfl
@[simp] theorem State.bump_bpu (s : State) (r : RegId) (k i j : Nat) : (s.bump r k i j).bpu = s.bpu := rfl
@[simp] theorem State.bump_mmu (s : State) (r : RegId) (k i j : Nat) : (s.bump r k i j).mmu = s.mmu := rfl
@[simp] theorem State.bump_memc (s : State) (r : RegId) (k i j : Nat) : (s.bump r k i j).memc = s.memc := rfl
@[simp] theorem State.bump_host (s : State) (r : RegId) (k i j : Nat) : (s.bump r k i j).host = s.host := rfl
@[simp] theorem State.bump_comp (s : State) (r : RegId) (k i j : Nat) : (s.bump r k i j).comp = s.comp := rfl
@[simp] theorem State.bump_od (s : State) (r : RegId) (k i j : Nat) : (s.bump r k i j).od = s.od := rfl
@[simp] theorem State.bump_can (s : State) (r : RegId) (k i j : Nat) : (s.bump r k i j).can = s.can := rfl
@[simp] theorem State.bump_eth (s : State) (r : RegId) (k i j : Nat) : (s.bump r k i j).eth = s.eth := rfl
@[simp] theorem State.bump_dwl (s : State) (r : RegId) (k i j : Nat) : (s.bump r k i j).dwl = s.dwl := rfl
@[simp] theorem State.bump_pair (s : State) (r : RegId) (k i j : Nat) : (s.bump r k i j).pair = s.pair := rfl
@[simp] theorem State.bump_pwr (s : State) (r : RegId) (k i j : Nat) : (s.bump r k i j).pwr = s.pwr := rfl
@[simp] theorem State.bump_boot (s : State) (r : RegId) (k i j : Nat) : (s.bump r k i j).boot = s.boot := rfl
@[simp] theorem State.bump_drv (s : State) (r : RegId) (k i j : Nat) : (s.bump r k i j).drv = s.drv := rfl

@[simp] theorem State.bumpW_now (s : State) (r : RegId) (k i j : Nat) : (s.bumpW r k i j).now = s.now := rfl
@[simp] theorem State.bumpW_mem (s : State) (r : RegId) (k i j : Nat) : (s.bumpW r k i j).mem = s.mem := rfl
@[simp] theorem State.bumpW_pending (s : State) (r : RegId) (k i j : Nat) : (s.bumpW r k i j).pending = s.pending := rfl
@[simp] theorem State.bumpW_freeCtr (s : State) (r : RegId) (k i j : Nat) : (s.bumpW r k i j).freeCtr = s.freeCtr := rfl
@[simp] theorem State.bumpW_tx (s : State) (r : RegId) (k i j : Nat) : (s.bumpW r k i j).tx = s.tx := rfl
@[simp] theorem State.bumpW_clk (s : State) (r : RegId) (k i j : Nat) : (s.bumpW r k i j).clk = s.clk := rfl
@[simp] theorem State.bumpW_loop (s : State) (r : RegId) (k i j : Nat) : (s.bumpW r k i j).loop = s.loop := rfl
@[simp] theorem State.bumpW_log (s : State) (r : RegId) (k i j : Nat) : (s.bumpW r k i j).log = s.log := rfl
@[simp] theorem State.bumpW_saf (s : State) (r : RegId) (k i j : Nat) : (s.bumpW r k i j).saf = s.saf := rfl
@[simp] theorem State.bumpW_pin (s : State) (r : RegId) (k i j : Nat) : (s.bumpW r k i j).pin = s.pin := rfl
@[simp] theorem State.bumpW_fab (s : State) (r : RegId) (k i j : Nat) : (s.bumpW r k i j).fab = s.fab := rfl
@[simp] theorem State.bumpW_sch (s : State) (r : RegId) (k i j : Nat) : (s.bumpW r k i j).sch = s.sch := rfl
@[simp] theorem State.bumpW_str (s : State) (r : RegId) (k i j : Nat) : (s.bumpW r k i j).str = s.str := rfl
@[simp] theorem State.bumpW_ecc (s : State) (r : RegId) (k i j : Nat) : (s.bumpW r k i j).ecc = s.ecc := rfl
@[simp] theorem State.bumpW_spm (s : State) (r : RegId) (k i j : Nat) : (s.bumpW r k i j).spm = s.spm := rfl
@[simp] theorem State.bumpW_bpu (s : State) (r : RegId) (k i j : Nat) : (s.bumpW r k i j).bpu = s.bpu := rfl
@[simp] theorem State.bumpW_mmu (s : State) (r : RegId) (k i j : Nat) : (s.bumpW r k i j).mmu = s.mmu := rfl
@[simp] theorem State.bumpW_memc (s : State) (r : RegId) (k i j : Nat) : (s.bumpW r k i j).memc = s.memc := rfl
@[simp] theorem State.bumpW_host (s : State) (r : RegId) (k i j : Nat) : (s.bumpW r k i j).host = s.host := rfl
@[simp] theorem State.bumpW_comp (s : State) (r : RegId) (k i j : Nat) : (s.bumpW r k i j).comp = s.comp := rfl
@[simp] theorem State.bumpW_od (s : State) (r : RegId) (k i j : Nat) : (s.bumpW r k i j).od = s.od := rfl
@[simp] theorem State.bumpW_can (s : State) (r : RegId) (k i j : Nat) : (s.bumpW r k i j).can = s.can := rfl
@[simp] theorem State.bumpW_eth (s : State) (r : RegId) (k i j : Nat) : (s.bumpW r k i j).eth = s.eth := rfl
@[simp] theorem State.bumpW_dwl (s : State) (r : RegId) (k i j : Nat) : (s.bumpW r k i j).dwl = s.dwl := rfl
@[simp] theorem State.bumpW_pair (s : State) (r : RegId) (k i j : Nat) : (s.bumpW r k i j).pair = s.pair := rfl
@[simp] theorem State.bumpW_pwr (s : State) (r : RegId) (k i j : Nat) : (s.bumpW r k i j).pwr = s.pwr := rfl
@[simp] theorem State.bumpW_boot (s : State) (r : RegId) (k i j : Nat) : (s.bumpW r k i j).boot = s.boot := rfl
@[simp] theorem State.bumpW_drv (s : State) (r : RegId) (k i j : Nat) : (s.bumpW r k i j).drv = s.drv := rfl

@[simp] theorem State.wrBit_now (s : State) (r : RegId) (k : Nat) (b : Bool) (i j : Nat) : (s.wrBit r k b i j).now = s.now := rfl
@[simp] theorem State.wrBit_mem (s : State) (r : RegId) (k : Nat) (b : Bool) (i j : Nat) : (s.wrBit r k b i j).mem = s.mem := rfl
@[simp] theorem State.wrBit_pending (s : State) (r : RegId) (k : Nat) (b : Bool) (i j : Nat) : (s.wrBit r k b i j).pending = s.pending := rfl
@[simp] theorem State.wrBit_freeCtr (s : State) (r : RegId) (k : Nat) (b : Bool) (i j : Nat) : (s.wrBit r k b i j).freeCtr = s.freeCtr := rfl
@[simp] theorem State.wrBit_tx (s : State) (r : RegId) (k : Nat) (b : Bool) (i j : Nat) : (s.wrBit r k b i j).tx = s.tx := rfl
@[simp] theorem State.wrBit_clk (s : State) (r : RegId) (k : Nat) (b : Bool) (i j : Nat) : (s.wrBit r k b i j).clk = s.clk := rfl
@[simp] theorem State.wrBit_loop (s : State) (r : RegId) (k : Nat) (b : Bool) (i j : Nat) : (s.wrBit r k b i j).loop = s.loop := rfl
@[simp] theorem State.wrBit_log (s : State) (r : RegId) (k : Nat) (b : Bool) (i j : Nat) : (s.wrBit r k b i j).log = s.log := rfl
@[simp] theorem State.wrBit_saf (s : State) (r : RegId) (k : Nat) (b : Bool) (i j : Nat) : (s.wrBit r k b i j).saf = s.saf := rfl
@[simp] theorem State.wrBit_pin (s : State) (r : RegId) (k : Nat) (b : Bool) (i j : Nat) : (s.wrBit r k b i j).pin = s.pin := rfl
@[simp] theorem State.wrBit_fab (s : State) (r : RegId) (k : Nat) (b : Bool) (i j : Nat) : (s.wrBit r k b i j).fab = s.fab := rfl
@[simp] theorem State.wrBit_sch (s : State) (r : RegId) (k : Nat) (b : Bool) (i j : Nat) : (s.wrBit r k b i j).sch = s.sch := rfl
@[simp] theorem State.wrBit_str (s : State) (r : RegId) (k : Nat) (b : Bool) (i j : Nat) : (s.wrBit r k b i j).str = s.str := rfl
@[simp] theorem State.wrBit_ecc (s : State) (r : RegId) (k : Nat) (b : Bool) (i j : Nat) : (s.wrBit r k b i j).ecc = s.ecc := rfl
@[simp] theorem State.wrBit_spm (s : State) (r : RegId) (k : Nat) (b : Bool) (i j : Nat) : (s.wrBit r k b i j).spm = s.spm := rfl
@[simp] theorem State.wrBit_bpu (s : State) (r : RegId) (k : Nat) (b : Bool) (i j : Nat) : (s.wrBit r k b i j).bpu = s.bpu := rfl
@[simp] theorem State.wrBit_mmu (s : State) (r : RegId) (k : Nat) (b : Bool) (i j : Nat) : (s.wrBit r k b i j).mmu = s.mmu := rfl
@[simp] theorem State.wrBit_memc (s : State) (r : RegId) (k : Nat) (b : Bool) (i j : Nat) : (s.wrBit r k b i j).memc = s.memc := rfl
@[simp] theorem State.wrBit_host (s : State) (r : RegId) (k : Nat) (b : Bool) (i j : Nat) : (s.wrBit r k b i j).host = s.host := rfl
@[simp] theorem State.wrBit_comp (s : State) (r : RegId) (k : Nat) (b : Bool) (i j : Nat) : (s.wrBit r k b i j).comp = s.comp := rfl
@[simp] theorem State.wrBit_od (s : State) (r : RegId) (k : Nat) (b : Bool) (i j : Nat) : (s.wrBit r k b i j).od = s.od := rfl
@[simp] theorem State.wrBit_can (s : State) (r : RegId) (k : Nat) (b : Bool) (i j : Nat) : (s.wrBit r k b i j).can = s.can := rfl
@[simp] theorem State.wrBit_eth (s : State) (r : RegId) (k : Nat) (b : Bool) (i j : Nat) : (s.wrBit r k b i j).eth = s.eth := rfl
@[simp] theorem State.wrBit_dwl (s : State) (r : RegId) (k : Nat) (b : Bool) (i j : Nat) : (s.wrBit r k b i j).dwl = s.dwl := rfl
@[simp] theorem State.wrBit_pair (s : State) (r : RegId) (k : Nat) (b : Bool) (i j : Nat) : (s.wrBit r k b i j).pair = s.pair := rfl
@[simp] theorem State.wrBit_pwr (s : State) (r : RegId) (k : Nat) (b : Bool) (i j : Nat) : (s.wrBit r k b i j).pwr = s.pwr := rfl
@[simp] theorem State.wrBit_boot (s : State) (r : RegId) (k : Nat) (b : Bool) (i j : Nat) : (s.wrBit r k b i j).boot = s.boot := rfl
@[simp] theorem State.wrBit_drv (s : State) (r : RegId) (k : Nat) (b : Bool) (i j : Nat) : (s.wrBit r k b i j).drv = s.drv := rfl

@[simp] theorem State.clearRegs_now (s : State) (p : RegKey → Bool) : (s.clearRegs p).now = s.now := rfl
@[simp] theorem State.clearRegs_mem (s : State) (p : RegKey → Bool) : (s.clearRegs p).mem = s.mem := rfl
@[simp] theorem State.clearRegs_pending (s : State) (p : RegKey → Bool) : (s.clearRegs p).pending = s.pending := rfl
@[simp] theorem State.clearRegs_freeCtr (s : State) (p : RegKey → Bool) : (s.clearRegs p).freeCtr = s.freeCtr := rfl
@[simp] theorem State.clearRegs_tx (s : State) (p : RegKey → Bool) : (s.clearRegs p).tx = s.tx := rfl
@[simp] theorem State.clearRegs_clk (s : State) (p : RegKey → Bool) : (s.clearRegs p).clk = s.clk := rfl
@[simp] theorem State.clearRegs_loop (s : State) (p : RegKey → Bool) : (s.clearRegs p).loop = s.loop := rfl
@[simp] theorem State.clearRegs_log (s : State) (p : RegKey → Bool) : (s.clearRegs p).log = s.log := rfl
@[simp] theorem State.clearRegs_saf (s : State) (p : RegKey → Bool) : (s.clearRegs p).saf = s.saf := rfl
@[simp] theorem State.clearRegs_pin (s : State) (p : RegKey → Bool) : (s.clearRegs p).pin = s.pin := rfl
@[simp] theorem State.clearRegs_fab (s : State) (p : RegKey → Bool) : (s.clearRegs p).fab = s.fab := rfl
@[simp] theorem State.clearRegs_sch (s : State) (p : RegKey → Bool) : (s.clearRegs p).sch = s.sch := rfl
@[simp] theorem State.clearRegs_str (s : State) (p : RegKey → Bool) : (s.clearRegs p).str = s.str := rfl
@[simp] theorem State.clearRegs_ecc (s : State) (p : RegKey → Bool) : (s.clearRegs p).ecc = s.ecc := rfl
@[simp] theorem State.clearRegs_spm (s : State) (p : RegKey → Bool) : (s.clearRegs p).spm = s.spm := rfl
@[simp] theorem State.clearRegs_bpu (s : State) (p : RegKey → Bool) : (s.clearRegs p).bpu = s.bpu := rfl
@[simp] theorem State.clearRegs_mmu (s : State) (p : RegKey → Bool) : (s.clearRegs p).mmu = s.mmu := rfl
@[simp] theorem State.clearRegs_memc (s : State) (p : RegKey → Bool) : (s.clearRegs p).memc = s.memc := rfl
@[simp] theorem State.clearRegs_host (s : State) (p : RegKey → Bool) : (s.clearRegs p).host = s.host := rfl
@[simp] theorem State.clearRegs_comp (s : State) (p : RegKey → Bool) : (s.clearRegs p).comp = s.comp := rfl
@[simp] theorem State.clearRegs_od (s : State) (p : RegKey → Bool) : (s.clearRegs p).od = s.od := rfl
@[simp] theorem State.clearRegs_can (s : State) (p : RegKey → Bool) : (s.clearRegs p).can = s.can := rfl
@[simp] theorem State.clearRegs_eth (s : State) (p : RegKey → Bool) : (s.clearRegs p).eth = s.eth := rfl
@[simp] theorem State.clearRegs_dwl (s : State) (p : RegKey → Bool) : (s.clearRegs p).dwl = s.dwl := rfl
@[simp] theorem State.clearRegs_pair (s : State) (p : RegKey → Bool) : (s.clearRegs p).pair = s.pair := rfl
@[simp] theorem State.clearRegs_pwr (s : State) (p : RegKey → Bool) : (s.clearRegs p).pwr = s.pwr := rfl
@[simp] theorem State.clearRegs_boot (s : State) (p : RegKey → Bool) : (s.clearRegs p).boot = s.boot := rfl
@[simp] theorem State.clearRegs_drv (s : State) (p : RegKey → Bool) : (s.clearRegs p).drv = s.drv := rfl

@[simp] theorem State.wr8_now (s : State) (a : Nat) (v : Byte) : (s.wr8 a v).now = s.now := rfl
@[simp] theorem State.wr8_regs (s : State) (a : Nat) (v : Byte) : (s.wr8 a v).regs = s.regs := rfl
@[simp] theorem State.wr8_pending (s : State) (a : Nat) (v : Byte) : (s.wr8 a v).pending = s.pending := rfl
@[simp] theorem State.wr8_freeCtr (s : State) (a : Nat) (v : Byte) : (s.wr8 a v).freeCtr = s.freeCtr := rfl
@[simp] theorem State.wr8_tx (s : State) (a : Nat) (v : Byte) : (s.wr8 a v).tx = s.tx := rfl
@[simp] theorem State.wr8_clk (s : State) (a : Nat) (v : Byte) : (s.wr8 a v).clk = s.clk := rfl
@[simp] theorem State.wr8_loop (s : State) (a : Nat) (v : Byte) : (s.wr8 a v).loop = s.loop := rfl
@[simp] theorem State.wr8_log (s : State) (a : Nat) (v : Byte) : (s.wr8 a v).log = s.log := rfl
@[simp] theorem State.wr8_saf (s : State) (a : Nat) (v : Byte) : (s.wr8 a v).saf = s.saf := rfl
@[simp] theorem State.wr8_pin (s : State) (a : Nat) (v : Byte) : (s.wr8 a v).pin = s.pin := rfl
@[simp] theorem State.wr8_fab (s : State) (a : Nat) (v : Byte) : (s.wr8 a v).fab = s.fab := rfl
@[simp] theorem State.wr8_sch (s : State) (a : Nat) (v : Byte) : (s.wr8 a v).sch = s.sch := rfl
@[simp] theorem State.wr8_str (s : State) (a : Nat) (v : Byte) : (s.wr8 a v).str = s.str := rfl
@[simp] theorem State.wr8_ecc (s : State) (a : Nat) (v : Byte) : (s.wr8 a v).ecc = s.ecc := rfl
@[simp] theorem State.wr8_spm (s : State) (a : Nat) (v : Byte) : (s.wr8 a v).spm = s.spm := rfl
@[simp] theorem State.wr8_bpu (s : State) (a : Nat) (v : Byte) : (s.wr8 a v).bpu = s.bpu := rfl
@[simp] theorem State.wr8_mmu (s : State) (a : Nat) (v : Byte) : (s.wr8 a v).mmu = s.mmu := rfl
@[simp] theorem State.wr8_memc (s : State) (a : Nat) (v : Byte) : (s.wr8 a v).memc = s.memc := rfl
@[simp] theorem State.wr8_host (s : State) (a : Nat) (v : Byte) : (s.wr8 a v).host = s.host := rfl
@[simp] theorem State.wr8_comp (s : State) (a : Nat) (v : Byte) : (s.wr8 a v).comp = s.comp := rfl
@[simp] theorem State.wr8_od (s : State) (a : Nat) (v : Byte) : (s.wr8 a v).od = s.od := rfl
@[simp] theorem State.wr8_can (s : State) (a : Nat) (v : Byte) : (s.wr8 a v).can = s.can := rfl
@[simp] theorem State.wr8_eth (s : State) (a : Nat) (v : Byte) : (s.wr8 a v).eth = s.eth := rfl
@[simp] theorem State.wr8_dwl (s : State) (a : Nat) (v : Byte) : (s.wr8 a v).dwl = s.dwl := rfl
@[simp] theorem State.wr8_pair (s : State) (a : Nat) (v : Byte) : (s.wr8 a v).pair = s.pair := rfl
@[simp] theorem State.wr8_pwr (s : State) (a : Nat) (v : Byte) : (s.wr8 a v).pwr = s.pwr := rfl
@[simp] theorem State.wr8_boot (s : State) (a : Nat) (v : Byte) : (s.wr8 a v).boot = s.boot := rfl
@[simp] theorem State.wr8_drv (s : State) (a : Nat) (v : Byte) : (s.wr8 a v).drv = s.drv := rfl

@[simp] theorem State.setOb_now (s : State) (o : ObjId) (v i j : Nat) : (s.setOb o v i j).now = s.now := rfl
@[simp] theorem State.setOb_regs (s : State) (o : ObjId) (v i j : Nat) : (s.setOb o v i j).regs = s.regs := rfl
@[simp] theorem State.setOb_mem (s : State) (o : ObjId) (v i j : Nat) : (s.setOb o v i j).mem = s.mem := rfl
@[simp] theorem State.setOb_pending (s : State) (o : ObjId) (v i j : Nat) : (s.setOb o v i j).pending = s.pending := rfl
@[simp] theorem State.setOb_freeCtr (s : State) (o : ObjId) (v i j : Nat) : (s.setOb o v i j).freeCtr = s.freeCtr := rfl
@[simp] theorem State.setOb_tx (s : State) (o : ObjId) (v i j : Nat) : (s.setOb o v i j).tx = s.tx := rfl
@[simp] theorem State.setOb_clk (s : State) (o : ObjId) (v i j : Nat) : (s.setOb o v i j).clk = s.clk := rfl
@[simp] theorem State.setOb_loop (s : State) (o : ObjId) (v i j : Nat) : (s.setOb o v i j).loop = s.loop := rfl
@[simp] theorem State.setOb_log (s : State) (o : ObjId) (v i j : Nat) : (s.setOb o v i j).log = s.log := rfl
@[simp] theorem State.setOb_saf (s : State) (o : ObjId) (v i j : Nat) : (s.setOb o v i j).saf = s.saf := rfl
@[simp] theorem State.setOb_pin (s : State) (o : ObjId) (v i j : Nat) : (s.setOb o v i j).pin = s.pin := rfl
@[simp] theorem State.setOb_fab (s : State) (o : ObjId) (v i j : Nat) : (s.setOb o v i j).fab = s.fab := rfl
@[simp] theorem State.setOb_sch (s : State) (o : ObjId) (v i j : Nat) : (s.setOb o v i j).sch = s.sch := rfl
@[simp] theorem State.setOb_str (s : State) (o : ObjId) (v i j : Nat) : (s.setOb o v i j).str = s.str := rfl
@[simp] theorem State.setOb_ecc (s : State) (o : ObjId) (v i j : Nat) : (s.setOb o v i j).ecc = s.ecc := rfl
@[simp] theorem State.setOb_spm (s : State) (o : ObjId) (v i j : Nat) : (s.setOb o v i j).spm = s.spm := rfl
@[simp] theorem State.setOb_bpu (s : State) (o : ObjId) (v i j : Nat) : (s.setOb o v i j).bpu = s.bpu := rfl
@[simp] theorem State.setOb_mmu (s : State) (o : ObjId) (v i j : Nat) : (s.setOb o v i j).mmu = s.mmu := rfl
@[simp] theorem State.setOb_memc (s : State) (o : ObjId) (v i j : Nat) : (s.setOb o v i j).memc = s.memc := rfl
@[simp] theorem State.setOb_host (s : State) (o : ObjId) (v i j : Nat) : (s.setOb o v i j).host = s.host := rfl
@[simp] theorem State.setOb_comp (s : State) (o : ObjId) (v i j : Nat) : (s.setOb o v i j).comp = s.comp := rfl
@[simp] theorem State.setOb_can (s : State) (o : ObjId) (v i j : Nat) : (s.setOb o v i j).can = s.can := rfl
@[simp] theorem State.setOb_eth (s : State) (o : ObjId) (v i j : Nat) : (s.setOb o v i j).eth = s.eth := rfl
@[simp] theorem State.setOb_dwl (s : State) (o : ObjId) (v i j : Nat) : (s.setOb o v i j).dwl = s.dwl := rfl
@[simp] theorem State.setOb_pair (s : State) (o : ObjId) (v i j : Nat) : (s.setOb o v i j).pair = s.pair := rfl
@[simp] theorem State.setOb_pwr (s : State) (o : ObjId) (v i j : Nat) : (s.setOb o v i j).pwr = s.pwr := rfl
@[simp] theorem State.setOb_boot (s : State) (o : ObjId) (v i j : Nat) : (s.setOb o v i j).boot = s.boot := rfl
@[simp] theorem State.setOb_drv (s : State) (o : ObjId) (v i j : Nat) : (s.setOb o v i j).drv = s.drv := rfl

@[simp] theorem State.send_now (s : State) (l : Link) (n a : Nat) (d : List Byte) : (s.send l n a d).now = s.now := rfl
@[simp] theorem State.send_regs (s : State) (l : Link) (n a : Nat) (d : List Byte) : (s.send l n a d).regs = s.regs := rfl
@[simp] theorem State.send_mem (s : State) (l : Link) (n a : Nat) (d : List Byte) : (s.send l n a d).mem = s.mem := rfl
@[simp] theorem State.send_pending (s : State) (l : Link) (n a : Nat) (d : List Byte) : (s.send l n a d).pending = s.pending := rfl
@[simp] theorem State.send_freeCtr (s : State) (l : Link) (n a : Nat) (d : List Byte) : (s.send l n a d).freeCtr = s.freeCtr := rfl
@[simp] theorem State.send_clk (s : State) (l : Link) (n a : Nat) (d : List Byte) : (s.send l n a d).clk = s.clk := rfl
@[simp] theorem State.send_loop (s : State) (l : Link) (n a : Nat) (d : List Byte) : (s.send l n a d).loop = s.loop := rfl
@[simp] theorem State.send_log (s : State) (l : Link) (n a : Nat) (d : List Byte) : (s.send l n a d).log = s.log := rfl
@[simp] theorem State.send_saf (s : State) (l : Link) (n a : Nat) (d : List Byte) : (s.send l n a d).saf = s.saf := rfl
@[simp] theorem State.send_pin (s : State) (l : Link) (n a : Nat) (d : List Byte) : (s.send l n a d).pin = s.pin := rfl
@[simp] theorem State.send_fab (s : State) (l : Link) (n a : Nat) (d : List Byte) : (s.send l n a d).fab = s.fab := rfl
@[simp] theorem State.send_sch (s : State) (l : Link) (n a : Nat) (d : List Byte) : (s.send l n a d).sch = s.sch := rfl
@[simp] theorem State.send_str (s : State) (l : Link) (n a : Nat) (d : List Byte) : (s.send l n a d).str = s.str := rfl
@[simp] theorem State.send_ecc (s : State) (l : Link) (n a : Nat) (d : List Byte) : (s.send l n a d).ecc = s.ecc := rfl
@[simp] theorem State.send_spm (s : State) (l : Link) (n a : Nat) (d : List Byte) : (s.send l n a d).spm = s.spm := rfl
@[simp] theorem State.send_bpu (s : State) (l : Link) (n a : Nat) (d : List Byte) : (s.send l n a d).bpu = s.bpu := rfl
@[simp] theorem State.send_mmu (s : State) (l : Link) (n a : Nat) (d : List Byte) : (s.send l n a d).mmu = s.mmu := rfl
@[simp] theorem State.send_memc (s : State) (l : Link) (n a : Nat) (d : List Byte) : (s.send l n a d).memc = s.memc := rfl
@[simp] theorem State.send_host (s : State) (l : Link) (n a : Nat) (d : List Byte) : (s.send l n a d).host = s.host := rfl
@[simp] theorem State.send_comp (s : State) (l : Link) (n a : Nat) (d : List Byte) : (s.send l n a d).comp = s.comp := rfl
@[simp] theorem State.send_od (s : State) (l : Link) (n a : Nat) (d : List Byte) : (s.send l n a d).od = s.od := rfl
@[simp] theorem State.send_can (s : State) (l : Link) (n a : Nat) (d : List Byte) : (s.send l n a d).can = s.can := rfl
@[simp] theorem State.send_eth (s : State) (l : Link) (n a : Nat) (d : List Byte) : (s.send l n a d).eth = s.eth := rfl
@[simp] theorem State.send_dwl (s : State) (l : Link) (n a : Nat) (d : List Byte) : (s.send l n a d).dwl = s.dwl := rfl
@[simp] theorem State.send_pair (s : State) (l : Link) (n a : Nat) (d : List Byte) : (s.send l n a d).pair = s.pair := rfl
@[simp] theorem State.send_pwr (s : State) (l : Link) (n a : Nat) (d : List Byte) : (s.send l n a d).pwr = s.pwr := rfl
@[simp] theorem State.send_boot (s : State) (l : Link) (n a : Nat) (d : List Byte) : (s.send l n a d).boot = s.boot := rfl
@[simp] theorem State.send_drv (s : State) (l : Link) (n a : Nat) (d : List Byte) : (s.send l n a d).drv = s.drv := rfl

@[simp] theorem State.setAx_now (s : State) (n : Nat) (a : CeAxis) : (s.setAx n a).now = s.now := rfl
@[simp] theorem State.setAx_regs (s : State) (n : Nat) (a : CeAxis) : (s.setAx n a).regs = s.regs := rfl
@[simp] theorem State.setAx_mem (s : State) (n : Nat) (a : CeAxis) : (s.setAx n a).mem = s.mem := rfl
@[simp] theorem State.setAx_pending (s : State) (n : Nat) (a : CeAxis) : (s.setAx n a).pending = s.pending := rfl
@[simp] theorem State.setAx_freeCtr (s : State) (n : Nat) (a : CeAxis) : (s.setAx n a).freeCtr = s.freeCtr := rfl
@[simp] theorem State.setAx_tx (s : State) (n : Nat) (a : CeAxis) : (s.setAx n a).tx = s.tx := rfl
@[simp] theorem State.setAx_clk (s : State) (n : Nat) (a : CeAxis) : (s.setAx n a).clk = s.clk := rfl
@[simp] theorem State.setAx_log (s : State) (n : Nat) (a : CeAxis) : (s.setAx n a).log = s.log := rfl
@[simp] theorem State.setAx_saf (s : State) (n : Nat) (a : CeAxis) : (s.setAx n a).saf = s.saf := rfl
@[simp] theorem State.setAx_pin (s : State) (n : Nat) (a : CeAxis) : (s.setAx n a).pin = s.pin := rfl
@[simp] theorem State.setAx_fab (s : State) (n : Nat) (a : CeAxis) : (s.setAx n a).fab = s.fab := rfl
@[simp] theorem State.setAx_sch (s : State) (n : Nat) (a : CeAxis) : (s.setAx n a).sch = s.sch := rfl
@[simp] theorem State.setAx_str (s : State) (n : Nat) (a : CeAxis) : (s.setAx n a).str = s.str := rfl
@[simp] theorem State.setAx_ecc (s : State) (n : Nat) (a : CeAxis) : (s.setAx n a).ecc = s.ecc := rfl
@[simp] theorem State.setAx_spm (s : State) (n : Nat) (a : CeAxis) : (s.setAx n a).spm = s.spm := rfl
@[simp] theorem State.setAx_bpu (s : State) (n : Nat) (a : CeAxis) : (s.setAx n a).bpu = s.bpu := rfl
@[simp] theorem State.setAx_mmu (s : State) (n : Nat) (a : CeAxis) : (s.setAx n a).mmu = s.mmu := rfl
@[simp] theorem State.setAx_memc (s : State) (n : Nat) (a : CeAxis) : (s.setAx n a).memc = s.memc := rfl
@[simp] theorem State.setAx_host (s : State) (n : Nat) (a : CeAxis) : (s.setAx n a).host = s.host := rfl
@[simp] theorem State.setAx_comp (s : State) (n : Nat) (a : CeAxis) : (s.setAx n a).comp = s.comp := rfl
@[simp] theorem State.setAx_od (s : State) (n : Nat) (a : CeAxis) : (s.setAx n a).od = s.od := rfl
@[simp] theorem State.setAx_can (s : State) (n : Nat) (a : CeAxis) : (s.setAx n a).can = s.can := rfl
@[simp] theorem State.setAx_eth (s : State) (n : Nat) (a : CeAxis) : (s.setAx n a).eth = s.eth := rfl
@[simp] theorem State.setAx_dwl (s : State) (n : Nat) (a : CeAxis) : (s.setAx n a).dwl = s.dwl := rfl
@[simp] theorem State.setAx_pair (s : State) (n : Nat) (a : CeAxis) : (s.setAx n a).pair = s.pair := rfl
@[simp] theorem State.setAx_pwr (s : State) (n : Nat) (a : CeAxis) : (s.setAx n a).pwr = s.pwr := rfl
@[simp] theorem State.setAx_boot (s : State) (n : Nat) (a : CeAxis) : (s.setAx n a).boot = s.boot := rfl
@[simp] theorem State.setAx_drv (s : State) (n : Nat) (a : CeAxis) : (s.setAx n a).drv = s.drv := rfl

@[simp] theorem State.setSlot_now (s : State) (n : Nat) (a : MitSlot) : (s.setSlot n a).now = s.now := rfl
@[simp] theorem State.setSlot_regs (s : State) (n : Nat) (a : MitSlot) : (s.setSlot n a).regs = s.regs := rfl
@[simp] theorem State.setSlot_mem (s : State) (n : Nat) (a : MitSlot) : (s.setSlot n a).mem = s.mem := rfl
@[simp] theorem State.setSlot_pending (s : State) (n : Nat) (a : MitSlot) : (s.setSlot n a).pending = s.pending := rfl
@[simp] theorem State.setSlot_freeCtr (s : State) (n : Nat) (a : MitSlot) : (s.setSlot n a).freeCtr = s.freeCtr := rfl
@[simp] theorem State.setSlot_tx (s : State) (n : Nat) (a : MitSlot) : (s.setSlot n a).tx = s.tx := rfl
@[simp] theorem State.setSlot_clk (s : State) (n : Nat) (a : MitSlot) : (s.setSlot n a).clk = s.clk := rfl
@[simp] theorem State.setSlot_log (s : State) (n : Nat) (a : MitSlot) : (s.setSlot n a).log = s.log := rfl
@[simp] theorem State.setSlot_saf (s : State) (n : Nat) (a : MitSlot) : (s.setSlot n a).saf = s.saf := rfl
@[simp] theorem State.setSlot_pin (s : State) (n : Nat) (a : MitSlot) : (s.setSlot n a).pin = s.pin := rfl
@[simp] theorem State.setSlot_fab (s : State) (n : Nat) (a : MitSlot) : (s.setSlot n a).fab = s.fab := rfl
@[simp] theorem State.setSlot_sch (s : State) (n : Nat) (a : MitSlot) : (s.setSlot n a).sch = s.sch := rfl
@[simp] theorem State.setSlot_str (s : State) (n : Nat) (a : MitSlot) : (s.setSlot n a).str = s.str := rfl
@[simp] theorem State.setSlot_ecc (s : State) (n : Nat) (a : MitSlot) : (s.setSlot n a).ecc = s.ecc := rfl
@[simp] theorem State.setSlot_spm (s : State) (n : Nat) (a : MitSlot) : (s.setSlot n a).spm = s.spm := rfl
@[simp] theorem State.setSlot_bpu (s : State) (n : Nat) (a : MitSlot) : (s.setSlot n a).bpu = s.bpu := rfl
@[simp] theorem State.setSlot_mmu (s : State) (n : Nat) (a : MitSlot) : (s.setSlot n a).mmu = s.mmu := rfl
@[simp] theorem State.setSlot_memc (s : State) (n : Nat) (a : MitSlot) : (s.setSlot n a).memc = s.memc := rfl
@[simp] theorem State.setSlot_host (s : State) (n : Nat) (a : MitSlot) : (s.setSlot n a).host = s.host := rfl
@[simp] theorem State.setSlot_comp (s : State) (n : Nat) (a : MitSlot) : (s.setSlot n a).comp = s.comp := rfl
@[simp] theorem State.setSlot_od (s : State) (n : Nat) (a : MitSlot) : (s.setSlot n a).od = s.od := rfl
@[simp] theorem State.setSlot_can (s : State) (n : Nat) (a : MitSlot) : (s.setSlot n a).can = s.can := rfl
@[simp] theorem State.setSlot_eth (s : State) (n : Nat) (a : MitSlot) : (s.setSlot n a).eth = s.eth := rfl
@[simp] theorem State.setSlot_dwl (s : State) (n : Nat) (a : MitSlot) : (s.setSlot n a).dwl = s.dwl := rfl
@[simp] theorem State.setSlot_pair (s : State) (n : Nat) (a : MitSlot) : (s.setSlot n a).pair = s.pair := rfl
@[simp] theorem State.setSlot_pwr (s : State) (n : Nat) (a : MitSlot) : (s.setSlot n a).pwr = s.pwr := rfl
@[simp] theorem State.setSlot_boot (s : State) (n : Nat) (a : MitSlot) : (s.setSlot n a).boot = s.boot := rfl
@[simp] theorem State.setSlot_drv (s : State) (n : Nat) (a : MitSlot) : (s.setSlot n a).drv = s.drv := rfl

@[simp] theorem State.wrBytes_regs (s : State) (a : Nat) (l : List Byte) : (s.wrBytes a l).regs = s.regs := by
  induction l generalizing s a with
  | nil => rfl
  | cons b t ih => simp [State.wrBytes, ih]

@[simp] theorem State.wrBytes_now (s : State) (a : Nat) (l : List Byte) : (s.wrBytes a l).now = s.now := by
  induction l generalizing s a with
  | nil => rfl
  | cons b t ih => simp [State.wrBytes, ih]

@[simp] theorem State.wrBytes_pending (s : State) (a : Nat) (l : List Byte) : (s.wrBytes a l).pending = s.pending := by
  induction l generalizing s a with
  | nil => rfl
  | cons b t ih => simp [State.wrBytes, ih]

@[simp] theorem State.wrBytes_freeCtr (s : State) (a : Nat) (l : List Byte) : (s.wrBytes a l).freeCtr = s.freeCtr := by
  induction l generalizing s a with
  | nil => rfl
  | cons b t ih => simp [State.wrBytes, ih]

@[simp] theorem State.wrBytes_tx (s : State) (a : Nat) (l : List Byte) : (s.wrBytes a l).tx = s.tx := by
  induction l generalizing s a with
  | nil => rfl
  | cons b t ih => simp [State.wrBytes, ih]

@[simp] theorem State.wrBytes_clk (s : State) (a : Nat) (l : List Byte) : (s.wrBytes a l).clk = s.clk := by
  induction l generalizing s a with
  | nil => rfl
  | cons b t ih => simp [State.wrBytes, ih]

@[simp] theorem State.wrBytes_loop (s : State) (a : Nat) (l : List Byte) : (s.wrBytes a l).loop = s.loop := by
  induction l generalizing s a with
  | nil => rfl
  | cons b t ih => simp [State.wrBytes, ih]

@[simp] theorem State.wrBytes_log (s : State) (a : Nat) (l : List Byte) : (s.wrBytes a l).log = s.log := by
  induction l generalizing s a with
  | nil => rfl
  | cons b t ih => simp [State.wrBytes, ih]

@[simp] theorem State.wrBytes_saf (s : State) (a : Nat) (l : List Byte) : (s.wrBytes a l).saf = s.saf := by
  induction l generalizing s a with
  | nil => rfl
  | cons b t ih => simp [State.wrBytes, ih]

@[simp] theorem State.wrBytes_pin (s : State) (a : Nat) (l : List Byte) : (s.wrBytes a l).pin = s.pin := by
  induction l generalizing s a with
  | nil => rfl
  | cons b t ih => simp [State.wrBytes, ih]

@[simp] theorem State.wrBytes_fab (s : State) (a : Nat) (l : List Byte) : (s.wrBytes a l).fab = s.fab := by
  induction l generalizing s a with
  | nil => rfl
  | cons b t ih => simp [State.wrBytes, ih]

@[simp] theorem State.wrBytes_sch (s : State) (a : Nat) (l : List Byte) : (s.wrBytes a l).sch = s.sch := by
  induction l generalizing s a with
  | nil => rfl
  | cons b t ih => simp [State.wrBytes, ih]

@[simp] theorem State.wrBytes_str (s : State) (a : Nat) (l : List Byte) : (s.wrBytes a l).str = s.str := by
  induction l generalizing s a with
  | nil => rfl
  | cons b t ih => simp [State.wrBytes, ih]

@[simp] theorem State.wrBytes_ecc (s : State) (a : Nat) (l : List Byte) : (s.wrBytes a l).ecc = s.ecc := by
  induction l generalizing s a with
  | nil => rfl
  | cons b t ih => simp [State.wrBytes, ih]

@[simp] theorem State.wrBytes_spm (s : State) (a : Nat) (l : List Byte) : (s.wrBytes a l).spm = s.spm := by
  induction l generalizing s a with
  | nil => rfl
  | cons b t ih => simp [State.wrBytes, ih]

@[simp] theorem State.wrBytes_bpu (s : State) (a : Nat) (l : List Byte) : (s.wrBytes a l).bpu = s.bpu := by
  induction l generalizing s a with
  | nil => rfl
  | cons b t ih => simp [State.wrBytes, ih]

@[simp] theorem State.wrBytes_mmu (s : State) (a : Nat) (l : List Byte) : (s.wrBytes a l).mmu = s.mmu := by
  induction l generalizing s a with
  | nil => rfl
  | cons b t ih => simp [State.wrBytes, ih]

@[simp] theorem State.wrBytes_memc (s : State) (a : Nat) (l : List Byte) : (s.wrBytes a l).memc = s.memc := by
  induction l generalizing s a with
  | nil => rfl
  | cons b t ih => simp [State.wrBytes, ih]

@[simp] theorem State.wrBytes_host (s : State) (a : Nat) (l : List Byte) : (s.wrBytes a l).host = s.host := by
  induction l generalizing s a with
  | nil => rfl
  | cons b t ih => simp [State.wrBytes, ih]

@[simp] theorem State.wrBytes_comp (s : State) (a : Nat) (l : List Byte) : (s.wrBytes a l).comp = s.comp := by
  induction l generalizing s a with
  | nil => rfl
  | cons b t ih => simp [State.wrBytes, ih]

@[simp] theorem State.wrBytes_od (s : State) (a : Nat) (l : List Byte) : (s.wrBytes a l).od = s.od := by
  induction l generalizing s a with
  | nil => rfl
  | cons b t ih => simp [State.wrBytes, ih]

@[simp] theorem State.wrBytes_can (s : State) (a : Nat) (l : List Byte) : (s.wrBytes a l).can = s.can := by
  induction l generalizing s a with
  | nil => rfl
  | cons b t ih => simp [State.wrBytes, ih]

@[simp] theorem State.wrBytes_eth (s : State) (a : Nat) (l : List Byte) : (s.wrBytes a l).eth = s.eth := by
  induction l generalizing s a with
  | nil => rfl
  | cons b t ih => simp [State.wrBytes, ih]

@[simp] theorem State.wrBytes_dwl (s : State) (a : Nat) (l : List Byte) : (s.wrBytes a l).dwl = s.dwl := by
  induction l generalizing s a with
  | nil => rfl
  | cons b t ih => simp [State.wrBytes, ih]

@[simp] theorem State.wrBytes_pair (s : State) (a : Nat) (l : List Byte) : (s.wrBytes a l).pair = s.pair := by
  induction l generalizing s a with
  | nil => rfl
  | cons b t ih => simp [State.wrBytes, ih]

@[simp] theorem State.wrBytes_pwr (s : State) (a : Nat) (l : List Byte) : (s.wrBytes a l).pwr = s.pwr := by
  induction l generalizing s a with
  | nil => rfl
  | cons b t ih => simp [State.wrBytes, ih]

@[simp] theorem State.wrBytes_boot (s : State) (a : Nat) (l : List Byte) : (s.wrBytes a l).boot = s.boot := by
  induction l generalizing s a with
  | nil => rfl
  | cons b t ih => simp [State.wrBytes, ih]

@[simp] theorem State.wrBytes_drv (s : State) (a : Nat) (l : List Byte) : (s.wrBytes a l).drv = s.drv := by
  induction l generalizing s a with
  | nil => rfl
  | cons b t ih => simp [State.wrBytes, ih]

/-- A field reads the same in two states with one register file. -/
theorem State.rd_congr {s t : State} (h : s.regs = t.regs) (r : RegId) (i j : Nat) : s.rd r i j = t.rd r i j := by
  simp [State.rd, h]

/-- A byte reads the same in two states with one memory. -/
theorem State.rd8_congr {s t : State} (h : s.mem = t.mem) (a : Nat) : s.rd8 a = t.rd8 a := by
  simp [State.rd8, h]

end Sys2Proof.Machine
end

