-- ==== Sys2Proof/Laws/Table.lean ====
section
/-! SUPPORT. The laws of the sparse tables: a read after a write, a read elsewhere, and the rising order of ranks. -/

namespace Sys2Proof.Machine

set_option Elab.async false
set_option linter.unusedSectionVars false

variable {κ α : Type} [DecidableEq κ]

theorem kfind_kinsert_same {rank : κ → Nat} (m : List (κ × α)) (k : κ) (v : α) : kfind (kinsert rank m k v) k = some v := by
  induction m with
  | nil => simp [kinsert, kfind]
  | cons p t ih =>
    obtain ⟨k', v'⟩ := p
    simp only [kinsert]
    split
    · simp [kfind]
    · split
      · have : k ≠ k' := by rintro rfl; omega
        simp [kfind, this, ih]
      · simp [kfind]

theorem kfind_kinsert_other {rank : κ → Nat} (hr : ∀ a b, rank a = rank b → a = b)
    (m : List (κ × α)) {k k₂ : κ} (v : α) (h : k₂ ≠ k) : kfind (kinsert rank m k v) k₂ = kfind m k₂ := by
  induction m with
  | nil => simp [kinsert, kfind, h]
  | cons p t ih =>
    obtain ⟨k', v'⟩ := p
    simp only [kinsert]
    split
    · simp [kfind, h]
    · split
      · simp [kfind, ih]
      · have : k = k' := hr _ _ (by omega)
        subst this
        simp [kfind, h]

theorem kfind_kerase_same (m : List (κ × α)) (k : κ) : kfind (kerase m k) k = none := by
  induction m with
  | nil => rfl
  | cons p t ih =>
    obtain ⟨k', v'⟩ := p
    simp only [kerase]
    split
    · exact ih
    · simp [kfind, ‹¬ k = k'›, ih]

theorem kfind_kerase_other (m : List (κ × α)) {k k₂ : κ} (h : k₂ ≠ k) : kfind (kerase m k) k₂ = kfind m k₂ := by
  induction m with
  | nil => rfl
  | cons p t ih =>
    obtain ⟨k', v'⟩ := p
    simp only [kerase]
    split
    · subst_vars; simp [kfind, h, ih]
    · simp [kfind, ih]

theorem mem_kinsert {rank : κ → Nat} {m : List (κ × α)} {k : κ} {v : α} {p : κ × α}
    (h : p ∈ kinsert rank m k v) : p = (k, v) ∨ p ∈ m := by
  induction m with
  | nil => simpa [kinsert] using h
  | cons q t ih =>
    obtain ⟨k', v'⟩ := q
    simp only [kinsert] at h
    split at h
    · simpa using h
    · split at h
      · rcases List.mem_cons.1 h with h | h
        · exact .inr (by simp [h])
        · rcases ih h with h | h
          · exact .inl h
          · exact .inr (by simp [h])
      · rcases List.mem_cons.1 h with h | h
        · exact .inl h
        · exact .inr (by simp [h])

theorem mem_kerase {m : List (κ × α)} {k : κ} {p : κ × α} (h : p ∈ kerase m k) : p ∈ m ∧ p.1 ≠ k := by
  induction m with
  | nil => simp [kerase] at h
  | cons q t ih =>
    obtain ⟨k', v'⟩ := q
    simp only [kerase] at h
    split at h
    · exact ⟨by simp [(ih h).1], (ih h).2⟩
    · rename_i hk
      rcases List.mem_cons.1 h with h | h
      · subst h; exact ⟨by simp, fun e => hk e.symm⟩
      · exact ⟨by simp [(ih h).1], (ih h).2⟩

theorem kwf_kinsert {rank : κ → Nat} {m : List (κ × α)} (hm : kwf rank m) (k : κ) (v : α) :
    kwf rank (kinsert rank m k v) := by
  induction m with
  | nil => simp [kwf, kinsert]
  | cons q t ih =>
    obtain ⟨k', v'⟩ := q
    rw [kwf, List.pairwise_cons] at hm
    obtain ⟨h1, h2⟩ := hm
    simp only [kinsert]
    split
    · rename_i hlt
      refine List.pairwise_cons.2 ⟨?_, List.pairwise_cons.2 ⟨h1, h2⟩⟩
      intro p hp
      rcases List.mem_cons.1 hp with rfl | hp
      · exact hlt
      · exact lt_trans hlt (h1 p hp)
    · split
      · rename_i hlt
        refine List.pairwise_cons.2 ⟨?_, ih h2⟩
        intro p hp
        rcases mem_kinsert hp with rfl | hp
        · exact hlt
        · exact h1 p hp
      · have : rank k = rank k' := by omega
        refine List.pairwise_cons.2 ⟨fun p hp => ?_, h2⟩
        have := h1 p hp
        simp only at this ⊢
        omega

theorem kwf_kerase {rank : κ → Nat} {m : List (κ × α)} (hm : kwf rank m) (k : κ) : kwf rank (kerase m k) := by
  induction m with
  | nil => simp [kerase]
  | cons q t ih =>
    obtain ⟨k', v'⟩ := q
    rw [kwf, List.pairwise_cons] at hm
    simp only [kerase]
    split
    · exact ih hm.2
    · exact List.pairwise_cons.2 ⟨fun p hp => hm.1 p (mem_kerase hp).1, ih hm.2⟩

theorem kwf_filter {rank : κ → Nat} {m : List (κ × α)} (hm : kwf rank m) (p : κ × α → Bool) : kwf rank (m.filter p) :=
  hm.filter p

variable [DecidableEq α]

theorem kwf_kput {rank : κ → Nat} {m : List (κ × α)} (hm : kwf rank m) (k : κ) (v d : α) :
    kwf rank (kput rank m k v d) := by
  unfold kput
  split
  · exact kwf_kerase hm k
  · exact kwf_kinsert hm k v

theorem kfind_kput_same {rank : κ → Nat} (m : List (κ × α)) (k : κ) (v d : α) :
    (kfind (kput rank m k v d) k).getD d = v := by
  unfold kput
  split
  · simp [kfind_kerase_same, ‹v = d›]
  · simp [kfind_kinsert_same]

theorem kfind_kput_other {rank : κ → Nat} (hr : ∀ a b, rank a = rank b → a = b) (m : List (κ × α)) {k k₂ : κ} (v d : α)
    (h : k₂ ≠ k) : kfind (kput rank m k v d) k₂ = kfind m k₂ := by
  unfold kput
  split
  · exact kfind_kerase_other m h
  · exact kfind_kinsert_other hr m v h

theorem mem_kput {rank : κ → Nat} {m : List (κ × α)} {k : κ} {v d : α} {p : κ × α}
    (h : p ∈ kput rank m k v d) : (p = (k, v) ∧ v ≠ d) ∨ p ∈ m := by
  unfold kput at h
  split at h
  · exact .inr (mem_kerase h).1
  · rcases mem_kinsert h with h | h
    · exact .inl ⟨h, ‹_›⟩
    · exact .inr h

omit [DecidableEq κ] [DecidableEq α] in
@[simp] theorem Tab.get_set_same (d : α) (t : Tab α) (n : Nat) (v : α) : (Tab.set t n v).get d n = v := by
  simp [Tab.get, Tab.set, kfind_kinsert_same (rank := id)]

omit [DecidableEq κ] [DecidableEq α] in
theorem Tab.get_set_other (d : α) (t : Tab α) {n k : Nat} (v : α) (h : k ≠ n) : (Tab.set t n v).get d k = t.get d k := by
  simp [Tab.get, Tab.set, kfind_kinsert_other (rank := id) (fun _ _ h => h) t v h]

end Sys2Proof.Machine
end

