-- ==== Sys2Proof/Laws/Ops.lean ====
section
/-! SUPPORT. The laws of the register file, of memory, of the objects and of events: a read after a write, a read elsewhere,
the canonical forms, and what raising an event can change. -/

namespace Sys2Proof.Machine

set_option Elab.async false

theorem RegKey.rank_inj (a b : RegKey) (h : a.rank = b.rank) : a = b := by
  obtain ⟨r, i, j⟩ := a
  obtain ⟨r', i', j'⟩ := b
  simp only [RegKey.rank, Nat.pair_eq_pair] at h
  obtain ⟨h1, h2, h3⟩ := h
  have : r = r' := by rw [← RegId.ofNat_ctorIdx r, h1, RegId.ofNat_ctorIdx]
  subst this h2 h3
  rfl

/-! Registers. -/

/-- A field reads what was written, cut to its width. -/
@[simp] theorem State.rd_wr_same (s : State) (r : RegId) (v i j : Nat) :
    (s.wr r v i j).rd r i j = v % 2 ^ r.info.width :=
  kfind_kput_same _ _ _ _

/-- A write leaves every other field instance alone. -/
theorem State.rd_wr_ne (s : State) {r r' : RegId} (v : Nat) {i j i' j' : Nat} (h : ¬ (r' = r ∧ i' = i ∧ j' = j)) :
    (s.wr r v i j).rd r' i' j' = s.rd r' i' j' := by
  simp only [State.rd, State.wr, rdIn]
  rw [kfind_kput_other RegKey.rank_inj]
  rintro ⟨⟩
  exact h ⟨rfl, rfl, rfl⟩

theorem State.rd_wr (s : State) (r r' : RegId) (v i j i' j' : Nat) :
    (s.wr r v i j).rd r' i' j' = if r' = r ∧ i' = i ∧ j' = j then v % 2 ^ r.info.width else s.rd r' i' j' := by
  split
  · rename_i h; obtain ⟨rfl, rfl, rfl⟩ := h; simp
  · exact s.rd_wr_ne v ‹_›

theorem State.rd_wrS (s : State) (r r' : RegId) (v : Int) (i j i' j' : Nat) :
    (s.wrS r v i j).rd r' i' j' = if r' = r ∧ i' = i ∧ j' = j then u32 v % 2 ^ r.info.width else s.rd r' i' j' :=
  s.rd_wr ..

theorem State.rd_wrBit (s : State) (r r' : RegId) (k : Nat) (b : Bool) (i j i' j' : Nat) :
    (s.wrBit r k b i j).rd r' i' j' =
      if r' = r ∧ i' = i ∧ j' = j then setBit (s.rd r i j) k b % 2 ^ r.info.width else s.rd r' i' j' :=
  s.rd_wr ..

theorem State.rd_bump (s : State) (r r' : RegId) (k i j i' j' : Nat) :
    (s.bump r k i j).rd r' i' j' =
      if r' = r ∧ i' = i ∧ j' = j then satAdd r.info.width (s.rd r i j) k % 2 ^ r.info.width else s.rd r' i' j' :=
  s.rd_wr ..

theorem State.rd_bumpW (s : State) (r r' : RegId) (k i j i' j' : Nat) :
    (s.bumpW r k i j).rd r' i' j' =
      if r' = r ∧ i' = i ∧ j' = j then (s.rd r i j + k) % 2 ^ r.info.width else s.rd r' i' j' :=
  s.rd_wr ..

theorem kfind_filter_of {κ α : Type} [DecidableEq κ] (m : List (κ × α)) (p : κ → Bool) (k : κ) :
    kfind (m.filter fun e => p e.1) k = if p k then kfind m k else none := by
  induction m with
  | nil => simp [kfind]
  | cons q t ih =>
    obtain ⟨k', v⟩ := q
    simp only [List.filter_cons]
    by_cases hk : k = k'
    · subst hk
      by_cases hp : p k = true
      · simp [hp, kfind]
      · simp [hp, ih]
    · by_cases hp : p k' = true
      · simp [hp, kfind, hk, ih]
      · simp [hp, kfind, hk, ih]

/-- A cleared field instance reads its reset value; the others keep their values. -/
theorem State.rd_clearRegs (s : State) (p : RegKey → Bool) (r : RegId) (i j : Nat) :
    (s.clearRegs p).rd r i j = if p ⟨r, i, j⟩ then r.resetAt i j else s.rd r i j := by
  simp only [State.rd, State.clearRegs, rdIn]
  rw [kfind_filter_of s.regs (fun k => !p k)]
  cases h : p ⟨r, i, j⟩ <;> simp

/-- The canonical form of the register file holds after a write. -/
theorem regsWf_wr {s : State} (h : regsWf s.regs) (r : RegId) (v i j : Nat) : regsWf (s.wr r v i j).regs := by
  refine ⟨kwf_kput h.1 _ _ _, fun c hc => ?_⟩
  rcases mem_kput hc with ⟨rfl, hne⟩ | hc
  · exact ⟨hne, Nat.mod_lt _ (Nat.two_pow_pos _)⟩
  · exact h.2 c hc

theorem regsWf_clearRegs {s : State} (h : regsWf s.regs) (p : RegKey → Bool) : regsWf (s.clearRegs p).regs :=
  ⟨kwf_filter h.1 _, fun c hc => h.2 c (List.mem_filter.1 hc).1⟩

/-! Memory. -/

/-- A byte reads what was written. -/
@[simp] theorem State.rd8_wr8_same (s : State) (a : Nat) (v : Byte) : (s.wr8 a v).rd8 a = v :=
  kfind_kput_same (rank := id) _ _ _ _

/-- A write leaves every other byte alone. -/
theorem State.rd8_wr8_ne (s : State) {a b : Nat} (v : Byte) (h : b ≠ a) : (s.wr8 a v).rd8 b = s.rd8 b := by
  simp only [State.rd8, State.wr8]
  rw [kfind_kput_other (rank := id) (fun _ _ h => h) _ _ _ h]

/-- A run of bytes reads what was written, and every byte outside it is unchanged. -/
theorem State.rd8_wrBytes (s : State) (a : Nat) (l : List Byte) (b : Nat) :
    (s.wrBytes a l).rd8 b = if a ≤ b then (l[b - a]?).getD (s.rd8 b) else s.rd8 b := by
  induction l generalizing s a with
  | nil => simp [State.wrBytes]
  | cons x t ih =>
    simp only [State.wrBytes, ih]
    by_cases hab : b = a
    · subst hab; simp
    · by_cases hle : a + 1 ≤ b
      · have h1 : a ≤ b := by omega
        have h2 : b - a = b - (a + 1) + 1 := by omega
        simp [hle, h1, h2, s.rd8_wr8_ne x hab]
      · have h1 : ¬ a ≤ b := by omega
        simp [hle, h1, s.rd8_wr8_ne x hab]

theorem State.rd8_wrBytes_out (s : State) (a : Nat) (l : List Byte) (b : Nat) (h : b < a ∨ a + l.length ≤ b) :
    (s.wrBytes a l).rd8 b = s.rd8 b := by
  rw [s.rd8_wrBytes]
  split
  · rw [List.getElem?_eq_none (by omega)]; rfl
  · rfl

/-- The canonical form of memory holds after a write of one byte, of a run of bytes, and after a range is cleared. -/
theorem memWf_wr8 {s : State} (h : memWf s.mem) (a : Nat) (v : Byte) : memWf (s.wr8 a v).mem := by
  refine ⟨kwf_kput h.1 _ _ _, fun c hc => ?_⟩
  rcases mem_kput hc with ⟨rfl, hne⟩ | hc
  · exact hne
  · exact h.2 c hc

theorem memWf_wrBytes {s : State} (h : memWf s.mem) (a : Nat) (l : List Byte) : memWf (s.wrBytes a l).mem := by
  induction l generalizing s a with
  | nil => exact h
  | cons b t ih => exact ih (memWf_wr8 h a b) _

theorem memWf_wrMem {s : State} (h : memWf s.mem) (a n v : Nat) : memWf (s.wrMem a n v).mem := memWf_wrBytes h _ _

theorem memWf_clearMem {s : State} (h : memWf s.mem) (lo hi : Nat) : memWf (s.clearMem lo hi).mem :=
  ⟨kwf_filter h.1 _, fun c hc => h.2 c (List.mem_filter.1 hc).1⟩

theorem memWf_loseMem {s : State} (h : memWf s.mem) (lo hi : Nat) : memWf (s.loseMem lo hi).mem := by
  have hr : ((List.range (hi - lo)).map fun j => (lo + j, (Config.freeAt s.freeCtr j).setWidth 8)).Pairwise
      fun (p q : Host.Cell) => p.1 < q.1 :=
    List.pairwise_map.2 (List.pairwise_lt_range.imp fun h => Nat.add_lt_add_left h lo)
  refine ⟨List.pairwise_append.2 ⟨List.pairwise_append.2 ⟨kwf_filter h.1 _, hr.filter _, ?_⟩, kwf_filter h.1 _, ?_⟩, ?_⟩
  · intro a ha b hb
    have h1 := of_decide_eq_true (List.mem_filter.1 ha).2
    obtain ⟨j, -, rfl⟩ := List.mem_map.1 (List.mem_filter.1 hb).1
    exact Nat.lt_of_lt_of_le h1 (Nat.le_add_right lo j)
  · intro a ha b hb
    have h2 := of_decide_eq_true (List.mem_filter.1 hb).2
    rcases List.mem_append.1 ha with ha | ha
    · have h1 := of_decide_eq_true (List.mem_filter.1 ha).2
      exact Nat.lt_of_lt_of_le h1 (Nat.le_trans (Nat.le_max_left _ _) h2)
    · obtain ⟨j, hj, rfl⟩ := List.mem_map.1 (List.mem_filter.1 ha).1
      have hj' := List.mem_range.1 hj
      show lo + j < b.1
      omega
  · intro c hc
    rcases List.mem_append.1 hc with hc | hc
    · rcases List.mem_append.1 hc with hc | hc
      · exact h.2 c (List.mem_filter.1 hc).1
      · simpa using (List.mem_filter.1 hc).2
    · exact h.2 c (List.mem_filter.1 hc).1

theorem memWf_reset : memWf State.reset.mem := ⟨List.Pairwise.nil, fun _ h => nomatch h⟩

theorem regsWf_reset : regsWf State.reset.regs := ⟨List.Pairwise.nil, fun _ h => nomatch h⟩

/-! Objects. -/

theorem ObjKey.rank_inj (a b : ObjKey) (h : a.rank = b.rank) : a = b := by
  obtain ⟨r, i, j⟩ := a
  obtain ⟨r', i', j'⟩ := b
  simp only [ObjKey.rank, Nat.pair_eq_pair] at h
  obtain ⟨h1, h2, h3⟩ := h
  have : r = r' := by rw [← ObjId.ofNat_ctorIdx r, h1, ObjId.ofNat_ctorIdx]
  subst this h2 h3
  rfl

/-- An object reads what was stored, cut to its type. -/
@[simp] theorem State.ob_setOb_same (s : State) (o : ObjId) (v i j : Nat) :
    (s.setOb o v i j).ob o i j = v % 2 ^ o.info.ty.bits :=
  kfind_kput_same _ _ _ _

theorem State.ob_setOb_ne (s : State) {o o' : ObjId} (v : Nat) {i j i' j' : Nat} (h : ¬ (o' = o ∧ i' = i ∧ j' = j)) :
    (s.setOb o v i j).ob o' i' j' = s.ob o' i' j' := by
  simp only [State.ob, State.setOb]
  rw [kfind_kput_other ObjKey.rank_inj]
  rintro ⟨⟩
  exact h ⟨rfl, rfl, rfl⟩

/-! Repetition. -/

theorem foldN_succ {α : Type} (n : Nat) (f : Nat → α → α) (a : α) : foldN (n + 1) f a = f n (foldN n f a) := by
  simp [foldN, List.range_succ, List.foldl_append]

theorem foldN_inv {α β : Type} (g : α → β) (n : Nat) (f : Nat → α → α) (h : ∀ k a, g (f k a) = g a) (a : α) :
    g (foldN n f a) = g a := by
  induction n with
  | zero => rfl
  | succ n ih => rw [foldN_succ, h, ih]

end Sys2Proof.Machine
end

