-- ==== Sys2Proof/Laws/With.lean ====
section
/-! SUPPORT. Reads of a state of which one field has been replaced. -/

namespace Sys2Proof.Machine

set_option Elab.async false

@[simp] theorem State.rd_with_now (s : State) (x : Nat) (r : RegId) (i j : Nat) : ({ s with now := x } : State).rd r i j = s.rd r i j := by rfl
@[simp] theorem State.rd_with_mem (s : State) (x : List Host.Cell) (r : RegId) (i j : Nat) : ({ s with mem := x } : State).rd r i j = s.rd r i j := by rfl
@[simp] theorem State.rd_with_pending (s : State) (x : List Instr) (r : RegId) (i j : Nat) : ({ s with pending := x } : State).rd r i j = s.rd r i j := by rfl
@[simp] theorem State.rd_with_freeCtr (s : State) (x : Nat) (r : RegId) (i j : Nat) : ({ s with freeCtr := x } : State).rd r i j = s.rd r i j := by rfl
@[simp] theorem State.rd_with_tx (s : State) (x : List Tx) (r : RegId) (i j : Nat) : ({ s with tx := x } : State).rd r i j = s.rd r i j := by rfl
@[simp] theorem State.rd_with_clk (s : State) (x : ClkSt) (r : RegId) (i j : Nat) : ({ s with clk := x } : State).rd r i j = s.rd r i j := by rfl
@[simp] theorem State.rd_with_loop (s : State) (x : LoopSt) (r : RegId) (i j : Nat) : ({ s with loop := x } : State).rd r i j = s.rd r i j := by rfl
@[simp] theorem State.rd_with_log (s : State) (x : LogSt) (r : RegId) (i j : Nat) : ({ s with log := x } : State).rd r i j = s.rd r i j := by rfl
@[simp] theorem State.rd_with_saf (s : State) (x : SafSt) (r : RegId) (i j : Nat) : ({ s with saf := x } : State).rd r i j = s.rd r i j := by rfl
@[simp] theorem State.rd_with_pin (s : State) (x : PinSt) (r : RegId) (i j : Nat) : ({ s with pin := x } : State).rd r i j = s.rd r i j := by rfl
@[simp] theorem State.rd_with_fab (s : State) (x : FabSt) (r : RegId) (i j : Nat) : ({ s with fab := x } : State).rd r i j = s.rd r i j := by rfl
@[simp] theorem State.rd_with_sch (s : State) (x : SchSt) (r : RegId) (i j : Nat) : ({ s with sch := x } : State).rd r i j = s.rd r i j := by rfl
@[simp] theorem State.rd_with_str (s : State) (x : StrSt) (r : RegId) (i j : Nat) : ({ s with str := x } : State).rd r i j = s.rd r i j := by rfl
@[simp] theorem State.rd_with_ecc (s : State) (x : EccSt) (r : RegId) (i j : Nat) : ({ s with ecc := x } : State).rd r i j = s.rd r i j := by rfl
@[simp] theorem State.rd_with_spm (s : State) (x : SpmSt) (r : RegId) (i j : Nat) : ({ s with spm := x } : State).rd r i j = s.rd r i j := by rfl
@[simp] theorem State.rd_with_bpu (s : State) (x : BpuSt) (r : RegId) (i j : Nat) : ({ s with bpu := x } : State).rd r i j = s.rd r i j := by rfl
@[simp] theorem State.rd_with_mmu (s : State) (x : MmuSt) (r : RegId) (i j : Nat) : ({ s with mmu := x } : State).rd r i j = s.rd r i j := by rfl
@[simp] theorem State.rd_with_memc (s : State) (x : MemcSt) (r : RegId) (i j : Nat) : ({ s with memc := x } : State).rd r i j = s.rd r i j := by rfl
@[simp] theorem State.rd_with_host (s : State) (x : HostSt) (r : RegId) (i j : Nat) : ({ s with host := x } : State).rd r i j = s.rd r i j := by rfl
@[simp] theorem State.rd_with_comp (s : State) (x : CompSt) (r : RegId) (i j : Nat) : ({ s with comp := x } : State).rd r i j = s.rd r i j := by rfl
@[simp] theorem State.rd_with_od (s : State) (x : OdSt) (r : RegId) (i j : Nat) : ({ s with od := x } : State).rd r i j = s.rd r i j := by rfl
@[simp] theorem State.rd_with_can (s : State) (x : CanSt) (r : RegId) (i j : Nat) : ({ s with can := x } : State).rd r i j = s.rd r i j := by rfl
@[simp] theorem State.rd_with_eth (s : State) (x : EthSt) (r : RegId) (i j : Nat) : ({ s with eth := x } : State).rd r i j = s.rd r i j := by rfl
@[simp] theorem State.rd_with_dwl (s : State) (x : DwlSt) (r : RegId) (i j : Nat) : ({ s with dwl := x } : State).rd r i j = s.rd r i j := by rfl
@[simp] theorem State.rd_with_pair (s : State) (x : PairSt) (r : RegId) (i j : Nat) : ({ s with pair := x } : State).rd r i j = s.rd r i j := by rfl
@[simp] theorem State.rd_with_pwr (s : State) (x : PwrSt) (r : RegId) (i j : Nat) : ({ s with pwr := x } : State).rd r i j = s.rd r i j := by rfl
@[simp] theorem State.rd_with_boot (s : State) (x : BootSt) (r : RegId) (i j : Nat) : ({ s with boot := x } : State).rd r i j = s.rd r i j := by rfl
@[simp] theorem State.rd_with_drv (s : State) (x : DrvSt) (r : RegId) (i j : Nat) : ({ s with drv := x } : State).rd r i j = s.rd r i j := by rfl

@[simp] theorem State.rd8_with_now (s : State) (x : Nat) (a : Nat) : ({ s with now := x } : State).rd8 a = s.rd8 a := by rfl
@[simp] theorem State.rd8_with_regs (s : State) (x : RegFile) (a : Nat) : ({ s with regs := x } : State).rd8 a = s.rd8 a := by rfl
@[simp] theorem State.rd8_with_pending (s : State) (x : List Instr) (a : Nat) : ({ s with pending := x } : State).rd8 a = s.rd8 a := by rfl
@[simp] theorem State.rd8_with_freeCtr (s : State) (x : Nat) (a : Nat) : ({ s with freeCtr := x } : State).rd8 a = s.rd8 a := by rfl
@[simp] theorem State.rd8_with_tx (s : State) (x : List Tx) (a : Nat) : ({ s with tx := x } : State).rd8 a = s.rd8 a := by rfl
@[simp] theorem State.rd8_with_clk (s : State) (x : ClkSt) (a : Nat) : ({ s with clk := x } : State).rd8 a = s.rd8 a := by rfl
@[simp] theorem State.rd8_with_loop (s : State) (x : LoopSt) (a : Nat) : ({ s with loop := x } : State).rd8 a = s.rd8 a := by rfl
@[simp] theorem State.rd8_with_log (s : State) (x : LogSt) (a : Nat) : ({ s with log := x } : State).rd8 a = s.rd8 a := by rfl
@[simp] theorem State.rd8_with_saf (s : State) (x : SafSt) (a : Nat) : ({ s with saf := x } : State).rd8 a = s.rd8 a := by rfl
@[simp] theorem State.rd8_with_pin (s : State) (x : PinSt) (a : Nat) : ({ s with pin := x } : State).rd8 a = s.rd8 a := by rfl
@[simp] theorem State.rd8_with_fab (s : State) (x : FabSt) (a : Nat) : ({ s with fab := x } : State).rd8 a = s.rd8 a := by rfl
@[simp] theorem State.rd8_with_sch (s : State) (x : SchSt) (a : Nat) : ({ s with sch := x } : State).rd8 a = s.rd8 a := by rfl
@[simp] theorem State.rd8_with_str (s : State) (x : StrSt) (a : Nat) : ({ s with str := x } : State).rd8 a = s.rd8 a := by rfl
@[simp] theorem State.rd8_with_ecc (s : State) (x : EccSt) (a : Nat) : ({ s with ecc := x } : State).rd8 a = s.rd8 a := by rfl
@[simp] theorem State.rd8_with_spm (s : State) (x : SpmSt) (a : Nat) : ({ s with spm := x } : State).rd8 a = s.rd8 a := by rfl
@[simp] theorem State.rd8_with_bpu (s : State) (x : BpuSt) (a : Nat) : ({ s with bpu := x } : State).rd8 a = s.rd8 a := by rfl
@[simp] theorem State.rd8_with_mmu (s : State) (x : MmuSt) (a : Nat) : ({ s with mmu := x } : State).rd8 a = s.rd8 a := by rfl
@[simp] theorem State.rd8_with_memc (s : State) (x : MemcSt) (a : Nat) : ({ s with memc := x } : State).rd8 a = s.rd8 a := by rfl
@[simp] theorem State.rd8_with_host (s : State) (x : HostSt) (a : Nat) : ({ s with host := x } : State).rd8 a = s.rd8 a := by rfl
@[simp] theorem State.rd8_with_comp (s : State) (x : CompSt) (a : Nat) : ({ s with comp := x } : State).rd8 a = s.rd8 a := by rfl
@[simp] theorem State.rd8_with_od (s : State) (x : OdSt) (a : Nat) : ({ s with od := x } : State).rd8 a = s.rd8 a := by rfl
@[simp] theorem State.rd8_with_can (s : State) (x : CanSt) (a : Nat) : ({ s with can := x } : State).rd8 a = s.rd8 a := by rfl
@[simp] theorem State.rd8_with_eth (s : State) (x : EthSt) (a : Nat) : ({ s with eth := x } : State).rd8 a = s.rd8 a := by rfl
@[simp] theorem State.rd8_with_dwl (s : State) (x : DwlSt) (a : Nat) : ({ s with dwl := x } : State).rd8 a = s.rd8 a := by rfl
@[simp] theorem State.rd8_with_pair (s : State) (x : PairSt) (a : Nat) : ({ s with pair := x } : State).rd8 a = s.rd8 a := by rfl
@[simp] theorem State.rd8_with_pwr (s : State) (x : PwrSt) (a : Nat) : ({ s with pwr := x } : State).rd8 a = s.rd8 a := by rfl
@[simp] theorem State.rd8_with_boot (s : State) (x : BootSt) (a : Nat) : ({ s with boot := x } : State).rd8 a = s.rd8 a := by rfl
@[simp] theorem State.rd8_with_drv (s : State) (x : DrvSt) (a : Nat) : ({ s with drv := x } : State).rd8 a = s.rd8 a := by rfl

@[simp] theorem State.ob_with_now (s : State) (x : Nat) (o : ObjId) (i j : Nat) : ({ s with now := x } : State).ob o i j = s.ob o i j := by rfl
@[simp] theorem State.ob_with_regs (s : State) (x : RegFile) (o : ObjId) (i j : Nat) : ({ s with regs := x } : State).ob o i j = s.ob o i j := by rfl
@[simp] theorem State.ob_with_mem (s : State) (x : List Host.Cell) (o : ObjId) (i j : Nat) : ({ s with mem := x } : State).ob o i j = s.ob o i j := by rfl
@[simp] theorem State.ob_with_pending (s : State) (x : List Instr) (o : ObjId) (i j : Nat) : ({ s with pending := x } : State).ob o i j = s.ob o i j := by rfl
@[simp] theorem State.ob_with_freeCtr (s : State) (x : Nat) (o : ObjId) (i j : Nat) : ({ s with freeCtr := x } : State).ob o i j = s.ob o i j := by rfl
@[simp] theorem State.ob_with_tx (s : State) (x : List Tx) (o : ObjId) (i j : Nat) : ({ s with tx := x } : State).ob o i j = s.ob o i j := by rfl
@[simp] theorem State.ob_with_clk (s : State) (x : ClkSt) (o : ObjId) (i j : Nat) : ({ s with clk := x } : State).ob o i j = s.ob o i j := by rfl
@[simp] theorem State.ob_with_loop (s : State) (x : LoopSt) (o : ObjId) (i j : Nat) : ({ s with loop := x } : State).ob o i j = s.ob o i j := by rfl
@[simp] theorem State.ob_with_log (s : State) (x : LogSt) (o : ObjId) (i j : Nat) : ({ s with log := x } : State).ob o i j = s.ob o i j := by rfl
@[simp] theorem State.ob_with_saf (s : State) (x : SafSt) (o : ObjId) (i j : Nat) : ({ s with saf := x } : State).ob o i j = s.ob o i j := by rfl
@[simp] theorem State.ob_with_pin (s : State) (x : PinSt) (o : ObjId) (i j : Nat) : ({ s with pin := x } : State).ob o i j = s.ob o i j := by rfl
@[simp] theorem State.ob_with_fab (s : State) (x : FabSt) (o : ObjId) (i j : Nat) : ({ s with fab := x } : State).ob o i j = s.ob o i j := by rfl
@[simp] theorem State.ob_with_sch (s : State) (x : SchSt) (o : ObjId) (i j : Nat) : ({ s with sch := x } : State).ob o i j = s.ob o i j := by rfl
@[simp] theorem State.ob_with_str (s : State) (x : StrSt) (o : ObjId) (i j : Nat) : ({ s with str := x } : State).ob o i j = s.ob o i j := by rfl
@[simp] theorem State.ob_with_ecc (s : State) (x : EccSt) (o : ObjId) (i j : Nat) : ({ s with ecc := x } : State).ob o i j = s.ob o i j := by rfl
@[simp] theorem State.ob_with_spm (s : State) (x : SpmSt) (o : ObjId) (i j : Nat) : ({ s with spm := x } : State).ob o i j = s.ob o i j := by rfl
@[simp] theorem State.ob_with_bpu (s : State) (x : BpuSt) (o : ObjId) (i j : Nat) : ({ s with bpu := x } : State).ob o i j = s.ob o i j := by rfl
@[simp] theorem State.ob_with_mmu (s : State) (x : MmuSt) (o : ObjId) (i j : Nat) : ({ s with mmu := x } : State).ob o i j = s.ob o i j := by rfl
@[simp] theorem State.ob_with_memc (s : State) (x : MemcSt) (o : ObjId) (i j : Nat) : ({ s with memc := x } : State).ob o i j = s.ob o i j := by rfl
@[simp] theorem State.ob_with_host (s : State) (x : HostSt) (o : ObjId) (i j : Nat) : ({ s with host := x } : State).ob o i j = s.ob o i j := by rfl
@[simp] theorem State.ob_with_comp (s : State) (x : CompSt) (o : ObjId) (i j : Nat) : ({ s with comp := x } : State).ob o i j = s.ob o i j := by rfl
@[simp] theorem State.ob_with_can (s : State) (x : CanSt) (o : ObjId) (i j : Nat) : ({ s with can := x } : State).ob o i j = s.ob o i j := by rfl
@[simp] theorem State.ob_with_eth (s : State) (x : EthSt) (o : ObjId) (i j : Nat) : ({ s with eth := x } : State).ob o i j = s.ob o i j := by rfl
@[simp] theorem State.ob_with_dwl (s : State) (x : DwlSt) (o : ObjId) (i j : Nat) : ({ s with dwl := x } : State).ob o i j = s.ob o i j := by rfl
@[simp] theorem State.ob_with_pair (s : State) (x : PairSt) (o : ObjId) (i j : Nat) : ({ s with pair := x } : State).ob o i j = s.ob o i j := by rfl
@[simp] theorem State.ob_with_pwr (s : State) (x : PwrSt) (o : ObjId) (i j : Nat) : ({ s with pwr := x } : State).ob o i j = s.ob o i j := by rfl
@[simp] theorem State.ob_with_boot (s : State) (x : BootSt) (o : ObjId) (i j : Nat) : ({ s with boot := x } : State).ob o i j = s.ob o i j := by rfl
@[simp] theorem State.ob_with_drv (s : State) (x : DrvSt) (o : ObjId) (i j : Nat) : ({ s with drv := x } : State).ob o i j = s.ob o i j := by rfl

@[simp] theorem State.ax_with_now (s : State) (x : Nat) (n : Nat) : ({ s with now := x } : State).ax n = s.ax n := by rfl
@[simp] theorem State.ax_with_regs (s : State) (x : RegFile) (n : Nat) : ({ s with regs := x } : State).ax n = s.ax n := by rfl
@[simp] theorem State.ax_with_mem (s : State) (x : List Host.Cell) (n : Nat) : ({ s with mem := x } : State).ax n = s.ax n := by rfl
@[simp] theorem State.ax_with_pending (s : State) (x : List Instr) (n : Nat) : ({ s with pending := x } : State).ax n = s.ax n := by rfl
@[simp] theorem State.ax_with_freeCtr (s : State) (x : Nat) (n : Nat) : ({ s with freeCtr := x } : State).ax n = s.ax n := by rfl
@[simp] theorem State.ax_with_tx (s : State) (x : List Tx) (n : Nat) : ({ s with tx := x } : State).ax n = s.ax n := by rfl
@[simp] theorem State.ax_with_clk (s : State) (x : ClkSt) (n : Nat) : ({ s with clk := x } : State).ax n = s.ax n := by rfl
@[simp] theorem State.ax_with_log (s : State) (x : LogSt) (n : Nat) : ({ s with log := x } : State).ax n = s.ax n := by rfl
@[simp] theorem State.ax_with_saf (s : State) (x : SafSt) (n : Nat) : ({ s with saf := x } : State).ax n = s.ax n := by rfl
@[simp] theorem State.ax_with_pin (s : State) (x : PinSt) (n : Nat) : ({ s with pin := x } : State).ax n = s.ax n := by rfl
@[simp] theorem State.ax_with_fab (s : State) (x : FabSt) (n : Nat) : ({ s with fab := x } : State).ax n = s.ax n := by rfl
@[simp] theorem State.ax_with_sch (s : State) (x : SchSt) (n : Nat) : ({ s with sch := x } : State).ax n = s.ax n := by rfl
@[simp] theorem State.ax_with_str (s : State) (x : StrSt) (n : Nat) : ({ s with str := x } : State).ax n = s.ax n := by rfl
@[simp] theorem State.ax_with_ecc (s : State) (x : EccSt) (n : Nat) : ({ s with ecc := x } : State).ax n = s.ax n := by rfl
@[simp] theorem State.ax_with_spm (s : State) (x : SpmSt) (n : Nat) : ({ s with spm := x } : State).ax n = s.ax n := by rfl
@[simp] theorem State.ax_with_bpu (s : State) (x : BpuSt) (n : Nat) : ({ s with bpu := x } : State).ax n = s.ax n := by rfl
@[simp] theorem State.ax_with_mmu (s : State) (x : MmuSt) (n : Nat) : ({ s with mmu := x } : State).ax n = s.ax n := by rfl
@[simp] theorem State.ax_with_memc (s : State) (x : MemcSt) (n : Nat) : ({ s with memc := x } : State).ax n = s.ax n := by rfl
@[simp] theorem State.ax_with_host (s : State) (x : HostSt) (n : Nat) : ({ s with host := x } : State).ax n = s.ax n := by rfl
@[simp] theorem State.ax_with_comp (s : State) (x : CompSt) (n : Nat) : ({ s with comp := x } : State).ax n = s.ax n := by rfl
@[simp] theorem State.ax_with_od (s : State) (x : OdSt) (n : Nat) : ({ s with od := x } : State).ax n = s.ax n := by rfl
@[simp] theorem State.ax_with_can (s : State) (x : CanSt) (n : Nat) : ({ s with can := x } : State).ax n = s.ax n := by rfl
@[simp] theorem State.ax_with_eth (s : State) (x : EthSt) (n : Nat) : ({ s with eth := x } : State).ax n = s.ax n := by rfl
@[simp] theorem State.ax_with_dwl (s : State) (x : DwlSt) (n : Nat) : ({ s with dwl := x } : State).ax n = s.ax n := by rfl
@[simp] theorem State.ax_with_pair (s : State) (x : PairSt) (n : Nat) : ({ s with pair := x } : State).ax n = s.ax n := by rfl
@[simp] theorem State.ax_with_pwr (s : State) (x : PwrSt) (n : Nat) : ({ s with pwr := x } : State).ax n = s.ax n := by rfl
@[simp] theorem State.ax_with_boot (s : State) (x : BootSt) (n : Nat) : ({ s with boot := x } : State).ax n = s.ax n := by rfl
@[simp] theorem State.ax_with_drv (s : State) (x : DrvSt) (n : Nat) : ({ s with drv := x } : State).ax n = s.ax n := by rfl

end Sys2Proof.Machine
end

