-- ==== Sys2Proof/Laws/Frame.lean ====
section
/-! SUPPORT. What an event, the reported power state and the passing of time can change. -/

namespace Sys2Proof.Machine

set_option Elab.async false

/-- Registers that the log and the event queues write. -/
def logReg (r : RegId) : Bool := r == .hostEvseq || r == .ctxEvqProd || r == .ctxEvqOvf

/-- `t` is `s` but for the log, memory, and the registers that `p` picks. -/
def LogFrame (p : RegId → Bool) (s t : State) : Prop :=
  ∃ log regs mem, t = { s with log := log, regs := regs, mem := mem } ∧ ∀ r i j, p r = false → rdIn regs r i j = s.rd r i j

theorem LogFrame.rfl {p : RegId → Bool} {s : State} : LogFrame p s s := ⟨s.log, s.regs, s.mem, by rfl, fun _ _ _ _ => by rfl⟩

theorem LogFrame.trans {p : RegId → Bool} {s t u : State} (h : LogFrame p s t) (g : LogFrame p t u) : LogFrame p s u := by
  obtain ⟨l, r, m, rfl, hr⟩ := h
  obtain ⟨l', r', m', rfl, hr'⟩ := g
  exact ⟨l', r', m', by rfl, fun k i j hk => (hr' k i j hk).trans (hr k i j hk)⟩

theorem LogFrame.rd {p : RegId → Bool} {s t : State} (h : LogFrame p s t) {r : RegId} (hr : p r = false) (i j : Nat) :
    t.rd r i j = s.rd r i j := by
  obtain ⟨l, g, m, rfl, hg⟩ := h
  exact hg r i j hr

theorem LogFrame.mono {p q : RegId → Bool} {s t : State} (h : LogFrame p s t) (pq : ∀ r, q r = false → p r = false) :
    LogFrame q s t := by
  obtain ⟨l, g, m, rfl, hg⟩ := h
  exact ⟨l, g, m, by rfl, fun r i j hr => hg r i j (pq r hr)⟩

theorem LogFrame.wr {p : RegId → Bool} {r : RegId} (h : p r = true) (s : State) (v i j : Nat) : LogFrame p s (s.wr r v i j) := by
  refine ⟨s.log, (s.wr r v i j).regs, s.mem, by rfl, fun r' i' j' hr => s.rd_wr_ne v ?_⟩
  rintro ⟨rfl, -⟩
  simp_all

theorem LogFrame.log {p : RegId → Bool} (s : State) (l : LogSt) : LogFrame p s { s with log := l } :=
  ⟨l, s.regs, s.mem, by rfl, fun _ _ _ _ => by rfl⟩

theorem LogFrame.wrBytes {p : RegId → Bool} (s : State) (a : Nat) (l : List Byte) : LogFrame p s (s.wrBytes a l) := by
  induction l generalizing s a with
  | nil => exact .rfl
  | cons b t ih => exact LogFrame.trans (t := s.wr8 a b) ⟨s.log, s.regs, _, by rfl, fun _ _ _ _ => by rfl⟩ (ih _ _)

theorem LogFrame.foldN {p : RegId → Bool} (n : Nat) (f : Nat → State → State) (h : ∀ k s, LogFrame p s (f k s)) (s : State) :
    LogFrame p s (foldN n f s) := by
  induction n with
  | zero => exact .rfl
  | succ n ih => rw [foldN_succ]; exact ih.trans (h n _)

theorem logRec_frame (r : EvRec) (s : State) : LogFrame logReg s (logRec r s) := by
  unfold logRec
  split
  · exact (LogFrame.log s _).trans (.wr (by rfl) _ _ _ _)
  · exact .log s _

theorem evqPut_frame (r : EvRec) (ts : List Nat) (k : Nat) (s : State) : LogFrame logReg s (evqPut r ts k s) := by
  unfold evqPut
  split
  · simp only
    split
    · have h : LogFrame logReg s (s.bump .ctxEvqOvf 1 k) := .wr (by rfl) _ _ _ _
      split
      · exact h
      · exact h.trans ((LogFrame.log _ _).trans (logRec_frame _ _))
    · exact (LogFrame.wrBytes s _ _).trans (.wr (by rfl) _ _ _ _)
  · exact .rfl

/-- Logging an event changes the log, the event queues in memory, and three registers. -/
theorem logEvTo_frame (e : Ev) (tid arg : Nat) (ts : List Nat) (s : State) : LogFrame logReg s (logEvTo e tid arg ts s) := by
  refine LogFrame.trans (t := logRec (s.record e tid arg) _) ?_ (.foldN _ _ (fun k s => evqPut_frame _ _ k s) _)
  split
  · exact (LogFrame.log s _).trans (logRec_frame _ _)
  · exact logRec_frame _ _

/-- An event without a reaction is only logged. -/
theorem raise_frame (e : Ev) (tid arg : Nat) (s : State) (h : e.stoBit = none) (h' : e.reactIdx = none) :
    LogFrame logReg s (raise e tid arg s) := by
  unfold raise react
  rw [h, h']
  exact logEvTo_frame ..

/-- Registers that `settle` writes: those of the state it shows, and of the fans that spin up on an entry into READY. -/
def settleReg (r : RegId) : Bool := logReg r || r == .pwrState || r == .hostState || r == .fanState || r == .fanRetry || r == .fanD

theorem showPwrState_frame (new : Nat) (s : State) : LogFrame settleReg s (showPwrState new s) := by
  unfold showPwrState
  have h : LogFrame settleReg s ((s.wr .pwrState new).wr .hostState new) :=
    (LogFrame.wr (by rfl) _ _ _ _).trans (.wr (by rfl) _ _ _ _)
  refine h.trans ((raise_frame _ _ _ _ (by rfl) (by rfl)).mono fun r hr => ?_)
  simp only [settleReg, Bool.or_eq_false_iff] at hr
  exact hr.1.1.1.1.1

/-- `t` is `s` but for the log, memory, the registers of `settleReg`, and when the fans started. -/
def SettleFrame (s t : State) : Prop := ∃ fan, LogFrame settleReg { s with pwr := { s.pwr with fan := fan } } t

theorem LogFrame.settles {s t : State} (h : LogFrame settleReg s t) : SettleFrame s t := ⟨s.pwr.fan, h⟩

theorem SettleFrame.trans {s t u : State} (h : SettleFrame s t) (g : SettleFrame t u) : SettleFrame s u := by
  obtain ⟨f, l, r, m, rfl, hr⟩ := h
  obtain ⟨f', l', r', m', rfl, hr'⟩ := g
  exact ⟨f', l', r', m', by rfl, fun k i j hk => (hr' k i j hk).trans (hr k i j hk)⟩

theorem spinUp_frame (f : Nat) (s : State) : SettleFrame s (spinUp f s) := by
  unfold spinUp
  split
  · exact ⟨_, ((LogFrame.wr (by rfl) _ _ _ _).trans (.wr (by rfl) _ _ _ _)).trans (.wr (by rfl) _ _ _ _)⟩
  · exact LogFrame.rfl.settles

/-- The reported power state changes nothing but itself, the log, the event queues, and the fans. -/
theorem settle_frame (s : State) : SettleFrame s (settle s) := by
  unfold settle
  split
  · unfold enterReported
    simp only
    split
    · exact ((showPwrState_frame _ _).settles.trans (spinUp_frame _ _)).trans (spinUp_frame _ _)
    · exact (showPwrState_frame _ _).settles
  · exact LogFrame.rfl.settles

/-- Every command ends by bringing the reported power state up to date. -/
theorem exec_settles (c : Instr) (s : State) : ∃ x, exec c s = .next (settle x) := by
  cases c <;> exact ⟨_, by rfl⟩

/-- What is enabled and resident does not depend on the registers that the log and `settle` write. -/
theorem reportedState_frame {s t : State} (g : SettleFrame s t) : reportedState t = reportedState s := by
  obtain ⟨_, h⟩ := g
  have h1 : ∀ k, t.rd .ctxState k = s.rd .ctxState k := fun k => h.rd (by rfl) _ _
  have h2 : ∀ k, t.rd .mitState k = s.rd .mitState k := fun k => h.rd (by rfl) _ _
  have h4 : ∀ k, t.ax k = s.ax k := fun k => by obtain ⟨l, r, m, rfl, -⟩ := h; rfl
  simp [reportedState, h1, h2, h4]

theorem reportedState_lt (s : State) : reportedState s < 8 := by
  unfold reportedState; split; decide; split <;> decide

/-! Stopping the axes. -/

/-- Registers that stopping an axis writes. -/
def stopReg (r : RegId) : Bool := r == .axEn || r == .ceAxRun || r == .mioPadsOn || r == .axAnaEn

theorem stopAxis_rd (n : Nat) (s : State) {r : RegId} (h : stopReg r = false) (i j : Nat) : (stopAxis n s).rd r i j = s.rd r i j := by
  simp only [stopReg, Bool.or_eq_false_iff, beq_eq_false_iff_ne] at h
  obtain ⟨⟨⟨h1, h2⟩, h3⟩, h4⟩ := h
  show ((((s.wr .axEn 0 n).wrBit .ceAxRun n false).wrBit .mioPadsOn n false).wr .axAnaEn 0 n).rd r i j = _
  rw [State.rd_wr_ne _ _ (by simp [h4]), State.rd_wrBit, if_neg (by simp [h3]), State.rd_wrBit, if_neg (by simp [h2]),
    State.rd_wr_ne _ _ (by simp [h1])]

theorem stopAxis_axEn (n k : Nat) (s : State) : (stopAxis n s).rd .axEn k = if k = n then 0 else s.rd .axEn k := by
  show ((((s.wr .axEn 0 n).wrBit .ceAxRun n false).wrBit .mioPadsOn n false).wr .axAnaEn 0 n).rd .axEn k = _
  rw [State.rd_wr_ne _ _ (by simp), State.rd_wrBit, if_neg (by simp), State.rd_wrBit, if_neg (by simp), State.rd_wr]
  simp

theorem stopAxis_ax (n k : Nat) (s : State) : ((stopAxis n s).ax k).run = if k = n then false else (s.ax k).run := by
  show ((Tab.set s.loop.ax n _).get CeAxis.init k).run = _
  by_cases h : k = n
  · subst h; simp
  · rw [Tab.get_set_other _ _ _ h, if_neg h]; rfl

/-- Stopping every axis leaves all other registers and every other part of the state but the axes alone. -/
theorem stopAll_rd (s : State) {r : RegId} (h : stopReg r = false) (i j : Nat) : (stopAll s).rd r i j = s.rd r i j := by
  unfold stopAll
  exact foldN_inv (fun s : State => s.rd r i j) 8 _ (fun k s => stopAxis_rd k s h i j) s

theorem stopAll_axEn (s : State) {n : Nat} (h : n < 8) : (stopAll s).rd .axEn n = 0 := by
  unfold stopAll
  simp only [foldN_succ, stopAxis_axEn]
  repeat' split
  all_goals first | rfl | omega

theorem stopAll_run (s : State) {n : Nat} (h : n < 8) : ((stopAll s).ax n).run = false := by
  unfold stopAll
  simp only [foldN_succ, stopAxis_ax]
  repeat' split
  all_goals first | rfl | omega

theorem stopAll_saf (s : State) : (stopAll s).saf = s.saf := by
  unfold stopAll; exact foldN_inv (fun s : State => s.saf) 8 _ (fun _ _ => by rfl) s

/-! What the engines do by themselves while time passes. -/

/-- Registers that an engine at work writes: those of events and their reactions, of ECC, Clamp and the loop slots, and its own. -/
def workReg (r : RegId) : Bool :=
  stopReg r || logReg r ||
    [.safArmed, .safStoCause, .safStoDrv, .safStoPad, .safState, .safSs1Rem, .spmEccCorr, .spmEccUnc, .spmEccAddrLo, .spmEccAddrHi,
      .memcEccCorr, .memcChCorr, .memcEccUnc, .memcEccAddrLo, .memcEccAddrHi, .memcEccCh, .memcEccSrc, .mitState, .mitCause, .mitImg,
      .mitLastT, .clpBlkCnt, .clpBlkAddrLo, .clpBlkAddrHi, .clpBlkTid, .clpBlkWr, .clpBlkRsvd, .clpBlkExcl, .clpBlkPort, .clpBlkPend,
      .clpNvalid, .cnvFlags, .cnvCntSat, .tcState, .tcTid].contains r

/-- `t` has the clocks of `s`, and its registers but for those that an engine at work writes. -/
def Works (s t : State) : Prop := t.clk = s.clk ∧ ∀ r i j, workReg r = false → t.rd r i j = s.rd r i j

theorem Works.rfl {s : State} : Works s s := ⟨by rfl, fun _ _ _ _ => by rfl⟩

theorem Works.trans {s t u : State} (h : Works s t) (g : Works t u) : Works s u :=
  ⟨g.1.trans h.1, fun r i j hr => (g.2 r i j hr).trans (h.2 r i j hr)⟩

/-- A change of other parts of the state. -/
theorem Works.part {s t : State} (h : t.clk = s.clk) (g : t.regs = s.regs) : Works s t :=
  ⟨h, fun r i j _ => by show rdIn t.regs r i j = rdIn s.regs r i j; rw [g]⟩

theorem Works.wr {r : RegId} (h : workReg r = true) (s : State) (v i j : Nat) : Works s (s.wr r v i j) := by
  refine ⟨by rfl, fun r' i' j' hr => s.rd_wr_ne v ?_⟩
  rintro ⟨rfl, -⟩
  simp_all

theorem Works.andWr {s t : State} (h : Works s t) {r : RegId} (hr : workReg r = true) (v i j : Nat) : Works s (t.wr r v i j) :=
  h.trans (.wr hr t v i j)

theorem Works.foldN (n : Nat) (f : Nat → State → State) (h : ∀ k s, Works s (f k s)) (s : State) : Works s (foldN n f s) := by
  induction n with
  | zero => exact .rfl
  | succ n ih => rw [foldN_succ]; exact ih.trans (h n _)

theorem Works.foldl {α : Type} (f : State → α → State) (h : ∀ s a, Works s (f s a)) (l : List α) (s : State) : Works s (l.foldl f s) := by
  induction l generalizing s with
  | nil => exact .rfl
  | cons a l ih => exact (h s a).trans (ih _)

/-- A fold that carries a result beside the state. -/
theorem Works.foldPair {α β : Type} (f : β × State → α → β × State) (h : ∀ x a, Works x.2 (f x a).2) (l : List α) (x : β × State) :
    Works x.2 (l.foldl f x).2 := by
  induction l generalizing x with
  | nil => exact .rfl
  | cons a l ih => exact (h x a).trans (ih _)

theorem Works.ite {s t u : State} {c : Prop} [Decidable c] (h : Works s t) (g : Works s u) : Works s (if c then t else u) := by
  split <;> assumption

theorem LogFrame.works {s t : State} (h : LogFrame logReg s t) : Works s t := by
  obtain ⟨l, g, m, rfl, hg⟩ := h
  refine ⟨by rfl, fun r i j hr => hg r i j ?_⟩
  simp only [workReg, Bool.or_eq_false_iff] at hr
  exact hr.1.2

theorem stopAll_works (s : State) : Works s (stopAll s) := by
  refine .foldN 8 _ (fun k s => ⟨by rfl, fun r i j hr => stopAxis_rd k s ?_ i j⟩) s
  simp only [workReg, Bool.or_eq_false_iff] at hr
  exact hr.1.1

theorem applySto_works (b : Nat) (s : State) : Works s (applySto b s) := by
  have h : Works s (stopAll (s.wr .safArmed 0)) := .trans (.wr (by rfl) s 0 0 0) (stopAll_works _)
  unfold applySto
  simp only
  generalize stopAll (s.wr .safArmed 0) = t at h
  refine .trans (.trans (t := ((t.wrBit .safStoCause b true).wr .safStoDrv 0).wr .safStoPad 0) ?_ (.part (by rfl) (by rfl)))
    (.trans (.wr (r := .safState) (by rfl) _ _ _ _) (logEvTo_frame ..).works)
  exact ((h.andWr (r := .safStoCause) (by rfl) _ 0 0).andWr (by rfl) 0 0 0).andWr (by rfl) 0 0 0

theorem requestDisable_works (n : Nat) (s : State) : Works s (requestDisable n s) := by
  have h : Works s (s.wr .axEn 0 n) := .wr (by rfl) _ _ _ _
  exact .ite (h.trans (.part (by rfl) (by rfl))) (h.trans (.part (by rfl) (by rfl)))

theorem startSs1_works (s : State) : Works s (startSs1 s) := by
  refine .ite .rfl (.ite (logEvTo_frame ..).works (.trans ?_ (logEvTo_frame ..).works))
  refine .andWr (r := .safState) (.andWr (r := .safSs1Rem) (.trans (.part (by rfl) (by rfl)) (.foldN 8 _ (fun k s => ?_) _)) (by rfl) _ _ _)
    (by rfl) _ _ _
  exact .ite (requestDisable_works _ _) .rfl

theorem stoReaction_works (b : Nat) (s : State) : Works s (stoReaction b s) :=
  .trans (.part (by rfl) (by rfl)) (applySto_works _ _)

theorem react_works (e : Ev) (s : State) : Works s (react e s) := by
  unfold react
  split
  · exact stoReaction_works _ _
  · split
    · exact .rfl
    · split
      · exact .rfl
      · exact .ite .rfl (.part (by rfl) (by rfl))
      · exact startSs1_works s
      · exact stoReaction_works _ _

theorem raise_works (e : Ev) (tid arg : Nat) (s : State) : Works s (raise e tid arg s) :=
  (logEvTo_frame ..).works.trans (react_works e _)

theorem mitreFault_works (n cause : Nat) (s : State) : Works s (mitreFault n cause s) := by
  unfold mitreFault
  split
  · refine .trans ?_ (raise_works ..)
    have h : Works s ((s.wr .mitState 3 n).wr .mitCause cause n) := (Works.wr (by rfl) s 3 n 0).andWr (by rfl) _ _ _
    have h2 : Works s (if cause = 6 then ((s.wr .mitState 3 n).wr .mitCause cause n).wr .mitImg 0 n else (s.wr .mitState 3 n).wr .mitCause cause n) :=
      .ite (h.andWr (by rfl) _ _ _) h
    exact .trans (.ite (h2.andWr (r := .mitLastT) (by rfl) _ _ _) h2) (.part (by rfl) (by rfl))
  · exact .rfl

theorem setClp_works (i : Nat) (t : Tab ClpEntry) (s : State) : Works s (s.setClp i t) :=
  .trans (.part (by rfl) (by rfl)) (.wr (r := .clpNvalid) (by rfl) { s with fab := { s.fab with active := s.fab.active.set i t } } _ _ _)

theorem parityAt_works (q : Req) (s : State) : Works s (parityAt q s) := by
  unfold parityAt
  split
  · refine .foldl _ (fun s e => ?_) _ _
    exact .ite ((setClp_works _ _ s).trans (raise_works ..)) .rfl
  · exact .rfl

theorem blockedRecord_works (q : Req) (i : Nat) (s : State) : Works s (blockedRecord q i s) := by
  unfold blockedRecord
  have h : Works s (s.bump .clpBlkCnt 1 i) := .wr (by rfl) _ _ _ _
  refine .trans (t := raise .fabClampBlock q.tid _ _) (.trans ?_ (raise_works ..)) (.ite (mitreFault_works ..) .rfl)
  refine .ite h ?_
  exact ((((((((h.andWr (by rfl) _ _ _).andWr (by rfl) _ _ _).andWr (by rfl) _ _ _).andWr (by rfl) _ _ _).andWr (by rfl) _ _ _).andWr
    (by rfl) _ _ _).andWr (by rfl) _ _ _).andWr (by rfl) _ _ _)

theorem eccCorrected_works (tid b : Nat) (s : State) : Works s (eccCorrected tid b s) := by
  unfold eccCorrected
  have h : Works s (s.bump .spmEccCorr 1) := .wr (by rfl) _ _ _ _
  have g : Works s ((s.bump .memcEccCorr 1).bump .memcChCorr 1 (dramCh b)) := (Works.wr (by rfl) s _ 0 0).andWr (by rfl) _ _ _
  split
  · exact .ite (h.trans (.part (by rfl) (by rfl))) (.trans (h.trans (.part (by rfl) (by rfl))) (raise_works ..))
  · exact .ite (g.trans (.part (by rfl) (by rfl))) (.trans (g.trans (.part (by rfl) (by rfl))) (raise_works ..))

theorem eccUncorr_works (tid b : Nat) (scrub : Bool) (s : State) : Works s (eccUncorr tid b scrub s) := by
  unfold eccUncorr
  split
  · refine .trans (.trans ?_ (raise_works ..)) (.foldN 8 _ (fun n s => .ite (mitreFault_works ..) .rfl) _)
    exact ((Works.wr (r := .spmEccUnc) (by rfl) s _ 0 0).andWr (by rfl) _ _ _).andWr (by rfl) _ _ _
  · refine .trans ?_ (raise_works ..)
    exact ((((Works.wr (r := .memcEccUnc) (by rfl) s _ 0 0).andWr (by rfl) _ _ _).andWr (by rfl) _ _ _).andWr (by rfl) _ _ _).andWr
      (by rfl) _ _ _

theorem eccReadUnit_works (tid : Nat) (x : Bool × State) (b : Nat) : Works x.2 (eccReadUnit tid x b).2 := by
  unfold eccReadUnit
  simp only
  split
  · exact eccUncorr_works ..
  · split
    · exact eccCorrected_works ..
    · exact .rfl

theorem eccRead_works (tid a n : Nat) (s : State) : Works s (eccRead tid a n s).2 :=
  .foldPair _ (fun x b => eccReadUnit_works tid x b) _ (false, s)

theorem eccWrite_works (tid a n : Nat) (s : State) : Works s (eccWrite tid a n s).2 := by
  have h := Works.foldPair _ (fun x b => eccReadUnit_works tid x b) ((eccUnits a n).filter fun b => !eccWhole a n b) (false, s)
  unfold eccWrite
  simp only
  split
  · exact h
  · exact h.trans (.part (by rfl) (by rfl))

theorem localCheck_works (cl tid : Nat) (wr : Bool) (n a left : Nat) (s : State) : Works s (localCheck cl tid wr n a left s).2 := by
  induction n generalizing a left s with
  | zero => exact .rfl
  | succ n ih =>
    unfold localCheck
    split
    · exact .rfl
    · simp only
      split
      · exact (parityAt_works ..).trans (ih ..)
      · exact (parityAt_works ..).trans (blockedRecord_works ..)

theorem localRead_works (cl tid a n : Nat) (s : State) : Works s (localRead cl tid a n s).2 := by
  have h := localCheck_works cl tid false (n + 1) a n s
  unfold localRead
  split <;> rename_i e <;> rw [e] at h
  · exact h
  · simp only
    split <;> exact h.trans (eccRead_works ..)

theorem wrBytes_works (s : State) (a : Nat) (l : List Byte) : Works s (s.wrBytes a l) := (LogFrame.wrBytes s a l).works

theorem localWrite_works (cl tid a : Nat) (l : List Byte) (s : State) : Works s (localWrite cl tid a l s).2 := by
  have h := localCheck_works cl tid true (l.length + 1) a l.length s
  unfold localWrite
  split <;> rename_i e <;> rw [e] at h
  · exact h
  · simp only
    split
    · exact h.trans (eccWrite_works ..)
    · exact (h.trans (eccWrite_works ..)).trans (wrBytes_works ..)

theorem readPar_works (c tid : Nat) (l : CnvLayer) (s : State) : Works s (readPar c tid l s).2 := by
  have h (b : Bool) (a n : Nat) (s : State) :
      Works s (if b then (.ok [], s) else localRead c tid a n s : Except LocFail (List Byte) × State).2 := by
    cases b
    · exact localRead_works ..
    · exact .rfl
  unfold readPar
  have h1 := localRead_works c tid (csAddr c l.waddr) (l.weights * eltBytes l.fw) s
  split <;> rename_i e1 <;> rw [e1] at h1
  · exact h1
  · rename_i s1
    have h2 := h (decide (l.qaddr = 0)) (csAddr c l.qaddr) (8 * l.cout) s1
    simp only [decide_eq_true_eq] at h2
    split <;> rename_i e2 <;> rw [e2] at h2
    · exact h1.trans h2
    · rename_i s2
      have h3 := h (decide (l.baddr = 0)) (csAddr c l.baddr) (4 * l.cout) s2
      simp only [decide_eq_true_eq] at h3
      split <;> rename_i e3 <;> rw [e3] at h3 <;> exact (h1.trans h2).trans h3

theorem readPars_works (c tid : Nat) (l : List CnvLayer) (acc : List CnvPar) (s : State) : Works s (readPars c tid l acc s).2 := by
  induction l generalizing acc s with
  | nil => exact .rfl
  | cons x l ih =>
    have h := readPar_works c tid x s
    unfold readPars
    split <;> rename_i e <;> rw [e] at h
    · exact h
    · exact h.trans (ih ..)

theorem readLine_works (c : Nat) (j : CnvJob) (y : Nat) (s : State) : Works s (readLine c j y s).2 := by
  unfold readLine
  simp only
  generalize hx : localRead c j.hdr.tid _ _ s = o
  have h : Works s o.2 := hx ▸ localRead_works ..
  split <;> exact h

theorem loadLines_works (c : Nat) (j : CnvJob) (n y : Nat) (ls : List CnvRow) (s : State) : Works s (loadLines c j n y ls s).2 := by
  induction n generalizing y ls s with
  | zero => exact .rfl
  | succ n ih =>
    unfold loadLines
    split
    · exact ih ..
    · have h := readLine_works c j y s
      split <;> rename_i e <;> rw [e] at h
      · exact h
      · exact h.trans (ih ..)

theorem cnvFlags_works (tid c : Nat) (f : NumFlags) (s : State) : Works s (cnvFlags tid c f s) := by
  have bit (k : Nat) (s : State) : Works s (s.wrBit .cnvFlags k true c) := .wr (by rfl) _ _ _ _
  have h1 (s : State) : Works s (if f.inf then s.wrBit .cnvFlags 1 true c else s) := .ite (bit ..) .rfl
  have h2 (s : State) : Works s (if f.n2i then s.wrBit .cnvFlags 3 true c else s) := .ite (bit ..) .rfl
  have h3 (s : State) : Works s (if f.nan ∧ !(s.rdBit .cnvFlags 0 c) then raise .cnvNan tid c (s.wrBit .cnvFlags 0 true c) else s) :=
    .ite ((bit 0 s).trans (raise_works ..)) .rfl
  have h4 (s : State) : Works s (let t := s.bump .cnvCntSat 1 c
      if t.rdBit .cnvFlags 2 c then t else raise .cnvSat tid c (t.wrBit .cnvFlags 2 true c)) :=
    have h : Works s (s.bump .cnvCntSat 1 c) := .wr (by rfl) _ _ _ _
    .ite h ((h.trans (bit ..)).trans (raise_works ..))
  exact ((h1 s).trans ((h2 _).trans (h3 _))).trans (.ite (h4 _) .rfl)

theorem setCnv_works (s : State) (c : Nat) (x : CnvSt) : Works s (s.setCnv c x) := .part (by rfl) (by rfl)

theorem cnvRowDone_works (c : Nat) (j : CnvJob) (ps : List CnvPar) (s : State) : Works s (cnvRowDone c j ps s) := by
  unfold cnvRowDone
  simp only
  generalize foldN j.hdr.nl _ _ = x
  have h := Works.foldl (fun s f => cnvFlags j.hdr.tid c f s) (fun s f => cnvFlags_works j.hdr.tid c f s) x.2 s
  generalize hx : localWrite c j.hdr.tid _ _ _ = o
  have g : Works _ o.2 := hx ▸ localWrite_works ..
  split <;> exact (h.trans g).trans (setCnv_works ..)

theorem cnvRowBegin_works (c : Nat) (j : CnvJob) (s : State) : Works s (cnvRowBegin c j s) := by
  unfold cnvRowBegin
  simp only
  split <;> rename_i e
  all_goals
    rename_i s1
    have h : Works s s1 := by
      split at e
      · cases e <;> exact .rfl
      · have g := readPars_works c j.hdr.tid j.ls [] s; rw [e] at g; exact g
  · exact h.trans (setCnv_works ..)
  · generalize hx : loadLines c j _ _ _ s1 = o
    have g : Works s1 o.2 := hx ▸ loadLines_works ..
    split <;> exact (h.trans g).trans (setCnv_works ..)

theorem cnvGo_works (c : Nat) (j : CnvJob) (el n : Nat) (s : State) : Works s (cnvGo c j el n s) := by
  induction n generalizing s with
  | zero => exact .rfl
  | succ n ih =>
    unfold cnvGo
    simp only
    split
    · exact .rfl
    · split
      · exact .ite (cnvRowBegin_works ..) (((cnvRowBegin_works ..).trans (cnvRowDone_works ..)).trans (ih _))
      · exact cnvRowBegin_works ..

theorem cnvDue_works (c : Nat) (s : State) : Works s (cnvDue c s) := by
  unfold cnvDue
  split
  · exact .rfl
  · exact .ite (cnvGo_works ..) .rfl

theorem weightsDue_works (s : State) (k : Nat) : Works s (weightsDue s k) := by
  unfold weightsDue
  simp only
  split
  · exact .ite ((Works.foldl _ (fun s w => localWrite_works ..) _ s).trans (.part (by rfl) (by rfl))) .rfl
  · exact .rfl

theorem drainDue_works (s : State) (t : Nat) : Works s (drainDue s t) := by
  unfold drainDue
  simp only
  split
  · split
    · exact ((Works.part (by rfl) (by rfl)).trans (.wr (by rfl) _ _ _ _)).andWr (by rfl) _ _ _
    · exact .part (by rfl) (by rfl)
  · exact .rfl

/-- Noting which tasks are ready changes the state of the channels only. -/
theorem noteReady_frame (s : State) : (noteReady s).regs = s.regs ∧ (noteReady s).clk = s.clk := by
  have h (k : Nat) (t : State) : (noteHead k t).regs = t.regs ∧ (noteHead k t).clk = t.clk := by
    unfold noteHead
    split <;> exact ⟨by rfl, by rfl⟩
  unfold noteReady
  exact foldN_inv (fun t : State => t.regs = s.regs ∧ t.clk = s.clk) 64 _
    (fun k t => by simp [(h k t).1, (h k t).2]) s |>.mpr ⟨by rfl, by rfl⟩

/-- While time passes, the engines change nothing but what `Works` says, after the edges of the clocks. -/
theorem elapse_works (dt : Nat) (s : State) : Works (edgesPass dt (noteReady s)) (elapse dt s) :=
  ((Works.foldN 8 _ cnvDue_works _).trans (.foldl _ drainDue_works _ _)).trans (.foldl _ weightsDue_works _ _)

/-! Time. -/

/-- Registers that the passing of time writes. -/
def timeReg (r : RegId) : Bool :=
  r == .mioPadsOn || r == .pstMitMiss || r == .pstCeMiss || r == .pstClrCnt || r == .lsNstall || r == .lsWconf || r == .csNstall ||
    r == .csWconf || r == .spmEccCorr || r == .spmEccUnc || r == .spmCntClr

theorem releaseDue_rd (n : Nat) (s : State) {r : RegId} (h : r ≠ .mioPadsOn) (i j : Nat) :
    (releaseDue n s).rd r i j = s.rd r i j := by
  unfold releaseDue
  split
  · rfl
  · split
    · show (s.wrBit .mioPadsOn n false).rd r i j = _
      rw [State.rd_wrBit, if_neg (by simp [h])]
    · rfl

theorem clearPst_rd (s : State) {r : RegId} (h : r ≠ .pstMitMiss) (h' : r ≠ .pstCeMiss) (i j : Nat) :
    (clearPst s).rd r i j = s.rd r i j := by
  unfold clearPst
  refine foldN_inv (fun s : State => s.rd r i j) 8 _ (fun k s => ?_) s
  show ((s.wr .pstMitMiss 0 k).wr .pstCeMiss 0 k).rd r i j = _
  rw [State.rd_wr_ne _ _ (by simp [h']), State.rd_wr_ne _ _ (by simp [h])]

theorem spmClear_rd (s : State) {r : RegId} (h : timeReg r = false) (i j : Nat) : (spmClear s).rd r i j = s.rd r i j := by
  simp only [timeReg, Bool.or_eq_false_iff, beq_eq_false_iff_ne] at h
  obtain ⟨⟨⟨⟨⟨⟨⟨⟨⟨⟨h1, h2⟩, h3⟩, h4⟩, h5⟩, h6⟩, h7⟩, h8⟩, h9⟩, h10⟩, h11⟩ := h
  show (((((s.clearRegs _).wr .spmEccCorr 0).wr .spmEccUnc 0).wr .spmCntClr 0).rd r i j) = _
  rw [State.rd_wr_ne _ _ (by simp [h11]), State.rd_wr_ne _ _ (by simp [h10]), State.rd_wr_ne _ _ (by simp [h9]), State.rd_clearRegs,
    if_neg (by simp [h5, h6, h7, h8])]

theorem spmDue_rd (dt : Nat) (s : State) {r : RegId} (h : timeReg r = false) (i j : Nat) : (spmDue dt s).rd r i j = s.rd r i j := by
  unfold spmDue
  split
  · exact spmClear_rd s h i j
  · rfl

theorem pstDue_rd (n : Nat) (s : State) {r : RegId} (h : timeReg r = false) (i j : Nat) : (pstDue n s).rd r i j = s.rd r i j := by
  simp only [timeReg, Bool.or_eq_false_iff, beq_eq_false_iff_ne] at h
  obtain ⟨⟨⟨⟨⟨⟨⟨⟨⟨⟨h1, h2⟩, h3⟩, h4⟩, h5⟩, h6⟩, h7⟩, h8⟩, h9⟩, h10⟩, h11⟩ := h
  unfold pstDue
  split
  · rw [State.rd_wr_ne _ _ (by simp [h4]), State.rd_with_clk]; exact clearPst_rd s h2 h3 i j
  · rfl

/-- A register that no clock edge writes keeps its value while the clocks move on. -/
theorem edgesPass_rd (dt : Nat) (s : State) {r : RegId} (h : timeReg r = false) (i j : Nat) : (edgesPass dt s).rd r i j = s.rd r i j := by
  have h1 : r ≠ .mioPadsOn := by rintro rfl; simp [timeReg] at h
  unfold edgesPass
  refine (foldN_inv (fun s : State => s.rd r i j) 8 _ (fun k s => releaseDue_rd k s h1 i j) _).trans ?_
  rw [spmDue_rd _ _ h, pstDue_rd _ _ h]
  rfl

/-- A register that neither a clock edge nor an engine writes keeps its value while time passes. -/
theorem elapse_rd (dt : Nat) (s : State) {r : RegId} (h : timeReg r = false) (h' : workReg r = false) (i j : Nat) :
    (elapse dt s).rd r i j = s.rd r i j :=
  ((elapse_works dt s).2 r i j h').trans <| (edgesPass_rd dt (noteReady s) h i j).trans <| by
    show rdIn (noteReady s).regs r i j = _
    rw [(noteReady_frame s).1]; rfl

theorem releaseDue_clk (n : Nat) (s : State) : (releaseDue n s).clk = s.clk := by
  unfold releaseDue
  split
  · rfl
  · split <;> rfl

/-- Repeating an update that sets what `g` reads at instance `n` only. -/
theorem foldN_set {α β : Type} (g : α → β) (n : Nat) (b : β) {f : Nat → α → α} (h : ∀ k a, g (f k a) = if n = k then b else g a)
    (m : Nat) (a : α) : g (foldN m f a) = if n < m then b else g a := by
  induction m with
  | zero => rfl
  | succ m ih =>
    rw [foldN_succ, h, ih]
    split
    · rw [if_pos (by omega)]
    · split
      · rw [if_pos (by omega)]
      · rw [if_neg (by omega)]

theorem clearPst_step (k n : Nat) (s : State) {r : RegId} (h : r = .pstCeMiss ∨ r = .pstMitMiss) :
    ((s.wr .pstMitMiss 0 k).wr .pstCeMiss 0 k).rd r n = if n = k then 0 else s.rd r n := by
  rcases h with rfl | rfl <;> simp only [State.rd_wr] <;> simp

theorem pstDue_pst (k : Nat) (s : State) (h : s.clk.clrCnt = true) (h' : (pstDue k s).clk.clrCnt = false) {n : Nat} (hn : n < 8)
    {r : RegId} (hr : r = .pstCeMiss ∨ r = .pstMitMiss) : (pstDue k s).rd r n = 0 := by
  revert h'
  unfold pstDue
  split
  · intro _
    have e : r ≠ .pstClrCnt := by rcases hr with rfl | rfl <;> simp
    rw [State.rd_wr_ne _ _ (by simp [e]), State.rd_with_clk]
    unfold clearPst
    rw [foldN_set (fun s : State => s.rd r n) n 0 (fun k s => clearPst_step k n s hr), if_pos hn]
  · intro h2
    rw [h] at h2
    cases h2

/-- A clear of the PST counters that has taken effect leaves the counters of every axis at 0. -/
theorem edgesPass_pst (dt : Nat) (s : State) (h : s.clk.clrCnt = true) (h' : (edgesPass dt s).clk.clrCnt = false) {n : Nat} (hn : n < 8)
    {r : RegId} (hr : r = .pstCeMiss ∨ r = .pstMitMiss) : (edgesPass dt s).rd r n = 0 := by
  have e : r ≠ .mioPadsOn := by rcases hr with rfl | rfl <;> simp
  have h3 : (clocksMove dt s).clk.clrCnt = true := by
    show (s.clk.advance (ceEdges dt s)).clrCnt = true
    unfold ClkSt.advance
    split <;> exact h
  revert h'
  unfold edgesPass
  generalize clocksMove dt s = t at h3
  intro h'
  rw [foldN_inv (fun s : State => s.clk) 8 _ releaseDue_clk] at h'
  refine (foldN_inv (fun s : State => s.rd r n) 8 _ (fun k s => releaseDue_rd k s e n 0) _).trans ?_
  have hc (u : State) : (spmDue dt u).clk = u.clk := by unfold spmDue; split <;> rfl
  rw [hc] at h'
  have hs (u : State) : (spmDue dt u).rd r n = u.rd r n := by
    unfold spmDue
    split
    · show (((((u.clearRegs _).wr .spmEccCorr 0).wr .spmEccUnc 0).wr .spmCntClr 0).rd r n) = _
      rcases hr with rfl | rfl <;>
        rw [State.rd_wr_ne _ _ (by simp), State.rd_wr_ne _ _ (by simp), State.rd_wr_ne _ _ (by simp), State.rd_clearRegs,
          if_neg (by simp)]
    · rfl
  rw [hs]
  exact pstDue_pst _ _ h3 h' hn hr

theorem elapse_pst (dt : Nat) (s : State) (h : s.clk.clrCnt = true) (h' : (elapse dt s).clk.clrCnt = false) {n : Nat} (hn : n < 8)
    {r : RegId} (hr : r = .pstCeMiss ∨ r = .pstMitMiss) : (elapse dt s).rd r n = 0 := by
  rw [(elapse_works dt s).1] at h'
  rw [(elapse_works dt s).2 r n 0 (by rcases hr with rfl | rfl <;> rfl)]
  rw [← (noteReady_frame s).2] at h
  revert h h'
  generalize noteReady s = t
  exact fun h h' => edgesPass_pst dt t h h' hn hr

end Sys2Proof.Machine
end

