-- ==== Sys2Proof/Tests/Slice0.lean ====
section
/-! SUPPORT. Tests: ill-formed commands are refused, and worked examples of the spec and of published standards. -/

namespace Sys2Proof.Machine

set_option Elab.async false

/-! Ill-formed commands: one for each check of WellFormed. -/

theorem test_wf_tid : (Instr.ckgEnWrite 0 1024 0).wellFormed = false ∧ (Instr.ckgEnWrite 0 1023 0).wellFormed = true := by decide

theorem test_wf_slot : (Instr.lockSet 0 35).wellFormed = false ∧ (Instr.lockSet 0 34).wellFormed = true := by decide

theorem test_wf_register :
    (Instr.registerWrite 0 1 3 0x402 0 ⟨⟨true, 0, []⟩, 0, 0, false⟩).wellFormed = false ∧
    (Instr.registerWrite 0 1 3 0x10000 0 ⟨⟨true, 0, []⟩, 0, 0, false⟩).wellFormed = false ∧
    (Instr.registerWrite 0 1 35 0x400 0 ⟨⟨true, 0, []⟩, 0, 0, false⟩).wellFormed = false ∧
    (Instr.registerWrite 0 1 3 0x400 0 ⟨⟨true, 0, []⟩, 0, 0, false⟩).wellFormed = true := by decide

theorem test_wf_fabric_port : (⟨23, 1, 0, 4, none, []⟩ : FabIn).ok = false := by decide
theorem test_wf_fabric_tid : (⟨1, 1024, 0, 4, none, []⟩ : FabIn).ok = false := by decide
theorem test_wf_fabric_address : (⟨1, 1, 2 ^ 40, 4, none, []⟩ : FabIn).ok = false := by decide
theorem test_wf_fabric_length : (⟨1, 1, 0, 0, none, []⟩ : FabIn).ok = false ∧ (⟨1, 1, 0, 129, none, []⟩ : FabIn).ok = false := by decide
theorem test_wf_fabric_data : (⟨1, 1, 0, 4, some [1], []⟩ : FabIn).ok = false ∧ (⟨1, 1, 0, 1, some [1], []⟩ : FabIn).ok = true := by decide

theorem test_wf_fabric_rivals : (⟨1, 1, 0, 4, none, [23]⟩ : FabIn).ok = false ∧ (⟨1, 1, 0, 4, none, [22]⟩ : FabIn).ok = true := by decide

theorem test_wf_inbound :
    (⟨6, 0, false, [], 4, true, false⟩ : PciAcc).ok = false ∧ (⟨0, 0, false, [], 0, true, false⟩ : PciAcc).ok = false ∧
    (⟨0, 4094, false, [], 4, true, false⟩ : PciAcc).ok = false ∧ (⟨0, 0, true, [], 4, true, false⟩ : PciAcc).ok = false ∧
    (⟨0, 0, false, [], 4, true, false⟩ : PciAcc).ok = true := by decide

theorem test_wf_can :
    (⟨2 ^ 11, false, false, 0, false, false, false, []⟩ : CanFrame).ok = false ∧
    (⟨0, false, false, 16, false, false, false, []⟩ : CanFrame).ok = false ∧
    (⟨0, false, true, 0, true, false, false, []⟩ : CanFrame).ok = false ∧
    (⟨0, false, false, 2, false, false, false, [1]⟩ : CanFrame).ok = false ∧
    (⟨5, false, false, 1, false, false, false, [1]⟩ : CanFrame).ok = true := by decide

theorem test_wf_ethernet :
    (⟨2 ^ 48, 0, false, 0, 0, 0, []⟩ : EthFrame).ok = false ∧ (⟨0, 2 ^ 48, false, 0, 0, 0, []⟩ : EthFrame).ok = false ∧
    (⟨0, 0, false, 8, 0, 0, []⟩ : EthFrame).ok = false ∧ (⟨0, 0, false, 0, 4096, 0, []⟩ : EthFrame).ok = false ∧
    (⟨0, 0, false, 0, 0, 65536, []⟩ : EthFrame).ok = false := by decide

theorem test_wf_mitre_ops :
    (Instr.mitreModelLoad 0 0 0 ⟨0, 0, [⟨.conv2d, .cnv⟩]⟩ 10 0).wellFormed = false ∧
    (Instr.mitreModelLoad 0 0 0 ⟨0, 0, [⟨.conv2d, .array⟩]⟩ 10 0).wellFormed = true := by decide

theorem test_wf_flit : (Instr.dwlFlitReceive 0 0 [] 0).wellFormed = false := by decide
theorem test_wf_lanes : lanesOk (List.replicate 65 0) = false ∧ lanesOk [2 ^ 32] = false ∧ lanesOk [5] = true := by decide
theorem test_wf_descriptor : descOk (List.replicate 65 0) = false := by decide
theorem test_wf_va : vaOk (2 ^ 48) = false ∧ vaOk 5 = true := by decide
theorem test_wf_stamp : stampOk (.frame (2 ^ 32) 0) = false ∧ stampOk (.frame 0 1000000000) = false ∧ stampOk (.frame 5 5) = true := by decide
theorem test_wf_wcet : wcetOk (2 ^ 20) = false := by decide

/-! Worked examples. The source of each value is named. -/

/-- R28: at 64 kHz the first interval is 6,562 CECLK, and a pair lasts 13,125. -/
theorem test_base_ticks : baseTime 0 1 = 6562 ∧ baseTime 0 2 = 13125 ∧ baseTime 2 1 = 26250 := by decide

/-- Chapter 02, staggered axes: the AX7 tick of period 1 at phase 22,960, below the shortest period. -/
theorem test_staggered_axes : tickTime 2 0 22960 1 = 26250 + 22960 ∧ shortestPer 2 0 = 26250 := by decide

/-- Chapter 02, start-up qualification: the counts of the example are good, those outside 48,731 to 48,925 are not. -/
theorem test_qualification :
    [48840, 48836, 48842, 48839, 48731, 48925].all (qualOk .primary) = true ∧
    (qualOk .primary 48730 || qualOk .primary 48926) = false := by decide

/-- Chapter 03, a q-axis PI step on AX0. -/
theorem test_pi_step :
    mulQ 0x08000000 0x08000000 0 = 0x00800000 ∧ addW 0x40000000 0x00800000 = 0x40800000 ∧
    mulQ 0x40000000 0x08000000 2 = 0x10000000 := by decide

/-- Chapter 04, PWM edges of AX0: CMP is 8,203, and the ideal signal is high from 4,922 on. -/
theorem test_pwm_edges :
    pwmCmpOf 0x50000000 26250 = 8203 ∧ pwmIdeal 26250 8203 4921 = false ∧ pwmIdeal 26250 8203 4922 = true ∧
    pwmIdeal 26250 8203 21327 = true ∧ pwmIdeal 26250 8203 21328 = false := by decide

/-- Chapter 07, one block of the reference program. -/
theorem test_yarrow_block :
    let d : List DictEnt := [⟨[0x4E], 1⟩, ⟨[0x47, 0x30, 0x31], 0⟩, ⟨[0x58], 13⟩, ⟨[0x59], 13⟩, ⟨[0x46], 2⟩]
    let l := [0x4E, 0x31, 0x32, 0x30, 0x30, 0x20, 0x47, 0x30, 0x31, 0x20, 0x58, 0x31, 0x32, 0x2E, 0x33, 0x34, 0x35, 0x20, 0x59, 0x2D,
      0x37, 0x2E, 0x35, 0x20, 0x46, 0x32, 0x34, 0x30, 0x30, 0x2E, 0x20, 0x28, 0x52, 0x4F, 0x55, 0x47, 0x48, 0x29, 0x0A]
    ((tokenize false d l).map fun b => b.toks.map fun t => (t.code, t.value)) =
      [[(0x110, 1200), (0x111, 0), (0x112, 12345), (0x113, 0xFFFFE2B4), (0x114, 0x45160000), (0x102, 7), (0x100, 0)]] := by
  decide +kernel

/-- Chapter 08, a layer of the chatter model: column 5 converts 1,328, -1,320 and 5,000. -/
theorem test_quantization :
    let q := some (⟨0x40000000, 4, -3⟩ : Quant)
    ((outElt false 2 q none false 1328).1, (outElt false 2 q none false (-1320)).1, (outElt false 2 q none false 5000).1,
      (outElt false 2 q none false 5000).2.sat) = (0x27, 0xD4, 0x7F, true) := by decide +kernel

/-- Chapter 12, granting G0 to the collision context: the four words of the entry. -/
theorem test_clamp_entry :
    ClpEntry.make true true false 0x123 0x123 0x2000030100 0x2000030108 = ⟨0x048D2307, 0x00030100, 0x2020, 0x00030108, false, false⟩ :=
  by decide

/-- Chapter 00, reading an event record. -/
theorem test_event_record :
    (⟨76874, 500000000, Ev.bpuDoubleFree.code, 291, 5⟩ : EvRec).bytes =
      [0x4A, 0x2C, 1, 0, 0, 0, 0, 0x65, 0xCD, 0x1D, 0x01, 0x4B, 0x23, 0x01, 5, 0] := by decide

/-- Chapter 14, loading the collision model: C with Mitre slot 0 holding 10 banks. -/
theorem test_chip_capacity : chipCapacity ((State.reset.wr .mitState 2 0).wr .mitWbanks 10 0) = 32243712 := by decide

/-- FIPS 180-4: SHA-256 of "abc". -/
theorem test_sha256 : beNat (sha256 [0x61, 0x62, 0x63]) = 0xBA7816BF8F01CFEA414140DE5DAE2223B00361A396177A9CB410FF61F20015AD := by
  decide +kernel

/-- RFC 4493: AES-CMAC of the empty message. -/
theorem test_cmac :
    cmac [0x2B, 0x7E, 0x15, 0x16, 0x28, 0xAE, 0xD2, 0xA6, 0xAB, 0xF7, 0x15, 0x88, 0x09, 0xCF, 0x4F, 0x3C] [] =
      [0xBB, 0x1D, 0x69, 0x29, 0xE9, 0x59, 0x37, 0x28, 0x7F, 0xA3, 0x7D, 0x12, 0x9B, 0x75, 0x67, 0x46] := by decide +kernel

/-- CRC-32C of the digits 1 to 9 (RFC 3720's polynomial). -/
theorem test_crc32c : crc32c [0x31, 0x32, 0x33, 0x34, 0x35, 0x36, 0x37, 0x38, 0x39] = 0xE3069283 := by decide +kernel

/-- No command waits after reset, so a step idles. -/
theorem test_idle : step State.reset = .next State.reset := by rfl

end Sys2Proof.Machine
end

