-- ==== Sys2Proof/Tests/Witness.lean ====
section
/-! SUPPORT. Witnesses: for each statement with hypotheses, a state and operands that meet them, clause by clause. -/

namespace Sys2Proof.Machine

set_option Elab.async false

set_option maxRecDepth 4000
set_option linter.unusedVariables false

/-- A state with every domain and clock on, 31 of 32 GiB of DRAM mapped, and one entry in each firewall that admits every TID. -/
def testOpen : State :=
  foldN 12 (fun i s => s.setClp i [(0, .make true true false 0 1023 0 0xFFFFFFF000)])
    { (((State.reset.wr .pwrDomStat 0xFFFFFF).wr .ckgEnStat 0x1FFFFF).wr .ckgEn 0x1FFFFF).wr .memcUsableHi 7 with
      clk := { ClkSt.init with up := true } }

/-- The digest of an empty dictionary, and a state whose DRAM holds its image at address 0. -/
def testDigest : Nat := leNat ((sha256 (List.replicate 16 0)).take 8)

def testDict : State := testOpen.wrBytes 0 (leBytes 2 0x5941 ++ leBytes 2 1 ++ leBytes 4 0 ++ leBytes 8 testDigest)

/-- Core 0 runs a task of TID 24, and a descriptor of a 1 by 1 by 1 product in int8 without output. -/
def testCore : State := (testOpen.wr .tcState 1 0).wr .tcTid 24 0

def testArr : List Byte := leBytes 4 0x333 ++ List.replicate 28 0

/-- A 1 by 1 convolution in int8, and the state with its job running. -/
def testCnv : List Byte :=
  leBytes 1 0 ++ leBytes 1 0 ++ leBytes 2 24 ++ leBytes 2 0 ++ leBytes 2 1 ++ leBytes 2 0 ++ leBytes 2 1 ++ leBytes 4 0x1000000 ++
    leBytes 2 128 ++ leBytes 2 128 ++ leBytes 4 0x1001000 ++ List.replicate 8 0 ++
    leBytes 1 0x11 ++ leBytes 1 0 ++ leBytes 1 0x33 ++ leBytes 1 0x03 ++ leBytes 2 1 ++ leBytes 2 1 ++ leBytes 2 1 ++ leBytes 2 1 ++
    leBytes 2 0 ++ leBytes 1 2 ++ leBytes 5 0 ++ leBytes 4 0x1002000 ++ leBytes 8 0

def testCnvTime : Nat := (cnvJob testCnv).time false

def testCnvState : State :=
  { testOpen.setCnv 0 { CnvSt.init with job := some testCnv, run := { CnvRun.init with row := 1 } } with now := testCnvTime * 8 }

/-- Engine 0 of the embeddings is enabled, with a descriptor of a gather of TID 1 in its ring. -/
def testEmb : State := ((testOpen.wr .embEn 1 0).wr .embQTail 1 0).wrBytes 0 (leBytes 1 1 ++ leBytes 1 0 ++ leBytes 2 1)

/-- An update of engine 0 with one row left in DRAM at address 0, one fp32 value and no optimizer state; and the same with a full lock
table. -/
def testRow : EmbRun :=
  ⟨leBytes 1 2 ++ leBytes 1 0 ++ leBytes 2 1, List.replicate 128 0, 2, [⟨0, 0, [0], []⟩], 0, 0, 0, 0, 0, none⟩

def testPieces : List (Nat × Nat) := [(0, (embTbl (List.replicate 128 0)).rowLen)]

def testUpd : State := testOpen.setEmb 0 (some testRow)

def testUpdHeld : State :=
  { testUpd with comp := { testUpd.comp with locks := List.replicate 128 ⟨1, 1, 64, [(64, 1)], []⟩ } }

/-- A job of the host waits, with its descriptor at address 64 of DRAM and an empty text. -/
def testHostJob : State :=
  let s := (testOpen.wr .yarDictValid 1 0).setOb .hostJobs 0
  { s with comp := { CompSt.init with look := { LookSt.init with jobs := [⟨2, 64, true, none⟩] } } }

/-- Slot 0 is resident with core 0 and one LS bank for TID 24, and channel 0 holds one descriptor with word 0 = w. -/
def testCtx (w : Nat) : State :=
  ((((((State.reset.wr .ctxTid 24 0).wr .ctxCoresLo 1 0).wr .ctxLsNb 1 0).wr .ctxState 2 0).wr .chEn 1 0).wr .chTail 1 0).wr
    .taskRing w 0 0

/-- The same with the clocks running, 32 TCLK after the task became ready. -/
def testReady (w : Nat) : State :=
  { (testCtx w).wr .ckgEnStat 8 with now := 256, clk := { ClkSt.init with up := true },
                                     sch := { SchSt.init with ch := [(0, ⟨[], some 0, 0⟩)] } }

/-- One request from PCIe waits. -/
def testOd (op : OdOp) (idx sub : Nat) : State :=
  { State.reset with od := { OdSt.init with queue := [⟨.pcie 1 2, op, idx, sub⟩] } }

/-- CAN controllers with power and clock, on the bus. -/
def testCan : State := (((State.reset.wr .pwrDomStat 0xFFFFFF).wr .ckgEnStat 0x1FFFFF).wr .canInitAck 0 0).wr .canInitAck 0 1

/-- The CANopen node runs in a given NMT state; a classical frame f, if there is one, is the element of Q0. -/
def testNode (nmt : Nat) (f : Option CanFrame) : State :=
  let s := { testCan with can := { testCan.can with node := { NodeSt.init with up := true, boot := true, nmt := nmt } } }
  match f with
  | none => s
  | some f =>
    ((canPut 0 (qWord 0 0) ([f.id, f.dlc, 0, 0, leNat (f.data.take 4), leNat (f.data.drop 4)]) s).wr .canQ0Fill 1 0).wr .canQ0Wr 1 0

/-- MAC 0 runs with its link up at 1 Gbit/s, and the runtime serves it. -/
def testNet : State :=
  let s := (((((State.reset.wr .pwrDomStat 0xFFFFFF).wr .ckgEnStat 0x1FFFFF).wr .ethEn 1 0).wr .ethLink 1 0).wr .ethSpeed 1 0).wr
    .gptpEn 1
  { s.wr .hostDictReady 1 with boot := { s.boot with p120 := true } }

/-- A datagram of session 7 that carries opcode `op`, and the state in which it waits. -/
def testVdp (op flags : Nat) (pay : List Byte) : VdpIn :=
  ⟨0, 5, 6, 1000, leBytes 2 0x5644 ++ leBytes 1 1 ++ leBytes 1 op ++ leBytes 4 1 ++ leBytes 4 7 ++ leBytes 2 pay.length ++
    leBytes 1 0 ++ leBytes 1 flags ++ pay⟩

def testVdpIn (op flags : Nat) (pay : List Byte) : State :=
  { testNet with eth := { EthSt.init with vdpIn := [testVdp op flags pay] } }

/-- Channel 0 belongs to session 1. -/
def testChan (y : VdpChan) : State :=
  { testNet with eth := { EthSt.init with sess := [⟨1, 0, 5, 6, 1000, 7, 1, [], 0, none⟩], chan := [(0, some y)] } }

/-- A record for slot 0 that arms axis 0, with counter c and a given check; and the state with the key of slot 0 in which it
waits. -/
def testRec (c : Nat) (check : List Byte) : List Byte := [0x10, 0x2A, 1, 0] ++ leBytes 4 c ++ check ++ [1]

def testKey : Tab (List Nat) := [(0, List.replicate 16 3)]

def testCheck (c : Nat) : List Byte :=
  authCheck { State.reset with od := { OdSt.init with key := testKey } } (testRec c (List.replicate 8 0))

def testRecord (c : Nat) : List Byte := testRec c (testCheck c)

def testReq (c : Nat) : OdReq := ⟨.pcie 1 2, .write (testRecord c), 0x3801, 1⟩

def testSlot (c : Nat) : State :=
  { ((State.reset.wr .crySlotState 1 0).wr .crySlotType 1 0).wr .crySlotMask 1 0 with
    od := { OdSt.init with key := testKey, queue := [testReq c] } }

/-- The link is up and READY, the host may access memory, and the runtime serves it. -/
def testHost : State :=
  let s := ((((testNet.wr .pcieUp 1).wr .pcieReady 1).wr .hostEn 1).wr .pcieBme 1)
  { s with host := { HostSt.init with perst := false, cmd := 6 }, can := { s.can with node := { NodeSt.init with up := true, boot := true } } }

/-- Queue pair q of TID 30 runs a command. -/
def testQp (q op : Nat) (param : List Byte) : State :=
  testHost.setQp q { Qp.init with live := true, tid := 30, cur := some ⟨op, 5, 0, 0, padTo 48 param⟩ }

/-- A mol_prefetch of one page that lies with the host, and what its batch does. -/
def testPages : List PageMove := [⟨4096, 4096, 256, 0x800000000, 8192, []⟩]

def testMoveAt : State := (testQp 3 0x20 [6]).wrBytes 256 (leBytes 8 0x800000001)

def testMove : List PageJob := testPages.map fun p => ⟨p, .move, [(256, 0x800000001)]⟩

/-- Queue pair 3 runs a mol_prefetch, and a task is queued for its model, of a TID without an address space of its own. -/
def testKill : State :=
  let s := (testQp 3 0x20 [6]).wr .chTail 1 0
  { s with host := { s.host with models := [⟨3, 0, 0, 1, [], false⟩] } }

/-- Port 0 of the Dowel link is up for Assembly use, in the role given, and one message waits. -/
def testDwl (role : Nat) (l : List DwlMsg) : State :=
  let s := (((((State.reset.wr .pwrDomStat 0xFFFFFF).wr .ckgEnStat 0x1FFFFF).wr .dwlPortState 2 0).wr .dwlPortUse 1 0).wr .dwlPortEn 1 0).wr
    .asmRole role
  { s with dwl := { DwlSt.init with msgs := l } }

/-- Node 1 may read segment 0 with TID 24, with DRAM behind it, and one message waits. -/
def testSeg (l : List DwlMsg) : State :=
  let s := (((((testOpen.wr .dwlPortState 2 0).wr .dwlPortUse 1 0).wr .dwlPortEn 1 0).wr .inbEn 1 0).wr .inbSrcMask 2 0).wr .inbTid 24 0
  { s with dwl := { DwlSt.init with msgs := l } }

/-- The state without the first message of a type. -/
def testRest (typ : Nat) (rsp : Bool) (s : State) : State :=
  ((takeMsg (fun m => m.typ == typ && m.rsp == rsp) s).map Prod.snd).getD s

/-- An IDLE flit that answers nothing. -/
def testFlit : List Byte :=
  let l := List.replicate 60 (0 : Byte)
  l ++ leBytes 4 (crc32c (l.map (·.toNat)))

/-- A shadow of a pair, and an active device (role 1). -/
def testPair (role : Nat) : State :=
  let s := (testDwl 0 []).wr .pairRole role
  { s with pair := { PairSt.init with on := true, failHigh := true }, clk := { ClkSt.init with up := true } }

/-- READY, with the fans supervised. -/
def testPwr : State :=
  let s := (testNet.wr .pwrState 3).wr .fanEn 1 0
  { s with boot := { s.boot with p120 := true, run := true } }

/-- The end of an ALIVE window well after T0, at a shadow that has counted n empty windows. -/
def testWindow (n : Nat) : State :=
  let s := testPair 2
  { s with now := windowEnd 2 4000 * rootPerCe, pair := { s.pair with empty := n } }

/-- An empty bundle in plaintext. -/
def testBundle : List Byte :=
  leBytes 4 0x54424E52 ++ leBytes 2 1 ++ leBytes 6 255 ++ List.replicate 28 0 ++ sha256 [] ++ sha256 [] ++ List.replicate 152 0

/-- The domains and clocks are on, and start-up stands where b says. -/
def testBoot (b : BootSt) : State :=
  { (State.reset.wr .pwrDomStat 0xFFFFFF).wr .ckgEnStat 0x1FFFFF with clk := { ClkSt.init with up := true }, boot := b }

/-- The same at a point of the timeline. -/
def testAt (ms : Nat) (b : BootSt) : State := { testBoot b with now := lsxEdge (ms * rootPerMs) }

/-- The boot mailbox is open, with a first chunk of 4 bytes. -/
def testMb : State := ((testBoot { BootSt.init with run := true, src := 1 }).wr .pcieReady 1).wr .mbLen 4

theorem test_meets_ReferenceQualification :
    (let dt : Nat := 0; let reg : Bool := false; let s : State := { State.reset with clk := { ClkSt.init with t0 := 0 }, boot := { BootSt.init with run := true }, now := 2 * rootPerMs }; let u : State := elapse dt s
     (startingUp u = true) ∧
     (u.clk.qual = .idle) ∧
     (u.now = u.clk.t0 + 2 * rootPerMs)) ∧
    (let dt : Nat := 0; let count : Nat := 48800; let s : State := { State.reset with clk := { ClkSt.init with qual := .primary, qualGood := 3 } }; let u : State := elapse dt s; let a : QualAttempt := .primary
     (u.clk.qual = a) ∧
     (a = .primary ∨ a = .fallback) ∧
     (qualOk a count = true) ∧
     (u.clk.qualGood = 3) ∧
     (u.now ≤ u.clk.qualEnd)) ∧
    (let dt : Nat := 0; let count : Nat := 0; let s : State := { State.reset with now := 840, clk := { ClkSt.init with qual := .primary } }; let u : State := elapse dt s; let g : Nat := 0
     (u.clk.qual = .primary) ∧
     (g = (if qualOk .primary count then u.clk.qualGood + 1 else 0)) ∧
     (u.clk.qualEnd < u.now + (4 - g) * (u.now - u.clk.winFrom))) ∧
    (let dt : Nat := 0; let count : Nat := 0; let s : State := { State.reset with now := 840, clk := { ClkSt.init with qual := .fallback } }; let u : State := elapse dt s; let g : Nat := 0
     (u.clk.qual = .fallback) ∧
     (g = (if qualOk .fallback count then u.clk.qualGood + 1 else 0)) ∧
     (u.clk.qualEnd < u.now + (4 - g) * (u.now - u.clk.winFrom))) ∧
    (let dt : Nat := 0; let count : Nat := 0; let s : State := { State.reset with clk := { ClkSt.init with qual := .primary, qualEnd := 10 * rootPerMs } }; let u : State := elapse dt s; let a : QualAttempt := .primary; let g : Nat := 0
     (u.clk.qual = a) ∧
     (a = .primary ∨ a = .fallback) ∧
     (g = (if qualOk a count then u.clk.qualGood + 1 else 0)) ∧
     (g ≠ 4) ∧
     (u.now + (4 - g) * (u.now - u.clk.winFrom) ≤ u.clk.qualEnd)) ∧
    (let dt : Nat := 0; let s : State := { State.reset with clk := { ClkSt.init with qual := .waiting } }; let u : State := elapse dt s
     (u.clk.qual = .waiting) ∧
     (u.now = u.clk.qualEnd)) ∧
    (let dt : Nat := 0; let s : State := { State.reset with clk := { ClkSt.init with lsxOk := true } }; let u : State := elapse dt s
     (u.clk.lsxOk = true)) :=
  by and_intros <;> decide +kernel

theorem test_meets_PllLockAndMonitor :
    (let dt : Nat := 0; let s : State := { State.reset with clk := { ClkSt.init with qual := .passed }, boot := { BootSt.init with run := true } }; let u : State := elapse dt s
     (u.clk.qual = .passed) ∧
     (u.clk.up = false) ∧
     (u.boot.run = true) ∧
     (u.pwr.waking = false)) ∧
    (let dt : Nat := 0; let s : State := { State.reset with clk := { ClkSt.init with qual := .passed }, boot := { BootSt.init with run := true }, pwr := { PwrSt.init with waking := true } }; let u : State := elapse dt s
     (u.clk.qual = .passed) ∧
     (u.clk.up = false) ∧
     (u.boot.run = true) ∧
     (u.pwr.waking = true)) ∧
    (let dt : Nat := 0; let s : State := { State.reset.wr .pwrDomStat 3 with clk := { ClkSt.init with up := true } }; let u : State := elapse dt s; let l : LogSt := { LogSt.init with run := true }
     (u.log.run = false) ∧
     (u.clk.up = true) ∧
     (u.domOn 1 = true) ∧
     (l = (heldSorted u.log.held).foldl (fun l r => l.enterAll r) { u.log with run := true, held := [] })) ∧
    (let dt : Nat := 0; let count : Nat := 21074; let s : State := { State.reset.wr .pwrDomStat 3 with clk := { ClkSt.init with up := true } }; let u : State := elapse dt s
     (u.clk.up = true) ∧
     (u.domOn 1 = true) ∧
     ((21074 ≤ count ∧ count ≤ 21934) ∨ u.clk.monBad = false)) ∧
    (let dt : Nat := 0; let count : Nat := 21935; let s : State := { State.reset.wr .pwrDomStat 3 with clk := { ClkSt.init with up := true, monBad := true } }; let u : State := elapse dt s
     (u.clk.up = true) ∧
     (u.domOn 1 = true) ∧
     (count < 21074 ∨ 21934 < count) ∧
     (u.clk.monBad = true)) ∧
    (let dt : Nat := 0; let s : State := { State.reset.wr .pwrDomStat 3 with clk := { ClkSt.init with up := true } }; let u : State := elapse dt s
     (u.clk.up = true) ∧
     (u.domOn 1 = true)) :=
  by and_intros <;> decide +kernel

theorem test_meets_ClockGatingAndMeter :
    (let dt : Nat := 0; let tid : Nat := 0; let v : Word := 0x1FFFFF; let s : State := State.reset; let u : State := elapse dt s
     (∀ b : Nat, b < 21 → bitOf v.toNat b = false → gateHeld u b = false)) ∧
    (let dt : Nat := 0; let tid : Nat := 0; let v : Word := 0; let s : State := State.reset.setAx 2 { CeAxis.init with run := true }; let u : State := elapse dt s; let held : List Nat := [0, 1]
     (held = whichOf 21 (fun b => !(bitOf v.toNat b) && gateHeld u b)) ∧
     (held ≠ [])) ∧
    (let dt : Nat := 0; let bit : Fin 21 := 0; let s : State := State.reset.wr .ckgEnStat 1; let u : State := elapse dt s
     (u.clockOn bit = true) ∧
     (u.rdBit .ckgEn bit = false) ∧
     (blockWaits u bit = false)) ∧
    (let dt : Nat := 0; let tid : Nat := 0; let v : Word := 0x1100; let s : State := { State.reset with clk := { ClkSt.init with fmtr := some ⟨0, 0, 0, 0, 1⟩ } }; let u : State := elapse dt s
     (bitOf v.toNat 8 = true) ∧
     (u.clk.fmtr ≠ none)) ∧
    (let dt : Nat := 0; let tid : Nat := 0; let v : Word := 0x1000; let s : State := State.reset; let u : State := elapse dt s; let t : State := State.reset.wr .fmtrNref 1
     (bitsOf v.toNat 12 20 ≠ 0) ∧
     (bitOf v.toNat 8 = false ∨ u.clk.fmtr = none) ∧
     (t = (((((u.wr .fmtrSrc v.toNat).wr .fmtrRef (bitsOf v.toNat 4 1)).wr .fmtrPre (bitsOf v.toNat 5 3)).wr .fmtrPort (bitsOf v.toNat 10 2)).wr
         .fmtrNref (bitsOf v.toNat 12 20)))) ∧
    (let dt : Nat := 0; let tid : Nat := 0; let v : Word := 0; let s : State := State.reset; let u : State := elapse dt s; let t : State := raise .clkCfgReject 0 0x020 State.reset
     (bitsOf v.toNat 12 20 = 0) ∧
     (bitOf v.toNat 8 = false ∨ u.clk.fmtr = none) ∧
     (t = raise .clkCfgReject tid 0x020 ((((u.wr .fmtrSrc v.toNat).wr .fmtrRef (bitsOf v.toNat 4 1)).wr .fmtrPre (bitsOf v.toNat 5 3)).wr .fmtrPort (bitsOf v.toNat 10 2)))) ∧
    (let dt : Nat := 0; let edges : Nat := 10; let s : State := { State.reset with clk := { ClkSt.init with fmtr := some ⟨0, 0, 0, 0, 1⟩ }, now := 336 }; let u : State := elapse dt s; let r : FmtrRun := ⟨0, 0, 0, 0, 1⟩
     (u.clk.fmtr = some r) ∧
     (r.start + r.nref * (if r.ref = 0 then 336 else 420) ≤ u.now) ∧
     (edges / 2 ^ r.pre * (if r.ref = 0 then 25000000 else 20000000) ≤ 525000000 * r.nref)) ∧
    (let dt : Nat := 0; let edges : Nat := 22; let s : State := { State.reset with clk := { ClkSt.init with fmtr := some ⟨0, 0, 0, 0, 1⟩ }, now := 336 }; let u : State := elapse dt s; let r : FmtrRun := ⟨0, 0, 0, 0, 1⟩
     (u.clk.fmtr = some r) ∧
     (r.start + r.nref * (if r.ref = 0 then 336 else 420) ≤ u.now) ∧
     (525000000 * r.nref < edges / 2 ^ r.pre * (if r.ref = 0 then 25000000 else 20000000))) :=
  by and_intros <;> decide +kernel

theorem test_meets_DeviceTime :
    (let dt : Nat := 0; let v : Word := 3; let s : State := State.reset; let u : State := elapse dt s; let t : State := State.reset.wr .dtimeIncInt 3
     (t = u.wr .dtimeIncInt v.toNat)) ∧
    (let dt : Nat := 0; let tid : Nat := 0; let v : Word := 5; let s : State := State.reset; let u : State := elapse dt s
     (-1000000000 < s32 v.toNat) ∧
     (s32 v.toNat < 1000000000)) ∧
    (let dt : Nat := 0; let tid : Nat := 0; let v : Word := 0x3B9ACA00; let s : State := State.reset; let u : State := elapse dt s
     (s32 v.toNat ≤ -1000000000 ∨ 1000000000 ≤ s32 v.toNat)) :=
  by and_intros <;> decide +kernel

theorem test_meets_EpochAndGrid :
    (let dt : Nat := 0; let tid : Nat := 0; let v : Word := 0x80000000; let s : State := State.reset; let u : State := elapse dt s; let t : State := (State.reset.wr .epochSecHi 0).wr .epochArm 1
     (bitOf v.toNat 31 = true) ∧
     (u.anyEnabled = false) ∧
     (t = (u.wr .epochSecHi v.toNat).wr .epochArm 1)) ∧
    (let dt : Nat := 0; let tid : Nat := 0; let v : Word := 0x80000000; let s : State := State.reset.setAx 2 { CeAxis.init with run := true }; let u : State := elapse dt s
     (bitOf v.toNat 31 = true) ∧
     (u.anyEnabled = true)) ∧
    (let dt : Nat := 0; let tid : Nat := 0; let v : Word := 0; let s : State := State.reset; let u : State := elapse dt s
     (bitOf v.toNat 31 = false)) ∧
    (let dt : Nat := 0; let s : State := { State.reset with now := 840, clk := { ClkSt.init with epochTgt := some 0, up := true } }; let u : State := elapse dt s; let t : Nat := 0
     (u.clk.epochTgt = some t) ∧
     (u.onCoin = true) ∧
     (u.clk.armedAt < u.now) ∧
     (t ≤ u.clk.sec * 1000000000 + u.clk.ns) ∧
     (u.now ≤ u.clk.armedAt + rootPerCoin ∨ u.clk.coinTot / dtUnit < t)) ∧
    (let dt : Nat := 0; let tid : Nat := 0; let v : Word := 1; let s : State := State.reset; let u : State := elapse dt s
     (u.anyEnabled = false) ∧
     (∀ n : Nat, n < 8 → u.armed n = false) ∧
     (phasesFit u (v.toNat % 4) = true)) ∧
    (let dt : Nat := 0; let s : State := { State.reset with now := 840, clk := { ClkSt.init with basePend := some 0, up := true } }; let u : State := elapse dt s; let t : Nat := 0
     (u.clk.basePend = some t) ∧
     (u.onCoin = true) ∧
     (t < u.now) ∧
     (u.now ≤ t + rootPerCoin)) ∧
    (let dt : Nat := 0; let tid : Nat := 0; let n : Fin 8 := 0; let v : Word := 1; let s : State := State.reset; let u : State := elapse dt s; let t : State := State.reset.wr .axTbPer 1 0
     (u.enabled n = false) ∧
     (u.armed n = false) ∧
     (v.toNat % 4 ≠ 3) ∧
     (t = u.wr .axTbPer (v.toNat % 4) n) ∧
     (bitsOf v.toNat 8 18 < shortestPer (t.rd .tbBase) (t.rd .axTbPer n))) ∧
    (let dt : Nat := 0; let tid : Nat := 0; let n : Fin 8 := 0; let v : Word := 0; let s : State := State.reset.setAx 0 { CeAxis.init with run := true }; let u : State := elapse dt s
     (u.enabled n = true ∨ u.armed n = true)) :=
  by and_intros <;> decide +kernel

theorem test_meets_AxisPeriodPoints :
    (let dt : Nat := 0; let n : Fin 8 := 0; let sd : List (List (Option Bool)) := []; let s : State := { (State.reset.wr .pwrDomStat 4).wr .ckgEnStat 3 with clk := { ClkSt.init with up := true } }; let u : State := elapse dt s; let i : Nat := 0; let per : Nat := periodLen u n i; let t : State := tickTakeover n (enableTick n per (carryHb n u))
     (u.tickNow n = some i)) ∧
    (let dt : Nat := 0; let n : Fin 8 := 0; let s : State := { (State.reset.wr .ckgEnStat 2).setAx 0 { CeAxis.init with delivered := false } with now := 7060, clk := { ClkSt.init with up := true } }; let u : State := elapse dt s
     (u.onCeEdge = true) ∧
     (u.mioOn = true) ∧
     ((u.ax n).delivered = false) ∧
     (u.now = (u.ax n).tickAt + 353 * rootPerCe)) ∧
    (let dt : Nat := 0; let n : Fin 8 := 0; let s : State := { State.reset.setAx 0 { CeAxis.init with open_ := true, per := 6562, run := true } with now := 114440, clk := { ClkSt.init with up := true } }; let u : State := elapse dt s
     (atCommit u n = true) ∧
     ((u.ax n).lat = none) ∧
     ((u.ax n).run = true) ∧
     ((u.ax n).stopped = false)) ∧
    (let dt : Nat := 0; let n : Fin 8 := 0; let s : State := { State.reset.setAx 0 { CeAxis.init with open_ := true, per := 6562 } with now := 114440, clk := { ClkSt.init with up := true } }; let u : State := elapse dt s
     (atCommit u n = true) ∧
     ((u.ax n).lat = none) ∧
     ((u.ax n).run = false)) ∧
    (let dt : Nat := 0; let n : Fin 8 := 0; let ecc : Bool := false; let s : State := { State.reset.setAx 0 { CeAxis.init with lat := some ⟨[], Samples.init, 0, 0, 0, 0, 0, 0, 0, 0⟩, per := 840 } with clk := { ClkSt.init with up := true } }; let u : State := elapse dt s; let l : CeLat := ⟨[], Samples.init, 0, 0, 0, 0, 0, 0, 0, 0⟩
     ((u.ax n).lat = some l) ∧
     (issueDue u n = true)) ∧
    (let dt : Nat := 0; let n : Fin 8 := 0; let s : State := { State.reset.setAx 0 { CeAxis.init with issuedAt := some 0, lat := some ⟨[], Samples.init, 0, 0, 0, 0, 0, 0, 0, 0⟩ } with now := 5040 }; let u : State := elapse dt s; let b : Nat := 0; let l : CeLat := ⟨[], Samples.init, 0, 0, 0, 0, 0, 0, 0, 0⟩; let a : CeAxis := u.ax n
     (a.issuedAt = some b) ∧
     (a.lat = some l) ∧
     (u.now = b + 252 * rootPerCe)) ∧
    (let dt : Nat := 0; let s : State := { (State.reset.wr .pwrDomStat 4).wr .ckgEnStat 1 with clk := { ClkSt.init with up := true } }; let u : State := elapse dt s; let j : Nat := 0
     (u.baseNow = some j) ∧
     (u.loop.baseTick ≤ j) ∧
     (u.pair.on = false)) ∧
    (let dt : Nat := 0; let s : State := { (State.reset.wr .pwrDomStat 4).wr .ckgEnStat 1 with clk := { ClkSt.init with up := true }, pair := { PairSt.init with on := true } }; let u : State := elapse dt s; let j : Nat := 0; let t : State := { u with loop := { u.loop with baseTick := j + 1, alive := if u.pin.aliveOn then !u.loop.alive else u.loop.alive } }.bump .pairMirrorAge 1
     (u.baseNow = some j) ∧
     (u.loop.baseTick ≤ j) ∧
     (u.pair.on = true)) :=
  by and_intros <;> decide +kernel

theorem test_meets_EndOfPeriod :
    (let dt : Nat := 0; let n : Fin 8 := 0; let f : CeFaultIn := .none; let s : State := { State.reset.setAx 0 { CeAxis.init with open_ := true, ranAtTick := true, ceT := some 0, per := 1 } with now := 20, clk := { ClkSt.init with up := true } }; let u : State := elapse dt s; let a : CeAxis := u.ax n; let m : MitSlot := u.slot n; let t : State := keepPst n (u.setAx n { a with open_ := false })
     (atPeriodEnd u n = true) ∧
     (a.ranAtTick = true) ∧
     (a.stopped = false ∨ u.now ≤ a.stopAt)) ∧
    (let dt : Nat := 0; let n : Fin 8 := 0; let f : CeFaultIn := .none; let s : State := { State.reset.setAx 0 { CeAxis.init with open_ := true } with clk := { ClkSt.init with up := true } }; let u : State := elapse dt s; let a : CeAxis := u.ax n; let m : MitSlot := u.slot n; let t : State := keepPst n (u.setAx n { a with open_ := false })
     (atPeriodEnd u n = true) ∧
     (a.ranAtTick = false)) ∧
    (let dt : Nat := 0; let n : Fin 8 := 0; let f : CeFaultIn := .none; let s : State := { State.reset.setAx 0 { CeAxis.init with open_ := true, ranAtTick := true, stopped := true, per := 1 } with now := 20, clk := { ClkSt.init with up := true } }; let u : State := elapse dt s; let a : CeAxis := u.ax n; let m : MitSlot := u.slot n; let t : State := keepPst n (u.setAx n { a with open_ := false })
     (atPeriodEnd u n = true) ∧
     (a.ranAtTick = true) ∧
     (a.stopped = true) ∧
     (a.stopAt < u.now)) :=
  by and_intros <;> decide +kernel

theorem test_meets_AxisControlWrites :
    (let dt : Nat := 0; let tid : Nat := 0; let n : Fin 8 := 0; let s : State := (State.reset.wr .safArmed 255).wr .pairRole 0; let u : State := elapse dt s
     (enableOk u n = true)) ∧
    (let dt : Nat := 0; let tid : Nat := 0; let n : Fin 8 := 0; let s : State := State.reset; let u : State := elapse dt s
     (enableOk u n = false)) ∧
    (let dt : Nat := 0; let tid : Nat := 0; let n : Fin 8 := 0; let v : Word := 0x10302; let s : State := State.reset; let u : State := elapse dt s; let w : Nat := 0x10302; let t : State := ((((((State.reset.wr .axMode 1 0).wr .axSpsrc 0 0).wr .axI3 0 0).wr .axNs 3 0).wr .axNp 0 0).wr .axAnaCh 1 0)
     (w = v.toNat) ∧
     (u.rd .ceLock = 0) ∧
     (srcAllowed (bitsOf w 1 2) (bitsOf w 4 2) = true) ∧
     (bitsOf w 4 2 ≠ 2 ∨ u.enabled n = false ∨ u.rd .axAnaEn n = 1) ∧
     (bitOf w 0 = true → enableOk u n = true) ∧
     (t = (((((u.wr .axMode (bitsOf w 1 2) n).wr .axSpsrc (bitsOf w 4 2) n).wr .axI3 (bitsOf w 6 1) n).wr .axNs (bitsOf w 8 4) n).wr .axNp (bitsOf w 12 4) n).wr .axAnaCh (bitsOf w 16 3) n)) ∧
    (let dt : Nat := 0; let tid : Nat := 0; let n : Fin 8 := 0; let v : Word := 0x30; let s : State := State.reset; let u : State := elapse dt s; let w : Nat := 0x30; let t : State := State.reset
     (w = v.toNat) ∧
     (u.rd .ceLock = 0) ∧
     (srcAllowed (bitsOf w 1 2) (bitsOf w 4 2) = false) ∧
     (bitOf w 0 = false) ∧
     (t = (((u.wr .axI3 (bitsOf w 6 1) n).wr .axNs (bitsOf w 8 4) n).wr .axNp (bitsOf w 12 4) n).wr .axAnaCh (bitsOf w 16 3) n)) ∧
    (let dt : Nat := 0; let g : Fin 16 := 0; let s : State := { State.reset with comp := { State.reset.comp with look := { State.reset.comp.look with held := false } } }; let u : State := elapse dt s; let sec : Nat := 1; let ns : Nat := 2
     (u.comp.look.held = false)) ∧
    (let dt : Nat := 0; let g : Fin 16 := 0; let s : State := { State.reset with comp := { State.reset.comp with look := { State.reset.comp.look with held := true } } }; let u : State := elapse dt s; let sec : Nat := 1; let ns : Nat := 2
     (u.comp.look.held = true)) :=
  by and_intros <;> decide +kernel

theorem test_meets_TripsAndEstop :
    (let dt : Nat := 0; let ch : Fin 24 := 0; let bits : List Bool := List.replicate 8 true; let s : State := { ((((((State.reset.wr .sdEn 1 0).wr .sdOcEn 1 0).wr .sdOcCnt 0 0).wr .sdOcOsr 0 0).wr .sdOcHi 0x10000000 0).wr .ckgEnStat 2).wr .sdClkEn 1 with now := 8400, clk := { ClkSt.init with up := true } }; let u : State := elapse dt s; let vs : List Int := ocOf u ch bits
     (sdClkEdge u (u.rd .sdClksel ch) = true) ∧
     (u.rd .sdEn ch = 1) ∧
     (u.rd .sdOcEn ch = 1) ∧
     (u.rdBit .mioOc (ch / 3) = false ∨ (u.sdOf ch).tripped = false) ∧
     (u.rd .sdOcCnt ch + 1 ≤ ocRun (u.rdS .sdOcHi ch) (u.rdS .sdOcLo ch) vs)) ∧
    (let dt : Nat := 0; let v : Word := 0x10000; let estopN : Bool := true; let tripN : BitVec 8 := 0xFF; let oc : List (List Bool) := []; let s : State := State.reset; let u : State := elapse dt s; let t : State := (State.reset.wr .mioTripInN 255).wr .mioEstopInN 1
     (tripN = 0xFF) ∧
     (estopN = true) ∧
     (∀ n : Nat, n < 8 → ocWithin u oc n = true) ∧
     (bitOf v.toNat 16 = true) ∧
     (t = { (u.wr .mioTripInN 255).wr .mioEstopInN 1 with pin := { u.pin with estopN := true, tripN := 255 } })) ∧
    (let dt : Nat := 0; let v : Word := 0; let estopN : Bool := false; let tripN : BitVec 8 := 0; let oc : List (List Bool) := List.replicate 24 (List.replicate 8 true); let s : State := { (foldN 24 (fun ch s => ((((s.wr .sdEn 1 ch).wr .sdOcEn 1 ch).wr .sdOcCnt 0 ch).wr .sdOcOsr 0 ch).wr .sdOcHi 0x10000000 ch) ((State.reset.wr .ckgEnStat 2).wr .sdClkEn 15)) with now := 8400, clk := { ClkSt.init with up := true } }; let u : State := elapse dt s
     (estopN = false) ∧
     (tripN = 0) ∧
     (∀ n : Nat, n < 8 → ocWithin u oc n = false)) :=
  by and_intros <;> decide +kernel

theorem test_meets_EncodersAndPulses :
    (let dt : Nat := 0; let p : Fin 8 := 0; let held : Nat := 99; let s : State := (State.reset.wr .encMode 1 0).wr .ckgEnStat 2; let u : State := elapse dt s; let a : Bool := true; let b : Bool := false; let e : EncPort := u.encOf p; let d : Int := (if u.rd .encDir p = 1 then -quadStep e.a e.b a b else quadStep e.a e.b a b)
     (u.mioOn = true) ∧
     (u.rd .encFilt p + 1 ≤ held) ∧
     (u.rd .encMode p = 1) ∧
     (e.a = a ∨ e.b = b)) ∧
    (let dt : Nat := 0; let p : Fin 8 := 0; let held : Nat := 99; let s : State := (State.reset.wr .encMode 1 0).wr .ckgEnStat 2; let u : State := elapse dt s; let a : Bool := true; let b : Bool := true; let e : EncPort := u.encOf p
     (u.mioOn = true) ∧
     (u.rd .encFilt p + 1 ≤ held) ∧
     (u.rd .encMode p = 1) ∧
     (e.a ≠ a) ∧
     (e.b ≠ b)) ∧
    (let dt : Nat := 0; let s : State := ((State.reset.wr .encMode 1 0).wr .encZmode 2 0).wr .ckgEnStat 2; let u : State := elapse dt s; let p : Fin 8 := 0; let held : Nat := 99; let z : Nat := u.rd .encZmode p; let t : State := u.wr .encZpos (u.rd .encPos p) p
     (u.mioOn = true) ∧
     (u.rd .encFilt p + 1 ≤ held) ∧
     (u.rd .encMode p = 1) ∧
     (z ≠ 0)) ∧
    (let dt : Nat := 0; let tid : Nat := 0; let n : Fin 8 := 0; let v : Word := 4096; let s : State := State.reset; let u : State := elapse dt s
     (u.rd .ceLock = 0) ∧
     (v.toNat ≠ 0)) ∧
    (let dt : Nat := 0; let p : Fin 8 := 0; let level : Bool := false; let s : State := { ((State.reset.wr .encMode 2 0).wr .ssiLead 100 0).wr .ckgEnStat 3 with now := 523000, clk := { ClkSt.init with up := true } }; let u : State := elapse dt s; let t : Nat := 525000
     (t = gridNext u p) ∧
     (u.mioOn = true) ∧
     (u.ceOn = true) ∧
     (u.onCeEdge = true) ∧
     (u.rd .encMode p = 2) ∧
     (u.now + u.rd .ssiLead p * rootPerCe = t)) ∧
    (let dt : Nat := 0; let p : Fin 8 := 0; let data : Word := 0; let parity : Bool := false; let s : State := (State.reset.setEnc 0 { EncPort.init with ssi := some ⟨0, 160, 1, 0, 0⟩ }).wr .ckgEnStat 2; let u : State := elapse dt s; let r : SsiRun := ⟨0, 160, 1, 0, 0⟩; let bits : Nat := u.rd .ssiBits p + 1; let raw : Nat := data.toNat % 2 ^ bits
     ((u.encOf p).ssi = some r) ∧
     (u.mioOn = true) ∧
     (u.now = r.sampleAt (r.nb - 1)) ∧
     (u.now + 8 * rootPerCe ≤ r.tick) ∧
     (u.rd .ssiPar p = 1 → (popcount bits raw + b2n parity) % 2 = 0)) ∧
    (let dt : Nat := 0; let p : Fin 8 := 0; let data : Word := 0; let parity : Bool := false; let s : State := (State.reset.setEnc 0 { EncPort.init with ssi := some ⟨0, 0, 1, 0, 0⟩ }).wr .ckgEnStat 2; let u : State := elapse dt s; let r : SsiRun := ⟨0, 0, 1, 0, 0⟩
     ((u.encOf p).ssi = some r) ∧
     (u.mioOn = true) ∧
     (u.now = r.sampleAt (r.nb - 1)) ∧
     (r.tick < u.now + 8 * rootPerCe)) ∧
    (let dt : Nat := 0; let p : Fin 8 := 0; let held : Nat := 99; let s : State := (State.reset.wr .plsMode 2 0).wr .ckgEnStat 2; let u : State := elapse dt s; let a : Bool := true; let b : Bool := false; let e : PlsPort := u.plsOf p
     (u.mioOn = true) ∧
     (u.rd .plsFilt p + 1 ≤ held) ∧
     (u.rd .plsMode p = 2) ∧
     (e.a = a ∨ e.b = b)) ∧
    (let dt : Nat := 0; let p : Fin 8 := 0; let held : Nat := 99; let s : State := (State.reset.wr .plsMode 1 0).wr .ckgEnStat 2; let u : State := elapse dt s; let a : Bool := true; let b : Bool := false; let e : PlsPort := u.plsOf p
     (u.mioOn = true) ∧
     (u.rd .plsFilt p + 1 ≤ held) ∧
     (u.rd .plsMode p = 1) ∧
     (e.a = false) ∧
     (a = true)) ∧
    (let dt : Nat := 0; let s : State := { (State.reset.wr .adcEn 2).wr .ckgEnStat 2 with clk := { ClkSt.init with up := true } }; let u : State := elapse dt s; let c : Nat := 1
     (atAdcSlot u = true) ∧
     (nextAdc (u.rd .adcEn) u.loop.adc.last = some c)) ∧
    (let dt : Nat := 0; let nanovolts : Int := 900000000; let s : State := { State.reset.wr .ckgEnStat 2 with loop := { LoopSt.init with adc := ⟨1, [1]⟩ } }; let u : State := elapse dt s; let c : Nat := 1; let l : List Nat := []
     (u.loop.adc.busy = c :: l) ∧
     (u.mioOn = true)) :=
  by and_intros <;> decide +kernel

theorem test_meets_MitreSlotCommands :
    (let dt : Nat := 0; let tid : Nat := 0; let n : Fin 8 := 0; let recAddr : Nat := 0; let ringAddr : Nat := 0; let s : State := State.reset; let u : State := elapse dt s
     (u.rd .mitState n ≤ 1)) ∧
    (let dt : Nat := 0; let tid : Nat := 0; let n : Fin 8 := 0; let recAddr : Nat := 0; let ringAddr : Nat := 0; let s : State := State.reset.wr .mitState 2 0; let u : State := elapse dt s
     (2 ≤ u.rd .mitState n)) ∧
    (let dt : Nat := 0; let tid : Nat := 0; let n : Fin 8 := 0; let s : State := ((((State.reset.wr .mitState 1 0).wr .mitImg 1 0).wr .mitCores 1 0).wr .ckgEnStat 8).wr .axTbPer 2 0; let u : State := elapse dt s
     (u.rd .mitArm n = 0) ∧
     (armOk u n = true)) ∧
    (let dt : Nat := 0; let tid : Nat := 0; let n : Fin 8 := 0; let s : State := State.reset; let u : State := elapse dt s
     (u.rd .mitArm n = 0) ∧
     (armOk u n = false)) ∧
    (let dt : Nat := 0; let n : Fin 8 := 0; let s : State := State.reset.wr .mitState 1 0; let u : State := elapse dt s; let l : Tab Nat := (List.range 64).foldl (fun l t => if mitHasCore u n t = true then l.set t u.now else l) u.sch.idle
     (u.rd .mitState n = 1) ∧
     ((u.slot n).armPend ≠ some true)) ∧
    (let dt : Nat := 0; let n : Fin 8 := 0; let weightBytes : Nat := 0; let wcet : Nat := 10; let modelId : Nat := 0; let s : State := ((State.reset.wr .mitState 1 0).wr .mitCores 1 0).wr .axTbPer 2 0; let u : State := elapse dt s; let prog : Nat := 16; let act : Nat := 0; let ops : List OpUse := []; let f : MitFit := mitFit u n weightBytes prog act wcet
     (u.rd .mitState n ≤ 1) ∧
     (f.ok = true) ∧
     (u.rd .mitLock = 0) ∧
     ((u.slot n).armPend ≠ some true)) ∧
    (let dt : Nat := 0; let n : Fin 8 := 0; let weightBytes : Nat := 100000000; let wcet : Nat := 0; let modelId : Nat := 0; let s : State := State.reset; let u : State := elapse dt s; let prog : Nat := 0; let act : Nat := 0; let ops : List OpUse := []; let f : MitFit := mitFit u n weightBytes prog act wcet
     (u.rd .mitState n ≤ 1) ∧
     (f.ok = false)) ∧
    (let dt : Nat := 0; let n : Fin 8 := 0; let weightBytes : Nat := 0; let wcet : Nat := 0; let modelId : Nat := 0; let s : State := State.reset.wr .mitState 2 0; let u : State := elapse dt s; let prog : Nat := 0; let act : Nat := 0; let ops : List OpUse := []
     (2 ≤ u.rd .mitState n)) ∧
    (let dt : Nat := 0; let n : Fin 8 := 0; let s : State := (State.reset.wr .mitMissLimit 1 0).wr .mitConsec 2 0; let u : State := elapse dt s
     (u.rd .mitMissLimit n ≠ 0) ∧
     (u.rd .mitMissLimit n ≤ u.rd .mitConsec n)) :=
  by and_intros <;> decide +kernel

theorem test_meets_MitreInvocation :
    (let dt : Nat := 0; let n : Fin 8 := 0; let s : State := { (State.reset.wr .mitState 2 0).setAx 0 { CeAxis.init with open_ := true } with now := 8400, clk := { ClkSt.init with up := true } }; let u : State := elapse dt s; let t : State := (u.wr .mitSeq (u.ax n).idx n).setSlot n { u.slot n with running := true, begun := true, startAt := u.now, seen := false, stage := [0, 0, u.rd .mitFbFeed n, 0] ++ (u.slot n).obs }
     (u.armed n = true) ∧
     (atInvocation u n = true)) ∧
    (let dt : Nat := 0; let n : Fin 8 := 0; let s : State := ({ State.reset with now := 20000 }.setSlot 0 { MitSlot.init with running := true }).setAx 0 { CeAxis.init with open_ := true, per := 1260 }; let u : State := elapse dt s
     ((u.slot n).running = true) ∧
     (pastCommit u n = true)) ∧
    (let dt : Nat := 0; let tid : Nat := 16; let n : Fin 8 := 0; let v : BitVec 16 := 0; let s : State := ((State.reset.wr .mitState 2 0).setSlot 0 { MitSlot.init with begun := true }).setAx 0 { CeAxis.init with open_ := true, per := 6562 }; let u : State := elapse dt s; let t : State := endInvocation n u
     (tid = 16 + n) ∧
     (u.armed n = true) ∧
     ((u.slot n).begun = true) ∧
     ((u.ax n).open_ = true) ∧
     (v.toNat = t.rd .mitSeq n) ∧
     ((t.slot n).seen = false) ∧
     (commitEdge t n + 840 < (t.ax n).per) ∧
     (commitEdge t n = commitEdge u n) ∧
     ((t.ax n).per = (u.ax n).per)) ∧
    (let dt : Nat := 0; let tid : Nat := 16; let n : Fin 8 := 0; let v : BitVec 16 := 0; let s : State := ((State.reset.wr .mitState 2 0).setSlot 0 { MitSlot.init with begun := true }).setAx 0 { CeAxis.init with open_ := true, per := 840 }; let u : State := elapse dt s; let t : State := endInvocation n u
     (tid = 16 + n) ∧
     (u.armed n = true) ∧
     ((u.slot n).begun = true) ∧
     ((u.ax n).open_ = true) ∧
     (v.toNat = t.rd .mitSeq n) ∧
     ((t.slot n).seen = false) ∧
     (commitEdge u n + 840 = (u.ax n).per) ∧
     (commitEdge t n = commitEdge u n) ∧
     ((t.ax n).per = (u.ax n).per)) ∧
    (let dt : Nat := 0; let tid : Nat := 16; let n : Fin 8 := 0; let v : BitVec 16 := 5; let s : State := ((State.reset.wr .mitState 2 0).setSlot 0 { MitSlot.init with begun := true }).setAx 0 { CeAxis.init with open_ := true, per := 840 }; let u : State := elapse dt s; let t : State := endInvocation n u
     (tid = 16 + n) ∧
     (u.armed n = true) ∧
     ((u.slot n).begun = true) ∧
     ((u.ax n).open_ = true) ∧
     (commitEdge u n + 840 ≤ (u.ax n).per) ∧
     (v.toNat = t.rd .mitSeq n → (t.slot n).seen = true)) ∧
    (let dt : Nat := 0; let tid : Nat := 16; let n : Fin 8 := 0; let v : BitVec 16 := 0; let s : State := ((State.reset.wr .mitState 2 0).setSlot 0 { MitSlot.init with begun := true }).setAx 0 { CeAxis.init with open_ := true, per := 839 }; let u : State := elapse dt s
     (tid = 16 + n) ∧
     (u.armed n = true) ∧
     ((u.slot n).begun = true) ∧
     ((u.ax n).open_ = true) ∧
     ((u.ax n).per < commitEdge u n + 840)) :=
  by and_intros <;> decide +kernel

theorem test_meets_CameraFrames :
    (let dt : Nat := 0; let k : Fin 16 := 0; let fnum : BitVec 16 := 0; let hd : CamHead := ⟨.good, 0, false⟩; let s : State := ((State.reset.wr .csiEn 1 0).wr .ckgEnStat 0x1000).wr .strEnLo 1; let u : State := elapse dt s; let t : State := openFrame 0 0 false ((((State.reset.wr .csiEn 1 0).wr .ckgEnStat 0x1000).wr .strEnLo 1).wr .csiUlps 0 0)
     (u.rd .csiEn (k / 4) = 1) ∧
     (camOn u = true) ∧
     (hd.hdr ≠ .lost) ∧
     (strOn u k = true) ∧
     (t = openFrame k fnum.toNat false (csiCorrected k hd.hdr (u.wr .csiUlps 0 (k / 4))))) ∧
    (let dt : Nat := 0; let k : Fin 16 := 0; let fnum : BitVec 16 := 0; let hd : CamHead := ⟨.good, 2, true⟩; let s : State := (State.reset.wr .csiEn 1 0).wr .ckgEnStat 0x1000; let u : State := elapse dt s; let t : State := (((((State.reset.wr .csiEn 1 0).wr .ckgEnStat 0x1000).wr .csiUlps 0 0).bump .csiErrDrop 2 0).bump .csiErrDrop 1 0)
     (u.rd .csiEn (k / 4) = 1) ∧
     (camOn u = true) ∧
     (hd.hdr = .good) ∧
     (strOn u k = false) ∧
     (t = ((u.wr .csiUlps 0 (k / 4)).bump .csiErrDrop hd.shorts (k / 4)).bump .csiErrDrop 1 (k / 4))) ∧
    (let dt : Nat := 0; let k : Fin 16 := 0; let hd : CamHead := ⟨.corrected, 0, false⟩; let s : State := ((State.reset.wr .csiEn 1 0).wr .ckgEnStat 0x1000).wr .strEnLo 1; let u : State := elapse dt s; let t : State := closeFrame 0 false (csiCorrected 0 .corrected ((((State.reset.wr .csiEn 1 0).wr .ckgEnStat 0x1000).wr .strEnLo 1).wr .csiUlps 0 0))
     (u.rd .csiEn (k / 4) = 1) ∧
     (camOn u = true) ∧
     (hd.hdr ≠ .lost) ∧
     (strOn u k = true) ∧
     (t = closeFrame k false (csiCorrected k hd.hdr (u.wr .csiUlps 0 (k / 4))))) ∧
    (let dt : Nat := 0; let p : Fin 4 := 0; let vc : Fin 4 := 0; let dataType : BitVec 6 := 0x2A; let line : Option Nat := none; let hd : CamHead := ⟨.good, 0, false⟩; let crcOk : Bool := false; let payload : List Byte := []; let s : State := ((((State.reset.wr .csiEn 1 0).wr .ckgEnStat 0x1000).wr .strEnLo 1).wr .camDt 0x2A 0).setCam 0 { CamSt.init with frame := some ⟨0, 0, false, 0, 0, 0, false, none, 0, [], [], 0, false⟩ }; let u : State := elapse dt s; let f : CamFrame := ⟨0, 0, false, 0, 0, 0, false, none, 0, [], [], 0, false⟩
     (u.rd .csiEn p = 1) ∧
     (camOn u = true) ∧
     (hd.hdr = .good) ∧
     (hd.ulps = false) ∧
     (strOn u (4 * p + vc) = true) ∧
     (dataType.toNat = u.rd .camDt (4 * p + vc)) ∧
     (u.rd .camLnum (4 * p + vc) = 0) ∧
     ((u.cam (4 * p + vc)).frame = some f)) ∧
    (let dt : Nat := 0; let p : Fin 4 := 0; let vc : Fin 4 := 0; let dataType : BitVec 6 := 0x2A; let line : Option Nat := none; let hd : CamHead := ⟨.lost, 0, false⟩; let crcOk : Bool := false; let payload : List Byte := []; let s : State := ((((State.reset.wr .csiEn 1 0).wr .ckgEnStat 0x1000).wr .strEnLo 1).wr .camDt 0x2A 0).setCam 0 { CamSt.init with frame := some ⟨0, 0, false, 0, 0, 0, false, none, 0, [], [], 0, false⟩ }; let u : State := elapse dt s; let f : CamFrame := ⟨0, 0, false, 0, 0, 0, false, none, 0, [], [], 0, false⟩; let t : State := ((((((State.reset.wr .csiEn 1 0).wr .ckgEnStat 0x1000).wr .strEnLo 1).wr .camDt 0x2A 0).setCam 0 { CamSt.init with frame := some ⟨0, 0, false, 0, 0, 0, false, none, 0, [], [], 0, false⟩ }).wr .csiUlps 0 0).bump .csiErrUncorr 1 0
     (u.rd .csiEn p = 1) ∧
     (camOn u = true) ∧
     (hd.hdr = .lost) ∧
     (hd.ulps = false) ∧
     (strOn u (4 * p + vc) = true) ∧
     (dataType.toNat = u.rd .camDt (4 * p + vc)) ∧
     ((u.cam (4 * p + vc)).frame = some f) ∧
     (t = (u.wr .csiUlps 0 p).bump .csiErrUncorr 1 p)) ∧
    (let dt : Nat := 0; let p : Fin 4 := 0; let vc : Fin 4 := 0; let dataType : BitVec 6 := 0; let line : Option Nat := some 3; let hd : CamHead := ⟨.good, 0, false⟩; let crcOk : Bool := false; let payload : List Byte := []; let s : State := (State.reset.wr .csiEn 1 0).wr .ckgEnStat 0x1000; let u : State := elapse dt s
     (u.rd .csiEn p = 1) ∧
     (camOn u = true) ∧
     (hd.hdr = .good) ∧
     (hd.ulps = false) ∧
     (strOn u (4 * p + vc) = false)) ∧
    (let dt : Nat := 0; let tid : Nat := 0; let k : Fin 16 := 0; let tag : Byte := 0; let s : State := State.reset; let u : State := elapse dt s; let a : Nat := u.rd .camAddrHi k * 2 ^ 32 + u.rd .camAddrLo k; let t : State := u.setCam k { u.cam k with pend := some ⟨a, tag.toNat, pclkNext u⟩ }
     (a % 128 = 0) ∧
     ((u.cam k).pend = none)) ∧
    (let dt : Nat := 0; let tid : Nat := 0; let k : Fin 16 := 0; let tag : Byte := 0; let s : State := State.reset.wr .camAddrLo 4 0; let u : State := elapse dt s
     ((u.rd .camAddrHi k * 2 ^ 32 + u.rd .camAddrLo k) % 128 ≠ 0)) :=
  by and_intros <;> decide +kernel

theorem test_meets_SensorQueueAndTdm :
    (let dt : Nat := 0; let tid : Nat := 0; let p : Fin 4 := 0; let v : Word := 0; let s : State := State.reset.wr .scqFree 64 0; let u : State := elapse dt s
     (u.rd .scqFree p ≠ 0)) ∧
    (let dt : Nat := 0; let tid : Nat := 0; let p : Fin 4 := 0; let epoch : Byte := 0; let s : State := State.reset; let u : State := elapse dt s
     (u.rd .scqSets p < 4)) ∧
    (let dt : Nat := 0; let tid : Nat := 0; let p : Fin 4 := 0; let epoch : Byte := 0; let s : State := State.reset.wr .scqSets 4 0; let u : State := elapse dt s
     (4 ≤ u.rd .scqSets p)) ∧
    (let dt : Nat := 0; let p : Fin 4 := 0; let s : State := State.reset.setScq 0 { ScqSt.init with run := some ⟨⟨0, [(1, 2), (3, 4)], 0⟩, 0, false⟩ }; let u : State := elapse dt s; let r : ScqRun := ⟨⟨0, [(1, 2), (3, 4)], 0⟩, 0, false⟩; let w : Nat × Nat := (1, 2); let w2 : Nat × Nat := (3, 4); let l : List (Nat × Nat) := []
     ((u.scq p).run = some r) ∧
     (r.set.writes = w :: w2 :: l)) ∧
    (let dt : Nat := 0; let p : Fin 4 := 0; let s : State := State.reset.setScq 0 { ScqSt.init with run := some ⟨⟨0, [(1, 2)], 0⟩, 0, false⟩ }; let u : State := elapse dt s; let r : ScqRun := ⟨⟨0, [(1, 2)], 0⟩, 0, false⟩; let w : Nat × Nat := (1, 2)
     ((u.scq p).run = some r) ∧
     (r.set.writes = [w])) ∧
    (let dt : Nat := 0; let p : Fin 4 := 0; let s : State := State.reset.setScq 0 { ScqSt.init with run := some ⟨⟨0, [(1, 2)], 0⟩, 0, false⟩ }; let u : State := elapse dt s; let r : ScqRun := ⟨⟨0, [(1, 2)], 0⟩, 0, false⟩; let w : Nat × Nat := (1, 2); let l : List (Nat × Nat) := []
     ((u.scq p).run = some r) ∧
     (r.set.writes = w :: l) ∧
     (r.again = false)) ∧
    (let dt : Nat := 0; let p : Fin 4 := 0; let s : State := State.reset.setScq 0 { ScqSt.init with run := some ⟨⟨0, [(1, 2)], 0⟩, 0, true⟩ }; let u : State := elapse dt s; let r : ScqRun := ⟨⟨0, [(1, 2)], 0⟩, 0, true⟩; let w : Nat × Nat := (1, 2); let l : List (Nat × Nat) := []; let q : ScqSt := u.scq p
     (q.run = some r) ∧
     (r.set.writes = w :: l) ∧
     (r.again = true)) ∧
    (let dt : Nat := 0; let q : Fin 4 := 0; let a : Word := 0; let b : Word := 0; let s : State := { ((State.reset.wr .tdmEn 1 0).wr .tdmBdiv 16 0).wr .strEnHi 256 with now := 40960, clk := { ClkSt.init with up := true } }; let u : State := elapse dt s; let t : State := tdmChannel q 0 a u
     (tdmEnds u q = true) ∧
     (strOn u (40 + 2 * q) = true) ∧
     (strOn u (41 + 2 * q) = false) ∧
     (strOn t (41 + 2 * q) = false)) :=
  by and_intros <;> decide +kernel

theorem test_meets_YarrowAndPpuJobs :
    (let dt : Nat := 0; let tid : Nat := 0; let n : Fin 2 := 0; let s : State := testDict; let u : State := elapse dt s; let x : List Byte × State := dictImage (dictAddr u n) u; let l : List DictEnt := []; let k : Nat := 0; let d : Nat := testDigest
     (u.rd .yarQTail n = u.rd .yarQHead n) ∧
     (dictCheck (x.2.on .yarFold n) x.1 = .inr (l, k, d))) ∧
    (let dt : Nat := 0; let tid : Nat := 0; let n : Fin 2 := 0; let s : State := State.reset; let u : State := elapse dt s; let x : List Byte × State := dictImage (dictAddr u n) u; let k : Nat := 0xFFFF
     (u.rd .yarQTail n = u.rd .yarQHead n) ∧
     (dictCheck (x.2.on .yarFold n) x.1 = .inl k)) ∧
    (let dt : Nat := 0; let tid : Nat := 0; let n : Fin 2 := 0; let s : State := State.reset; let u : State := elapse dt s; let v : BitVec 5 := 1; let host : List Nat := []; let t : State := showQbytes 0 (addJobs (newJobs 0 0 1) (State.reset.wr .yarQTail 1 0))
     (ringOk 32 (u.rd .yarQHead n) (u.rd .yarQTail n) v.toNat = true) ∧
     (t = showQbytes n (addJobs (newJobs n (u.rd .yarQTail n) v.toNat) (u.wr .yarQTail v.toNat n)))) ∧
    (let dt : Nat := 0; let tid : Nat := 0; let n : Fin 2 := 0; let s : State := State.reset.wr .yarQTail 1 0; let u : State := elapse dt s; let v : BitVec 5 := 0; let host : List Nat := []
     (ringOk 32 (u.rd .yarQHead n) (u.rd .yarQTail n) v.toNat = false) ∧
     (tid ≠ 1)) ∧
    (let dt : Nat := 0; let n : Fin 2 := 0; let s : State := ((State.reset.wr .yarEn 1 0).wr .ckgEnStat 2048).wr .yarQTail 1 0; let u : State := elapse dt s
     (u.rd .yarEn n = 1) ∧
     (u.clockOn 11 = true) ∧
     ((u.yar n).run = false) ∧
     (u.rd .yarQHead n ≠ u.rd .yarQTail n) ∧
     (startAllowed u (32 + n) = true)) ∧
    (let dt : Nat := 0; let s : State := (State.reset.wr .yarDictValid 1 0).setYar 0 { YarSt.init with run := true }; let u : State := elapse dt s; let n : Fin 2 := 0; let x : List Byte × State := ringRead (yarRing u n + u.rd .yarQHead n * 64) 64 u; let tid : Nat := fieldAt x.1 48 2 % 1024; let r : XOut := xRead (32 + n) tid (fieldAt x.1 0 8 % 2 ^ 48) (fieldAt x.1 8 4) x.2; let all : List Blk := tokenize (r.s.on .yarFold n) (x.2.yar n).dict (r.data.map BitVec.toNat); let whole : List Blk := (if bitOf (fieldAt x.1 50 1) 0 then all else all.filter Blk.lf); let b : List Blk × Bool := takeBlocks (fieldAt x.1 24 4) (fieldAt x.1 36 4) whole 0 0; let w : XOut := xWrite (32 + n) tid (fieldAt x.1 16 8 % 2 ^ 48) (b.1.flatMap fun b => b.toks.flatMap Tok.bytes) r.s; let w2 : XOut := xWrite (32 + n) tid (fieldAt x.1 28 8 % 2 ^ 48) (b.1.foldl (fun (x : Nat × List Byte) b => (x.1 + b.toks.length, x.2 ++ leBytes 4 x.1 ++ leBytes 4 b.start)) (0, [])).2 w.s
     ((u.yar n).run = true) ∧
     (u.mmu.stall.get none (32 + n) = none) ∧
     (x.2.rd .yarDictValid n = 1) ∧
     (fieldAt x.1 40 8 = x.2.rd .yarDictDigHi n * 2 ^ 32 + x.2.rd .yarDictDigLo n) ∧
     (r.fault = none) ∧
     (w.fault = none) ∧
     (w2.fault = none)) ∧
    (let dt : Nat := 0; let s : State := State.reset.setYar 0 { YarSt.init with run := true }; let u : State := elapse dt s; let n : Fin 2 := 0; let x : List Byte × State := ringRead (yarRing u n + u.rd .yarQHead n * 64) 64 u
     ((u.yar n).run = true) ∧
     (u.mmu.stall.get none (32 + n) = none) ∧
     (x.2.rd .yarDictValid n = 0)) ∧
    (let dt : Nat := 0; let s : State := testHostJob; let u : State := elapse dt s; let n : Fin 2 := 0; let a : Nat := 64; let m : YarMade := ⟨0, 0, [], false, false⟩; let t : State := (yarWork 0 64 u).2
     (u.comp.look.jobs.any (fun j => j.unit == 2 && j.key == a && j.ran.isNone) = true) ∧
     (yarWork n a u = (.made m, t))) ∧
    (let dt : Nat := 0; let tid : Nat := 0; let v : Fin 4 := 0; let t : BitVec 5 := 3; let s : State := State.reset; let u : State := elapse dt s
     (ringOk 32 (u.rd .ppuQHead v) (u.rd .ppuQTail v) t.toNat = true)) ∧
    (let dt : Nat := 0; let v : Fin 4 := 0; let stream : Bool := true; let job : PpuJob := ⟨24, 13, 1, 1, 1, 0, 0, [.depth 0 0], 0, 0⟩; let s : State := State.reset.wr .ckgEnStat 2048; let u : State := elapse dt s
     (u.clockOn 11 = true) ∧
     (u.ppuRun v = none) ∧
     (ppuJobOk job = true) ∧
     (startAllowed u (34 + v) = true) ∧
     (stream = true)) ∧
    (let dt : Nat := 0; let v : Fin 4 := 0; let stream : Bool := false; let job : PpuJob := ⟨24, 13, 1, 1, 1, 0, 0, [.depth 0 0], 0, 0⟩; let s : State := (State.reset.wr .ckgEnStat 2048).wr .ppuQTail 1 0; let u : State := elapse dt s; let x : List Byte × State := ringRead (u.rd .ppuQHi v * 2 ^ 32 + u.rd .ppuQLo v + u.rd .ppuQHead v * 64) 64 u
     (u.clockOn 11 = true) ∧
     (u.ppuRun v = none) ∧
     (ppuJobOk job = true) ∧
     (startAllowed u (34 + v) = true) ∧
     (stream = false) ∧
     (u.rd .ppuQHead v ≠ u.rd .ppuQTail v)) ∧
    (let dt : Nat := 0; let v : Fin 4 := 0; let s : State := State.reset.setPpu 0 (some ⟨true, ⟨24, 13, 0, 0, 1, 0, 0, [.depth 0 0], 0, 0⟩, 0⟩); let u : State := elapse dt s; let r : PpuRun := ⟨true, ⟨24, 13, 0, 0, 1, 0, 0, [.depth 0 0], 0, 0⟩, 0⟩; let x : XOut := xRead (34 + v) r.job.tid r.job.src (packedLen r.job.fmt (r.job.w * r.job.h * r.job.ch)) u; let sc : XOut := xRead (34 + v) r.job.tid r.job.srcScale (if blockLen r.job.fmt = 0 then 0 else ceilDiv (r.job.w * r.job.h * r.job.ch) (blockLen r.job.fmt)) x.s; let t : PpuTen := r.job.ops.foldl (ppuStep fun k => u.rd .strWidx (k - 16)) ⟨r.job.fmt, r.job.w, r.job.h, r.job.ch, (decodeElts r.job.fmt x.data sc.data (r.job.w * r.job.h * r.job.ch)).map some⟩; let w : XOut := xWrite (34 + v) r.job.tid r.job.dst (ppuBytes t).1 sc.s; let w2 : XOut := xWrite (34 + v) r.job.tid r.job.dstScale (ppuBytes t).2 w.s
     (u.ppuRun v = some r) ∧
     (u.mmu.stall.get none (34 + v) = none) ∧
     (x.fault = none) ∧
     (sc.fault = none) ∧
     (w.fault = none) ∧
     (w2.fault = none)) ∧
    (let dt : Nat := 0; let v : Word := 1; let progEnd : Nat := 0; let s : State := State.reset.setOb .tokEnd 5; let u : State := elapse dt s; let t : State := { u.setOb .ipos v.toNat with comp := { u.comp with look := { u.comp.look with start := v.toNat, progEnd := progEnd, sec := u.clk.sec, ns := u.clk.ns } } }
     (u.comp.look.start ≤ v.toNat) ∧
     (v.toNat < u.ob .tokEnd)) ∧
    (let dt : Nat := 0; let v : Word := 1; let progEnd : Nat := 0; let s : State := State.reset; let u : State := elapse dt s; let t : State := { u.setOb .ipos v.toNat with comp := { u.comp with look := { u.comp.look with start := v.toNat, progEnd := progEnd, sec := u.clk.sec, ns := u.clk.ns } } }
     (u.ob .tokEnd ≤ v.toNat)) :=
  by and_intros <;> decide +kernel

theorem test_meets_TensorCommands :
    (let dt : Nat := 0; let c : Fin 64 := 0; let pc : BitVec 20 := 0; let s : State := testCore; let u : State := elapse dt s; let desc : List Byte := testArr; let wait : Nat := 0; let d : ArrDesc := arrDesc desc; let as : List (List Byte × List Byte) := [([0], [])]; let bs : List (List Byte × List Byte) := [([0], [])]; let t : State := elapse 0 testCore; let t2 : State := elapse 0 testCore
     (coreWorks u c = true) ∧
     (arrValid u c d = true) ∧
     (d.acc = false) ∧
     (d.wr = false) ∧
     (readRows c (u.rd .tcTid c) d.fa d.k d.astr d.aaddr d.saaddr d.m 0 [] u = (.ok as, t)) ∧
     (readRows c (u.rd .tcTid c) d.fb d.k d.bstr d.baddr d.sbaddr d.n 0 [] t = (.ok bs, t2))) ∧
    (let dt : Nat := 0; let c : Fin 64 := 0; let pc : BitVec 20 := 0; let s : State := testCore; let u : State := elapse dt s; let desc : List Byte := leBytes 4 0x3D3 ++ List.replicate 28 0; let wait : Nat := 0
     (coreWorks u c = true) ∧
     (arrValid u c (arrDesc desc) = false)) ∧
    (let dt : Nat := 0; let c : Fin 64 := 0; let pc : BitVec 20 := 0; let op : VecOp := .iand; let sr : Bool := false; let a : List Nat := []; let b : List Nat := []; let e : List Nat := []; let s : State := testCore; let u : State := elapse dt s; let x : List (Option Nat) × State := srDraw c 64 sr u; let out : List (Nat × NumFlags) := (List.range 64).map fun i => vecLane op (x.1.getD i none) (a.getD i 0) (b.getD i 0) (e.getD i 0) (Config.freeAt x.2.freeCtr i).toNat; let t : State := { x.2 with freeCtr := x.2.freeCtr + 1 }
     (coreWorks u c = true) ∧
     (vecStop op = none) ∧
     ((match op with | .convert _ _ => false | _ => true) = true)) ∧
    (let dt : Nat := 0; let c : Fin 64 := 0; let pc : BitVec 20 := 0; let op : VecOp := .convert 3 13; let sr : Bool := false; let a : List Nat := []; let b : List Nat := []; let e : List Nat := []; let s : State := testCore; let u : State := elapse dt s; let src : Nat := 3; let dst : Nat := 13; let x : List (Option Nat) × State := srDraw c 64 sr u; let out : List (Nat × NumFlags) × List Nat := vecConvert src dst x.1 a e; let t : State := { x.2 with freeCtr := x.2.freeCtr + 1 }
     (coreWorks u c = true) ∧
     (op = .convert src dst) ∧
     (src < 16) ∧
     (dst < 16)) ∧
    (let dt : Nat := 0; let c : Fin 64 := 0; let pc : BitVec 20 := 0; let op : VecOp := .illegal; let sr : Bool := false; let a : List Nat := []; let b : List Nat := []; let e : List Nat := []; let s : State := testCore; let u : State := elapse dt s; let cause : Nat := 1
     (coreWorks u c = true) ∧
     (vecStop op = some cause)) ∧
    (let dt : Nat := 0; let c : Fin 64 := 0; let s : State := State.reset.wr .tcState 3 0; let u : State := elapse dt s
     (u.rd .tcState c = 3)) ∧
    (let dt : Nat := 0; let c : Fin 64 := 0; let v : Word := 0; let s : State := State.reset; let u : State := elapse dt s
     ((u.core c).busyTo ≤ u.now)) ∧
    (let dt : Nat := 0; let c : Fin 64 := 0; let v : Word := 0; let s : State := State.reset.setCore 0 { CoreSt.init with busyTo := 8 }; let u : State := elapse dt s
     (u.now < (u.core c).busyTo)) ∧
    (let dt : Nat := 0; let c : Fin 64 := 0; let s : State := State.reset.setCore 0 { CoreSt.init with seed := some (1, 0) }; let u : State := elapse dt s; let x : Nat × Nat := (1, 0)
     ((u.core c).seed = some x) ∧
     (x.2 ≤ u.now)) :=
  by and_intros <;> decide +kernel

theorem test_meets_ConvolutionJobs :
    (let dt : Nat := 0; let tid : Nat := 0; let c : Fin 8 := 0; let v : BitVec 4 := 1; let s : State := State.reset; let u : State := elapse dt s
     (ringOk 16 (u.rd .cnvQHead c) (u.rd .cnvQTail c) v.toNat = true)) ∧
    (let dt : Nat := 0; let tid : Nat := 0; let c : Fin 8 := 0; let v : BitVec 4 := 0; let s : State := State.reset.wr .cnvQTail 1 0; let u : State := elapse dt s
     (ringOk 16 (u.rd .cnvQHead c) (u.rd .cnvQTail c) v.toNat = false)) ∧
    (let dt : Nat := 0; let c : Fin 8 := 0; let s : State := ((testOpen.wr .cnvEn 1 0).wr .cnvQTail 1 0).wrBytes (csAddr 0 0x1000000) testCnv; let u : State := elapse dt s; let raw : List Byte := cnvPeek u 0 (cnvSlot u 0 0); let t : State := (cnvFetch 0 u).2
     (u.rd .cnvEn c = 1) ∧
     (u.clockOn (3 + c) = true) ∧
     (u.rd .cnvBusy c = 0) ∧
     (u.rd .cnvQHead c ≠ u.rd .cnvQTail c) ∧
     (cnvFetch c u = (.ok raw, t))) ∧
    (let dt : Nat := 0; let c : Fin 8 := 0; let s : State := ((State.reset.wr .cnvEn 1 0).wr .ckgEnStat 8).wr .cnvQTail 1 0; let u : State := elapse dt s; let e : LocFail := .blocked; let t : State := (cnvFetch 0 (elapse 0 (((State.reset.wr .cnvEn 1 0).wr .ckgEnStat 8).wr .cnvQTail 1 0))).2
     (u.rd .cnvEn c = 1) ∧
     (u.clockOn (3 + c) = true) ∧
     (u.rd .cnvBusy c = 0) ∧
     (u.rd .cnvQHead c ≠ u.rd .cnvQTail c) ∧
     (cnvFetch c u = (.error e, t))) ∧
    (let dt : Nat := 0; let c : Fin 8 := 0; let wait : Nat := 0; let s : State := State.reset.setCnv 0 { CnvSt.init with job := some [] }; let u : State := elapse dt s; let raw : List Byte := []; let j : CnvJob := cnvJob raw
     ((u.cnv c).job = some raw) ∧
     ((u.cnv c).stop = none) ∧
     (cnvCause u c (u.rd .cnvQHead c) raw ≠ 0)) ∧
    (let dt : Nat := 0; let c : Fin 8 := 0; let wait : Nat := 0; let s : State := State.reset.setCnv 0 { CnvSt.init with job := some [], stop := some 1 }; let u : State := elapse dt s; let raw : List Byte := []; let e : Nat := 1
     ((u.cnv c).job = some raw) ∧
     ((u.cnv c).stop = some e)) ∧
    (let dt : Nat := 0; let c : Fin 8 := 0; let wait : Nat := 0; let s : State := testCnvState; let u : State := elapse dt s; let raw : List Byte := testCnv; let j : CnvJob := cnvJob raw; let n : Nat := testCnvTime; let t : State := (cnvStatus 0 24 1 testCnvTime (elapse 0 testCnvState)).2
     ((u.cnv c).job = some raw) ∧
     (cnvCause u c (u.rd .cnvQHead c) raw = 0) ∧
     ((u.cnv c).stop = none) ∧
     ((u.cnv c).run.row = j.hdr.r0 + j.hdr.nr) ∧
     (n = j.time (u.cnv c).cont + wait) ∧
     (u.now = (u.cnv c).run.start + n * rootPerT) ∧
     (cnvStatus c j.hdr.tid (if j.hdr.cont = true ∧ (u.cnv c).cont = false then 2 else 1) n u = (none, t)) ∧
     (j.hdr.keep = false)) :=
  by and_intros <;> decide +kernel

theorem test_meets_EmbeddingJobs :
    (let dt : Nat := 0; let tid : Nat := 0; let e : Fin 2 := 0; let v : BitVec 5 := 1; let s : State := State.reset; let u : State := elapse dt s
     (ringOk 32 (u.rd .embQHead e) (u.rd .embQTail e) v.toNat = true)) ∧
    (let dt : Nat := 0; let tid : Nat := 0; let e : Fin 2 := 0; let v : BitVec 5 := 0; let s : State := State.reset.wr .embQTail 1 0; let u : State := elapse dt s
     (ringOk 32 (u.rd .embQHead e) (u.rd .embQTail e) v.toNat = false)) ∧
    (let dt : Nat := 0; let e : Fin 2 := 0; let s : State := testEmb; let u : State := elapse dt s; let x : List Byte × State := ringRead (embRing u e + u.rd .embQHead e * 64) 64 u; let r : EmbRun := ⟨x.1, [], 0, [], 0, 0, 0, 0, x.2.now, none⟩; let o : XOut := xRead (38 + e) (embDesc x.1).tid (embDesc x.1).tbl 128 (((x.2.setEmb e (some r)).wr .embBusy 1 e).wr .embTid (embDesc x.1).tid e); let cause : Nat := embCause e x.1 o.data
     (u.rd .embEn e = 1) ∧
     (u.clockOn 13 = true) ∧
     (u.embRun e = none) ∧
     (u.rd .embQHead e ≠ u.rd .embQTail e) ∧
     (u.mmu.stall.get none (38 + e) = none) ∧
     (startAllowed u (38 + e) = true) ∧
     (o.fault = none) ∧
     (cause = 0 → (embDesc x.1).op = 1)) ∧
    (let dt : Nat := 0; let e : Fin 2 := 0; let s : State := testUpd; let u : State := elapse dt s; let r : EmbRun := testRow; let w : EmbGrad := ⟨0, 0, [0], []⟩; let l : List EmbGrad := []; let ps : List (Nat × Nat) := testPieces; let t : State := elapse 0 testUpd; let y : List Byte × Bool × State := readPieces (embDesc r.desc).tid ps (lockTaken e r t); let z : List Byte × State := rowMake e (embTbl r.tbl) y.1 (w.grad.map f32) y.2.2
     (u.embRun e = some r) ∧
     (r.todo = w :: l) ∧
     (u.mmu.stall.get none (38 + e) = none) ∧
     (rowPieces e (embDesc r.desc).tid ((embTbl r.tbl).rowLen + 1) w.va (embTbl r.tbl).rowLen [] u = (.ok ps, t)) ∧
     (t.comp.locks.length < 128) ∧
     (rowLocked t ((ps.map Prod.fst).headD 0) = false) ∧
     (y.2.1 = false)) ∧
    (let dt : Nat := 0; let e : Fin 2 := 0; let s : State := testUpdHeld; let u : State := elapse dt s; let r : EmbRun := testRow; let w : EmbGrad := ⟨0, 0, [0], []⟩; let l : List EmbGrad := []; let ps : List (Nat × Nat) := testPieces; let t : State := elapse 0 testUpdHeld
     (u.embRun e = some r) ∧
     (r.todo = w :: l) ∧
     (u.mmu.stall.get none (38 + e) = none) ∧
     (rowPieces e (embDesc r.desc).tid ((embTbl r.tbl).rowLen + 1) w.va (embTbl r.tbl).rowLen [] u = (.ok ps, t)) ∧
     (128 ≤ t.comp.locks.length ∨ rowLocked t ((ps.map Prod.fst).headD 0) = true)) ∧
    (let dt : Nat := 0; let e : Fin 2 := 0; let addr : Nat := 0; let s : State := { testOpen with comp := { CompSt.init with locks := [⟨0, 1, 0, [(0, 1)], [1]⟩] } }; let u : State := elapse dt s; let l : EmbLock := ⟨0, 1, 0, [(0, 1)], [1]⟩; let t : State := { u with comp := { u.comp with locks := u.comp.locks.filter (· != l) } }
     (u.comp.locks.find? (fun l => l.e == e.val && (l.pieces.map Prod.fst).head? == some addr) = some l)) ∧
    (let dt : Nat := 0; let e : Fin 2 := 0; let x : List Upset := []; let s : State := State.reset.setEmb 0 (some ⟨[2], [], 2, [], 0, 0, 1, 0, 0, none⟩); let u : State := elapse dt s; let r : EmbRun := ⟨[2], [], 2, [], 0, 0, 1, 0, 0, none⟩
     (x = []) ∧
     (u.embRun e = some r) ∧
     (u.mmu.stall.get none (38 + e) = none) ∧
     (r.end_ = 0) ∧
     (r.stage = 2) ∧
     ((embDesc r.desc).op = 2) ∧
     (r.todo = []) ∧
     (u.comp.locks.any (fun l => l.e == e.val) = false)) ∧
    (let dt : Nat := 0; let e : Fin 2 := 0; let x : List Upset := []; let s : State := State.reset.setEmb 0 (some ⟨[1], [], 2, [], 0, 0, 1, 0, 0, none⟩); let u : State := elapse dt s; let r : EmbRun := ⟨[1], [], 2, [], 0, 0, 1, 0, 0, none⟩
     (x = []) ∧
     (u.embRun e = some r) ∧
     (u.mmu.stall.get none (38 + e) = none) ∧
     (r.end_ = 0) ∧
     (r.stage = 2) ∧
     ((embDesc r.desc).op = 1) ∧
     (u.comp.locks.any (fun l => l.e == e.val) = false)) ∧
    (let dt : Nat := 0; let e : Fin 2 := 0; let x : List Upset := []; let s : State := State.reset.setEmb 0 (some ⟨[], [], 2, [], 3, 1, 0, 0, 0, none⟩); let u : State := elapse dt s; let r : EmbRun := ⟨[], [], 2, [], 3, 1, 0, 0, 0, none⟩
     (x = []) ∧
     (u.embRun e = some r) ∧
     (u.mmu.stall.get none (38 + e) = none) ∧
     (r.end_ = 3) ∧
     (u.comp.locks.any (fun l => l.e == e.val) = false)) ∧
    (let dt : Nat := 0; let e : Fin 2 := 0; let v : Word := 0; let s : State := State.reset; let u : State := elapse dt s
     (u.embRun e = none)) :=
  by and_intros <;> decide +kernel

theorem test_meets_ScratchpadBanks :
    (let dt : Nat := 0; let k : Fin 1280 := 0; let s : State := { testCore with now := 8 }; let u : State := elapse dt s; let reqs : List SpmReq := [⟨.core 0, 0x1000000000, none, 0⟩]; let x : List Upset := []; let l : List SpmReq := [⟨.core 0, 0x1000000000, none, 0⟩]; let w : SpmReq := ⟨.core 0, 0x1000000000, none, 0⟩
     (x = []) ∧
     (bankTaken u k = false) ∧
     (l = reqs.filter fun r => isSpm r.addr && bankOf r.addr == k && !recordTime u r) ∧
     (l.all (spmAllowed u) = true) ∧
     (wideWinner k (tclkNo u) (l.filter SpmReq.wide) = some w)) ∧
    (let dt : Nat := 0; let k : Fin 1280 := 0; let s : State := { testOpen with now := 8 }; let u : State := elapse dt s; let reqs : List SpmReq := [⟨.narrow 0 1 1, 0x1000000000, none, 0⟩]; let x : List Upset := []; let l : List SpmReq := [⟨.narrow 0 1 1, 0x1000000000, none, 0⟩]; let r : SpmReq := ⟨.narrow 0 1 1, 0x1000000000, none, 0⟩; let t : State := elapse 0 { testOpen with now := 8 }
     (x = []) ∧
     (bankTaken u k = false) ∧
     (l = reqs.filter fun r => isSpm r.addr && bankOf r.addr == k && !recordTime u r) ∧
     (l.all (spmAllowed u) = true) ∧
     (wideWinner k (tclkNo u) (l.filter SpmReq.wide) = none) ∧
     (narrowWinner u k (l.filter fun r => !r.wide) = some r) ∧
     (r.data = none ∨ r.strobes % 256 = 255 ∨ (u.bank k).merge ≠ none) ∧
     (t = noteWaits k (some r) (l.filter fun r => !r.wide) u)) ∧
    (let dt : Nat := 0; let k : Fin 1280 := 0; let s : State := { testOpen with now := 8 }; let u : State := elapse dt s; let reqs : List SpmReq := [⟨.narrow 0 1 1, 0x1000000000, some [7], 1⟩]; let x : List Upset := []; let l : List SpmReq := [⟨.narrow 0 1 1, 0x1000000000, some [7], 1⟩]; let r : SpmReq := ⟨.narrow 0 1 1, 0x1000000000, some [7], 1⟩; let t : State := elapse 0 { testOpen with now := 8 }
     (x = []) ∧
     (bankTaken u k = false) ∧
     (l = reqs.filter fun r => isSpm r.addr && bankOf r.addr == k && !recordTime u r) ∧
     (l.all (spmAllowed u) = true) ∧
     (wideWinner k (tclkNo u) (l.filter SpmReq.wide) = none) ∧
     (narrowWinner u k (l.filter fun r => !r.wide) = some r) ∧
     (r.data ≠ none) ∧
     (r.strobes % 256 ≠ 255) ∧
     ((u.bank k).merge = none) ∧
     (t = noteWaits k (some r) (l.filter fun r => !r.wide) u)) ∧
    (let dt : Nat := 0; let k : Fin 1280 := 0; let s : State := { State.reset with now := 8 }; let u : State := elapse dt s; let reqs : List SpmReq := [⟨.core 0, 0x1000000000, none, 0⟩]; let x : List Upset := []; let r : SpmReq := ⟨.core 0, 0x1000000000, none, 0⟩
     (x = []) ∧
     (reqs = [r]) ∧
     (bankTaken u k = false) ∧
     (isSpm r.addr = true) ∧
     (bankOf r.addr = k) ∧
     (recordTime u r = false) ∧
     (spmAllowed u r = false)) ∧
    (let dt : Nat := 0; let k : Fin 1280 := 0; let s : State := State.reset.setBank 0 { SpmBank.init with grantAt := some 0 }; let u : State := elapse dt s; let reqs : List SpmReq := []; let x : List Upset := []
     (x = []) ∧
     (bankTaken u k = true)) ∧
    (let dt : Nat := 0; let k : Nat := 0; let x : List Upset := []; let s : State := { State.reset with now := 100, spm := { SpmSt.init with flight := [⟨⟨.core 0, 0x1000000000, none, 0⟩, 0, [], false, false⟩] } }; let u : State := elapse dt s; let f : SpmFlight := ⟨⟨.core 0, 0x1000000000, none, 0⟩, 0, [], false, false⟩
     (x = []) ∧
     (u.spm.flight[k]? = some f) ∧
     (f.bad = false) ∧
     (f.grantAt + (spmLatency f.req.base + (if f.corr then 4 else 0)) * rootPerT ≤ u.now)) ∧
    (let dt : Nat := 0; let k : Nat := 0; let x : List Upset := []; let s : State := { State.reset with now := 100, spm := { SpmSt.init with flight := [⟨⟨.core 0, 0x1000000000, none, 0⟩, 0, [], false, true⟩] } }; let u : State := elapse dt s; let f : SpmFlight := ⟨⟨.core 0, 0x1000000000, none, 0⟩, 0, [], false, true⟩
     (x = []) ∧
     (u.spm.flight[k]? = some f) ∧
     (f.bad = true) ∧
     (f.grantAt + (spmLatency f.req.base + (if f.corr then 4 else 0)) * rootPerT ≤ u.now)) ∧
    (let dt : Nat := 0; let k : Fin 1280 := 0; let s : State := { State.reset with now := 8, ecc := { EccSt.init with wb := [0x1000000000], cor := [0x1000000000] } }; let u : State := elapse dt s; let a : Nat := 0x1000000000
     (u.ecc.wb.find? (fun a => bankOf a == k) = some a) ∧
     (bankFree u k = true)) ∧
    (let dt : Nat := 0; let tid : Nat := 24; let addr : Nat := 0x1000000000; let port : Nat := 1; let s : State := { State.reset.wr .spmStarveLim 5 with spm := { SpmSt.init with wait := [⟨⟨.narrow 0 1 24, 0x1000000000, none, 0⟩, 5, false⟩] } }; let u : State := elapse dt s; let w : SpmWait := ⟨⟨.narrow 0 1 24, 0x1000000000, none, 0⟩, 5, false⟩
     (u.rd .spmStarveLim ≠ 0) ∧
     (u.spm.wait = [w]) ∧
     (starves u tid addr port w = true)) ∧
    (let dt : Nat := 0; let tid : Nat := 0; let v : Byte := 1; let s : State := State.reset; let u : State := elapse dt s
     (∀ c : Nat, c < 8 → bitOf v.toNat c = true → clusterInUse u c = false)) ∧
    (let dt : Nat := 0; let c : Fin 8 := 0; let s : State := { State.reset with spm := { SpmSt.init with initEnd := [(0, some 0)] } }; let u : State := elapse dt s; let e : Nat := 0
     (u.spm.initEnd.get none c = some e) ∧
     (e ≤ u.now)) ∧
    (let dt : Nat := 0; let x : List Upset := []; let s : State := { (State.reset.wr .memcScrubEn 1).wr .ckgEnStat 16384 with memc := { MemcSt.init with trained := true }, now := 8400000000 * 100000 }; let u : State := elapse dt s; let b : Nat := u.memc.scrubNext
     (x = []) ∧
     (u.rd .memcScrubEn = 1) ∧
     (u.memc.trained = true) ∧
     (u.clockOn 14 = true) ∧
     (scrubDue u = true) ∧
     (b ∉ u.ecc.unc) ∧
     (b ∉ u.ecc.cor)) :=
  by and_intros <;> decide +kernel

theorem test_meets_BufferPools :
    (let dt : Nat := 0; let tid : Nat := 0; let p : Fin 32 := 0; let s : State := testOpen; let u : State := elapse dt s
     (poolOk u p = true)) ∧
    (let dt : Nat := 0; let tid : Nat := 0; let p : Fin 32 := 0; let s : State := State.reset.wr .poolBaseHi 255 0; let u : State := elapse dt s
     (poolOk u p = false)) ∧
    (let dt : Nat := 0; let tid : Nat := 0; let p : Fin 32 := 0; let s : State := (State.reset.wr .poolEn 1 0).setPool 0 { bufs := [], free := [0], hadFree := true }; let u : State := elapse dt s
     (u.rd .poolEn p = 1) ∧
     ((u.pool p).free.length = poolCount u p)) ∧
    (let dt : Nat := 0; let tid : Nat := 0; let p : Fin 32 := 0; let s : State := (State.reset.wr .poolEn 1 0).setPool 0 { bufs := [], free := [0, 1], hadFree := true }; let u : State := elapse dt s; let i : Nat := 0; let l : List Nat := [1]; let x : BpuPool := u.pool p; let g : Nat := (if (x.buf i).gen = 255 then 1 else (x.buf i).gen + 1)
     (u.bpu.reclaim = none) ∧
     (u.rd .poolEn p = 1) ∧
     (x.free = i :: l)) ∧
    (let dt : Nat := 0; let tid : Nat := 24; let p : Fin 32 := 0; let h : Word := 1; let s : State := (State.reset.wr .poolEn 1 0).setPool 0 { bufs := [(0, ⟨true, 24, 1⟩)], free := [], hadFree := false }; let u : State := elapse dt s; let i : Nat := h.toNat / 256 % 65536; let x : BpuPool := u.pool p; let b : BpuBuf := x.buf i
     (u.bpu.reclaim = none) ∧
     (handleBad u p h.toNat none = none) ∧
     (b.alloc = true) ∧
     (b.gen = h.toNat % 256) ∧
     (b.owner = tid)) ∧
    (let dt : Nat := 0; let tid : Nat := 24; let p : Fin 32 := 0; let g : BitVec 10 := 25; let h : Word := 1; let s : State := (State.reset.wr .poolEn 1 0).setPool 0 { bufs := [(0, ⟨true, 24, 1⟩)], free := [], hadFree := false }; let u : State := elapse dt s; let i : Nat := h.toNat / 256 % 65536; let x : BpuPool := u.pool p; let b : BpuBuf := x.buf i
     (u.bpu.reclaim = none) ∧
     (handleBad u p h.toNat (some g.toNat) = none) ∧
     (b.alloc = true) ∧
     (b.gen = h.toNat % 256) ∧
     (b.owner = tid)) ∧
    (let dt : Nat := 0; let g : BitVec 10 := 0; let s : State := State.reset; let u : State := elapse dt s
     (u.bpu.reclaim = none)) ∧
    (let dt : Nat := 0; let s : State := { State.reset with bpu := { BpuSt.init with reclaim := some (24, 0) } }; let u : State := elapse dt s; let g : Nat := 24; let e : Nat := 0; let t : State := foldN 32 (reclaimPool g) u
     (u.bpu.reclaim = some (g, e)) ∧
     (e ≤ u.now) ∧
     (t.bpu.waiting = [])) :=
  by and_intros <;> decide +kernel

theorem test_meets_FabricRequests :
    (let dt : Nat := 0; let f : FabIn := ⟨1, 1, 0x0900000000, 4, none, []⟩; let env : RegEnv := ⟨⟨true, 0xFF, []⟩, 0, 0, false⟩; let x : List Upset := []; let cu : List ClpUpset := []; let reply : FabReply := .waits; let s : State := testOpen; let u : State := elapse dt s; let q : Req := ⟨f.port, f.tid, f.addr, f.len, f.data.isSome⟩; let t : State := parityAt q u
     (x = []) ∧
     (cu = []) ∧
     (fabOn u = true) ∧
     (hartTidOk u f.port f.tid = true) ∧
     (respOf t q ≠ 0)) ∧
    (let dt : Nat := 0; let f : FabIn := ⟨1, 1, 64, 4, some [1, 2, 3, 4], []⟩; let env : RegEnv := ⟨⟨true, 0xFF, []⟩, 0, 0, false⟩; let x : List Upset := []; let cu : List ClpUpset := []; let reply : FabReply := .waits; let s : State := testOpen; let u : State := elapse dt s; let q : Req := ⟨f.port, f.tid, f.addr, f.len, true⟩; let t : State := portTaken f .dram (parityAt q u); let d : List Byte := [1, 2, 3, 4]
     (x = []) ∧
     (cu = []) ∧
     (fabOn u = true) ∧
     (hartTidOk u f.port f.tid = true) ∧
     (f.data = some d) ∧
     (respOf (parityAt q u) q = 0) ∧
     (decodeAddr (parityAt q u) q.addr = some .dram) ∧
     (portTakes u f .dram = true) ∧
     (decodeAddr t q.addr = some .dram) ∧
     ((eccWrite q.tid q.addr q.len t).1 = false)) ∧
    (let dt : Nat := 0; let f : FabIn := ⟨1, 1, 64, 4, none, []⟩; let env : RegEnv := ⟨⟨true, 0xFF, []⟩, 0, 0, false⟩; let x : List Upset := []; let cu : List ClpUpset := []; let reply : FabReply := .waits; let s : State := testOpen; let u : State := elapse dt s; let q : Req := ⟨f.port, f.tid, f.addr, f.len, false⟩; let t : State := portTaken f .dram (parityAt q u)
     (x = []) ∧
     (cu = []) ∧
     (fabOn u = true) ∧
     (hartTidOk u f.port f.tid = true) ∧
     (f.data = none) ∧
     (respOf (parityAt q u) q = 0) ∧
     (decodeAddr (parityAt q u) q.addr = some .dram) ∧
     (portTakes u f .dram = true) ∧
     (decodeAddr t q.addr = some .dram) ∧
     ((eccRead q.tid q.addr q.len t).1 = false)) ∧
    (let dt : Nat := 0; let f : FabIn := ⟨1, 1, 0x2000030000, 4, none, []⟩; let env : RegEnv := ⟨⟨true, 0xFF, []⟩, 0, 0, false⟩; let x : List Upset := []; let cu : List ClpUpset := []; let reply : FabReply := .waits; let s : State := testOpen; let u : State := elapse dt s; let q : Req := ⟨f.port, f.tid, f.addr, f.len, f.data.isSome⟩; let k : Nat := 3; let t : State := portTaken f (.per k) (parityAt q u)
     (x = []) ∧
     (cu = []) ∧
     (fabOn u = true) ∧
     (hartTidOk u f.port f.tid = true) ∧
     (respOf (parityAt q u) q = 0) ∧
     (decodeAddr (parityAt q u) q.addr = some (.per k)) ∧
     (portTakes u f (.per k) = true) ∧
     (decodeAddr t q.addr = some (.per k))) ∧
    (let dt : Nat := 0; let f : FabIn := ⟨1, 1, 64, 4, none, []⟩; let env : RegEnv := ⟨⟨true, 0xFF, []⟩, 0, 0, false⟩; let x : List Upset := []; let cu : List ClpUpset := []; let reply : FabReply := .waits; let s : State := { testOpen with fab := { testOpen.fab with portAt := [(160, 1)] } }; let u : State := elapse dt s; let q : Req := ⟨f.port, f.tid, f.addr, f.len, f.data.isSome⟩; let k : Win := .dram
     (x = []) ∧
     (cu = []) ∧
     (fabOn u = true) ∧
     (hartTidOk u f.port f.tid = true) ∧
     (respOf (parityAt q u) q = 0) ∧
     (decodeAddr (parityAt q u) q.addr = some k) ∧
     (portTakes u f k = false)) ∧
    (let dt : Nat := 0; let id : Nat := 1; let s : State := { State.reset with now := 10000000000, fab := { FabSt.init with reqs := [⟨1, 1, 1, 0x2000000000, 4, false, 0, false⟩] } }; let u : State := elapse dt s; let r : FabReq := ⟨1, 1, 1, 0x2000000000, 4, false, 0, false⟩
     (u.fab.reqs.find? (fun r => r.id == id) = some r) ∧
     (r.timedOut = false) ∧
     (r.at_ + (timeoutOf u r.addr).1 ≤ u.now)) ∧
    (let dt : Nat := 0; let id : Nat := 1; let s : State := { State.reset with fab := { FabSt.init with reqs := [⟨1, 1, 1, 0x20001F0000, 4, false, 0, true⟩] } }; let u : State := elapse dt s; let r : FabReq := ⟨1, 1, 1, 0x20001F0000, 4, false, 0, true⟩
     (u.fab.reqs.find? (fun r => r.id == id) = some r) ∧
     (r.timedOut = true) ∧
     (ownAnswer u r = false)) :=
  by and_intros <;> decide +kernel

theorem test_meets_ClampCommits :
    (let dt : Nat := 0; let tid : Nat := 0; let i : Fin 12 := 10; let v : Word := 1; let s : State := State.reset; let u : State := elapse dt s; let w : State := (u.wr .clpCommitAtTick (bitsOf v.toNat 1 1) i).wr .clpCommitAxis (bitsOf v.toNat 2 3) i
     (tid = 0) ∧
     (bitOf v.toNat 0 = true) ∧
     (u.fab.pend.get none i = none)) ∧
    (let dt : Nat := 0; let tid : Nat := 1; let i : Fin 12 := 0; let v : Word := 1; let s : State := State.reset; let u : State := elapse dt s
     (tid ≠ 0)) ∧
    (let dt : Nat := 0; let tid : Nat := 0; let i : Fin 12 := 10; let v : Word := 1; let s : State := { State.reset with fab := { FabSt.init with pend := [(10, some ⟨[], 0, false, 0⟩)] } }; let u : State := elapse dt s; let p : ClpPend := ⟨[], 0, false, 0⟩
     (tid = 0) ∧
     (bitOf v.toNat 0 = true) ∧
     (u.fab.pend.get none i = some p)) ∧
    (let dt : Nat := 0; let i : Fin 12 := 10; let s : State := { State.reset with now := 1280, fab := { FabSt.init with pend := [(10, some ⟨[], 0, false, 0⟩)] } }; let u : State := elapse dt s; let p : ClpPend := ⟨[], 0, false, 0⟩
     (u.fab.pend.get none i = some p) ∧
     (p.goAt + clpEntries i * 10 ≤ u.now) ∧
     (clpOffence i p.tbl = none) ∧
     (p.atTick = true → (u.tickNow p.axis).isSome = true)) ∧
    (let dt : Nat := 0; let i : Fin 12 := 10; let s : State := { State.reset with now := 1280, fab := { FabSt.init with pend := [(10, some ⟨[(3, .make true true false 1 1 0 0)], 0, false, 0⟩)] } }; let u : State := elapse dt s; let p : ClpPend := ⟨[(3, .make true true false 1 1 0 0)], 0, false, 0⟩; let e : Nat := 3; let c : Nat := 3
     (u.fab.pend.get none i = some p) ∧
     (p.goAt + clpEntries i * 10 ≤ u.now) ∧
     (clpOffence i p.tbl = some (e, c))) :=
  by and_intros <;> decide +kernel

theorem test_meets_TranslationCommands :
    (let dt : Nat := 0; let e : Fin 40 := 0; let tid : BitVec 10 := 0; let va : Nat := 0; let s : State := State.reset; let u : State := elapse dt s; let wr : Bool := true; let begun : Nat := 0; let r : XRes × State := xlate e tid.toNat (va % 2 ^ 48) wr u
     (u.mmu.stall.get none e = none) ∧
     (u.mmu.invAt.get 0 tid.toNat + begun ≤ u.now)) ∧
    (let dt : Nat := 0; let e : Fin 40 := 0; let tid : BitVec 10 := 0; let va : Nat := 0; let s : State := State.reset; let u : State := elapse dt s; let wr : Bool := true; let begun : Nat := 5; let r : XRes × State := xlate e tid.toNat (va % 2 ^ 48) wr (u.bump .mmuCntWalk 1)
     (u.mmu.stall.get none e = none) ∧
     (u.now < u.mmu.invAt.get 0 tid.toNat + begun)) ∧
    (let dt : Nat := 0; let v : Word := 0x80000018; let s : State := State.reset; let u : State := elapse dt s; let t : State := (u.wr .mmuXlateTid v.toNat).wr .mmuXlateWr (bitsOf v.toNat 16 1); let r : XRes × State := xlateL2 (t.rd .mmuXlateTid) (t.rd .mmuXlateVaHi * 2 ^ 32 + t.rd .mmuXlateVaLo) (t.on .mmuXlateWr) t
     (v.toNat / 2 ^ 31 % 2 = 1) ∧
     (24 ≤ t.rd .mmuXlateTid) ∧
     (t.rd .mmuDead (t.rd .mmuXlateTid) = 0)) ∧
    (let dt : Nat := 0; let tid : BitVec 10 := 0; let s : State := State.reset; let u : State := elapse dt s
     (stalledReplicas u tid.toNat = []) ∧
     (u.host.inv = [])) ∧
    (let dt : Nat := 0; let tid : BitVec 10 := 0; let s : State := { State.reset.wr .mmuInvBusy 1 with host := { HostSt.init with inv := [(24, 0, 4096)] } }; let u : State := elapse dt s; let x : List (Nat × Nat × Nat) × State := startInvs ((stalledReplicas u tid.toNat).foldl retireReplica u).host.inv ((stalledReplicas u tid.toNat).foldl retireReplica u)
     (x.1 ≠ [])) ∧
    (let dt : Nat := 0; let e : Fin 40 := 0; let s : State := { State.reset with mmu := { MmuSt.init with stall := [(0, some ⟨1, 0, false, true⟩)] } }; let u : State := elapse dt s; let x : MmuStall := ⟨1, 0, false, true⟩; let r : XRes × State := xlate e x.tid x.va x.wr (unstall e u); let y : TlbEnt := ⟨1, 0, 0, 0, true, true⟩
     (u.mmu.stall.get none e = some x) ∧
     (x.retry = true) ∧
     (invRuns u x.tid = false) ∧
     (r.1 = .ok y)) ∧
    (let dt : Nat := 0; let tid : Nat := 0; let v : Word := 0x80000018; let s : State := State.reset; let u : State := elapse dt s; let w : State := u.wr .mmuInvTid v.toNat; let i : MmuInv := ⟨w.rd .mmuInvTid, w.rd .mmuInvBaseHi * 2 ^ 32 + w.rd .mmuInvBaseLo * 4096, w.rd .mmuInvLen, w.now⟩; let t : State := (((((w.wr .mmuGen (nextGen (w.rd .mmuGen i.tid)) i.tid).wr .mmuInvBusy 1).wr .mmuInvGo 1).wr .mmuInvTimeout 0).wr .mmuInvAckLo 0).wr .mmuInvAckHi 0
     (v.toNat / 2 ^ 31 % 2 = 1) ∧
     (u.rd .mmuInvBusy = 0)) ∧
    (let dt : Nat := 0; let tid : Nat := 0; let v : Word := 0x80000018; let s : State := State.reset.wr .mmuInvBusy 1; let u : State := elapse dt s
     (v.toNat / 2 ^ 31 % 2 = 1) ∧
     (u.rd .mmuInvBusy = 1)) ∧
    (let dt : Nat := 0; let e : Fin 40 := 0; let s : State := { State.reset with mmu := { MmuSt.init with inv := some ⟨24, 0, 0, 0⟩ } }; let u : State := elapse dt s; let i : MmuInv := ⟨24, 0, 0, 0⟩
     (u.mmu.inv = some i) ∧
     (invHeld u e = false)) ∧
    (let dt : Nat := 0; let s : State := { State.reset with now := 840000, mmu := { MmuSt.init with inv := some ⟨24, 0, 0, 0⟩ } }; let u : State := elapse dt s; let i : MmuInv := ⟨24, 0, 0, 0⟩
     (u.mmu.inv = some i) ∧
     (i.at_ + 840000 ≤ u.now) ∧
     (u.rd .mmuInvTimeout = 0)) :=
  by and_intros <;> decide +kernel

theorem test_meets_ContextSlots :
    (let dt : Nat := 0; let tid : Nat := 0; let k : Fin 64 := 0; let s : State := (testCtx 0).wr .ctxState 0 0; let u : State := elapse dt s
     (activateOk u k = true)) ∧
    (let dt : Nat := 0; let tid : Nat := 0; let k : Fin 64 := 0; let s : State := testCtx 0; let u : State := elapse dt s
     (activateOk u k = false)) ∧
    (let dt : Nat := 0; let k : Fin 64 := 0; let s : State := (testCtx 0).wr .ctxState 1 0; let u : State := elapse dt s; let t : State := foldN 8 (fun c s => if ctxHasCluster s k c then islandInstall (2 + c) (shareEntries s k c) s else s) u; let v : State := t.setCtx k { t.ctx k with switchUs := (t.now - (t.ctx k).actAt) / 8400, weightsAt := if (t.ctx k).weights = [] then none else some (t.now + weightTime t k) }
     (u.rd .ctxState k = 1) ∧
     ((t.ctx k).ending = false)) ∧
    (let dt : Nat := 0; let k : Fin 64 := 0; let s : State := ((testCtx 0).wr .ctxState 1 0).setCtx 0 { CtxSt.init with ending := true }; let u : State := elapse dt s; let t : State := foldN 8 (fun c s => if ctxHasCluster s k c then islandInstall (2 + c) (shareEntries s k c) s else s) u; let v : State := t.setCtx k { t.ctx k with switchUs := (t.now - (t.ctx k).actAt) / 8400, weightsAt := if (t.ctx k).weights = [] then none else some (t.now + weightTime t k) }
     (u.rd .ctxState k = 1) ∧
     ((t.ctx k).ending = true)) ∧
    (let dt : Nat := 0; let tid : Nat := 0; let k : Fin 64 := 0; let s : State := (testCtx 0).wr .chTail 0 0; let u : State := elapse dt s; let t : State := loseShares k (dropShares k (foldN 64 (fun ch s => if s.rd .chSlot ch = k then s.wr .chEn 0 ch else s) u))
     (u.rd .ctxState k = 2) ∧
     (slotBusy u k = false)) ∧
    (let dt : Nat := 0; let tid : Nat := 0; let k : Fin 64 := 0; let s : State := testCtx 0; let u : State := elapse dt s
     (u.rd .ctxState k ≠ 2 ∨ slotBusy u k = true)) ∧
    (let dt : Nat := 0; let k : Fin 64 := 0; let s : State := testCtx 4; let u : State := elapse dt s
     (u.rd .ctxState k = 2)) ∧
    (let dt : Nat := 0; let k : Fin 64 := 0; let s : State := (testCtx 0).wr .ctxState 3 0; let u : State := elapse dt s; let t : State := loseShares k (dropShares k u)
     (u.rd .ctxState k = 3) ∧
     (u.sch.runs.any (fun r => u.rd .chSlot r.ch == k.val) = false)) ∧
    (let dt : Nat := 0; let tid : BitVec 10 := 30; let s : State := State.reset; let u : State := elapse dt s; let t : State := foldN 12 (fun i s => if (s.clpTab i).any fun e => e.2.v && e.2.tlo ≤ tid.toNat && tid.toNat ≤ e.2.thi then islandRemove i (fun e => e.v && e.tlo ≤ tid.toNat && tid.toNat ≤ e.thi) s else s) u
     (24 ≤ tid.toNat) ∧
     (tidQuiet u tid.toNat = true)) :=
  by and_intros <;> decide +kernel

theorem test_meets_TaskChannels :
    (let dt : Nat := 0; let tid : Nat := 0; let ch : Fin 64 := 0; let v : BitVec 3 := 3; let s : State := State.reset; let u : State := elapse dt s
     (ringOk 8 (u.rd .chDone ch % 8) (u.rd .chTail ch) v.toNat = true)) ∧
    (let dt : Nat := 0; let tid : Nat := 0; let ch : Fin 64 := 0; let v : BitVec 3 := 0; let s : State := State.reset.wr .chTail 1 0; let u : State := elapse dt s
     (ringOk 8 (u.rd .chDone ch % 8) (u.rd .chTail ch) v.toNat = false)) ∧
    (let dt : Nat := 0; let c : Fin 8 := 0; let s : State := testReady 1; let u : State := elapse dt s; let ch : Nat := 0; let r : TaskRes := .core 0
     ((tdOrder u c).findSome? (tdTake u c) = some (ch, some r))) ∧
    (let dt : Nat := 0; let c : Fin 8 := 0; let s : State := testReady 4; let u : State := elapse dt s; let ch : Nat := 0
     ((tdOrder u c).findSome? (tdTake u c) = some (ch, none)) ∧
     (taskValid u ch (taskDesc u ch (u.rd .chHead ch)) = true)) ∧
    (let dt : Nat := 0; let c : Fin 8 := 0; let s : State := testCtx 5; let u : State := elapse dt s; let ch : Nat := 0
     ((tdOrder u c).findSome? (tdTake u c) = some (ch, none)) ∧
     (taskValid u ch (taskDesc u ch (u.rd .chHead ch)) = false)) ∧
    (let dt : Nat := 0; let ch : Fin 64 := 0; let i : Fin 8 := 0; let s : State := { State.reset with sch := { SchSt.init with runs := [⟨0, 0, 24, .core 0, 0, 0, none, 0, 0⟩] } }; let u : State := elapse dt s; let r : TaskRun := ⟨0, 0, 24, .core 0, 0, 0, none, 0, 0⟩; let k : Nat := 0
     (findRun u ch i = some r) ∧
     (r.stallFrom = none) ∧
     (r.res = .core k) ∧
     (r.fail ≠ 0 ∨ u.now - r.startAt - r.stalled < u.rd .schTlim * 8400 + 8)) ∧
    (let dt : Nat := 0; let ch : Fin 64 := 0; let i : Fin 8 := 0; let s : State := { State.reset with sch := { SchSt.init with runs := [⟨0, 0, 24, .dma 0 0, 0, 0, none, 0, 0⟩] } }; let u : State := elapse dt s; let r : TaskRun := ⟨0, 0, 24, .dma 0 0, 0, 0, none, 0, 0⟩; let c : Nat := 0; let x : Nat := 0; let k : Nat := 1; let t : State := elapse 0 s
     (findRun u ch i = some r) ∧
     (r.stallFrom = none) ∧
     (r.res = .dma c x) ∧
     (u.now - r.startAt - r.stalled < u.rd .schTlim * 8400 + 8) ∧
     (dmaRun r 65536 u = (0, k, t))) ∧
    (let dt : Nat := 0; let ch : Fin 64 := 0; let i : Fin 8 := 0; let s : State := { State.reset with sch := { SchSt.init with runs := [⟨0, 0, 24, .cnv 0, 0, 0, none, 0, 1⟩] } }; let u : State := elapse dt s; let r : TaskRun := ⟨0, 0, 24, .cnv 0, 0, 0, none, 0, 1⟩; let c : Nat := 0
     (findRun u ch i = some r) ∧
     (r.stallFrom = none) ∧
     (r.res = .cnv c) ∧
     (r.fail ≠ 0)) ∧
    (let dt : Nat := 0; let ch : Fin 64 := 0; let i : Fin 8 := 0; let rows : Nat := 0; let s : State := { State.reset with now := 504000, sch := { SchSt.init with runs := [⟨0, 0, 24, .core 0, 0, 0, none, 0, 0⟩] } }; let u : State := elapse dt s; let r : TaskRun := ⟨0, 0, 24, .core 0, 0, 0, none, 0, 0⟩; let k : Nat := 0
     (findRun u ch i = some r) ∧
     (r.stallFrom = none) ∧
     (u.rd .schTlim * 8400 ≤ u.now - r.startAt - r.stalled) ∧
     (u.now - r.startAt - r.stalled < u.rd .schTlim * 8400 + 8) ∧
     (r.fail = 0) ∧
     (r.res = .core k) ∧
     (u.rd .tcState k ≠ 1 ∨ (u.core k).busyTo ≤ u.now)) ∧
    (let dt : Nat := 0; let ch : Fin 64 := 0; let i : Fin 8 := 0; let rows : Nat := 0; let s : State := (({ State.reset with now := 504000, sch := { SchSt.init with runs := [⟨0, 0, 24, .core 0, 0, 0, none, 0, 0⟩] } }.wr .tcState 1 0).setCore 0 { CoreSt.init with busyTo := 504100 }); let u : State := elapse dt s; let r : TaskRun := ⟨0, 0, 24, .core 0, 0, 0, none, 0, 0⟩; let k : Nat := 0; let t : State := endRun r 6 u
     (findRun u ch i = some r) ∧
     (r.stallFrom = none) ∧
     (u.rd .schTlim * 8400 ≤ u.now - r.startAt - r.stalled) ∧
     (u.now - r.startAt - r.stalled < u.rd .schTlim * 8400 + 8) ∧
     (r.fail = 0) ∧
     (r.res = .core k) ∧
     (u.rd .tcState k = 1) ∧
     (u.now < (u.core k).busyTo)) ∧
    (let dt : Nat := 0; let ch : Fin 64 := 0; let s : State := State.reset.wr .chState 2 0; let u : State := elapse dt s
     (u.rd .chState ch = 2)) ∧
    (let dt : Nat := 0; let ch : Fin 64 := 0; let s : State := testCtx 4; let u : State := elapse dt s; let i : Nat := u.rd .chHead ch
     (chQueued u ch = 1) ∧
     (chQueued (endEntry ch i 8 0 (u.wr .chHead (i + 1) ch)) ch = 0)) ∧
    (let dt : Nat := 0; let ch : Fin 64 := 0; let s : State := State.reset; let u : State := elapse dt s
     (chQueued u ch = 0)) :=
  by and_intros <;> decide +kernel

theorem test_meets_ModelClassification :
    (let dt : Nat := 0; let k : Fin 64 := 0; let modelId : Nat := 0; let img : ModelImage := ⟨[some ⟨.matmul, .array⟩], true⟩; let w : Nat := 131072; let aCs : Nat := 0; let aLs : Nat := 0; let s : State := ((testCtx 0).wr .ctxCsNb 1 0); let u : State := elapse dt s; let ls : Nat := u.rd .ctxLsNb k * 0x8000; let cs : Nat := u.rd .ctxCsNb k * 0x20000; let sh : Nat := ctxClusters u k * (cs - aCs)
     (img.ok = true) ∧
     (aLs ≤ ls) ∧
     (aCs < cs) ∧
     (w ≤ sh)) ∧
    (let dt : Nat := 0; let k : Fin 64 := 0; let modelId : Nat := 0; let img : ModelImage := ⟨[some ⟨.matmul, .array⟩], true⟩; let w : Nat := 140000; let aCs : Nat := 0; let aLs : Nat := 0; let s : State := ((testCtx 0).wr .ctxCsNb 1 0).wr .ctxBw 1 0; let u : State := elapse dt s; let ls : Nat := u.rd .ctxLsNb k * 0x8000; let cs : Nat := u.rd .ctxCsNb k * 0x20000; let sh : Nat := ctxClusters u k * (cs - aCs)
     (img.ok = true) ∧
     (aLs ≤ ls) ∧
     (aCs < cs) ∧
     (sh < w) ∧
     (4 * w ≤ 5 * sh)) ∧
    (let dt : Nat := 0; let k : Fin 64 := 0; let modelId : Nat := 0; let img : ModelImage := ⟨[none], true⟩; let w : Nat := 0; let aCs : Nat := 0; let aLs : Nat := 0; let s : State := State.reset; let u : State := elapse dt s; let ls : Nat := u.rd .ctxLsNb k * 0x8000; let cs : Nat := u.rd .ctxCsNb k * 0x20000; let sh : Nat := ctxClusters u k * (cs - aCs)
     (img.ok = false)) ∧
    (let dt : Nat := 0; let k : Fin 64 := 0; let modelId : Nat := 0; let img : ModelImage := ⟨[some ⟨.matmul, .array⟩], true⟩; let w : Nat := 0; let aCs : Nat := 0; let aLs : Nat := 1; let s : State := State.reset; let u : State := elapse dt s; let ls : Nat := u.rd .ctxLsNb k * 0x8000; let cs : Nat := u.rd .ctxCsNb k * 0x20000; let sh : Nat := ctxClusters u k * (cs - aCs)
     (img.ok = true) ∧
     (ls < aLs ∨ cs ≤ aCs)) :=
  by and_intros <;> decide +kernel

theorem test_meets_DictionaryRequests :
    (let dt : Nat := 0; let q : OdReq := ⟨.can false false 1, .read, 0x1018, 1⟩; let s : State := State.reset; let u : State := elapse dt s
     (u.rd .hostDictReady ≠ 1) ∧
     (q.src.port = 0)) ∧
    (let dt : Nat := 0; let q : OdReq := ⟨.can false false 1, .read, 0x1018, 1⟩; let s : State := State.reset.wr .hostDictReady 1; let u : State := elapse dt s
     (u.rd .hostDictReady = 1) ∧
     ((u.od.queue.filter fun r => r.src.port == q.src.port).length < 16)) ∧
    (let dt : Nat := 0; let q : OdReq := ⟨.can false false 1, .read, 0x1018, 1⟩; let s : State := { State.reset.wr .hostDictReady 1 with od := { OdSt.init with queue := List.replicate 16 ⟨.can false false 1, .read, 0x1018, 1⟩ } }; let u : State := elapse dt s
     (u.rd .hostDictReady = 1) ∧
     (16 ≤ (u.od.queue.filter fun r => r.src.port == q.src.port).length) ∧
     (q.src.port = 0) ∧
     (0 ∉ u.od.ovfTold)) ∧
    (let dt : Nat := 0; let s : State := testOd (.read) 0x3010 1; let u : State := elapse dt s; let q : OdReq := ⟨.pcie 1 2, .read, 0x3010, 1⟩; let l : List OdReq := []; let x : State := { u with od := { u.od with queue := l } }; let k : ObjKey := ⟨.loadModel, 0, 0⟩
     (u.od.auth = none) ∧
     (u.od.queue = q :: l) ∧
     (q.op = .read) ∧
     (q.names .logRecord = false) ∧
     (q.names .logBlock = false) ∧
     (odAccess q.idx q.sub false = 0) ∧
     (objAt q.idx q.sub = some k)) ∧
    (let dt : Nat := 0; let s : State := testOd (.read) 0x3010 9; let u : State := elapse dt s; let q : OdReq := ⟨.pcie 1 2, .read, 0x3010, 9⟩; let l : List OdReq := []; let x : State := { u with od := { u.od with queue := l } }
     (u.od.auth = none) ∧
     (u.od.queue = q :: l) ∧
     (q.op = .read) ∧
     (q.names .logRecord = false) ∧
     (q.names .logBlock = false) ∧
     (odAccess q.idx q.sub false ≠ 0)) ∧
    (let dt : Nat := 0; let progEnd : Nat := 0; let s : State := testOd (.write [1, 0, 0, 0]) 0x607A 0; let u : State := elapse dt s; let q : OdReq := ⟨.pcie 1 2, .write [1, 0, 0, 0], 0x607A, 0⟩; let l : List OdReq := []; let x : State := { u with od := { u.od with queue := l } }; let k : ObjKey := ⟨.axTgtPos, 0, 0⟩; let v : List Byte := [1, 0, 0, 0]
     (u.od.auth = none) ∧
     (u.od.queue = q :: l) ∧
     (q.op = .write v) ∧
     (objAt q.idx q.sub = some k) ∧
     (ownRow k.o = false) ∧
     (odWriteCheck x q.idx q.sub v = 0)) ∧
    (let dt : Nat := 0; let progEnd : Nat := 0; let s : State := testOd (.write [1]) 0x607A 0; let u : State := elapse dt s; let q : OdReq := ⟨.pcie 1 2, .write [1], 0x607A, 0⟩; let l : List OdReq := []; let x : State := { u with od := { u.od with queue := l } }; let v : List Byte := [1]
     (u.od.auth = none) ∧
     (u.od.queue = q :: l) ∧
     (q.op = .write v) ∧
     ((objAt q.idx q.sub).any (fun k => ownRow k.o) = false) ∧
     (odWriteCheck x q.idx q.sub v ≠ 0)) :=
  by and_intros <;> decide +kernel

theorem test_meets_DictionaryStore :
    (let dt : Nat := 0; let s : State := testOd (.write [0x73, 0x61, 0x76, 0x65]) 0x1010 1; let u : State := elapse dt s; let q : OdReq := ⟨.pcie 1 2, .write [0x73, 0x61, 0x76, 0x65], 0x1010, 1⟩; let l : List OdReq := []; let x : State := { u with od := { u.od with queue := l } }
     (u.od.auth = none) ∧
     (u.od.queue = q :: l) ∧
     (q.writes .storeAll = true) ∧
     (ownCheck q = 0) ∧
     (q.num = 0x65766173) ∧
     (x.od.store = none)) ∧
    (let dt : Nat := 0; let s : State := testOd (.write [0, 0, 0, 0]) 0x1010 1; let u : State := elapse dt s; let q : OdReq := ⟨.pcie 1 2, .write [0, 0, 0, 0], 0x1010, 1⟩; let l : List OdReq := []; let x : State := { u with od := { u.od with queue := l } }
     (u.od.auth = none) ∧
     (u.od.queue = q :: l) ∧
     (q.writes .storeAll = true) ∧
     (ownCheck q = 0) ∧
     (q.num ≠ 0x65766173)) ∧
    (let dt : Nat := 0; let ok : Bool := true; let s : State := { State.reset with od := { OdSt.init with store := some ⟨[], ⟨.pcie 1 2, .read, 0, 0⟩⟩ } }; let u : State := elapse dt s; let r : OdStoreRun := ⟨[], ⟨.pcie 1 2, .read, 0, 0⟩⟩; let n : Nat := (match newestCopy u.od.copies with | some c => c.seq + 1 | none => 1)
     (u.od.store = some r) ∧
     (ok = true)) ∧
    (let dt : Nat := 0; let ok : Bool := false; let s : State := { State.reset with od := { OdSt.init with store := some ⟨[], ⟨.pcie 1 2, .read, 0, 0⟩⟩ } }; let u : State := elapse dt s; let r : OdStoreRun := ⟨[], ⟨.pcie 1 2, .read, 0, 0⟩⟩
     (u.od.store = some r) ∧
     (ok = false)) ∧
    (let dt : Nat := 0; let s : State := testOd (.write [0x6C, 0x6F, 0x61, 0x64]) 0x1011 1; let u : State := elapse dt s; let q : OdReq := ⟨.pcie 1 2, .write [0x6C, 0x6F, 0x61, 0x64], 0x1011, 1⟩; let l : List OdReq := []; let x : State := { u with od := { u.od with queue := l } }
     (u.od.auth = none) ∧
     (u.od.queue = q :: l) ∧
     (q.writes .restoreAll = true) ∧
     (ownCheck q = 0) ∧
     (q.num = 0x64616F6C)) ∧
    (let dt : Nat := 0; let l' : TripLive := ⟨true, 0xFF, []⟩; let progEnd : Nat := 0; let s : State := testOd (.process [⟨0x607A, 0, 32, [1, 0, 0, 0]⟩] 7) 0 0; let u : State := elapse dt s; let q : OdReq := ⟨.pcie 1 2, .process [⟨0x607A, 0, 32, [1, 0, 0, 0]⟩] 7, 0, 0⟩; let l : List OdReq := []; let x : State := { u with od := { u.od with queue := l } }; let vs : List PdVal := [⟨0x607A, 0, 32, [1, 0, 0, 0]⟩]; let rx : Nat := 7
     (u.od.auth = none) ∧
     (u.od.queue = q :: l) ∧
     (q.op = .process vs rx)) ∧
    (let dt : Nat := 0; let s : State := { testOd .read 0x3400 6 with log := { LogSt.init with recs := [⟨0, 0, 1, 0, 0⟩], next := 1 } }; let u : State := elapse dt s; let q : OdReq := ⟨.pcie 1 2, .read, 0x3400, 6⟩; let l : List OdReq := []; let x : State := { u with od := { u.od with queue := l } }; let n : Nat := 0; let r : EvRec := ⟨0, 0, 1, 0, 0⟩; let rs : List EvRec := []
     (u.od.auth = none) ∧
     (u.od.queue = q :: l) ∧
     (q.op = .read) ∧
     (q.names .logRecord = true) ∧
     (logFrom x.log = (n, r :: rs))) ∧
    (let dt : Nat := 0; let s : State := testOd (.read) 0x3400 6; let u : State := elapse dt s; let q : OdReq := ⟨.pcie 1 2, .read, 0x3400, 6⟩; let l : List OdReq := []; let x : State := { u with od := { u.od with queue := l } }; let n : Nat := 0
     (u.od.auth = none) ∧
     (u.od.queue = q :: l) ∧
     (q.op = .read) ∧
     (q.names .logRecord = true) ∧
     (logFrom x.log = (n, []))) ∧
    (let dt : Nat := 0; let s : State := testOd (.block) 0x3400 8; let u : State := elapse dt s; let q : OdReq := ⟨.pcie 1 2, .block, 0x3400, 8⟩; let l : List OdReq := []; let x : State := { u with od := { u.od with queue := l } }; let n : Nat := 0; let rs : List EvRec := []
     (u.od.auth = none) ∧
     (u.od.queue = q :: l) ∧
     (q.op = .block) ∧
     (q.names .logBlock = true) ∧
     (logFrom x.log = (n, rs))) ∧
    (let dt : Nat := 0; let s : State := testOd (.write [0x6C, 0x65, 0x61, 0x72]) 0x3400 7; let u : State := elapse dt s; let q : OdReq := ⟨.pcie 1 2, .write [0x6C, 0x65, 0x61, 0x72], 0x3400, 7⟩; let l : List OdReq := []; let x : State := { u with od := { u.od with queue := l } }
     (u.od.auth = none) ∧
     (u.od.queue = q :: l) ∧
     (q.writes .logClear = true) ∧
     (ownCheck q = 0)) ∧
    (let dt : Nat := 0; let s : State := testOd (.write [0, 0, 0, 0]) 0x3802 1; let u : State := elapse dt s; let q : OdReq := ⟨.pcie 1 2, .write [0, 0, 0, 0], 0x3802, 1⟩; let l : List OdReq := []; let x : State := { u with od := { u.od with queue := l } }
     (u.od.auth = none) ∧
     (u.od.queue = q :: l) ∧
     (q.writes .stageReset = true) ∧
     (ownCheck q = 0)) ∧
    (let dt : Nat := 0; let s : State := testOd (.write [5]) 0x3802 2; let u : State := elapse dt s; let q : OdReq := ⟨.pcie 1 2, .write [5], 0x3802, 2⟩; let l : List OdReq := []; let x : State := { u with od := { u.od with queue := l } }; let v : List Byte := [5]
     (u.od.auth = none) ∧
     (u.od.queue = q :: l) ∧
     (q.writes .stageChunk = true) ∧
     (ownCheck q = 0) ∧
     (q.op = .write v) ∧
     (x.od.staging.length + v.length ≤ 16777216)) :=
  by and_intros <;> decide +kernel

theorem test_meets_DriveProfile :
    (let dt : Nat := 0; let n : Fin 8 := 0; let s : State := (testOd (.write [8]) 0x6060 0).setProf 0 ⟨1, false, 0, false⟩; let u : State := elapse dt s; let q : OdReq := ⟨.pcie 1 2, .write [8], 0x6060, 0⟩; let l : List OdReq := []; let x : State := { u with od := { u.od with queue := l } }; let m : Int := signed 8 q.num; let mode : Nat := 0; let src : Nat := 0; let t : State := ((x.setOb .axModeObj (unsigned 8 m) n).wr .axMode mode n).wr .axSpsrc src n
     (u.od.auth = none) ∧
     (u.od.queue = q :: l) ∧
     (q.axisWrite .axModeObj n = true) ∧
     (ownCheck q = 0) ∧
     (modeRow m = some (mode, src)) ∧
     ((x.prof n).st = 1) ∧
     (modeTaken x n src = true)) ∧
    (let dt : Nat := 0; let n : Fin 8 := 0; let s : State := (testOd (.write [8]) 0x6060 0).setProf 0 ⟨4, false, 0, false⟩; let u : State := elapse dt s; let q : OdReq := ⟨.pcie 1 2, .write [8], 0x6060, 0⟩; let l : List OdReq := []; let x : State := { u with od := { u.od with queue := l } }
     (u.od.auth = none) ∧
     (u.od.queue = q :: l) ∧
     (q.axisWrite .axModeObj n = true) ∧
     (ownCheck q = 0) ∧
     (4 ≤ (x.prof n).st) ∧
     (signed 8 q.num = 0 ∨ (modeRow (signed 8 q.num)).isSome = true)) ∧
    (let dt : Nat := 0; let n : Fin 8 := 0; let live : TripLive := ⟨true, 0xFF, []⟩; let s : State := ((testOd (.write [0, 0]) 0x6040 0).setOb .axModeObj 8 0).setProf 0 ⟨1, false, 0, false⟩; let u : State := elapse dt s; let q : OdReq := ⟨.pcie 1 2, .write [0, 0], 0x6040, 0⟩; let l : List OdReq := []; let x : State := { u with od := { u.od with queue := l } }
     (u.od.auth = none) ∧
     (u.od.queue = q :: l) ∧
     (q.axisWrite .axControl n = true) ∧
     (ownCheck q = 0) ∧
     (profMode x n ≠ 0) ∧
     ((x.prof n).st ≠ 7) ∧
     (cwRow (x.prof n).st q.num = none)) ∧
    (let dt : Nat := 0; let n : Fin 8 := 0; let live : TripLive := ⟨true, 0xFF, []⟩; let s : State := ((testOd (.write [6, 0]) 0x6040 0).setOb .axModeObj 8 0).setProf 0 ⟨1, false, 0, false⟩; let u : State := elapse dt s; let q : OdReq := ⟨.pcie 1 2, .write [6, 0], 0x6040, 0⟩; let l : List OdReq := []; let x : State := { u with od := { u.od with queue := l } }
     (u.od.auth = none) ∧
     (u.od.queue = q :: l) ∧
     (q.axisWrite .axControl n = true) ∧
     (ownCheck q = 0) ∧
     (profMode x n ≠ 0) ∧
     ((x.prof n).st = 1) ∧
     (q.num = 6)) ∧
    (let dt : Nat := 0; let n : Fin 8 := 0; let live : TripLive := ⟨true, 0xFF, []⟩; let s : State := ((testOd (.write [15, 0]) 0x6040 0).setOb .axModeObj 8 0).setProf 0 ⟨3, false, 0, false⟩; let u : State := elapse dt s; let q : OdReq := ⟨.pcie 1 2, .write [15, 0], 0x6040, 0⟩; let l : List OdReq := []; let x : State := { u with od := { u.od with queue := l } }
     (u.od.auth = none) ∧
     (u.od.queue = q :: l) ∧
     (q.axisWrite .axControl n = true) ∧
     (ownCheck q = 0) ∧
     (profMode x n ≠ 0) ∧
     ((x.prof n).st = 3) ∧
     (q.num = 15) ∧
     (x.rdBit .safArmed n = false)) ∧
    (let dt : Nat := 0; let n : Fin 8 := 0; let s : State := ((State.reset.wr .mioEstop 1).setOb .axModeObj 8 0).setProf 0 ⟨4, false, 0, false⟩; let u : State := elapse dt s; let x : State := { u with drv := { u.drv with miss := u.drv.miss.filter (· != n.val) } }; let code : Nat := 0xFF02; let bits : Nat := 65536; let t : State := (writeEn n 0 ((goState n 7 x).setOb .axErrCode code n)).setProf n ⟨7, false, bits, code == 0x2310⟩
     (faultCause x n = some (code, bits)) ∧
     (profMode u n ≠ 0) ∧
     ((u.prof n).st = 4)) :=
  by and_intros <;> decide +kernel

theorem test_meets_CanControllers :
    (let dt : Nat := 0; let n : Fin 4 := 1; let f : CanFrame := ⟨0x123, false, false, 1, false, false, false, [7]⟩; let ago : Nat := 0; let resRec : Bool := false; let s : State := testCan.wr .canStdDef 2 1; let u : State := elapse dt s; let t : State := sortFrame n f ago (u.wr .canBus 0 n)
     (canLive u n = true) ∧
     (f.fd = false) ∧
     ((u.ctl n).rom = false) ∧
     (n.val ≠ 0) ∧
     ((t.ctl n).rom = false)) ∧
    (let dt : Nat := 0; let n : Fin 4 := 0; let f : CanFrame := ⟨0x123, false, false, 1, true, false, false, [7]⟩; let ago : Nat := 0; let resRec : Bool := false; let s : State := (testCan.wr .canFdEn 0 0).wr .canPexOff 0 0; let u : State := elapse dt s
     (canLive u n = true) ∧
     (f.fd = true) ∧
     (u.rd .canFdEn n = 0) ∧
     (u.rd .canPexOff n = 0)) ∧
    (let dt : Nat := 0; let n : Fin 4 := 0; let e : CanErr := .transmitter; let s : State := testCan; let u : State := elapse dt s
     (canLive u n = true) ∧
     ((u.ctl n).rom = false) ∧
     (e = .transmitter)) ∧
    (let dt : Nat := 0; let n : Fin 4 := 0; let e : CanErr := .receiver; let s : State := testCan; let u : State := elapse dt s
     (canLive u n = true) ∧
     ((u.ctl n).rom = false) ∧
     (e = .receiver)) ∧
    (let dt : Nat := 0; let tid : Nat := 0; let n : Fin 4 := 0; let b : Fin 64 := 0; let s : State := State.reset.wr .canMbdirLo 1 0; let u : State := elapse dt s
     (pairBit u .canMbdirLo .canMbdirHi b n = true)) ∧
    (let dt : Nat := 0; let tid : Nat := 0; let n : Fin 4 := 0; let b : Fin 64 := 0; let s : State := State.reset; let u : State := elapse dt s
     (pairBit u .canMbdirLo .canMbdirHi b n = false)) ∧
    (let dt : Nat := 0; let n : Fin 4 := 0; let b : Fin 64 := 0; let onBus : Bool := false; let s : State := State.reset.wr .canTxpendLo 1 0; let u : State := elapse dt s
     (pairBit u .canTxpendLo .canTxpendHi b n = true) ∧
     (onBus = false)) ∧
    (let dt : Nat := 0; let n : Fin 4 := 0; let b : Fin 64 := 0; let onBus : Bool := true; let s : State := testCan.wr .canTxpendLo 1 0; let u : State := elapse dt s
     (pairBit u .canTxpendLo .canTxpendHi b n = true) ∧
     (onBus = true) ∧
     (canSends u n = true)) ∧
    (let dt : Nat := 0; let n : Fin 4 := 0; let src : CanSrc := .mb 0; let ago : Nat := 0; let delay : Nat := 0; let s : State := testCan.wr .canTxpendLo 1 0; let u : State := elapse dt s; let b : Fin 64 := 0; let f : CanFrame := canElement u n (mbWord b); let t : State := canPut n (mbWord b + 2) [(stampAt u ago).2, (stampAt u ago).1 % 2 ^ 32] u; let x : State := setPair .canTxdoneLo .canTxdoneHi b true n (setPair .canTxpendLo .canTxpendHi b false n t)
     (canSends u n = true) ∧
     (src = .mb b) ∧
     (offeredAt u n b (u.now - ago) = true)) ∧
    (let dt : Nat := 0; let n : Fin 4 := 0; let src : CanSrc := .node; let ago : Nat := 0; let delay : Nat := 0; let s : State := testCan.setNode { NodeSt.init with up := true, tx := [⟨0x701, false, false, 1, false, false, false, [0]⟩] }; let u : State := elapse dt s; let f : CanFrame := ⟨0x701, false, false, 1, false, false, false, [0]⟩
     (canSends u n = true) ∧
     (src = .node) ∧
     (n.val = 0) ∧
     (nodeNext u.node.tx = some f)) ∧
    (let dt : Nat := 0; let n : Fin 4 := 0; let src : CanSrc := .mb 0; let s : State := State.reset.setCtl 0 { CanCtl.init with aborting := [0] }; let u : State := elapse dt s; let b : Fin 64 := 0
     (src = .mb b) ∧
     (b.val ∈ (u.ctl n).aborting)) ∧
    (let dt : Nat := 0; let tid : Nat := 0; let n : Fin 4 := 0; let q : Fin 2 := 0; let a : Fin 32 := 0; let s : State := State.reset.wr .canQ0Fill 1 0; let u : State := elapse dt s; let d : Nat := (a.val + 32 - u.rd (qRd q) n) % 32; let t : State := (u.wr (qRd q) (a + 1) n).wr (qFill q) (u.rd (qFill q) n - d - 1) n
     (d < u.rd (qFill q) n)) ∧
    (let dt : Nat := 0; let tid : Nat := 0; let n : Fin 4 := 0; let q : Fin 2 := 0; let a : Fin 32 := 0; let s : State := State.reset; let u : State := elapse dt s
     (u.rd (qFill q) n ≤ (a.val + 32 - u.rd (qRd q) n) % 32)) ∧
    (let dt : Nat := 0; let n : Fin 4 := 0; let s : State := State.reset.wr .canOff 1 0; let u : State := elapse dt s
     (u.rd .canOff n = 1) ∧
     ((u.ctl n).recov = false)) ∧
    (let dt : Nat := 0; let n : Fin 4 := 1; let s : State := { ((testCan.wr .canOff 1 1).setCtl 1 { CanCtl.init with recov := true }) with now := 840000000 }; let u : State := elapse dt s; let t : State := (((((((u.wr .canTec 0 n).wr .canRec 0 n).wr .canOff 0 n).wr .canPassive 0 n).wr .canWarn 0 n).wr .canBoffRecover 0 n).wr .canBus 0 n).wr .canRecovCnt 128 n
     (u.rd .canOff n = 1) ∧
     ((u.ctl n).recov = true) ∧
     (canOn u = true) ∧
     ((u.ctl n).recovAt + 1408 * arbBit u n ≤ u.now) ∧
     (n.val ≠ 0)) ∧
    (let dt : Nat := 0; let s : State := { ((State.reset.wr .canOff 1 0).setNode { NodeSt.init with up := true }) with now := 4200000000 }; let u : State := elapse dt s
     (u.node.up = true) ∧
     (u.rd .canOff = 1) ∧
     ((u.ctl 0).offAt + 500 * 8400000 ≤ u.now) ∧
     ((u.ctl 0).recov = false)) :=
  by and_intros <;> decide +kernel

theorem test_meets_CanopenNode :
    (let dt : Nat := 0; let s : State := testNode 0x7F (some ⟨0, false, false, 2, false, false, false, [1, 0]⟩); let u : State := elapse dt s; let f : CanFrame := ⟨0, false, false, 2, false, false, false, [1, 0]⟩
     (u.node.up = true) ∧
     (q0Front u = some f) ∧
     (isNmt f = true)) ∧
    (let dt : Nat := 0; let usdo : SdoMsg := .abort; let s : State := testNode 0x7F (some ⟨0x600 + nodeNo (testNode 0x7F none), false, false, 8, false, false, false, [0x40, 0x18, 0x10, 1, 0, 0, 0, 0]⟩); let u : State := elapse dt s; let f : CanFrame := ⟨0x600 + nodeNo (testNode 0x7F none), false, false, 8, false, false, false, [0x40, 0x18, 0x10, 1, 0, 0, 0, 0]⟩
     (u.node.up = true) ∧
     (sdoTimeout u = u) ∧
     (q0Front u = some f) ∧
     (isSdo u f = true) ∧
     (f.fd = false) ∧
     (f.dlc = 8) ∧
     ((releaseOne 0 0 u).node.boot = true) ∧
     (nodeServes (releaseOne 0 0 u) = true)) ∧
    (let dt : Nat := 0; let s : State := { (testNode 0x7F none).setNode { (testNode 0x7F none).node with sdo := some ⟨false, false, true, 0x1018, 1, [], false, false, 0⟩ } with now := 8400000000 }; let u : State := elapse dt s; let r : SdoRun := ⟨false, false, true, 0x1018, 1, [], false, false, 0⟩
     (u.node.sdo = some r) ∧
     (r.waits = false) ∧
     (r.lastAt + 1000 * 8400000 ≤ u.now)) ∧
    (let dt : Nat := 0; let i : Fin 4 := 0; let s : State := { (((testNode 5 none).setOb .tpdoTimer 1 0).setOb .tmapCount 1 0).setOb .tmapEntry 0x60410010 0 0 with now := 8400000 }; let u : State := elapse dt s; let c : Nat := odSpecial u .tpdoCob i 0; let d : List Byte := tpdoBytes u i
     (u.node.nmt = 5) ∧
     (u.ob .tpdoTimer i ≠ 0) ∧
     (bitOf c 31 = false) ∧
     (u.ob .tmapCount i ≠ 0) ∧
     (u.node.tpdoFrom.get 0 i + u.ob .tpdoTimer i * 8400000 ≤ u.now) ∧
     (u.node.tpdoAt.get none i = none) ∧
     (d.length ≤ 8)) ∧
    (let dt : Nat := 0; let j : Fin 4 := 0; let s : State := { ((testNode 5 none).setNode { (testNode 5 none).node with hbAt := [(0, some 0)] }).setOb .consHb 0x50001 0 0 with now := 8400000 }; let u : State := elapse dt s; let t : Nat := 0; let k : Nat := u.ob .consHb 0 j
     (u.node.hbAt.get none j = some t) ∧
     (u.node.boot = true) ∧
     (k % 65536 ≠ 0) ∧
     (t + k % 65536 * 8400000 ≤ u.now) ∧
     (u.node.hbMiss.contains j.val = false)) ∧
    (let dt : Nat := 0; let s : State := { (testNode 5 none).setOb .prodHb 1 with now := 8400000 }; let u : State := elapse dt s; let k : Nat := u.ob .prodHb
     (u.node.boot = true) ∧
     (k ≠ 0) ∧
     (every u u.node.prodAt (k * 8400000) = true)) :=
  by and_intros <;> decide +kernel

theorem test_meets_EthernetMacs :
    (let dt : Nat := 0; let m : Fin 2 := 0; let f : EthFrame := ⟨1, 2, false, 0, 0, 0x0800, []⟩; let s : State := testNet; let u : State := elapse dt s
     (ethOn u m = true) ∧
     (u.rd .ethLink m = 1) ∧
     (f.etype ≠ 0x88F7) ∧
     (ethAccepts u m f = false)) ∧
    (let dt : Nat := 0; let m : Fin 2 := 0; let f : EthFrame := ⟨0, 2, false, 0, 0, 0x0800, leBytes 1 0x45 ++ leBytes 1 0 ++ beBytes 2 20 ++ List.replicate 16 0⟩; let s : State := testNet; let u : State := elapse dt s
     (ethOn u m = true) ∧
     (u.rd .ethLink m = 1) ∧
     (f.etype = 0x0800) ∧
     (ethAccepts u m f = true) ∧
     (u.boot.p120 = true)) ∧
    (let dt : Nat := 0; let m : Fin 2 := 0; let up : Bool := false; let speed : Fin 3 := 0; let s : State := testNet; let u : State := elapse dt s
     (ethOn u m = true) ∧
     (up = false) ∧
     (u.rd .ethLink m = 1)) ∧
    (let dt : Nat := 0; let gmSec : Nat := 0; let gmNs : Nat := 0; let newGm : Bool := false; let s : State := testNet.wr .netState 2; let u : State := elapse dt s; let o : Int := rxStamp u + secOfs u * 1000000000 - (gmSec * 1000000000 + gmNs); let t : State := (u.wrS .netOfsNs (satInt 32 o)).wr .netState 2; let near : Bool := decide (o.natAbs < u.rd .servoLockNs)
     (u.rd .gptpEn = 1) ∧
     (ethOn u (u.rd .gptpPort) = true) ∧
     (u.boot.p120 = true) ∧
     (servoOff u = false) ∧
     (newGm = false) ∧
     (u.rd .netState = 2) ∧
     (o.natAbs < 4 * u.rd .servoLockNs)) ∧
    (let dt : Nat := 0; let gmSec : Nat := 5; let gmNs : Nat := 0; let newGm : Bool := false; let s : State := testNet; let u : State := elapse dt s; let o : Int := rxStamp u + secOfs u * 1000000000 - (gmSec * 1000000000 + gmNs); let t : State := (u.wrS .netOfsNs (satInt 32 o)).wr .netState 1
     (u.rd .gptpEn = 1) ∧
     (ethOn u (u.rd .gptpPort) = true) ∧
     (u.boot.p120 = true) ∧
     (servoOff u = false) ∧
     (u.rd .netState = 0) ∧
     (u.rd .servoLockNs ≤ o.natAbs) ∧
     (1000000000 ≤ o.natAbs)) ∧
    (let dt : Nat := 0; let s : State := { testNet.wr .netState 2 with now := 84000000000 }; let u : State := elapse dt s
     (u.rd .gptpEn = 1) ∧
     (u.rd .netState = 1 ∨ u.rd .netState = 2) ∧
     (u.eth.servo.lastAt * 10 + 3 * syncNs u * 84 ≤ u.now * 10)) ∧
    (let dt : Nat := 0; let m : Fin 2 := 0; let s : State := testNet.wr .tasEn 1 0; let u : State := elapse dt s
     ((u.mac m).adminAt = none) ∧
     (u.rd .tasEn m = 1)) ∧
    (let dt : Nat := 0; let m : Fin 2 := 0; let s : State := State.reset; let u : State := elapse dt s
     ((u.mac m).adminAt = none) ∧
     (u.rd .tasEn m = 0)) ∧
    (let dt : Nat := 0; let tid : Nat := 0; let m : Fin 2 := 0; let v : Word := 3; let s : State := (((testNet.wr .tasCycle 1000000 0).wr .tasLen 1 0).wr .gateMask 1 0 0).wr .gateInterval 1000000 0 0; let u : State := elapse dt s; let t : State := gateUpdate m (u.wr .tasEn v.toNat m); let x : State := gateUpdate 0 ((elapse 0 s).wr .tasEn 3 0); let base : Nat := (t.rd .tasBaseSecHi m * 2 ^ 32 + t.rd .tasBaseSecLo m) * 1000000000 + t.rd .tasBaseNsec m; let go : Nat := nextStart base (t.rd .tasCycle m) t.dtNs; let l : List GateEnt := [⟨1, 1000000⟩]
     ((u.mac m).adminAt = none) ∧
     (bitOf v.toNat 1 = true) ∧
     ((t.mac m).adminAt = none) ∧
     (1000 ≤ t.rd .tasCycle m) ∧
     (t.rd .tasCycle m ≤ 1000000000) ∧
     (adminList t m = (l, x))) ∧
    (let dt : Nat := 0; let tid : Nat := 0; let m : Fin 2 := 0; let v : Word := 1; let s : State := State.reset; let u : State := elapse dt s
     ((u.mac m).adminAt = none) ∧
     (bitOf v.toNat 1 = false)) ∧
    (let dt : Nat := 0; let m : Fin 2 := 0; let s : State := testNet.setMac 0 { EthMac.init with adminAt := some 0, admin := [⟨1, 1000000⟩], adminCycle := 1000000 }; let u : State := elapse dt s; let t : Nat := 0
     ((u.mac m).adminAt = some t) ∧
     (t ≤ u.dtNs)) ∧
    (let dt : Nat := 0; let m : Fin 2 := 0; let s : State := testNet.setMac 0 { EthMac.init with q := [(3, [⟨9, 0, 0, 0x0806, [1], 0⟩])] }; let u : State := elapse dt s; let q : Nat := 3; let f : EthOut := ⟨9, 0, 0, 0x0806, [1], 0⟩
     ((u.mac m).adminAt = none) ∧
     (ethOn u m = true) ∧
     (u.rd .ethLink m = 1) ∧
     ((u.mac m).freeAt ≤ u.now) ∧
     ((List.range 8).reverse.find? (fun q => mayStart u m q) = some q) ∧
     (queueHead u m q = some f)) ∧
    (let dt : Nat := 0; let m : Fin 2 := 0; let s : State := (testNet.wr .tasEn 1 0).setMac 0 { EthMac.init with oper := [⟨0, 1000000⟩], q := [(3, [⟨9, 0, 0, 0x0806, [1], 0⟩])] }; let u : State := elapse dt s; let q : Nat := 3; let f : EthOut := ⟨9, 0, 0, 0x0806, [1], 0⟩
     ((u.mac m).adminAt = none) ∧
     (ethOn u m = true) ∧
     (u.rd .ethLink m = 1) ∧
     ((List.range 8).reverse.find? (fun q => mayStart u m q) = none) ∧
     ((List.range 8).reverse.find? (fun q => neverFits u m q) = some q) ∧
     (queueHead u m q = some f)) :=
  by and_intros <;> decide +kernel

theorem test_meets_VdpRequests :
    (let dt : Nat := 0; let s : State := testVdpIn 1 0 [0x18, 0x10, 1, 0]; let u : State := elapse dt s; let x : VdpIn := testVdp 1 0 [0x18, 0x10, 1, 0]; let l : List VdpIn := []; let no : Nat := 1; let t : State := (vdpAdmit (testVdp 1 0 [0x18, 0x10, 1, 0]) <| vdpSessionLapse { elapse 0 testNet with eth := EthSt.init }).2
     (u.eth.vdpIn = x :: l) ∧
     (vdpOp x.data = 1) ∧
     (vdpAdmit x (vdpSessionLapse { u with eth := { u.eth with vdpIn := l } }) = (some no, t))) ∧
    (let dt : Nat := 0; let s : State := testVdpIn 2 0 [0x7A, 0x60, 0, 0, 1, 0, 0, 0]; let u : State := elapse dt s; let x : VdpIn := testVdp 2 0 [0x7A, 0x60, 0, 0, 1, 0, 0, 0]; let l : List VdpIn := []; let no : Nat := 1; let t : State := (vdpAdmit (testVdp 2 0 [0x7A, 0x60, 0, 0, 1, 0, 0, 0]) <| vdpSessionLapse { elapse 0 testNet with eth := EthSt.init }).2
     (u.eth.vdpIn = x :: l) ∧
     (vdpOp x.data = 2) ∧
     (vdpCyc x.data = false) ∧
     (vdpAdmit x (vdpSessionLapse { u with eth := { u.eth with vdpIn := l } }) = (some no, t))) ∧
    (let dt : Nat := 0; let s : State := testVdpIn 3 0 [1]; let u : State := elapse dt s; let x : VdpIn := testVdp 3 0 [1]; let l : List VdpIn := []; let no : Nat := 1; let t : State := (vdpAdmit (testVdp 3 0 [1]) <| vdpSessionLapse { elapse 0 testNet with eth := EthSt.init }).2
     (u.eth.vdpIn = x :: l) ∧
     (vdpOp x.data = 3) ∧
     (vdpAdmit x (vdpSessionLapse { u with eth := { u.eth with vdpIn := l } }) = (some no, t))) ∧
    (let dt : Nat := 0; let s : State := testVdpIn 4 0 [0, 0x34, 8, 0]; let u : State := elapse dt s; let x : VdpIn := testVdp 4 0 [0, 0x34, 8, 0]; let l : List VdpIn := []; let no : Nat := 1; let t : State := (vdpAdmit (testVdp 4 0 [0, 0x34, 8, 0]) <| vdpSessionLapse { elapse 0 testNet with eth := EthSt.init }).2
     (u.eth.vdpIn = x :: l) ∧
     (vdpOp x.data = 4) ∧
     (vdpAdmit x (vdpSessionLapse { u with eth := { u.eth with vdpIn := l } }) = (some no, t))) ∧
    (let dt : Nat := 0; let s : State := testVdpIn 5 0 [0, 0, 1, 1, 16, 0, 0x41, 0x60]; let u : State := elapse dt s; let x : VdpIn := testVdp 5 0 [0, 0, 1, 1, 16, 0, 0x41, 0x60]; let l : List VdpIn := []; let no : Nat := 1; let c : Nat := payAt (vdpPay x.data) 0; let dir : Nat := payAt (vdpPay x.data) 1; let t : State := (vdpAdmit (testVdp 5 0 [0, 0, 1, 1, 16, 0, 0x41, 0x60]) <| vdpSessionLapse { elapse 0 testNet with eth := EthSt.init }).2
     (u.eth.vdpIn = x :: l) ∧
     (vdpOp x.data = 5) ∧
     (vdpAdmit x (vdpSessionLapse { u with eth := { u.eth with vdpIn := l } }) = (some no, t)) ∧
     (t.rd .hostDictReady = 1) ∧
     ((t.chan c).any (fun y => y.no != no) = false) ∧
     (dir = 0 ∨ dir = 1) ∧
     (payAt (vdpPay x.data) 2 ≠ 0) ∧
     ((subMap (vdpPay x.data)).all (chanMapOk dir) = true)) ∧
    (let dt : Nat := 0; let s : State := { testNet with eth := { (testChan ⟨1, 1, 1, [0x60400010], 0, 0, false⟩).eth with sess := [⟨1, 0, 5, 6, 1000, 7, 0, [], 0, none⟩], vdpIn := [testVdp 2 2 [0, 0, 0, 0, 6, 0]] } }; let u : State := elapse dt s; let x : VdpIn := testVdp 2 2 [0, 0, 0, 0, 6, 0]; let l : List VdpIn := []; let c : Nat := payAt (vdpPay x.data) 0; let t : State := (vdpAdmit (testVdp 2 2 [0, 0, 0, 0, 6, 0]) <| vdpSessionLapse { elapse 0 testNet with eth := { (testChan ⟨1, 1, 1, [0x60400010], 0, 0, false⟩).eth with sess := [⟨1, 0, 5, 6, 1000, 7, 0, [], 0, none⟩] } }).2; let y : VdpChan := ⟨1, 1, 1, [0x60400010], 0, 0, false⟩
     (u.eth.vdpIn = x :: l) ∧
     (vdpOp x.data = 2) ∧
     (vdpCyc x.data = true) ∧
     (vdpAdmit x (vdpSessionLapse { u with eth := { u.eth with vdpIn := l } }) = (some y.no, t)) ∧
     (t.chan c = some y) ∧
     (y.dir = 1) ∧
     ((vdpPay x.data).length = 4 + mapBytes y.map)) :=
  by and_intros <;> decide +kernel

theorem test_meets_VdpChannels :
    (let dt : Nat := 0; let c : Fin 8 := 0; let s : State := (testChan ⟨1, 0, 1, [0x60410010], 0, 0, false⟩).wr .netCycLead 0; let u : State := elapse dt s; let y : VdpChan := ⟨1, 0, 1, [0x60410010], 0, 0, false⟩; let z : VdpSess := ⟨1, 0, 5, 6, 1000, 7, 1, [], 0, none⟩; let cyc : Nat := 0; let start : Nat := 0
     (u.chan c = some y) ∧
     (u.liveSess y.no = some z) ∧
     ((u.mac z.mac).adminAt = none) ∧
     (u.rd .tasEn z.mac = 0) ∧
     (cycleAt u z.mac (u.dtNs + u.rd .netCycLead * 1000) = (cyc, start)) ∧
     (y.dir = 0) ∧
     (u.rd .hostDictReady = 1) ∧
     (u.rd .netCycLead * 1000 ≤ start) ∧
     (dtReaches u (start - u.rd .netCycLead * 1000) = true) ∧
     (y.last ≤ cyc) ∧
     (y.from_ ≤ cyc) ∧
     ((cyc - y.from_) % y.m = 0)) ∧
    (let dt : Nat := 0; let c : Fin 8 := 0; let s : State := { testChan ⟨1, 1, 1, [], 0, 0, false⟩ with now := 100000000 }; let u : State := elapse dt s; let y : VdpChan := ⟨1, 1, 1, [], 0, 0, false⟩; let z : VdpSess := ⟨1, 0, 5, 6, 1000, 7, 1, [], 0, none⟩
     (u.chan c = some y) ∧
     (u.liveSess y.no = some z) ∧
     (y.dir = 1) ∧
     (y.told = false) ∧
     (y.last * 10 + 3 * y.m * cycleNs u z.mac * 84 ≤ u.now * 10)) ∧
    (let dt : Nat := 0; let c : Fin 8 := 0; let s : State := { testChan ⟨1, 2, 15, [], 0, 0, false⟩ with log := { LogSt.init with recs := [⟨0, 0, 1, 0, 0⟩], next := 1 } }; let u : State := elapse dt s; let y : VdpChan := ⟨1, 2, 15, [], 0, 0, false⟩; let z : VdpSess := ⟨1, 0, 5, 6, 1000, 7, 1, [], 0, none⟩; let n0 : Nat := 4294967296; let l : List EvRec := [⟨0, 0, 1, 0, 0⟩]; let pick : List (EvRec × Nat) := ((l.zipIdx).filter fun r => bitOf y.m (classBit r.1.code)).take 64; let last : EvRec × Nat := (⟨0, 0, 1, 0, 0⟩, 0); let t : State := setSess { z with push := some u.now } (u.setChan c (some { y with from_ := (n0 + last.2 + 1) % 2 ^ 32 }))
     (u.chan c = some y) ∧
     (u.liveSess y.no = some z) ∧
     (y.dir = 2) ∧
     (z.push = none) ∧
     (recsFrom u.log y.from_ = (n0, l)) ∧
     (pick.getLast? = some last)) :=
  by and_intros <;> decide +kernel

theorem test_meets_AuthenticatedWrites :
    (let dt : Nat := 0; let flashOk : Bool := false; let s : State := testOd (.write ([0x10, 0x2A, 1, 0] ++ List.replicate 13 0)) 0x3801 1; let u : State := elapse dt s; let q : OdReq := ⟨.pcie 1 2, .write ([0x10, 0x2A, 1, 0] ++ List.replicate 13 0), 0x3801, 1⟩; let l : List OdReq := []; let x : State := { u with od := { u.od with queue := l } }; let r : List Byte := [0x10, 0x2A, 1, 0] ++ List.replicate 13 0; let k : ObjKey := ⟨.safArm, 0, 0⟩
     (u.od.auth = none) ∧
     (u.od.queue = q :: l) ∧
     (q.writes .authWrite = true) ∧
     (ownCheck q = 0) ∧
     (q.op = .write r) ∧
     (objAt (recIdx r) (recSub r) = some k) ∧
     (odAccess (recIdx r) (recSub r) true ≠ 0x06010002) ∧
     (x.rd .cryCnt (recSlot r) ≠ 0xFFFFFFFF) ∧
     (authFault x k.o r ≠ 0)) ∧
    (let dt : Nat := 0; let ok : Bool := true; let flashOk : Bool := false; let s : State := { State.reset with od := { OdSt.init with auth := some ⟨0, 256, testRec 256 (List.replicate 8 0), ⟨.pcie 1 2, .read, 0x3801, 1⟩⟩ } }; let u : State := elapse dt s; let a : AuthWait := ⟨0, 256, testRec 256 (List.replicate 8 0), ⟨.pcie 1 2, .read, 0x3801, 1⟩⟩; let x : State := { u with od := { u.od with auth := none, flash := u.od.flash.set a.slot a.counter } }; let k : ObjKey := ⟨.safArm, 0, 0⟩
     (u.od.auth = some a) ∧
     (ok = true) ∧
     (objAt (recIdx a.record) (recSub a.record) = some k)) ∧
    (let dt : Nat := 0; let ok : Bool := false; let flashOk : Bool := false; let s : State := { State.reset with od := { OdSt.init with auth := some ⟨0, 256, testRec 256 (List.replicate 8 0), ⟨.pcie 1 2, .read, 0x3801, 1⟩⟩ } }; let u : State := elapse dt s; let a : AuthWait := ⟨0, 256, testRec 256 (List.replicate 8 0), ⟨.pcie 1 2, .read, 0x3801, 1⟩⟩
     (u.od.auth = some a) ∧
     (ok = false)) :=
  by and_intros <;> decide +kernel

theorem test_meets_HostEndpoint :
    (let dt : Nat := 0; let r : CfgReg := .ids; let w : Option Word := none; let s : State := testHost.wr .pcieReady 0; let u : State := elapse dt s
     (u.rd .pcieUp = 1) ∧
     (u.host.perst = false) ∧
     (u.rd .pcieReady = 0)) ∧
    (let dt : Nat := 0; let r : CfgReg := .command; let w : Option Word := some 6; let s : State := testHost; let u : State := elapse dt s; let v : Word := 6
     (u.rd .pcieUp = 1) ∧
     (u.host.perst = false) ∧
     (u.rd .pcieReady = 1) ∧
     (w = some v)) ∧
    (let dt : Nat := 0; let r : CfgReg := .ids; let w : Option Word := none; let s : State := testHost; let u : State := elapse dt s
     (u.rd .pcieUp = 1) ∧
     (u.host.perst = false) ∧
     (u.rd .pcieReady = 1) ∧
     (w = none) ∧
     (r = .ids)) ∧
    (let dt : Nat := 0; let x : PciAcc := ⟨2, 0, false, [], 4, true, false⟩; let env : RegEnv := ⟨⟨true, 0xFF, []⟩, 0, 0, false⟩; let reply : FabReply := .waits; let s : State := testHost.wr .pcieReady 0; let u : State := elapse dt s
     (u.rd .pcieUp = 1) ∧
     (u.host.perst = false) ∧
     (inbServed x u = false)) ∧
    (let dt : Nat := 0; let x : PciAcc := ⟨0, 8, false, [], 4, true, false⟩; let env : RegEnv := ⟨⟨true, 0xFF, []⟩, 0, 0, false⟩; let reply : FabReply := .waits; let s : State := testHost; let u : State := elapse dt s; let t : State := regRead 1 256 x.off u
     (u.rd .pcieUp = 1) ∧
     (u.host.perst = false) ∧
     (inbServed x u = true) ∧
     (x.bar = 0) ∧
     (x.off % 4 = 0) ∧
     (x.len = 4) ∧
     (x.full = true) ∧
     (x.wr = false)) ∧
    (let dt : Nat := 0; let s : State := testHost.wr .hostEn 0; let u : State := elapse dt s
     (u.rd .hostEn = 0)) ∧
    (let dt : Nat := 0; let s : State := testQp 0 1 []; let u : State := elapse dt s
     (u.rd .hostEn = 1)) ∧
    (let dt : Nat := 0; let s : State := testHost; let u : State := elapse dt s
     (u.rd .pcieUp = 1)) ∧
    (let dt : Nat := 0; let cause : Fin 3 := 0; let s : State := testHost; let u : State := elapse dt s
     (cause = 0) ∧
     (u.rd .pcieUp = 1)) ∧
    (let dt : Nat := 0; let cause : Fin 3 := 1; let s : State := testHost; let u : State := elapse dt s
     (cause = 1) ∧
     (u.host.perst = false)) ∧
    (let dt : Nat := 0; let cause : Fin 3 := 2; let s : State := testHost; let u : State := elapse dt s
     (cause = 2) ∧
     (u.rd .pcieUp = 1)) ∧
    (let dt : Nat := 0; let s : State := testHost; let u : State := elapse dt s
     (u.rd .pcieUp = 1)) ∧
    (let dt : Nat := 0; let s : State := testHost.wr .pcieD3 1; let u : State := elapse dt s
     (u.rd .pcieD3 = 1)) ∧
    (let dt : Nat := 0; let s : State := testHost; let u : State := elapse dt s
     (u.rd .pcieUp = 1)) ∧
    (let dt : Nat := 0; let speed : BitVec 3 := 4; let width : BitVec 3 := 4; let s : State := testHost.wr .pcieUp 0; let u : State := elapse dt s; let t : State := ((u.wr .pcieSpeed speed.toNat).wr .pcieWidth width.toNat).wr .pcieUp 1
     (u.domOn 17 = true) ∧
     (u.clockOn 15 = true) ∧
     (u.host.perst = false) ∧
     (u.rd .pcieUp = 0)) ∧
    (let dt : Nat := 0; let s : State := State.reset; let u : State := elapse dt s
     (u.host.perst = true)) :=
  by and_intros <;> decide +kernel

theorem test_meets_QueuePairs :
    (let dt : Nat := 0; let q : Fin 64 := 3; let v : BitVec 12 := 1; let s : State := testQp 3 0x10 []; let u : State := elapse dt s
     ((u.qp q).live = true) ∧
     ((u.qp q).err = false) ∧
     (v.toNat < (u.qp q).sqSize)) ∧
    (let dt : Nat := 0; let q : Fin 64 := 3; let v : BitVec 12 := 32; let s : State := testQp 3 0x10 []; let u : State := elapse dt s
     ((u.qp q).live = true) ∧
     ((u.qp q).err = false) ∧
     ((u.qp q).sqSize ≤ v.toNat)) ∧
    (let dt : Nat := 0; let q : Fin 64 := 3; let v : BitVec 12 := 1; let s : State := testHost.setQp 3 { Qp.init with live := true, posted := 1 }; let u : State := elapse dt s; let n : Nat := (v.toNat + (u.qp q).cqSize - u.rd .cqHead q) % (u.qp q).cqSize
     ((u.qp q).live = true) ∧
     ((u.qp q).err = false) ∧
     (v.toNat < (u.qp q).cqSize) ∧
     (n ≤ (u.qp q).posted)) ∧
    (let dt : Nat := 0; let q : Fin 64 := 3; let v : BitVec 12 := 1; let s : State := testQp 3 0x10 []; let u : State := elapse dt s
     ((u.qp q).live = true) ∧
     ((u.qp q).err = false) ∧
     ((u.qp q).posted < (v.toNat + (u.qp q).cqSize - u.rd .cqHead q) % (u.qp q).cqSize)) ∧
    (let dt : Nat := 0; let q : Fin 64 := 3; let l : Option (List Byte) := some [0x10]; let s : State := (testHost.setQp 3 { Qp.init with live := true }).wr .sqTail 1 3; let u : State := elapse dt s; let b : List Byte := [0x10]; let e : SqEntry := sqEntry (padTo 64 b); let t : State := u.setQp q { u.qp q with cur := some e, given := false, sqHead := ((u.qp q).sqHead + 1) % (u.qp q).sqSize }
     ((u.qp q).live = true) ∧
     ((u.qp q).err = false) ∧
     ((u.qp q).cur = none) ∧
     ((u.qp q).sqHead ≠ u.rd .sqTail q) ∧
     ((u.qp q).posted + (u.qp q).held.length < (u.qp q).cqSize) ∧
     (hostServed u = true) ∧
     (u.rd .pcieD3 = 0) ∧
     (flrRuns u = false) ∧
     (hostOpen u = true) ∧
     (l = some b)) ∧
    (let dt : Nat := 0; let q : Fin 64 := 1; let tid : Nat := 40; let s : State := testQp 0 1 (List.replicate 16 0 ++ [7, 0, 7, 0, 1, 0, 1, 0]); let u : State := elapse dt s; let e : SqEntry := ⟨1, 5, 0, 0, padTo 48 (List.replicate 16 0 ++ [7, 0, 7, 0, 1, 0, 1, 0])⟩; let t : State := { u with host := { u.host with tids := tid :: u.host.tids } }
     ((u.qp 0).cur = some e) ∧
     ((u.qp 0).live = true) ∧
     ((u.qp 0).err = false) ∧
     ((u.qp 0).given = false) ∧
     (e.op = 1) ∧
     (qpParamsOk e = true) ∧
     ((u.qp q).live = false) ∧
     (tidFree u tid = true) ∧
     (q.val ≠ 0)) ∧
    (let dt : Nat := 0; let s : State := (testQp 0 2 [3]).setQp 3 { Qp.init with live := true, tid := 30 }; let u : State := elapse dt s; let e : SqEntry := ⟨2, 5, 0, 0, padTo 48 [3]⟩
     ((u.qp 0).cur = some e) ∧
     ((u.qp 0).live = true) ∧
     ((u.qp 0).err = false) ∧
     ((u.qp 0).given = false) ∧
     (e.op = 2) ∧
     (1 ≤ e.par 16 1) ∧
     (e.par 16 1 < 64) ∧
     ((u.qp (e.par 16 1)).live = true)) ∧
    (let dt : Nat := 0; let q : Fin 64 := 3; let s : State := testQp 3 0x10 [0x18, 0x10, 1]; let u : State := elapse dt s; let e : SqEntry := ⟨0x10, 5, 0, 0, padTo 48 [0x18, 0x10, 1]⟩
     ((u.qp q).cur = some e) ∧
     ((u.qp q).live = true) ∧
     ((u.qp q).err = false) ∧
     ((u.qp q).given = false) ∧
     (e.op = 0x10)) ∧
    (let dt : Nat := 0; let q : Fin 64 := 3; let data : List Byte := [1]; let s : State := testHost.setQp 3 { Qp.init with live := true, cur := some ⟨0x11, 5, 1, 0, padTo 48 [2, 0x38, 2]⟩ }; let u : State := elapse dt s; let e : SqEntry := ⟨0x11, 5, 1, 0, padTo 48 [2, 0x38, 2]⟩
     ((u.qp q).cur = some e) ∧
     ((u.qp q).live = true) ∧
     ((u.qp q).err = false) ∧
     ((u.qp q).given = false) ∧
     (e.op = 0x11) ∧
     (e.len ≠ 0) ∧
     (hostOpen u = true)) ∧
    (let dt : Nat := 0; let q : Fin 64 := 3; let s : State := testQp 3 0x12 [0, 0x34, 8]; let u : State := elapse dt s; let e : SqEntry := ⟨0x12, 5, 0, 0, padTo 48 [0, 0x34, 8]⟩
     ((u.qp q).cur = some e) ∧
     ((u.qp q).live = true) ∧
     ((u.qp q).err = false) ∧
     ((u.qp q).given = false) ∧
     (e.op = 0x12)) ∧
    (let dt : Nat := 0; let q : Fin 64 := 3; let s : State := { testHost.setQp 3 { Qp.init with live := true, fresh := 1, time := 1 } with now := 8400 }; let u : State := elapse dt s
     ((u.qp q).live = true) ∧
     ((u.qp q).err = false) ∧
     (0 < (u.qp q).fresh) ∧
     ((u.qp q).time ≠ 0) ∧
     (u.now = (u.qp q).oldest + (u.qp q).time * 8400) ∧
     (u.rd .pcieD3 = 0)) ∧
    (let dt : Nat := 0; let s : State := { testHost.wr .hostEvmask 15 with log := { LogSt.init with recs := [⟨0, 0, 1, 0, 0⟩], next := 1 } }; let u : State := elapse dt s
     (u.host.logAt = none) ∧
     ((recsFrom u.log u.host.logSeq).2.any (fun r => u.rdBit .hostEvmask (classBit r.code)) = true)) :=
  by and_intros <;> decide +kernel

theorem test_meets_LibmololCalls :
    (let dt : Nat := 0; let q : Fin 64 := 3; let bytes : Nat := 0; let place : Option Placed := some ⟨4096, [⟨64, 8, 7⟩], true, true⟩; let s : State := testQp 3 0x20 [1]; let u : State := elapse dt s; let e : SqEntry := ⟨0x20, 5, 0, 0, padTo 48 [1]⟩; let p : Placed := ⟨4096, [⟨64, 8, 7⟩], true, true⟩
     ((u.qp q).cur = some e) ∧
     ((u.qp q).live = true) ∧
     ((u.qp q).err = false) ∧
     ((u.qp q).given = false) ∧
     (e.op = 0x20) ∧
     (e.par 16 2 = 1) ∧
     (place = some p) ∧
     ((p.any_ && !p.dev && hintedIn u q p.va bytes (· == Hint.preferredDevice)) = false)) ∧
    (let dt : Nat := 0; let q : Fin 64 := 3; let bytes : Nat := 64; let place : Option Placed := some ⟨4096, [], true, false⟩; let s : State := { testQp 3 0x20 [1] with host := { (testQp 3 0x20 [1]).host with hints := [⟨3, 4096, 4096, .preferredDevice⟩] } }; let u : State := elapse dt s; let e : SqEntry := ⟨0x20, 5, 0, 0, padTo 48 [1]⟩; let p : Placed := ⟨4096, [], true, false⟩
     ((u.qp q).cur = some e) ∧
     ((u.qp q).live = true) ∧
     ((u.qp q).err = false) ∧
     ((u.qp q).given = false) ∧
     (e.op = 0x20) ∧
     (e.par 16 2 = 1) ∧
     (place = some p) ∧
     ((p.any_ && !p.dev && hintedIn u q p.va bytes (· == Hint.preferredDevice)) = true)) ∧
    (let dt : Nat := 0; let q : Fin 64 := 3; let ptr : Nat := 4096; let entries : List RtWrite := []; let s : State := { testQp 3 0x20 [2] with host := { (testQp 3 0x20 [2]).host with mems := [⟨3, 4096, 64⟩] } }; let u : State := elapse dt s; let e : SqEntry := ⟨0x20, 5, 0, 0, padTo 48 [2]⟩
     ((u.qp q).cur = some e) ∧
     ((u.qp q).live = true) ∧
     ((u.qp q).err = false) ∧
     ((u.qp q).given = false) ∧
     (e.op = 0x20) ∧
     (e.par 16 2 = 2) ∧
     (u.host.mems.any (fun m => m.qp == q.val && m.va == ptr) = true)) ∧
    (let dt : Nat := 0; let q : Fin 64 := 3; let ptr : Nat := 0; let entries : List RtWrite := []; let s : State := testQp 3 0x20 [2]; let u : State := elapse dt s; let e : SqEntry := ⟨0x20, 5, 0, 0, padTo 48 [2]⟩
     ((u.qp q).cur = some e) ∧
     ((u.qp q).live = true) ∧
     ((u.qp q).err = false) ∧
     ((u.qp q).given = false) ∧
     (e.op = 0x20) ∧
     (e.par 16 2 = 2) ∧
     (u.host.mems.any (fun m => m.qp == q.val && m.va == ptr) = false)) ∧
    (let dt : Nat := 0; let q : Fin 64 := 3; let plan : Option ModelPlan := some ⟨1, 50, 1, 0, 0, 1, 0, 1, 1, 4, 2, 0, 9, ⟨[], true⟩, 0, 0, 0, [], true, false, []⟩; let s : State := testQp 3 0x20 [3]; let u : State := elapse dt s; let e : SqEntry := ⟨0x20, 5, 0, 0, padTo 48 [3]⟩; let p : ModelPlan := ⟨1, 50, 1, 0, 0, 1, 0, 1, 1, 4, 2, 0, 9, ⟨[], true⟩, 0, 0, 0, [], true, false, []⟩; let t : State := modelLoad p.slot p.modelId p.image p.w p.aCs p.aLs (planShares p u); let x : State := copyRoot (u.qp q).tid p.tid p.flags t
     ((u.qp q).cur = some e) ∧
     ((u.qp q).live = true) ∧
     ((u.qp q).err = false) ∧
     ((u.qp q).given = false) ∧
     (e.op = 0x20) ∧
     (e.par 16 2 = 3) ∧
     (plan = some p) ∧
     (u.rd .ctxState p.slot = 0) ∧
     (tidFree u p.tid = true) ∧
     (activateOk (planShares p u) p.slot = true) ∧
     (weightsOk p t = true) ∧
     (t.sch.load.cls = 0)) ∧
    (let dt : Nat := 0; let q : Fin 64 := 3; let k : Fin 64 := 0; let s : State := { (testQp 3 0x20 [4]).wr .ctxState 2 0 with host := { (testQp 3 0x20 [4]).host with models := [⟨3, 0, 0, 1, [], false⟩] } }; let u : State := elapse dt s; let e : SqEntry := ⟨0x20, 5, 0, 0, padTo 48 [4]⟩; let m : MolModel := ⟨3, 0, 0, 1, [], false⟩; let t : State := ctxRelease 1 k u
     ((u.qp q).cur = some e) ∧
     ((u.qp q).live = true) ∧
     ((u.qp q).err = false) ∧
     ((u.qp q).given = false) ∧
     (e.op = 0x20) ∧
     (e.par 16 2 = 4) ∧
     (modelOf u q k = some m) ∧
     (u.rd .ctxState k = 2) ∧
     (slotBusy u k = false)) ∧
    (let dt : Nat := 0; let q : Fin 64 := 3; let k : Fin 64 := 0; let ch : Fin 64 := 0; let x : Invocation := ⟨[[4]], none⟩; let s : State := { (testQp 3 0x20 [5]).wr .ctxState 2 0 with host := { (testQp 3 0x20 [5]).host with models := [⟨3, 0, 0, 1, [], false⟩] } }; let u : State := elapse dt s; let e : SqEntry := ⟨0x20, 5, 0, 0, padTo 48 [5]⟩; let m : MolModel := ⟨3, 0, 0, 1, [], false⟩
     ((u.qp q).cur = some e) ∧
     ((u.qp q).live = true) ∧
     ((u.qp q).err = false) ∧
     ((u.qp q).given = false) ∧
     (e.op = 0x20) ∧
     (e.par 16 2 = 5) ∧
     (modelOf u q k = some m) ∧
     (m.ch0 ≤ ch.val) ∧
     (ch.val < m.ch0 + m.chs) ∧
     (nodesOk u m = true) ∧
     (u.rd .ctxState k = 2) ∧
     ((u.rd .chTail ch + 8 - chH u ch) % 8 + x.tasks.length ≤ 7)) ∧
    (let dt : Nat := 0; let q : Fin 64 := 3; let va : Nat := 0; let n : Nat := 0; let target : Option Bool := none; let ch : Fin 64 := 0; let pages : List PageMove := []; let s : State := testKill; let u : State := elapse dt s; let e : SqEntry := ⟨0x20, 5, 0, 0, padTo 48 [6]⟩
     ((u.qp q).cur = some e) ∧
     ((u.qp q).live = true) ∧
     ((u.qp q).err = false) ∧
     ((u.qp q).given = false) ∧
     (e.op = 0x20) ∧
     (e.par 16 2 = 6) ∧
     (u.host.move = none) ∧
     (killBusy u q = true)) ∧
    (let dt : Nat := 0; let q : Fin 64 := 3; let va : Nat := 0; let n : Nat := 0; let target : Option Bool := some true; let ch : Fin 64 := 0; let pages : List PageMove := []; let s : State := testQp 3 0x20 [6]; let u : State := elapse dt s; let e : SqEntry := ⟨0x20, 5, 0, 0, padTo 48 [6]⟩; let l : List PageJob := []
     ((u.qp q).cur = some e) ∧
     ((u.qp q).live = true) ∧
     ((u.qp q).err = false) ∧
     ((u.qp q).given = false) ∧
     (e.op = 0x20) ∧
     (e.par 16 2 = 6) ∧
     (u.host.move = none) ∧
     (killBusy u q = false) ∧
     (u.rd .mmuInvBusy = 0) ∧
     (l = (pages.filter fun p => decide (va ≤ p.va) && decide (p.va < va + n)).filterMap (pageJob q target u)) ∧
     (l = [])) ∧
    (let dt : Nat := 0; let q : Fin 64 := 3; let va : Nat := 0; let n : Nat := 8192; let target : Option Bool := some true; let ch : Fin 64 := 0; let pages : List PageMove := testPages; let s : State := testMoveAt; let u : State := elapse dt s; let e : SqEntry := ⟨0x20, 5, 0, 0, padTo 48 [6]⟩; let l : List PageJob := testMove
     ((u.qp q).cur = some e) ∧
     ((u.qp q).live = true) ∧
     ((u.qp q).err = false) ∧
     ((u.qp q).given = false) ∧
     (e.op = 0x20) ∧
     (e.par 16 2 = 6) ∧
     (u.host.move = none) ∧
     (killBusy u q = false) ∧
     (u.rd .mmuInvBusy = 0) ∧
     (l = (pages.filter fun p => decide (va ≤ p.va) && decide (p.va < va + n)).filterMap (pageJob q target u)) ∧
     (l ≠ [])) ∧
    (let dt : Nat := 0; let q : Fin 64 := 3; let va : Nat := 0; let n : Nat := 0; let target : Option Bool := none; let ch : Fin 64 := 0; let pages : List PageMove := []; let s : State := { testQp 3 0x20 [6] with host := { (testQp 3 0x20 [6]).host with move := some ⟨3, 0, [], [], []⟩ } }; let u : State := elapse dt s; let e : SqEntry := ⟨0x20, 5, 0, 0, padTo 48 [6]⟩; let m : MolMove := ⟨3, 0, [], [], []⟩
     ((u.qp q).cur = some e) ∧
     ((u.qp q).live = true) ∧
     ((u.qp q).err = false) ∧
     ((u.qp q).given = false) ∧
     (e.op = 0x20) ∧
     (e.par 16 2 = 6) ∧
     (u.host.move = some m) ∧
     (m.qp = q) ∧
     (m.inv = []) ∧
     (u.rd .mmuInvBusy = 0) ∧
     (m.todo = [])) ∧
    (let dt : Nat := 0; let q : Fin 64 := 3; let va : Nat := 0; let n : Nat := 0; let target : Option Bool := none; let ch : Fin 64 := 0; let pages : List PageMove := []; let s : State := { testQp 3 0x20 [6] with host := { (testQp 3 0x20 [6]).host with move := some ⟨3, 0, [], [], testMove⟩ } }; let u : State := elapse dt s; let e : SqEntry := ⟨0x20, 5, 0, 0, padTo 48 [6]⟩; let m : MolMove := ⟨3, 0, [], [], testMove⟩
     ((u.qp q).cur = some e) ∧
     ((u.qp q).live = true) ∧
     ((u.qp q).err = false) ∧
     ((u.qp q).given = false) ∧
     (e.op = 0x20) ∧
     (e.par 16 2 = 6) ∧
     (u.host.move = some m) ∧
     (m.qp = q) ∧
     (m.inv = []) ∧
     (u.rd .mmuInvBusy = 0) ∧
     (m.todo ≠ [])) ∧
    (let dt : Nat := 0; let q : Fin 64 := 3; let va : Nat := 0; let n : Nat := 4096; let hint : Option Hint := some .readMostly; let s : State := testQp 3 0x20 [7]; let u : State := elapse dt s; let e : SqEntry := ⟨0x20, 5, 0, 0, padTo 48 [7]⟩; let x : Hint := .readMostly
     ((u.qp q).cur = some e) ∧
     ((u.qp q).live = true) ∧
     ((u.qp q).err = false) ∧
     ((u.qp q).given = false) ∧
     (e.op = 0x20) ∧
     (e.par 16 2 = 7) ∧
     (hint = some x)) ∧
    (let dt : Nat := 0; let q : Fin 64 := 3; let bytes : Nat := 64; let readonly : Bool := false; let pa : Option Nat := some 128; let a : Fin 64 := 0; let s : State := testQp 3 0x20 [8]; let u : State := elapse dt s; let e : SqEntry := ⟨0x20, 5, 0, 0, padTo 48 [8]⟩; let p : Nat := 128
     ((u.qp q).cur = some e) ∧
     ((u.qp q).live = true) ∧
     ((u.qp q).err = false) ∧
     ((u.qp q).given = false) ∧
     (e.op = 0x20) ∧
     (e.par 16 2 = 8) ∧
     (pa = some p) ∧
     (bytes ≠ 0) ∧
     (p / 2 ^ 26 = (p + bytes - 1) / 2 ^ 26) ∧
     (u.rd .apEn a = 0)) ∧
    (let dt : Nat := 0; let q : Fin 64 := 3; let off : Nat := 0; let s : State := ((testQp 3 0x20 [9]).wr .apEn 1 0).wr .apTid 30 0; let u : State := elapse dt s; let e : SqEntry := ⟨0x20, 5, 0, 0, padTo 48 [9]⟩
     ((u.qp q).cur = some e) ∧
     ((u.qp q).live = true) ∧
     ((u.qp q).err = false) ∧
     ((u.qp q).given = false) ∧
     (e.op = 0x20) ∧
     (e.par 16 2 = 9) ∧
     (off / 2 ^ 26 < 64) ∧
     (u.rd .apEn (off / 2 ^ 26) = 1) ∧
     (u.rd .apTid (off / 2 ^ 26) = (u.qp q).tid)) :=
  by and_intros <;> decide +kernel

theorem test_meets_DowelPorts :
    (let dt : Nat := 0; let p : Fin 4 := 0; let l : List Byte := List.replicate 64 0; let res : Nat := 0; let s : State := testDwl 0 []; let u : State := elapse dt s
     (dwlOn u = true) ∧
     (portUp u p = true) ∧
     (l.length = 64) ∧
     (crc32c ((l.take 60).map (·.toNat)) ≠ dAt l 60 4)) ∧
    (let dt : Nat := 0; let p : Fin 4 := 0; let l : List Byte := testFlit; let res : Nat := 0; let s : State := testDwl 0 []; let u : State := elapse dt s; let t : State := takeAck p (dAt l 3 1) (dAt l 6 2 / 1024) (bitOf (dAt l 0 1) 7) u
     (dwlOn u = true) ∧
     (portUp u p = true) ∧
     (l.length = 64) ∧
     (crc32c ((l.take 60).map (·.toNat)) = dAt l 60 4) ∧
     ((readFlit l).typ = 0) ∧
     (bitOf (dAt l 0 1) 6 = false)) ∧
    (let dt : Nat := 0; let p : Fin 4 := 0; let s : State := { (testDwl 0 []).setDport 0 { DwlPort.init with out := [⟨0, ⟨1, false, false, 0, 1, 0, 1, []⟩⟩] } with now := 84000 }; let u : State := elapse dt s
     (dwlOn u = true) ∧
     (portUp u p = true) ∧
     ((u.dport p).out ≠ []) ∧
     (u.now = (u.dport p).ackAt + 10 * 8400)) ∧
    (let dt : Nat := 0; let p : Fin 4 := 0; let lost : Bool := true; let s : State := testDwl 0 []; let u : State := elapse dt s; let t : State := u.bump .dwlCntRetrain 1 p
     (dwlOn u = true) ∧
     (portUp u p = true) ∧
     (lost = true)) ∧
    (let dt : Nat := 0; let p : Fin 4 := 0; let partner : Fin 16 := 1; let ppair : Bool := false; let s : State := (testDwl 0 []).wr .dwlPortState 1 0; let u : State := elapse dt s; let t : State := ((u.wr .dwlPortState 2 p).wr .dwlPartner partner p).wr .dwlPpair (b2n ppair) p; let x : State := reroute (firstRoute p (showPairLink (raise .dwlLinkUp 1 p (t.setDport p { DwlPort.init with wasUp := true, replayTold := (u.dport p).replayTold, ackAt := t.now }))))
     (dwlOn u = true) ∧
     (u.rd .dwlPortState p = 1) ∧
     (u.now ≤ (u.dport p).trainAt + 30 * 8400000) ∧
     ((u.dport p).wasUp = false) ∧
     (u.pair.on = false) ∧
     (t.pair.on = false) ∧
     ((dwlPump p (x.dport p).wait.length x).pair.on = false)) ∧
    (let dt : Nat := 0; let p : Fin 4 := 0; let s : State := { (testDwl 0 []).wr .dwlPortState 0 0 with now := 8400000000, boot := { State.reset.boot with p150 := true } }; let u : State := elapse dt s
     (trains u p = true) ∧
     (u.boot.p150 = true) ∧
     (u.rd .dwlPortState p = 0) ∧
     (every u (u.dport p).trainAt 8400000000 = true)) ∧
    (let dt : Nat := 0; let env : RegEnv := ⟨⟨true, 0xFF, []⟩, 0, 0, false⟩; let reply : FabReply := .waits; let s : State := { (testDwl 0 [⟨0, 2, false, 1, 0, 0, 0, leBytes 8 0 ++ [1]⟩]).wr .inbSrcMask 2 0 with clk := { ClkSt.init with up := true } }; let u : State := elapse dt s; let m : DwlMsg := ⟨0, 2, false, 1, 0, 0, 0, leBytes 8 0 ++ [1]⟩; let t : State := testRest 2 false (elapse 0 s)
     (takeMsg (fun m => m.typ == 2 && m.rsp == false) u = some (m, t)) ∧
     (fabOn u = true) ∧
     (u.dwl.msgs.find? (fun m => m.typ == 2 && !m.rsp) = some m) ∧
     (bpuBusyAt u (u.rd .inbBase (dAt m.data 0 5 % 2 ^ 32 / 2 ^ 28) * 2 ^ 28 + dAt m.data 0 5 % 2 ^ 32 % 2 ^ 28) = false)) ∧
    (let dt : Nat := 0; let env : RegEnv := ⟨⟨true, 0xFF, []⟩, 0, 0, false⟩; let reply : FabReply := .waits; let s : State := { testDwl 0 [⟨0, 3, false, 1, 0, 0, 0, leBytes 8 0⟩] with clk := { ClkSt.init with up := true } }; let u : State := elapse dt s; let m : DwlMsg := ⟨0, 3, false, 1, 0, 0, 0, leBytes 8 0⟩; let t : State := testRest 3 false (elapse 0 s)
     (takeMsg (fun m => m.typ == 3 && m.rsp == false) u = some (m, t)) ∧
     (fabOn u = true) ∧
     (u.dwl.msgs.find? (fun m => m.typ == 3 && !m.rsp) = some m) ∧
     (bpuBusyAt u (u.rd .inbBase (dAt m.data 0 5 % 2 ^ 32 / 2 ^ 28) * 2 ^ 28 + dAt m.data 0 5 % 2 ^ 32 % 2 ^ 28) = false) ∧
     (t.rd .inbEn (dAt m.data 0 5 % 2 ^ 32 / 2 ^ 28) = 0)) ∧
    (let dt : Nat := 0; let env : RegEnv := ⟨⟨true, 0xFF, []⟩, 0, 0, false⟩; let reply : FabReply := .waits; let s : State := testSeg [⟨0, 3, false, 1, 0, 0, 0, leBytes 8 0⟩]; let u : State := elapse dt s; let m : DwlMsg := ⟨0, 3, false, 1, 0, 0, 0, leBytes 8 0⟩; let t : State := testRest 3 false (elapse 0 s); let o : Nat := 0; let len : Nat := 1; let r : RdOut := inbPart ⟨18, 24, 0, 1, false⟩ none env reply (testRest 3 false (elapse 0 s))
     (takeMsg (fun m => m.typ == 3 && m.rsp == false) u = some (m, t)) ∧
     (fabOn u = true) ∧
     (u.dwl.msgs.find? (fun m => m.typ == 3 && !m.rsp) = some m) ∧
     (o = dAt m.data 0 5 % 2 ^ 32) ∧
     (len = dAt m.data 5 1 % 128 + 1) ∧
     (bpuBusyAt u (u.rd .inbBase (o / 2 ^ 28) * 2 ^ 28 + o % 2 ^ 28) = false) ∧
     (t.rd .inbEn (o / 2 ^ 28) = 1) ∧
     (t.rdBit .inbSrcMask m.src (o / 2 ^ 28) = true) ∧
     (remServed t m (o / 2 ^ 28) = true) ∧
     (m.typ = 3) ∧
     (r = inbPart ⟨18, t.rd .inbTid (o / 2 ^ 28), t.rd .inbBase (o / 2 ^ 28) * 2 ^ 28 + o % 2 ^ 28, len, false⟩ none env reply t) ∧
     (r.resp = 0)) :=
  by and_intros <;> decide +kernel

theorem test_meets_AssemblyMessages :
    (let dt : Nat := 0; let links : List (Nat × Nat) := []; let s : State := testDwl 1 [⟨0, 1, false, 1, 0, 0, 0, List.replicate 52 0⟩]; let u : State := elapse dt s; let m : DwlMsg := ⟨0, 1, false, 1, 0, 0, 0, List.replicate 52 0⟩; let t : State := testRest 1 false (elapse 0 s)
     (takeMsg (fun m => m.typ == 1 && m.rsp == false) u = some (m, t)) ∧
     (onPair t m = false) ∧
     (isManager t = true) ∧
     (m.src ≠ 0)) ∧
    (let dt : Nat := 0; let s : State := testDwl 2 [⟨0, 1, true, 0, 0, 0, 0, [4, 0, 9, 0, 0, 0]⟩]; let u : State := elapse dt s; let m : DwlMsg := ⟨0, 1, true, 0, 0, 0, 0, [4, 0, 9, 0, 0, 0]⟩; let t : State := testRest 1 true (elapse 0 s)
     (takeMsg (fun m => m.typ == 1 && m.rsp == true) u = some (m, t)) ∧
     (t.rd .asmRole = 2) ∧
     (m.src = 0)) ∧
    (let dt : Nat := 0; let s : State := testDwl 0 [⟨0, 4, false, 1, 0, 0, 0, List.replicate 72 0⟩]; let u : State := elapse dt s; let m : DwlMsg := ⟨0, 4, false, 1, 0, 0, 0, List.replicate 72 0⟩; let t : State := testRest 4 false (elapse 0 s)
     (takeMsg (fun m => m.typ == 4 && m.rsp == false) u = some (m, t)) ∧
     (dAt m.data 0 1 = 0) ∧
     (3 ≤ ownState t)) ∧
    (let dt : Nat := 0; let s : State := { testDwl 2 [⟨0, 4, false, 0, 3, 0, 0, [1, 0, 9, 0, 1, 2, 0, 0, 0x7A, 0x60, 0, 0, 1]⟩] with dwl := { (testDwl 2 [⟨0, 4, false, 0, 3, 0, 0, [1, 0, 9, 0, 1, 2, 0, 0, 0x7A, 0x60, 0, 0, 1]⟩]).dwl with verdict := some 4 } }; let u : State := elapse dt s; let m : DwlMsg := ⟨0, 4, false, 0, 3, 0, 0, [1, 0, 9, 0, 1, 2, 0, 0, 0x7A, 0x60, 0, 0, 1]⟩; let t : State := testRest 4 false (elapse 0 s); let r : List Byte := (m.data.drop 4).take (dAt m.data 2 2)
     (takeMsg (fun m => m.typ == 4 && m.rsp == false) u = some (m, t)) ∧
     (dAt m.data 0 1 = 1) ∧
     (t.rd .asmRole = 2) ∧
     (m.src = 0) ∧
     (2 ≤ ownState t) ∧
     (dAt r 1 1 ≠ 3)) ∧
    (let dt : Nat := 0; let s : State := { testDwl 2 [⟨0, 5, false, 0, 0, 0, 0, [4, 9, 0, 0, 0, 0, 0]⟩] with dwl := { (testDwl 2 [⟨0, 5, false, 0, 0, 0, 0, [4, 9, 0, 0, 0, 0, 0]⟩]).dwl with verdict := some 4 } }; let u : State := elapse dt s; let m : DwlMsg := ⟨0, 5, false, 0, 0, 0, 0, [4, 9, 0, 0, 0, 0, 0]⟩; let t : State := testRest 5 false (elapse 0 s); let e : Nat := dAt m.data 1 6; let x : State := epochArm 1 (BitVec.ofNat 32 (e / 2 ^ 32 % 2 ^ 16 + 2 ^ 31)) (tbCfgWrite 1 (BitVec.ofNat 32 (dAt m.data 0 1)) ((t.wr .epochNsec 0).wr .epochSecLo e))
     (takeMsg (fun m => m.typ == 5 && m.rsp == false) u = some (m, t)) ∧
     (takesSync t m = true)) ∧
    (let dt : Nat := 0; let s : State := testDwl 1 [⟨0, 6, false, 1, 0, 0, 0, List.replicate 52 0⟩]; let u : State := elapse dt s; let m : DwlMsg := ⟨0, 6, false, 1, 0, 0, 0, List.replicate 52 0⟩; let t : State := testRest 6 false (elapse 0 s)
     (takeMsg (fun m => m.typ == 6 && m.rsp == false) u = some (m, t)) ∧
     (onPair t m = false) ∧
     (isManager t = true) ∧
     (m.src ≠ 0) ∧
     (dAt m.data 14 1 ≠ 1)) ∧
    (let dt : Nat := 0; let s : State := testDwl 2 [⟨0, 6, true, 0, 0, 0, 100, List.replicate 52 0⟩]; let u : State := elapse dt s; let m : DwlMsg := ⟨0, 6, true, 0, 0, 0, 100, List.replicate 52 0⟩; let t : State := testRest 6 true (elapse 0 s); let o : Int := Int.tdiv (((t.dwl.t1 : Int) - (dAt m.data 0 6 * 1000000000 + dAt m.data 6 4)) + (m.at_ - (dAt m.data 10 6 * 1000000000 + dAt m.data 16 4)) + dAt m.data 20 4 - dAt m.data 48 4) 2
     (takeMsg (fun m => m.typ == 6 && m.rsp == true) u = some (m, t)) ∧
     (onPair t m = false) ∧
     (t.rd .asmRole = 2)) :=
  by and_intros <;> decide +kernel

theorem test_meets_AssemblyTimers :
    (let dt : Nat := 0; let s : State := { (testDwl 2 []).wr .dwlRouteV 1 with now := 84000000000 }; let u : State := elapse dt s
     (every u u.dwl.timeAt (u.rd .dwlTimeInt * 8400) = true) ∧
     (u.rd .pairRole ≠ 2) ∧
     (u.rd .asmRole = 2) ∧
     (u.rdBit .dwlRouteV 0 = true)) ∧
    (let dt : Nat := 0; let s : State := { (testDwl 1 []).wr .asmState 1 with now := 3360000000, boot := { State.reset.boot with t0 := 0 } }; let u : State := elapse dt s; let x : State := u.wr .asmState 2
     (isManager u = true) ∧
     (u.rd .asmState = 1) ∧
     (u.now = u.boot.t0 + 400 * 8400000)) ∧
    (let dt : Nat := 0; let k : Fin 16 := 1; let s : State := { (testDwl 1 []).setWkr 1 { Worker.init with state := 4 } with now := 84000000000 }; let u : State := elapse dt s
     (isManager u = true) ∧
     (k.val ≠ 0) ∧
     (0 < (u.wkr k).state) ∧
     ((u.wkr k).state < 5) ∧
     ((u.wkr k).flitAt + u.rd .asmWkrTo * 8400000 ≤ u.now)) ∧
    (let dt : Nat := 0; let s : State := { testDwl 2 [] with now := 84000000000, dwl := { DwlSt.init with verdict := some 4 } }; let u : State := elapse dt s
     (u.rd .asmRole = 2) ∧
     (u.dwl.verdict ≠ none) ∧
     (u.dwl.held = false) ∧
     (u.dwl.mgrAt + u.rd .asmMgrTo * 8400000 ≤ u.now)) ∧
    (let dt : Nat := 0; let s : State := { (testDwl 1 []).setWkr 1 { Worker.init with state := 4 } with od := { OdSt.init with queue := [⟨.pcie 1 2, .write [1, 2, 0, 0, 0x7A, 0x60, 0, 0, 1, 0, 0, 0], 0x2830, 1⟩] } }; let u : State := elapse dt s; let q : OdReq := ⟨.pcie 1 2, .write [1, 2, 0, 0, 0x7A, 0x60, 0, 0, 1, 0, 0, 0], 0x2830, 1⟩; let l : List OdReq := []; let x : State := { u with od := { u.od with queue := l } }; let r : List Byte := [1, 2, 0, 0, 0x7A, 0x60, 0, 0, 1, 0, 0, 0]
     (u.od.auth = none) ∧
     (u.od.queue = q :: l) ∧
     (q.writes .asmForward = true) ∧
     (q.op = .write r) ∧
     (ownCheck q = 0) ∧
     (isManager x = true) ∧
     (dAt r 2 2 = 0) ∧
     (dAt r 1 1 = 2 ∨ dAt r 1 1 = 3) ∧
     (vdpFormOk (dAt r 1 1) false (r.drop 4) = true) ∧
     (1 ≤ dAt r 0 1) ∧
     (dAt r 0 1 ≤ 15) ∧
     (2 ≤ (x.wkr (dAt r 0 1)).state) ∧
     ((x.wkr (dAt r 0 1)).state ≤ 4)) ∧
    (let dt : Nat := 0; let s : State := { testDwl 1 [] with now := 8400000000, dwl := { DwlSt.init with fwd := [⟨1, 1, ⟨.pcie 1 2, .read, 0, 0⟩, 0⟩] } }; let u : State := elapse dt s; let f : FwdRun := ⟨1, 1, ⟨.pcie 1 2, .read, 0, 0⟩, 0⟩
     (u.dwl.fwd.find? (fun f => decide (f.at_ + 500 * 8400000 ≤ u.now)) = some f)) :=
  by and_intros <;> decide +kernel

theorem test_meets_PairCommands :
    (let dt : Nat := 0; let s : State := { testPair 2 with dwl := { DwlSt.init with msgs := [⟨0, 7, false, 1, 0, 0, 0, List.replicate 260 0⟩] } }; let u : State := elapse dt s; let m : DwlMsg := ⟨0, 7, false, 1, 0, 0, 0, List.replicate 260 0⟩; let t : State := testRest 7 false (elapse 0 s)
     (takeMsg (fun m => m.typ == 7 && m.rsp == false) u = some (m, t)) ∧
     (t.rd .pairRole = 2)) ∧
    (let dt : Nat := 0; let low : Bool := true; let s : State := testPair 2; let u : State := elapse dt s
     (u.pair.on = true) ∧
     (low = true) ∧
     (u.pair.failHigh = true) ∧
     (mayTakeOver (u.wr .pairPeerFail 1) = true)) ∧
    (let dt : Nat := 0; let low : Bool := true; let s : State := testPair 1; let u : State := elapse dt s; let t : State := u.wr .pairPeerFail 1
     (u.pair.on = true) ∧
     (low = true) ∧
     (u.pair.failHigh = true) ∧
     (t.rd .pairRole = 1)) ∧
    (let dt : Nat := 0; let edge : Bool := true; let s : State := testWindow 0; let u : State := elapse dt s; let k : Nat := 4000
     (u.windowNow = some k) ∧
     (u.pair.on = true) ∧
     (u.pair.winAt < u.now) ∧
     (edge = true)) ∧
    (let dt : Nat := 0; let edge : Bool := false; let s : State := testWindow 2; let u : State := elapse dt s; let k : Nat := 4000; let t : State := { u with pair := { u.pair with winAt := u.now, empty := u.pair.empty + 1 } }.wr .pairPeerAlive 0
     (u.windowNow = some k) ∧
     (u.pair.on = true) ∧
     (u.pair.winAt < u.now) ∧
     (edge = false) ∧
     (u.boot.t0 + 100 * 8400000 ≤ windowStart u k) ∧
     (2 ≤ u.pair.empty) ∧
     (mayTakeOver t = true)) ∧
    (let dt : Nat := 0; let low : Bool := true; let s : State := { testPair 1 with pin := { (testPair 1).pin with activeN := some false } }; let u : State := elapse dt s; let t : State := u.wr .pairPeerActive 1
     (u.pair.on = true) ∧
     (low = true) ∧
     (u.rd .pairPeerActive = 0) ∧
     (u.pin.activeN = some false) ∧
     (t.pin.activeN = some false)) ∧
    (let dt : Nat := 0; let s : State := { (testPair 2).wr .pairMirrorAge 200 with pair := { PairSt.init with on := true, mir := some ⟨0, 1, 0, 0, 0, [], []⟩ } }; let u : State := elapse dt s
     (u.pair.on = true) ∧
     (u.pair.portLost = false) ∧
     (mirrorStale u = true) ∧
     (u.pair.linkTold = false)) ∧
    (let dt : Nat := 0; let s : State := { testPair 1 with pair := { PairSt.init with on := true, portLost := true } }; let u : State := elapse dt s
     (u.pair.on = true) ∧
     (u.pair.portLost = true) ∧
     (u.rd .pairRole = 1 ∨ u.rd .pairRole = 2) ∧
     (u.pair.linkTold = false)) ∧
    (let dt : Nat := 0; let s : State := { testPair 1 with pair := { PairSt.init with on := true, ho := some 0 } }; let u : State := elapse dt s; let t : State := { u with pair := { u.pair with ho := none, ready := false } }.wr .pairHoTick 0
     (atHandover u = true) ∧
     (t.rd .pairRole = 1)) ∧
    (let dt : Nat := 0; let s : State := { testPair 2 with pair := { PairSt.init with on := true, ho := some 0, ready := true } }; let u : State := elapse dt s; let t : State := { u with pair := { u.pair with ho := none, ready := false } }.wr .pairHoTick 0
     (atHandover u = true) ∧
     (t.rd .pairRole = 2)) :=
  by and_intros <;> decide +kernel

theorem test_meets_PowerDomains :
    (let dt : Nat := 0; let tid : Nat := 0; let v : Word := 0x20; let s : State := testNet; let u : State := elapse dt s; let ds : List Nat := (List.range 24).filter onDemand
     (tid < 2) ∧
     (ds.filter (domReqBad u v.toNat) = [])) ∧
    (let dt : Nat := 0; let tid : Nat := 24; let v : Word := 0; let s : State := State.reset; let u : State := elapse dt s
     (2 ≤ tid)) ∧
    (let dt : Nat := 0; let d : Fin 24 := 5; let s : State := { switchTo 5 true testNet with now := 201808 }; let u : State := elapse dt s; let t : Nat := 0
     (u.pwr.sw.get none d = some (true, t)) ∧
     ((domainNeeds d).all u.domOn = true) ∧
     (u.now = upAt u d t)) ∧
    (let dt : Nat := 0; let d : Fin 24 := 5; let s : State := { switchTo 5 false testNet with now := 84000 }; let u : State := elapse dt s; let t : Nat := 0
     (u.pwr.sw.get none d = some (false, t)) ∧
     (t + downTime d ≤ u.now) ∧
     (domainQuiet u d = true)) ∧
    (let dt : Nat := 0; let tid : Nat := 0; let v : Word := 0x40000; let s : State := testNet; let u : State := elapse dt s; let w : Nat := (if bitOf v.toNat 16 then setBit v.toNat 4 true else v.toNat)
     (tid = 0) ∧
     ((List.range 24).any (fun d => bitOf w d && !rstDomOk d) = false)) ∧
    (let dt : Nat := 0; let flashOk : Bool := false; let s : State := (testOd (.write [2]) 0x2100 2).wr .pwrState 4; let u : State := elapse dt s; let q : OdReq := ⟨.pcie 1 2, .write [2], 0x2100, 2⟩; let l : List OdReq := []; let x : State := { u with od := { u.od with queue := l } }
     (u.od.auth = none) ∧
     (u.od.queue = q :: l) ∧
     (q.writes .pwrReq = true) ∧
     (ownCheck q = 0) ∧
     (q.num ≠ 3) ∧
     (restOk x = false)) ∧
    (let dt : Nat := 0; let flashOk : Bool := false; let s : State := (testOd (.write [2]) 0x2100 2).wr .pwrState 3; let u : State := elapse dt s; let q : OdReq := ⟨.pcie 1 2, .write [2], 0x2100, 2⟩; let l : List OdReq := []; let x : State := { u with od := { u.od with queue := l } }
     (u.od.auth = none) ∧
     (u.od.queue = q :: l) ∧
     (q.writes .pwrReq = true) ∧
     (ownCheck q = 0) ∧
     (q.num = 2) ∧
     (restOk x = true)) ∧
    (let dt : Nat := 0; let s : State := { testPwr with pwr := { PwrSt.init with crit := 3 } }; let u : State := elapse dt s; let t : State := enterRest 2 (applySto 9 (raise .thmCrit 0 (hottest u) { u with pwr := { u.pwr with crit := 0, coolAt := none } }))
     (3 ≤ u.pwr.crit) ∧
     (3 ≤ u.rd .pwrState)) ∧
    (let dt : Nat := 0; let b : Fin 6 := 2; let s : State := ((State.reset.wr .pwrWakeEn 0xFF).wr .pwrState 2); let u : State := elapse dt s
     (canWake u b = true)) ∧
    (let dt : Nat := 0; let s : State := ((State.reset.wr .pwrWakeEn 0xFF).wr .pwrState 2); let u : State := elapse dt s
     (canWake u 6 = true) ∧
     (u.clk.veneerSec % 2 ^ 32 = u.rd .pwrAlarm)) ∧
    (let dt : Nat := 0; let s : State := { State.reset.wr .pwrState 2 with now := 84000000000, pwr := { PwrSt.init with critRest := true, coolAt := some 0 } }; let u : State := elapse dt s
     (u.rd .pwrState = 2) ∧
     (u.pwr.critRest = true) ∧
     (u.pwr.waking = false) ∧
     (heldFor u.pwr.coolAt (10 * 8400000000) u.now = true)) :=
  by and_intros <;> decide +kernel

theorem test_meets_PowerSupervision :
    (let dt : Nat := 0; let est : Nat := 90000; let s : State := { testPwr with now := 8400000, clk := { ClkSt.init with up := true } }; let u : State := elapse dt s; let t : State := { u with pwr := { u.pwr with winAt := u.now, lastL := u.rd .pwrL, above := if u.rd .pwrL = 4 then u.pwr.above + 1 else 0, aboveTold := u.pwr.aboveTold } }.wr .pwrEst (min est 65535)
     (winStart u = u.now) ∧
     (u.pwr.winAt < u.now) ∧
     (u.rd .pwrCap * 1000 < est)) ∧
    (let dt : Nat := 0; let s : State := { testPwr with pwr := { PwrSt.init with above := 10 } }; let u : State := elapse dt s
     (10 ≤ u.pwr.above) ∧
     (u.pwr.aboveTold = false)) ∧
    (let dt : Nat := 0; let low : Bool := true; let high : Bool := false; let s : State := { testPwr.wr .pwrVid 10 with now := 8400000 }; let u : State := elapse dt s; let w : PwrSt := { u.pwr with avsSeen := some u.now, avsAt := u.now, avsHigh := none, avsLow := none, avsOk := none }
     (avsOn u = true) ∧
     (onPeriod u u.pwr.avsSeen rootPerMs = true) ∧
     (low = true) ∧
     (u.rd .pwrVid < 20) ∧
     (u.pwr.avsAt + 200 * 8400 ≤ u.now) ∧
     (u.pwr.avsLimit = false)) ∧
    (let dt : Nat := 0; let s : State := { testPwr.wr .pwrVid 20 with now := 84000000, pwr := { PwrSt.init with avsLow := some 0 } }; let u : State := elapse dt s
     (avsOn u = true) ∧
     (u.rd .pwrVid = 20) ∧
     (heldFor u.pwr.avsLow (10 * 8400000) u.now = true) ∧
     (u.pwr.avsLimit = false)) ∧
    (let dt : Nat := 0; let l : List Int := List.replicate 12 200; let s : State := testPwr; let u : State := elapse dt s; let t : State := foldN 12 (fun k s => if l.getD k 0 < -400 ∨ 1200 < l.getD k 0 then sensorFail k s else s) (foldN 12 (fun k s => s.wr .thmT (unsigned 12 (l.getD k 0)) k) { u with pwr := { u.pwr with thmSeen := some u.now } }); let x : State := foldN 12 (fun k s => judgeSensor (goodReadings t l) k s) t; let good : List (Nat × Int) := goodReadings x l; let r : Nat × Int := (0, 200); let rest : List (Nat × Int) := (List.range 11).map fun k => (k + 1, 200)
     (u.domOn 1 = true) ∧
     (onPeriod u u.pwr.thmSeen (100 * rootPerUs) = true) ∧
     (good = r :: rest)) ∧
    (let dt : Nat := 0; let codes : List Nat := [1, 2]; let hot : BitVec 8 := 1; let s : State := { testPwr with memc := { State.reset.memc with trained := true } }; let u : State := elapse dt s; let t : State := foldN 8 (fun ch s => { s with memc := { s.memc with rate := s.memc.rate.set ch (codes.getD ch 0 % 8) } }) { u with memc := { u.memc with polled := some u.now } }
     (u.memc.trained = true) ∧
     (u.clockOn 14 = true) ∧
     (onPeriod u u.memc.polled (16 * rootPerMs) = true)) ∧
    (let dt : Nat := 0; let f : Fin 2 := 0; let s : State := testPwr; let u : State := elapse dt s
     (fansOn u = true)) ∧
    (let dt : Nat := 0; let f : Fin 2 := 0; let s : State := { testPwr.setFan 0 ⟨0, some 0, none⟩ with now := 84000000 }; let u : State := elapse dt s; let t : Nat := 0
     (u.rd .fanEn f = 1) ∧
     (fansOn u = true) ∧
     ((u.fan f).edgeAt = some t) ∧
     (t < u.now) ∧
     (u.now - t < tachLimit u f)) ∧
    (let dt : Nat := 0; let f : Fin 2 := 0; let s : State := { (testPwr.wr .fanState 1 0).wr .fanRetry 3 0 with now := 16800000000 }; let u : State := elapse dt s
     (fansOn u = true) ∧
     (u.rd .fanState f = 1) ∧
     (u.now = (u.fan f).startAt + 2 * 8400000000) ∧
     (u.rd .fanRetry f = 3)) ∧
    (let dt : Nat := 0; let f : Fin 2 := 0; let s : State := { testPwr.wr .fanState 1 0 with now := 42000000000 }; let u : State := elapse dt s
     (fansOn u = true) ∧
     (u.rd .fanState f = 1) ∧
     (u.now = (u.fan f).startAt + 5 * 8400000000) ∧
     (u.rd .fanRetry f < 3)) ∧
    (let dt : Nat := 0; let f : Fin 2 := 0; let s : State := { testPwr.wr .fanState 2 0 with now := 8400000000000 }; let u : State := elapse dt s
     (fansOn u = true) ∧
     (u.rd .fanState f = 2) ∧
     (tachSilent u f = true)) ∧
    (let dt : Nat := 0; let f : Fin 2 := 0; let s : State := { (testPwr.wr .fanState 4 0).setFan 0 ⟨0, some 84000000000, some 0⟩ with now := 84000000000 }; let u : State := elapse dt s
     (fansOn u = true) ∧
     (3 ≤ u.rd .fanState f) ∧
     (heldFor (u.fan f).okFrom (10 * 8400000000) u.now = true) ∧
     (tachSilent u f = false)) :=
  by and_intros <;> decide +kernel

theorem test_meets_BootTimeline :
    (let dt : Nat := 0; let s : State := State.reset; let u : State := elapse dt s
     (u.boot.vdd = false)) ∧
    (let dt : Nat := 0; let cause : Fin 3 := 0; let s : State := { State.reset with boot := { BootSt.init with vdd := true } }; let u : State := elapse dt s
     (u.boot.vdd = true) ∧
     (cause = 0) ∧
     (u.pin.mainEn = false)) ∧
    (let dt : Nat := 0; let cause : Fin 3 := 1; let s : State := { State.reset with boot := { BootSt.init with vdd := true }, pin := { PinSt.init with mainEn := true } }; let u : State := elapse dt s
     (u.boot.vdd = true) ∧
     (cause ≠ 2) ∧
     (cause = 0 → u.pin.mainEn = true)) ∧
    (let dt : Nat := 0; let cause : Fin 3 := 2; let s : State := { State.reset with boot := { BootSt.init with vdd := true }, pin := { PinSt.init with mainEn := true } }; let u : State := elapse dt s
     (u.boot.vdd = true) ∧
     (cause = 2)) ∧
    (let dt : Nat := 0; let s : State := { State.reset with boot := { BootSt.init with vdd := true }, pin := { PinSt.init with mainEn := true } }; let u : State := elapse dt s; let x : State := resetCause 0 { u with boot := { u.boot with run := true, t0 := u.now }, clk := { u.clk with t0 := u.now, qual := .idle, qualGood := 0, qualFails := 0, qualRetried := false } }
     (u.boot.vdd = true) ∧
     (u.pin.mainEn = true) ∧
     (u.boot.run = false) ∧
     (u.rd .pwrState ≠ 1)) ∧
    (let dt : Nat := 0; let v : BitVec 11 := 0x121; let s : State := { State.reset with now := 840000, boot := { BootSt.init with run := true } }; let u : State := elapse dt s
     (u.boot.run = true) ∧
     (u.boot.strapped = false) ∧
     (u.now = u.boot.t0 + 100 * rootPerUs) ∧
     (v.toNat % 4 ≠ 3)) ∧
    (let dt : Nat := 0; let v : BitVec 11 := 3; let s : State := { State.reset with now := 840000, boot := { BootSt.init with run := true } }; let u : State := elapse dt s
     (u.boot.run = true) ∧
     (u.boot.strapped = false) ∧
     (u.now = u.boot.t0 + 100 * rootPerUs) ∧
     (v.toNat % 4 = 3)) ∧
    (let dt : Nat := 0; let b : List Byte := []; let err : Bool := false; let s : State := testBoot { BootSt.init with run := true, strapped := true, bank := [(0, testBundle)] }; let u : State := elapse dt s
     (romWaits u = true) ∧
     (mailboxOn u = false) ∧
     (u.boot.src = 0) ∧
     (u.boot.firstCause = none) ∧
     (err = false) ∧
     (bunSifCause u (u.boot.bank.get [] u.boot.act) = 0)) ∧
    (let dt : Nat := 0; let b : List Byte := []; let err : Bool := true; let s : State := testBoot { BootSt.init with run := true, strapped := true }; let u : State := elapse dt s
     (romWaits u = true) ∧
     (mailboxOn u = false) ∧
     (u.boot.src = 0) ∧
     (u.boot.firstCause = none) ∧
     (err = true)) ∧
    (let dt : Nat := 0; let s : State := testAt 40 { BootSt.init with sif := true }; let u : State := elapse dt s
     (u.boot.sif = true) ∧
     (u.boot.p40 = false) ∧
     (u.boot.failed = false) ∧
     (u.now = pointAt u 40)) ∧
    (let dt : Nat := 0; let peerHigh : Bool := false; let s : State := testAt 60 { BootSt.init with sif := true, p40 := true }; let u : State := elapse dt s
     (u.boot.p60 = false) ∧
     (u.pwr.waking = false) ∧
     (u.boot.sif = true) ∧
     (u.boot.p40 = true) ∧
     (u.boot.failed = false) ∧
     (u.now = pointAt u 60)) ∧
    (let dt : Nat := 0; let ok : Bool := true; let s : State := testAt 60 { BootSt.init with sif := true, p40 := true }; let u : State := elapse dt s
     (ok = true) ∧
     (u.boot.sif = true) ∧
     (u.boot.p40 = true) ∧
     (u.boot.dram = false) ∧
     (u.boot.failed = false) ∧
     (u.rd .mbPhase = 0)) ∧
    (let dt : Nat := 0; let ok : Bool := false; let s : State := testAt 60 { BootSt.init with sif := true, p40 := true, trainFails := 1 }; let u : State := elapse dt s
     (ok = false) ∧
     (u.boot.sif = true) ∧
     (u.boot.p40 = true) ∧
     (u.boot.dram = false) ∧
     (u.boot.failed = false) ∧
     (u.boot.trainFails = 1)) ∧
    (let dt : Nat := 0; let more : List Byte := []; let err : Bool := false; let s : State := testBoot { BootSt.init with sif := true, dram := true, img := testBundle }; let u : State := elapse dt s
     (u.boot.sif = true) ∧
     (u.boot.dram = true) ∧
     (u.boot.rtOk = false) ∧
     (u.boot.failed = false) ∧
     (mailboxOn u = false) ∧
     (u.boot.src = 0) ∧
     (err = false) ∧
     (bunRtOk u u.boot.img = true)) ∧
    (let dt : Nat := 0; let s : State := testAt 120 { BootSt.init with sif := true, p40 := true, p60 := true, dram := true, rtOk := true }; let u : State := elapse dt s
     (u.boot.rtOk = true) ∧
     (u.boot.p60 = true) ∧
     (u.boot.p120 = false) ∧
     (u.boot.failed = false) ∧
     (u.now = pointAt u 120)) ∧
    (let dt : Nat := 0; let s : State := (testAt 150 { BootSt.init with p120 := true }).wr .dwlPortUse 1 0; let u : State := elapse dt s
     (u.boot.p120 = true) ∧
     (u.boot.p150 = false) ∧
     (u.now = pointAt u 150) ∧
     ((List.range 4).any (fun p => u.rd .dwlPortUse p != 0) = true)) ∧
    (let dt : Nat := 0; let s : State := testAt 300 { BootSt.init with p120 := true }; let u : State := elapse dt s
     (u.pwr.waking = false) ∧
     (u.boot.p120 = true) ∧
     (u.boot.p300 = false) ∧
     (u.saf.restart = none) ∧
     (u.now = pointAt u 300)) :=
  by and_intros <;> decide +kernel

theorem test_meets_BootMailbox :
    (let dt : Nat := 0; let s : State := { testBoot { BootSt.init with run := true } with now := 8400000000 }; let u : State := elapse dt s
     (u.boot.run = true) ∧
     (u.domOn 1 = true) ∧
     (u.rd .pcieReady = 0) ∧
     (u.now = max u.boot.t0 u.host.perstAt + rootPerS)) ∧
    (let dt : Nat := 0; let s : State := { testBoot { BootSt.init with run := true, src := 1 } with now := 168000000 }; let u : State := elapse dt s
     (u.boot.run = true) ∧
     (u.domOn 1 = true) ∧
     (u.rd .pcieReady = 0) ∧
     (u.boot.src = 1) ∧
     (u.now = mailboxReadyAt u)) ∧
    (let dt : Nat := 0; let s : State := testMb; let u : State := elapse dt s
     (mailboxOpen u = true) ∧
     (u.rd .mbGo = 0) ∧
     (u.rd .mbPhase ≠ 4) ∧
     (u.rd .mbOfs = u.boot.mb.length) ∧
     (1 ≤ u.rd .mbLen) ∧
     (u.rd .mbLen ≤ 3840)) ∧
    (let dt : Nat := 0; let s : State := testMb.wr .mbOfs 4; let u : State := elapse dt s
     (mailboxOpen u = true) ∧
     (u.rd .mbGo = 0) ∧
     (u.rd .mbOfs ≠ u.boot.mb.length)) ∧
    (let dt : Nat := 0; let s : State := { testMb.wr .mbGo 1 with boot := { testMb.boot with mbRun := true } }; let u : State := elapse dt s; let all : List Byte := u.boot.mb.take (u.rd .mbOfs) ++ mbChunk u
     (mailboxOpen u = true) ∧
     (u.boot.mbRun = true) ∧
     (u.rd .mbPhase = 2 ∨ all.length < 256)) ∧
    (let dt : Nat := 0; let s : State := { testBoot { BootSt.init with run := true, src := 2 } with now := 84000000000 }; let u : State := elapse dt s
     (u.boot.src = 2) ∧
     (u.boot.rtOk = false) ∧
     (u.boot.failed = false) ∧
     (u.clk.up = true) ∧
     (u.domOn 1 = true) ∧
     (u.boot.run = true) ∧
     (u.now = u.boot.dwlAt + 10 * rootPerS)) ∧
    (let dt : Nat := 0; let s : State := { testBoot { BootSt.init with run := true, src := 2, failed := true } with now := 8400000000 }; let u : State := elapse dt s
     (u.boot.src = 2) ∧
     (u.boot.failed = true) ∧
     (u.boot.sif = false) ∧
     (every u u.boot.dwlAt rootPerS = true)) ∧
    (let dt : Nat := 0; let s : State := { State.reset with od := { OdSt.init with queue := [⟨.pcie 0 0, .write [1], 0x1F51, 1⟩] } }; let u : State := elapse dt s; let q : OdReq := ⟨.pcie 0 0, .write [1], 0x1F51, 1⟩; let l : List OdReq := []
     (u.od.auth = none) ∧
     (u.od.queue = q :: l) ∧
     (q.writes .progControl = true) ∧
     (ownCheck q = 0) ∧
     (q.num = 1) ∧
     (u.boot.written = none)) ∧
    (let dt : Nat := 0; let s : State := { State.reset with od := { OdSt.init with queue := [⟨.pcie 0 0, .write [1], 0x1F51, 1⟩] }, boot := { BootSt.init with written := some 1 } }; let u : State := elapse dt s; let q : OdReq := ⟨.pcie 0 0, .write [1], 0x1F51, 1⟩; let l : List OdReq := []; let b : Nat := 1
     (u.od.auth = none) ∧
     (u.od.queue = q :: l) ∧
     (q.writes .progControl = true) ∧
     (ownCheck q = 0) ∧
     (q.num = 1) ∧
     (u.boot.written = some b)) ∧
    (let dt : Nat := 0; let s : State := { State.reset with od := { OdSt.init with queue := [⟨.pcie 0 0, .write [2], 0x1F51, 1⟩] } }; let u : State := elapse dt s; let q : OdReq := ⟨.pcie 0 0, .write [2], 0x1F51, 1⟩; let l : List OdReq := []
     (u.od.auth = none) ∧
     (u.od.queue = q :: l) ∧
     (q.writes .progControl = true) ∧
     (ownCheck q = 0) ∧
     (q.num = 2)) ∧
    (let dt : Nat := 0; let w : OtpWr := OtpWr.secure; let s : State := State.reset; let u : State := elapse dt s
     (w = OtpWr.secure) ∧
     (u.rd .vnrLifecycle = 0)) ∧
    (let dt : Nat := 0; let w : OtpWr := OtpWr.secure; let s : State := State.reset.wr .vnrLifecycle 1; let u : State := elapse dt s
     (u.rd .vnrLifecycle = 1) ∧
     (u.rd .vnrDbgUnlocked = 0)) :=
  by and_intros <;> decide +kernel

theorem test_meets_WarmResetAndIslandFaults :
    (let dt : Nat := 0; let pinLow : Bool := true; let release : Bool := false; let s : State := testBoot { BootSt.init with run := true }; let u : State := elapse dt s
     (u.clk.up = true) ∧
     (u.boot.run = true) ∧
     (u.boot.warm = none) ∧
     (release = false) ∧
     (pinLow = true)) ∧
    (let dt : Nat := 0; let pinLow : Bool := false; let release : Bool := false; let s : State := (testBoot { BootSt.init with run := true }).wr .vnrWarm 1; let u : State := elapse dt s
     (u.clk.up = true) ∧
     (u.boot.run = true) ∧
     (u.boot.warm = none) ∧
     (release = false) ∧
     (pinLow = false) ∧
     (u.rd .vnrWarm = 1)) ∧
    (let dt : Nat := 0; let pinLow : Bool := true; let release : Bool := false; let s : State := { (State.reset.wr .pwrDomStat 3).wr .pwrState 2 with boot := { BootSt.init with run := true } }; let u : State := elapse dt s
     (u.boot.run = true) ∧
     (u.clk.up = false) ∧
     (u.domOn 1 = true) ∧
     (pinLow = true) ∧
     (release = false)) ∧
    (let dt : Nat := 0; let pinLow : Bool := false; let release : Bool := true; let s : State := testBoot { BootSt.init with run := true, warm := some 2 }; let u : State := elapse dt s; let c : Nat := 2
     (u.clk.up = true) ∧
     (u.boot.run = true) ∧
     (u.boot.warm = some c) ∧
     (release = true) ∧
     (c ≠ 4)) ∧
    (let dt : Nat := 0; let kind : Fin 4 := 3; let s : State := testBoot BootSt.init; let u : State := elapse dt s
     (u.domOn 1 = true) ∧
     (kind = 3)) ∧
    (let dt : Nat := 0; let kind : Fin 4 := 1; let s : State := testBoot BootSt.init; let u : State := elapse dt s
     (u.domOn 1 = true) ∧
     (kind ≠ 3) ∧
     (u.clk.up = true)) :=
  by and_intros <;> decide +kernel

theorem test_meets_SafeStateRestarts :
    (let dt : Nat := 0; let s : State := { testBoot BootSt.init with saf := { SafSt.init with trig := [(5, 0)] } }; let u : State := elapse dt s; let sub : Nat := 5; let t : Nat := 0; let l : List (Nat × Nat) := []
     (liveTriggers u = (sub, t) :: l) ∧
     (u.saf.restart = none) ∧
     (u.saf.escalated = false) ∧
     (thirdRestart u = false)) ∧
    (let dt : Nat := 0; let s : State := { testBoot BootSt.init with saf := { SafSt.init with trig := [(5, 0)], starts := [0, 0] } }; let u : State := elapse dt s; let sub : Nat := 5; let t : Nat := 0; let l : List (Nat × Nat) := []
     (liveTriggers u = (sub, t) :: l) ∧
     (u.saf.restart = none) ∧
     (u.saf.escalated = false) ∧
     (thirdRestart u = true)) ∧
    (let dt : Nat := 0; let s : State := { testBoot BootSt.init with saf := { SafSt.init with trig := [(5, 0)], escalated := true } }; let u : State := elapse dt s; let sub : Nat := 5; let t : Nat := 0; let l : List (Nat × Nat) := []
     (liveTriggers u = (sub, t) :: l) ∧
     (u.saf.restart.isSome = true ∨ u.saf.escalated = true)) ∧
    (let dt : Nat := 0; let s : State := { testBoot BootSt.init with saf := { SafSt.init with restart := some ⟨0⟩ } }; let u : State := elapse dt s; let r : RestartRun := ⟨0⟩; let x : State := serveDictionary { u with saf := { u.saf with restart := none } }
     (u.saf.restart = some r) ∧
     (u.domOn 4 = true) ∧
     ((List.range 12).all (fun d => (u.pwr.sw.get none (d + 4)).isNone) = true) ∧
     (u.now ≤ r.trigAt + 150 * rootPerMs)) ∧
    (let dt : Nat := 0; let s : State := { testBoot BootSt.init with now := 1260000000, saf := { SafSt.init with restart := some ⟨0⟩ } }; let u : State := elapse dt s; let r : RestartRun := ⟨0⟩
     (u.saf.restart = some r) ∧
     (u.now = r.trigAt + 150 * rootPerMs)) ∧
    (let dt : Nat := 0; let s : State := { testBoot BootSt.init with saf := { SafSt.init with restart := some ⟨0⟩ } }; let u : State := elapse dt s; let r : RestartRun := ⟨0⟩
     (u.saf.restart = some r) ∧
     (u.now ≠ r.trigAt + 150 * rootPerMs)) :=
  by and_intros <;> decide +kernel

theorem test_meets_SafetyDiagnostics :
    (let dt : Nat := 0; let s : State := ({ State.reset with od := { OdSt.init with queue := [⟨.pcie 0 0, .write [3], 0x2A10, 2⟩] } }.wr .safArmed 3).wr .safStoDrv 1; let u : State := elapse dt s; let q : OdReq := ⟨.pcie 0 0, .write [3], 0x2A10, 2⟩; let l : List OdReq := []
     (u.od.auth = none) ∧
     (u.od.queue = q :: l) ∧
     (q.writes .safDisarm = true) ∧
     (ownCheck q = 0)) ∧
    (let dt : Nat := 0; let pad : Bool := false; let s : State := { testBoot BootSt.init with pin := { PinSt.init with stoN := some false } }; let u : State := elapse dt s
     (u.domOn 1 = true) ∧
     (u.clk.up = true) ∧
     (u.pin.stoN.isSome = true) ∧
     (pad = (u.rd .safStoDrv == 1))) ∧
    (let dt : Nat := 0; let pad : Bool := true; let s : State := { testBoot BootSt.init with pin := { PinSt.init with stoN := some false } }; let u : State := elapse dt s
     (u.domOn 1 = true) ∧
     (u.clk.up = true) ∧
     (u.pin.stoN.isSome = true) ∧
     (pad ≠ (u.rd .safStoDrv == 1)) ∧
     (pad ≠ (u.rd .safStoPad == 1))) ∧
    (let dt : Nat := 0; let gpio : Option (Fin 32) := some 0; let s : State := ((testBoot BootSt.init).wr .safSs1GpioEn 1).wr .safArmed 1; let u : State := elapse dt s; let k : Fin 32 := 0
     (gpio = some k) ∧
     (u.domOn 1 = true) ∧
     (u.rd .safSs1GpioEn = 1) ∧
     (u.rd .safSs1Gpio = k) ∧
     (u.saf.ss1End = none) ∧
     (u.rd .safArmed ≠ 0)) ∧
    (let dt : Nat := 0; let gpio : Option (Fin 32) := some 0; let s : State := { testBoot BootSt.init with saf := { SafSt.init with ss1End := some 5 } }; let u : State := elapse dt s; let k : Fin 32 := 0
     (gpio = some k) ∧
     (u.saf.ss1End.isSome = true)) ∧
    (let dt : Nat := 0; let s : State := { testBoot BootSt.init with now := 5, saf := { SafSt.init with ss1End := some 5 } }; let u : State := elapse dt s; let e : Nat := 5
     (u.saf.ss1End = some e) ∧
     (e = u.now)) ∧
    (let dt : Nat := 0; let v : BitVec 16 := 0x5AA5; let s : State := testBoot BootSt.init; let u : State := elapse dt s
     (u.domOn 1 = true) ∧
     (u.saf.restart = none) ∧
     (u.saf.escalated = false) ∧
     (v.toNat = kickDue u)) ∧
    (let dt : Nat := 0; let v : BitVec 16 := 0; let s : State := testBoot BootSt.init; let u : State := elapse dt s
     (u.domOn 1 = true) ∧
     (u.saf.restart = none) ∧
     (u.saf.escalated = false) ∧
     (v.toNat ≠ kickDue u)) ∧
    (let dt : Nat := 0; let s : State := { testBoot BootSt.init with now := 84000000, saf := { SafSt.init with wdgLast := some 0x5AA5, wdgOk := true } }; let u : State := elapse dt s
     (u.saf.wdgLast.isSome = true) ∧
     (wdgEnd u = u.now) ∧
     (u.saf.wdgOk = true)) ∧
    (let dt : Nat := 0; let s : State := { testBoot BootSt.init with now := 84000000, saf := { SafSt.init with wdgLast := some 0x5AA5 } }; let u : State := elapse dt s
     (u.saf.wdgLast.isSome = true) ∧
     (wdgEnd u = u.now) ∧
     (u.saf.wdgOk = false)) ∧
    (let dt : Nat := 0; let l : List ClpUpset := []; let s : State := testBoot BootSt.init; let u : State := elapse dt s
     (l = []) ∧
     (u.domOn 21 = true) ∧
     (u.domOn 1 = true) ∧
     (onPeriod u u.saf.crcFrom (10 * rootPerMs) = true)) :=
  by and_intros <;> decide +kernel

theorem test_meets_RegisterAccesses :
    (let dt : Nat := 0; let tid : Nat := 0; let slot : Nat := 34; let off : Nat := 0x100; let v : Word := 7; let env : RegEnv := ⟨⟨true, 0xFF, []⟩, 0, 0, false⟩; let s : State := testBoot BootSt.init; let u : State := elapse dt s; let b : Nat × Nat := (if 12 ≤ slot ∧ slot ≤ 19 then (12, (slot - 12) * 0x10000 + off) else (slot, off))
     (slotAssigned slot = true) ∧
     (off < 0x10000) ∧
     (off % 4 = 0) ∧
     (blockLive u slot off = true) ∧
     (fabHardOk (.per slot) off tid true = true)) ∧
    (let dt : Nat := 0; let tid : Nat := 0; let slot : Nat := 0; let off : Nat := 0; let v : Word := 0; let env : RegEnv := ⟨⟨true, 0xFF, []⟩, 0, 0, false⟩; let s : State := State.reset; let u : State := elapse dt s
     (blockLive u slot off = false)) ∧
    (let dt : Nat := 0; let slot : Nat := 3; let s : State := testBoot BootSt.init; let u : State := elapse dt s
     (blockLive u slot 0 = true)) :=
  by and_intros <;> decide +kernel

theorem testCheck_length : (testCheck 256).length = 8 ∧ (testCheck 1).length = 8 := by decide +kernel

/-- The check of the record is that of R366, whatever the serial number is. -/
theorem testRec_check (s : State) (c : Nat) (k : List Byte) (h : k.length = 8) :
    authCheck s (testRec c k) = authCheck s (testRec c (List.replicate 8 0)) ∧ recCheck (testRec c k) = k := by
  match k, h with
  | [a, b, c, d, e, f, g, i], _ => exact ⟨rfl, rfl⟩

/-- The state of `testSlot` with the request taken off its queue. -/
def testTaken (c : Nat) : State := { elapse 0 (testSlot c) with od := { (elapse 0 (testSlot c)).od with queue := [] } }

theorem testFault (c : Nat) (h : (testCheck c).length = 8)
    (h4 : authCheck (testTaken c) (testRec c (List.replicate 8 0)) = testCheck c)
    (h1 : ¬((testTaken c).rd .crySlotState (recSlot (testRecord c)) ≠ 1 ∨ (testTaken c).rd .crySlotType (recSlot (testRecord c)) ≠ 1 ∨
      !((authClass .safArm).any fun k => (testTaken c).rdBit .crySlotMask k (recSlot (testRecord c)))))
    (h2 : ¬recCounter (testRecord c) ≤ (testTaken c).rd .cryCnt (recSlot (testRecord c))) :
    authFault (testTaken c) .safArm (testRecord c) = 0 := by
  have h3 := testRec_check (testTaken c) c (testCheck c) h
  have h5 : authCheck (testTaken c) (testRecord c) = recCheck (testRecord c) := by
    unfold testRecord; rw [h3.1, h3.2, h4]
  unfold authFault
  rw [if_neg h1, if_neg h2, if_neg (by simp [h5])]

theorem test_meets_AuthenticatedWrites_2 :
    (elapse 0 (testSlot 256)).od.auth = none ∧ (elapse 0 (testSlot 256)).od.queue = testReq 256 :: [] ∧
    (testReq 256).writes .authWrite = true ∧ ownCheck (testReq 256) = 0 ∧ (testReq 256).op = .write (testRecord 256) ∧
    objAt (recIdx (testRecord 256)) (recSub (testRecord 256)) = some ⟨.safArm, 0, 0⟩ ∧
    odAccess (recIdx (testRecord 256)) (recSub (testRecord 256)) true ≠ 0x06010002 ∧
    (testTaken 256).rd .cryCnt (recSlot (testRecord 256)) ≠ 0xFFFFFFFF ∧
    authFault (testTaken 256) .safArm (testRecord 256) = 0 ∧
    (testTaken 256).od.flash.get 0 (recSlot (testRecord 256)) + 256 ≤ recCounter (testRecord 256) :=
  ⟨rfl, rfl, by decide +kernel, by decide +kernel, rfl, by decide +kernel, by decide +kernel, by decide +kernel,
    testFault 256 testCheck_length.1 rfl (by decide +kernel) (by decide +kernel), by decide +kernel⟩

theorem test_meets_AuthenticatedWrites_3 :
    (elapse 0 (testSlot 1)).od.auth = none ∧ (elapse 0 (testSlot 1)).od.queue = testReq 1 :: [] ∧
    (testReq 1).writes .authWrite = true ∧ ownCheck (testReq 1) = 0 ∧ (testReq 1).op = .write (testRecord 1) ∧
    objAt (recIdx (testRecord 1)) (recSub (testRecord 1)) = some ⟨.safArm, 0, 0⟩ ∧
    odAccess (recIdx (testRecord 1)) (recSub (testRecord 1)) true ≠ 0x06010002 ∧
    (testTaken 1).rd .cryCnt (recSlot (testRecord 1)) ≠ 0xFFFFFFFF ∧
    authFault (testTaken 1) .safArm (testRecord 1) = 0 ∧
    recCounter (testRecord 1) < (testTaken 1).od.flash.get 0 (recSlot (testRecord 1)) + 256 :=
  ⟨rfl, rfl, by decide +kernel, by decide +kernel, rfl, by decide +kernel, by decide +kernel, by decide +kernel,
    testFault 1 testCheck_length.2 rfl (by decide +kernel) (by decide +kernel), by decide +kernel⟩

theorem test_meets_AssemblyTimers_1 :
    let u := elapse 0 ((testDwl 2 []).wr .dwlRouteV 1)
    u.rd .asmRole = 2 ∧ u.rdBit .dwlRouteV 0 = true ∧ u.dwl.sent ≠ descHead u :=
  ⟨by decide +kernel, by decide +kernel, fun h => absurd (congrArg List.length h) (by decide +kernel)⟩

theorem test_meets_FrontCommandRuns : State.reset.pending = [] := rfl

theorem test_meets_ReportedStateFollows : Settled State.reset ∧ step State.reset = .next State.reset :=
  ⟨fun _ h => absurd h (by decide), rfl⟩

theorem test_meets_StoBringsSafeState :
    (let s : State := { testBoot BootSt.init with saf := { SafSt.init with ss1End := some 5 }, now := 6 }
     (elapse 0 s).saf.ss1End = some 5 ∧ 5 ≤ (elapse 0 s).now) ∧
    (let s : State := { testBoot BootSt.init with saf := { SafSt.init with restart := some ⟨0⟩ }, now := 1260000000 }
     (elapse 0 s).saf.restart = some ⟨0⟩ ∧ 0 + 150 * rootPerMs ≤ (elapse 0 s).now) :=
  ⟨by decide +kernel, by decide +kernel⟩

/-- With axis 0 enabled and slot 0 armed on cluster 2, the bit of that cluster is held. -/
theorem test_meets_HeldClockGates :
    let s : State := ((State.reset.setAx 0 { CeAxis.init with run := true }).wr .mitState 2 0).wr .mitCluster 2 0
    (elapse 0 s).anyEnabled = true ∧ (elapse 0 s).mitreIn 2 = true ∧ (elapse 0 s).mitreIn 3 = false := by decide +kernel

theorem test_meets_PhaseBelowShortestPeriod :
    (elapse 0 (State.reset.setAx 0 { CeAxis.init with run := true })).enabled 0 = true ∧
    ((elapse 0 State.reset).enabled 0 = false ∧ (elapse 0 State.reset).armed 0 = false) ∧
    shortestPer 0 ((elapse 0 (State.reset.wr .axTbPhase 6562 0)).rd .axTbPer 0) ≤
      (elapse 0 (State.reset.wr .axTbPhase 6562 0)).rd .axTbPhase 0 :=
  ⟨by decide +kernel, by decide +kernel, by decide +kernel⟩

theorem test_meets_ClearBeforeCount :
    let s : State := ({ State.reset with clk := { ClkSt.init with up := true, clrCnt := true } }.setAx 0
      { CeAxis.init with open_ := true, per := 1, ranAtTick := true }).setSlot 0 { MitSlot.init with armedAtTick := true }
    let u := elapse 20 s
    s.clk.clrCnt = true ∧ u.clk.clrCnt = false ∧ atPeriodEnd u 0 = true ∧ (u.ax 0).ranAtTick = true ∧ (u.ax 0).stopped = false ∧
      (u.ax 0).ceT = none ∧ (u.slot 0).armedAtTick = true ∧ (u.slot 0).commit = none := by decide +kernel

/-- The words of AX0_CTRL (CE block) with LOCK clear and set. -/
theorem test_meets_RegisterWriteFrame :
    lockOn 3 State.reset = false ∧ (⟨.axEn, 1, 0⟩ : RegKey) ∉ fieldsAt 3 0x400 ∧ (⟨.axEn, 0, 0⟩ : RegKey) ∈ fieldsAt 3 0x400 ∧
    RegId.axEn.info.ty ∈ [RegType.rw, .rws, .rwl] ∧ RegId.axFeedLag.info.ty ∉ [RegType.rw, .rws, .rwl, .w1c, .lock] ∧
    lockOn 3 (State.reset.wr .ceLock 1) = true ∧ RegId.axMode.info.ty = .rwl :=
  by and_intros <;> decide +kernel

theorem test_meets_MemoryReadBack : 8 + 4 ≤ 16 ∨ 16 + 4 ≤ 8 := by decide

end Sys2Proof.Machine
end

section
/-! PROOFS. The scope family: what a register write changes (R6, R7, R10, R512), which blocks take one (R47), and the life of a
context slot (R274 to R279, R231). -/

namespace Sys2Proof.Machine

/-- A command whose effect on the state `u` that the elapsed time leaves is known. -/
theorem after_eq_of {dt : Nat} {s u t : State} {f : State → State} (hu : u = elapse dt s) (h : f u = t) :
    after dt s f = .next (settle t) := by
  rw [after_eq hu, h]

/-! One field of a write. -/

/-- Without LOCK a write sets the fields of types RW, RWS and RWL. -/
theorem RegType.sets_unlocked {t : RegType} (h : t ∈ [RegType.rw, .rws, .rwl]) : t.sets false = true := by
  cases t <;> revert h <;> decide

/-- The types that a write without LOCK leaves alone are those that software does not write. -/
theorem RegType.inert_unlocked {t : RegType} (h : t ∉ [RegType.rw, .rws, .rwl, .w1c, .lock]) :
    t.sets false = false ∧ t ≠ .w1c ∧ t ≠ .lock := by
  cases t <;> revert h <;> decide

/-- Under LOCK a write leaves an RWL field alone. -/
theorem RegType.inert_locked {t : RegType} (h : t = .rwl) : t.sets true = false ∧ t ≠ .w1c ∧ t ≠ .lock := by
  subst h; decide

theorem RegKey.part_lt (k : RegKey) (v : Nat) : k.part v < 2 ^ k.r.info.width := Nat.mod_lt _ (Nat.two_pow_pos _)

theorem fieldWrite_of_sets {locked : Bool} {k : RegKey} (h : k.r.info.ty.sets locked = true) (v : Nat) (s : State) :
    fieldWrite locked v s k = s.wr k.r (k.part v) k.i k.j := by
  simp only [fieldWrite, h, if_true]

/-- A field whose type gives a write no effect. -/
theorem fieldWrite_of_inert {locked : Bool} {k : RegKey} (h : k.r.info.ty.sets locked = false) (hw : k.r.info.ty ≠ .w1c)
    (hl : k.r.info.ty ≠ .lock) (v : Nat) (s : State) : fieldWrite locked v s k = s := by
  simp [fieldWrite, h, hw, hl]

/-- The write of one field leaves every other field alone. -/
theorem fieldWrite_rd_ne {locked : Bool} {k k' : RegKey} (h : k ≠ k') (v : Nat) (s : State) :
    (fieldWrite locked v s k').rd k.r k.i k.j = s.rd k.r k.i k.j := by
  have hwr (x : Nat) : (s.wr k'.r x k'.i k'.j).rd k.r k.i k.j = s.rd k.r k.i k.j :=
    s.rd_wr_ne x fun ⟨hr, hi, hj⟩ => h (by cases k; cases k'; simp_all)
  unfold fieldWrite
  simp only
  split
  · exact hwr _
  · split
    · exact hwr _
    · split
      · exact hwr _
      · rfl

/-! The fields of a write, one after another. -/

/-- What `wordWrite` does with one field: nothing to a special field or to a value that is discarded. -/
def fieldStep (locked : Bool) (v : Nat) (skip : RegId → Bool) (bad : RegKey → Nat → Bool) (s : State) (k : RegKey) : State :=
  if (k.r.info.ty.sets locked && bad k (k.part v)) || skip k.r then s else fieldWrite locked v s k

/-- A write without a reject event is its fields in turn and the record of a locked write. -/
theorem wordWrite_none (w : RegW) (skip : RegId → Bool) (bad : RegKey → Nat → Bool) (s : State) :
    wordWrite w none skip bad s =
      if lockOn w.slot s && (fieldsAt w.slot w.off).any (fun k => k.r.info.ty == .rwl) then
        lockedWrite w.tid w.slot ((fieldsAt w.slot w.off).foldl (fieldStep (lockOn w.slot s) w.v skip bad) s)
      else (fieldsAt w.slot w.off).foldl (fieldStep (lockOn w.slot s) w.v skip bad) s := rfl

section
variable {locked : Bool} {v : Nat} {skip : RegId → Bool} {bad : RegKey → Nat → Bool} {k k' : RegKey}

theorem fieldStep_rd_ne (h : k ≠ k') (s : State) :
    (fieldStep locked v skip bad s k').rd k.r k.i k.j = s.rd k.r k.i k.j := by
  unfold fieldStep
  split
  · rfl
  · exact fieldWrite_rd_ne h v s

theorem fieldStep_of_inert (h : k.r.info.ty.sets locked = false) (hw : k.r.info.ty ≠ .w1c) (hl : k.r.info.ty ≠ .lock)
    (s : State) : fieldStep locked v skip bad s k = s := by
  rw [fieldStep, fieldWrite_of_inert h hw hl, ite_self]

theorem fieldStep_rd_same (h : k.r.info.ty.sets locked = true) (hs : skip k.r = false) (hb : bad k (k.part v) = false)
    (s : State) : (fieldStep locked v skip bad s k).rd k.r k.i k.j = k.part v := by
  have hstep : fieldStep locked v skip bad s k = s.wr k.r (k.part v) k.i k.j := by
    simp [fieldStep, hs, hb, fieldWrite_of_sets h]
  rw [hstep, State.rd_wr_same, Nat.mod_eq_of_lt (k.part_lt v)]

/-- A field that is not among those written keeps its value. -/
theorem fieldSteps_rd_of_not_mem {l : List RegKey} (h : k ∉ l) (s : State) :
    (l.foldl (fieldStep locked v skip bad) s).rd k.r k.i k.j = s.rd k.r k.i k.j := by
  induction l generalizing s with
  | nil => rfl
  | cons a l ih =>
    obtain ⟨ha, hl⟩ := (by simpa using h : k ≠ a ∧ k ∉ l)
    exact (ih hl _).trans (fieldStep_rd_ne ha s)

/-- A field whose type gives a write no effect keeps its value, whichever fields are written. -/
theorem fieldSteps_rd_of_inert (h : k.r.info.ty.sets locked = false) (hw : k.r.info.ty ≠ .w1c) (hl : k.r.info.ty ≠ .lock)
    (l : List RegKey) (s : State) : (l.foldl (fieldStep locked v skip bad) s).rd k.r k.i k.j = s.rd k.r k.i k.j := by
  induction l generalizing s with
  | nil => rfl
  | cons a l ih =>
    refine (ih _).trans ?_
    by_cases ha : k = a
    · rw [← ha, fieldStep_of_inert h hw hl]
    · exact fieldStep_rd_ne ha s

/-- A field among those written that a write sets takes its bits of the word: its last write decides, and each writes the same. -/
theorem fieldSteps_rd_of_mem {l : List RegKey} (hk : k ∈ l) (h : k.r.info.ty.sets locked = true) (hs : skip k.r = false)
    (hb : bad k (k.part v) = false) (s : State) : (l.foldl (fieldStep locked v skip bad) s).rd k.r k.i k.j = k.part v := by
  induction l generalizing s with
  | nil => cases hk
  | cons a l ih =>
    by_cases hl : k ∈ l
    · exact ih hl _
    · obtain rfl : k = a := (List.mem_cons.1 hk).resolve_right hl
      exact (fieldSteps_rd_of_not_mem hl _).trans (fieldStep_rd_same h hs hb s)

end

/-! The record of a locked write (R7). -/

/-- The log and the event queues write no RWL field. -/
theorem logReg_of_rwl {r : RegId} (h : r.info.ty = .rwl) : logReg r = false := by
  refine Bool.eq_false_iff.2 fun hr => ?_
  simp only [logReg, Bool.or_eq_true, beq_iff_eq] at hr
  obtain (rfl | rfl) | rfl := hr <;> cases h

theorem lockedWrite_rd_of_rwl {r : RegId} (h : r.info.ty = .rwl) (tid slot : Nat) (s : State) (i j : Nat) :
    (lockedWrite tid slot s).rd r i j = s.rd r i j :=
  (raise_frame .fabLockedWrite tid slot s rfl rfl).rd (logReg_of_rwl h) i j

/-! A write of a register. -/

/-- Without LOCK a write is its fields in turn. -/
theorem wordWrite_unlocked {w : RegW} {s : State} (h : lockOn w.slot s = false) (skip : RegId → Bool) (bad : RegKey → Nat → Bool) :
    wordWrite w none skip bad s = (fieldsAt w.slot w.off).foldl (fieldStep false w.v skip bad) s := by
  rw [wordWrite_none, h]; rfl

/-- Under LOCK an RWL field keeps its value, also through the record of the locked write. -/
theorem wordWrite_locked_rd_rwl {w : RegW} {s : State} (h : lockOn w.slot s = true) {k : RegKey} (hk : k.r.info.ty = .rwl)
    (skip : RegId → Bool) (bad : RegKey → Nat → Bool) :
    (wordWrite w none skip bad s).rd k.r k.i k.j = s.rd k.r k.i k.j := by
  obtain ⟨hsets, hw, hl⟩ := RegType.inert_locked hk
  have hfields := fieldSteps_rd_of_inert (v := w.v) (skip := skip) (bad := bad) hsets hw hl (fieldsAt w.slot w.off) s
  rw [wordWrite_none, h]
  split
  · exact (lockedWrite_rd_of_rwl hk ..).trans hfields
  · exact hfields

/-- Settles O59: without LOCK by the fields in turn, under LOCK by the RWL fields that neither they nor the event change. -/
theorem registerWriteFrame : Obligations.RegisterWriteFrame := by
  refine ⟨fun w skip bad s k h hk => ?_, fun w skip bad s k h hk ht hs hb => ?_, fun w skip bad s k h hk => ?_⟩
  · rw [wordWrite_unlocked h]
    obtain hk | hk := hk
    · exact fieldSteps_rd_of_not_mem hk s
    · obtain ⟨hsets, hw, hl⟩ := RegType.inert_unlocked hk
      exact fieldSteps_rd_of_inert hsets hw hl _ s
  · rw [wordWrite_unlocked h]
    exact fieldSteps_rd_of_mem hk (RegType.sets_unlocked ht) hs hb s
  · exact wordWrite_locked_rd_rwl h hk skip bad

/-! Register writes by block (R5, R6, R10, R47). -/

/-- A write that passes the checks of the fabric, of a block that runs, has the effect of its block's registers. -/
theorem registerWrite_of_live {tid slot off v : Nat} {env : RegEnv} {s : State} (hslot : slotAssigned slot = true)
    (hoff : off < 0x10000) (halign : off % 4 = 0) (hlive : blockLive s slot off = true)
    (hok : fabHardOk (.per slot) off tid true = true) :
    registerWrite tid slot off v env s = regWrite ⟨tid, (blockAt slot off).1, (blockAt slot off).2, v % 2 ^ 32, env⟩ s :=
  if_pos ⟨hslot, hoff, halign, hlive, hok⟩

theorem registerWrite_of_not_live {tid slot off v : Nat} {env : RegEnv} {s : State} (h : blockLive s slot off = false) :
    registerWrite tid slot off v env s = s :=
  if_neg fun ⟨_, _, _, hlive, _⟩ => by simp [h] at hlive

theorem lockSet_of_live {slot : Nat} {s : State} (h : blockLive s slot 0 = true) :
    lockSet slot s = ((RegId.ofSlot slot).filter fun r => r.info.ty == .lock).foldl (fun s r => s.wr r 1) s :=
  if_pos h

/-- Settles O50, by whether the block runs. -/
theorem registerAccesses : Obligations.RegisterAccesses := by
  refine ⟨fun dt tid slot off v env b s u hu hslot hoff halign hlive hok hb => ?_, fun dt tid slot off v env s u hu h => ?_,
    fun dt slot s u hu h => ?_⟩
  · rw [exec_registerWrite]
    refine after_eq_of hu ((registerWrite_of_live hslot hoff halign hlive hok).trans ?_)
    rw [Nat.mod_eq_of_lt v.isLt, hb]; rfl
  · rw [exec_registerWrite]
    exact after_eq_of hu (registerWrite_of_not_live h)
  · rw [exec_lockSet]
    exact after_eq_of hu (lockSet_of_live h)

/-! Context slots (R274 to R279). -/

theorem ctxActivate_of_ok {tid k : Nat} {s : State} (h : activateOk s k = true) :
    ctxActivate tid k s = showSlots ((({ s with sch := { s.sch with switches := satAdd 32 s.sch.switches 1 } }.setCtx k
      { CtxSt.init with actAt := s.now }).wr .ctxState 1 k).wr .ctxActivate 1 k) :=
  if_pos h

theorem ctxActivate_of_not_ok {tid k : Nat} {s : State} (h : activateOk s k = false) :
    ctxActivate tid k s = schReject tid (ctxOff k + 0x18) s :=
  if_neg (Bool.eq_false_iff.1 h)

/-- The Clamp entries of the shares of slot k stand in its clusters (R276). -/
def installShares (k : Nat) (s : State) : State :=
  foldN 8 (fun c s => if ctxHasCluster s k c then islandInstall (2 + c) (shareEntries s k c) s else s) s

/-- Slot k notes how long its switch took and when its resident weights are in place (R279). -/
def noteSwitch (k : Nat) (s : State) : State :=
  s.setCtx k { s.ctx k with switchUs := (s.now - (s.ctx k).actAt) / rootPerUs,
                            weightsAt := if (s.ctx k).weights = [] then none else some (s.now + weightTime s k) }

/-- Slot k reads RESIDENT, with its event. -/
def showResident (k : Nat) (s : State) : State :=
  raise .schCtxResident (s.rd .ctxTid k) k ((s.wr .ctxState 2 k).wr .ctxActivate 0 k)

/-- An activating slot becomes RESIDENT, and is terminated then if its context has ended meanwhile. -/
theorem ctxResident_of_activating {k : Nat} {s : State} (h : s.rd .ctxState k = 1) :
    ctxResident k s = if ((installShares k s).ctx k).ending then ctxTerminate k (showResident k (noteSwitch k (installShares k s)))
      else showResident k (noteSwitch k (installShares k s)) :=
  if_pos h

theorem releaseOk_of_idle {s : State} {k : Nat} (h : s.rd .ctxState k = 2) (hidle : slotBusy s k = false) :
    releaseOk s k = true := by
  simp [releaseOk, h, hidle]

theorem releaseOk_eq_false {s : State} {k : Nat} (h : s.rd .ctxState k ≠ 2 ∨ slotBusy s k = true) : releaseOk s k = false := by
  obtain h | h := h <;> simp [releaseOk, h]

theorem ctxRelease_of_ok {tid k : Nat} {s : State} (h : releaseOk s k = true) :
    ctxRelease tid k s = freeSlot k (disableChannels k s) :=
  if_pos h

theorem ctxRelease_of_not_ok {tid k : Nat} {s : State} (h : releaseOk s k = false) :
    ctxRelease tid k s = schReject tid (ctxOff k + 0x18) s :=
  if_neg (Bool.eq_false_iff.1 h)

theorem ctxTerminate_of_resident {k : Nat} {s : State} (h : s.rd .ctxState k = 2) :
    ctxTerminate k s = ((disableChannels k (cancelStalled k
      (foldN 64 (fun ch s => if s.rd .chSlot ch = k then cancelQueued ch 8 s else s) s))).wr .ctxState 3 k).wr .ctxTerminate 1 k :=
  if_pos h

theorem ctxFree_of_drained {k : Nat} {s : State} (h : s.rd .ctxState k = 3)
    (hidle : (s.sch.runs.any fun r => s.rd .chSlot r.ch == k) = false) :
    ctxFree k s = raise .schCtxFree (s.rd .ctxTid k) k (freeSlot k s) :=
  if_pos ⟨h, by rw [hidle]; rfl⟩

/-- The Clamp entries that name a TID are removed (R231). -/
def removeTidEntries (tid : Nat) (s : State) : State :=
  foldN 12 (fun i s =>
    if (s.clpTab i).any fun e => e.2.v && e.2.tlo ≤ tid && tid ≤ e.2.thi then
      islandRemove i (fun e => e.v && e.tlo ≤ tid && tid ≤ e.thi) s
    else s) s

/-- A TID is no longer in use (R231). -/
def releaseTid (tid : Nat) (s : State) : State :=
  { s with host := { s.host with tids := s.host.tids.filter (· != tid) } }

theorem tidRetire_of_quiet {tid : Nat} {s : State} (h : 24 ≤ tid) (hq : tidQuiet s tid = true) :
    tidRetire tid s = releaseTid tid (removeTidEntries tid s) := by
  rw [tidRetire, if_pos ⟨h, hq⟩, releaseTid, removeTidEntries]

/-- Settles O24, by the state of the slot and the conditions of each command. -/
theorem contextSlots : Obligations.ContextSlots := by
  refine ⟨fun dt tid k s u hu h => ?_, fun dt tid k s u hu h => ?_, fun dt k t v s u hu h ht hend hv => ?_,
    fun dt k t v s u hu h ht hend hv => ?_, fun dt tid k t s u hu h hidle ht => ?_, fun dt tid k s u hu h => ?_,
    fun dt k s u hu h => ?_, fun dt k t s u hu h hidle ht => ?_, fun dt tid t s u hu h hq ht => ?_⟩
  · rw [exec_ctxActivate]
    exact after_eq_of hu (ctxActivate_of_ok h)
  · rw [exec_ctxActivate]
    exact after_eq_of hu (ctxActivate_of_not_ok h)
  · subst ht hv
    rw [exec_ctxResident]
    exact after_eq_of hu ((ctxResident_of_activating h).trans (if_neg (Bool.eq_false_iff.1 hend)))
  · subst ht hv
    rw [exec_ctxResident]
    exact after_eq_of hu ((ctxResident_of_activating h).trans (if_pos hend))
  · subst ht
    rw [exec_ctxRelease]
    exact after_eq_of hu (ctxRelease_of_ok (releaseOk_of_idle h hidle))
  · rw [exec_ctxRelease]
    exact after_eq_of hu (ctxRelease_of_not_ok (releaseOk_eq_false h))
  · rw [exec_ctxTerminate]
    exact after_eq_of hu (ctxTerminate_of_resident h)
  · subst ht
    rw [exec_ctxFree]
    exact after_eq_of hu (ctxFree_of_drained h hidle)
  · have hrem : removeTidEntries tid.toNat u = t := ht.symm
    rw [exec_tidRetire]
    refine after_eq_of hu ((tidRetire_of_quiet h hq).trans ?_)
    rw [hrem]
    rfl

end Sys2Proof.Machine
end

section
/-! PROOFS. The family of periods and parts: the points of an axis period (R20, R21, R55, R59, R74), the invocation of a Mitre slot
and its commit (R106 to R112), and the end-of-period check with its counters (R27, R33, R34). -/

namespace Sys2Proof.Machine

/-! The points of an axis period. -/

/-- At a tick of axis n the tick's stages follow one another over the length of the period that opens. -/
theorem axisTick_of_tickNow {n i : Nat} {s : State} (h : s.tickNow n = some i) (sd : List (List (Option Bool))) :
    axisTick n sd s =
      keepLatch n i (openPeriod n i (periodLen s n i) (mitreTick n (motorTick n (periodLen s n i) sd
        (tickTakeover n (enableTick n (periodLen s n i) (carryHb n s)))))) := by
  rw [axisTick, h]

theorem sampleDelivery_of_atDelivery {n : Nat} {s : State} (h : atDelivery s n = true) :
    sampleDelivery n s = deliverCurrents n (s.setAx n { s.ax n with bank := (s.ax n).smp, delivered := true }) :=
  if_pos h

/-- At t_commit a running axis that nothing has stopped is latched together with its mailbox. -/
theorem ceLatch_of_run {n : Nat} {s : State} (h : atCommit s n = true) (hlat : (s.ax n).lat = none) (hrun : (s.ax n).run = true)
    (hstop : (s.ax n).stopped = false) : ceLatch n s = latchMailbox n (latchAxis n s) := by
  simp only [ceLatch, h, hlat, hrun, hstop, Option.isNone_none, Bool.not_false, and_self, if_true]

/-- At t_commit the mailbox of an axis that does not run is latched too. -/
theorem ceLatch_of_not_run {n : Nat} {s : State} (h : atCommit s n = true) (hlat : (s.ax n).lat = none)
    (hrun : (s.ax n).run = false) : ceLatch n s = latchMailbox n (preRollLatch n s) := by
  simp only [ceLatch, h, hlat, hrun, Option.isNone_none, Bool.false_eq_true, false_and, and_self, if_true, if_false]

theorem ceIssue_of_issueDue {n : Nat} {l : CeLat} {s : State} (hlat : (s.ax n).lat = some l) (h : issueDue s n = true)
    (ecc : Bool) : ceIssue n ecc s = if ecc then ceFault n false s else issueAxis n l s := by
  rw [ceIssue, hlat]
  exact if_pos h

/-- 252 CECLK after the issue the duties stand in the shadows, and the run is complete. -/
theorem ceShadowComplete_of_due {n b : Nat} {l : CeLat} {s : State} (hissued : (s.ax n).issuedAt = some b)
    (hlat : (s.ax n).lat = some l) (hnow : s.now = b + 252 * rootPerCe) :
    ceShadowComplete n s = (writeShadows n (s.ax n).duty s).setAx n
      { s.ax n with lat := none, issuedAt := none, shOld := some (s.now, shadowsOf s n),
                    ceT := if (s.ax n).tickAt ≤ b then some (s.ceT n) else (s.ax n).ceT, mir := mirrorVals s n l, mirIdx := l.idx } := by
  simp only [ceShadowComplete, hissued, hlat]
  exact if_pos hnow

/-- Base tick j is counted, and ALIVE toggles where the device drives it. -/
def countBaseTick (j : Nat) (s : State) : State :=
  { s with loop := { s.loop with baseTick := j + 1, alive := if s.pin.aliveOn then !s.loop.alive else s.loop.alive } }

/-- A base tick that has not been counted yet. -/
theorem baseTick_of_baseNow {j : Nat} {s : State} (hnow : s.baseNow = some j) (hnew : s.loop.baseTick ≤ j) :
    baseTick s = if !s.pair.on then countBaseTick j s
      else if ((countBaseTick j s).bump .pairMirrorAge 1).rd .pairRole = 1 then mirrorOut j ((countBaseTick j s).bump .pairMirrorAge 1)
      else (countBaseTick j s).bump .pairMirrorAge 1 := by
  rw [baseTick, hnow]
  exact if_neg (Nat.not_lt.2 hnew)

/-- Settles O6, point by point of the period. -/
theorem axisPeriodPoints : Obligations.AxisPeriodPoints := by
  refine ⟨fun dt n sd i per t s u hu htick hper ht => ?_, fun dt n s u hu hedge hmio hdel hnow => ?_,
    fun dt n s u hu h hlat hrun hstop => ?_, fun dt n s u hu h hlat hrun => ?_, fun dt n ecc l s u hu hlat hdue => ?_,
    fun dt n b l a s u hu ha hissued hlat hnow => ?_, fun dt j s u hu hnow hnew hpair => ?_,
    fun dt j t s u hu hnow hnew hpair ht => ?_⟩
  · subst hper ht
    rw [exec_axisTick]
    exact after_eq_of hu (axisTick_of_tickNow htick sd)
  · have hat : atDelivery u n = true := by simp [atDelivery, hedge, hmio, hdel, hnow]
    rw [exec_sampleDelivery]
    exact after_eq_of hu (sampleDelivery_of_atDelivery hat)
  · rw [exec_ceLatch]
    exact after_eq_of hu (ceLatch_of_run h hlat hrun hstop)
  · rw [exec_ceLatch]
    exact after_eq_of hu (ceLatch_of_not_run h hlat hrun)
  · rw [exec_ceIssue]
    exact after_eq_of hu (ceIssue_of_issueDue hlat hdue ecc)
  · subst ha
    rw [exec_ceShadowComplete]
    exact after_eq_of hu (ceShadowComplete_of_due hissued hlat hnow)
  · rw [exec_baseTick]
    exact after_eq_of hu ((baseTick_of_baseNow hnow hnew).trans (if_pos (by rw [hpair]; rfl)))
  · subst ht
    rw [exec_baseTick]
    exact after_eq_of hu ((baseTick_of_baseNow hnow hnew).trans (if_neg (by rw [hpair]; decide)))

/-! The invocation of a Mitre slot. -/

/-- Slot n begins its invocation: MIT_SEQ takes the period index, and the staging words their fall-back values (Table MIT-3). -/
def beginInvocation (n : Nat) (s : State) : State :=
  (s.wr .mitSeq (s.ax n).idx n).setSlot n
    { s.slot n with running := true, begun := true, startAt := s.now, seen := false, stage := mitFallback s n }

/-- The number of the period is not among the fall-back values. -/
theorem mitFallback_wr_mitSeq (n v : Nat) (s : State) : mitFallback (s.wr .mitSeq v n) n = mitFallback s n := by
  rw [mitFallback, State.rd_wr_ne _ _ (by simp)]
  rfl

theorem mitreInvocationStart_of_armed {n : Nat} {s : State} (h : s.armed n = true) (hat : atInvocation s n = true) :
    mitreInvocationStart n s = mitWriteLs n (((beginInvocation n s).slot n).recAddr / 128 * 128)
      ((inputRecord (beginInvocation n s) n).flatMap (leBytes 4)) (beginInvocation n s) := by
  rw [beginInvocation, ← mitFallback_wr_mitSeq n (s.ax n).idx s]
  exact if_pos ⟨h, hat⟩

theorem mitreInvocationStop_of_running {n : Nat} {s : State} (h : (s.slot n).running = true) (hpast : pastCommit s n = true) :
    mitreInvocationStop n s = (s.wr .mitLastT 0xFFFFF n).setSlot n { s.slot n with running := false } :=
  if_pos ⟨h, hpast⟩

/-! The commit of a slot's mailbox. -/

/-- A write of MIT_COMMIT by the TID of an ARMED slot that has begun in the open period (R110). -/
def CommitTaken (s : State) (tid n : Nat) : Prop :=
  tid = mitTid n ∧ s.armed n = true ∧ (s.slot n).begun = true ∧ (s.ax n).open_ = true

theorem commitTooLate_eq_false {s : State} {n : Nat} (h : commitEdge s n + 840 ≤ (s.ax n).per) : commitTooLate s n = false :=
  decide_eq_false (Nat.not_lt.2 h)

section
variable {tid n : Nat} {v : BitVec 16} {s : State} (h : CommitTaken s tid n)
include h

/-- After the CECLK of t_commit the program has been stopped (R109). -/
theorem mitreCommit_of_tooLate (hlate : commitTooLate s n = true) : mitreCommit tid n v s = mitreInvocationStop n s :=
  (if_pos h).trans (if_pos hlate)

variable (hlate : commitTooLate s n = false)
include hlate

theorem mitreCommit_of_mismatch (hv : v.toNat ≠ (endInvocation n s).rd .mitSeq n) :
    mitreCommit tid n v s = raise .mitSeqMismatch tid n ((endInvocation n s).bump .mitSeqerr 1 n) :=
  (if_pos h).trans ((if_neg (Bool.eq_false_iff.1 hlate)).trans (if_pos hv))

/-- A commit with the sequence number of the period is a second one or the first. -/
theorem mitreCommit_of_match (hv : v.toNat = (endInvocation n s).rd .mitSeq n) :
    mitreCommit tid n v s = if ((endInvocation n s).slot n).seen then
      raise .mitDoubleCommit tid n ((endInvocation n s).bump .mitDcommit 1 n) else firstCommit n (endInvocation n s) :=
  (if_pos h).trans ((if_neg (Bool.eq_false_iff.1 hlate)).trans (if_neg (not_not_intro hv)))

theorem mitreCommit_of_seen (hv : v.toNat = (endInvocation n s).rd .mitSeq n) (hseen : ((endInvocation n s).slot n).seen = true) :
    mitreCommit tid n v s = raise .mitDoubleCommit tid n ((endInvocation n s).bump .mitDcommit 1 n) :=
  (mitreCommit_of_match h hlate hv).trans (if_pos hseen)

theorem mitreCommit_of_first (hv : v.toNat = (endInvocation n s).rd .mitSeq n) (hseen : ((endInvocation n s).slot n).seen = false) :
    mitreCommit tid n v s = firstCommit n (endInvocation n s) :=
  (mitreCommit_of_match h hlate hv).trans (if_neg (Bool.eq_false_iff.1 hseen))

end

/-- A first commit before t_commit is accepted (R23). -/
theorem firstCommit_of_early {n : Nat} {s : State} (h : commitEdge s n + 840 < (s.ax n).per) :
    firstCommit n s = (s.wr .mitSbuf (1 - s.rd .mitSbuf n) n).setSlot n
      { s.slot n with seen := true, commit := some (s.slot n).stage, commitT := commitEdge s n } :=
  if_pos h

/-- A first commit from t_commit on is late (R23). -/
theorem firstCommit_of_late {n : Nat} {s : State} (h : (s.ax n).per ≤ commitEdge s n + 840) :
    firstCommit n s = s.setSlot n { s.slot n with seen := true, late := true } :=
  if_neg (Nat.not_lt.2 h)

/-- Settles O12, by the point of the period at which the program starts, stops or commits. -/
theorem mitreInvocation : Obligations.MitreInvocation := by
  refine ⟨fun dt n t s u hu harmed hat ht => ?_, fun dt n s u hu hrun hpast => ?_,
    fun dt tid n v t s u hu htid harmed hbegun hopen ht hv hseen hearly hedge hper => ?_,
    fun dt tid n v t s u hu htid harmed hbegun hopen ht hv hseen hat hedge hper => ?_,
    fun dt tid n v t s u hu htid harmed hbegun hopen htime ht hagain => ?_,
    fun dt tid n v s u hu htid harmed hbegun hopen hlate => ?_⟩
  · subst ht
    rw [exec_mitreInvocationStart]
    exact after_eq_of hu (mitreInvocationStart_of_armed harmed hat)
  · rw [exec_mitreInvocationStop]
    exact after_eq_of hu (mitreInvocationStop_of_running hrun hpast)
  · subst ht
    have hintime : commitTooLate u n = false := commitTooLate_eq_false (by rw [← hedge, ← hper]; exact hearly.le)
    rw [exec_mitreCommit, ← hedge]
    exact after_eq_of hu ((mitreCommit_of_first ⟨htid, harmed, hbegun, hopen⟩ hintime hv hseen).trans (firstCommit_of_early hearly))
  · subst ht
    have hlate : ((endInvocation n u).ax n).per ≤ commitEdge (endInvocation n u) n + 840 := by rw [hedge, hper, hat]
    rw [exec_mitreCommit]
    exact after_eq_of hu ((mitreCommit_of_first ⟨htid, harmed, hbegun, hopen⟩ (commitTooLate_eq_false hat.le) hv hseen).trans
      (firstCommit_of_late hlate))
  · subst ht
    have htaken : CommitTaken u tid n := ⟨htid, harmed, hbegun, hopen⟩
    have hintime := commitTooLate_eq_false htime
    rw [exec_mitreCommit]
    refine after_eq_of hu ?_
    by_cases hv : v.toNat = (endInvocation n u).rd .mitSeq n
    · rw [if_pos hv]
      exact mitreCommit_of_seen htaken hintime hv (hagain hv)
    · rw [if_neg hv]
      exact mitreCommit_of_mismatch htaken hintime hv
  · rw [exec_mitreCommit]
    exact after_eq_of hu (mitreCommit_of_tooLate ⟨htid, harmed, hbegun, hopen⟩ (decide_eq_true hlate))

/-! The end-of-period check (R27, R33). -/

/-- The open period of axis n ends: its PST registers are kept for reads in this CECLK (R33), and an ARMED slot counts it (R114). -/
def closePeriod (n : Nat) (s : State) : State :=
  let t := keepPst n (s.setAx n { s.ax n with open_ := false })
  if (s.slot n).armedAtTick then countSlot n ((s.slot n).armedAtTick && (s.slot n).commit.isNone) t else t

/-- The period is recorded: the PST registers take it unless the axis was `cut` short in it, with whether the axis `ran`, and the
slot notes for its next input record whether it had an accepted commit. -/
def recordPeriod (n : Nat) (ran cut : Bool) (s : State) : State :=
  (if cut then closePeriod n s else pstUpdate n (s.slot n).armedAtTick ran (closePeriod n s)).setSlot n
    { s.slot n with prevOk := (s.slot n).commit.isSome }

/-- The outcome of Table ARC-3 for a period that is recorded. -/
def reportPeriod (n : Nat) (s t : State) : State :=
  pstOutcome n ((s.slot n).armedAtTick && (s.slot n).commit.isNone) (!ceInTime (s.ax n)) (s.slot n).late t

/-- The fault of the CE that a check meets (R482). -/
def ceFaultAt (n : Nat) : CeFaultIn → State → State
  | .none, s => s
  | .sramEcc, s => ceFault n false s
  | .shadowCrc, s => ceFault n true s

/-- Whether an axis was cut short depends on nothing but the axis and the time. -/
theorem cutShort_congr {s t : State} (h : t.now = s.now) (a : CeAxis) : cutShort t a = cutShort s a := by
  rw [cutShort, cutShort, h]

theorem cutShort_of_not_stopped {s : State} {a : CeAxis} (h : a.stopped = false ∨ s.now ≤ a.stopAt) : cutShort s a = false := by
  obtain h | h := h
  · simp [cutShort, h]
  · simp [cutShort, Nat.not_lt.2 h]

theorem cutShort_of_not_ran {s : State} {a : CeAxis} (h : a.ranAtTick = false) : cutShort s a = false := by
  simp [cutShort, h]

theorem cutShort_of_stopped {s : State} {a : CeAxis} (hran : a.ranAtTick = true) (hstop : a.stopped = true)
    (h : a.stopAt < s.now) : cutShort s a = true := by
  simp [cutShort, hran, hstop, h]

@[simp] theorem countSlot_now (n : Nat) (miss : Bool) (s : State) : (countSlot n miss s).now = s.now := by
  cases miss <;> rfl

@[simp] theorem closePeriod_now (n : Nat) (s : State) : (closePeriod n s).now = s.now := by
  unfold closePeriod
  split
  · exact countSlot_now ..
  · rfl

@[simp] theorem recordPeriod_now (n : Nat) (ran cut : Bool) (s : State) : (recordPeriod n ran cut s).now = s.now := by
  cases cut <;> exact closePeriod_now n s

section
variable {n : Nat} {s : State} (hend : atPeriodEnd s n = true) (f : CeFaultIn)
include hend

/-- The check records the period, and then tests an axis that ran through it. -/
theorem endOfPeriodCheck_of_end {cut : Bool} (hcut : cutShort s (s.ax n) = cut) :
    endOfPeriodCheck n f s =
      if (s.ax n).ranAtTick ∧ !cut then ceFaultAt n f (reportPeriod n s (recordPeriod n (s.ax n).ranAtTick cut s))
      else recordPeriod n (s.ax n).ranAtTick cut s := by
  have hclose : cutShort (closePeriod n s) (s.ax n) = cut := (cutShort_congr (closePeriod_now n s) _).trans hcut
  have hrecord : cutShort (recordPeriod n (s.ax n).ranAtTick cut s) (s.ax n) = cut :=
    (cutShort_congr (recordPeriod_now ..) _).trans hcut
  have hcheck : endOfPeriodCheck n f s =
      if (s.ax n).ranAtTick ∧ !cutShort (recordPeriod n (s.ax n).ranAtTick (cutShort (closePeriod n s) (s.ax n)) s) (s.ax n) then
        ceFaultAt n f (reportPeriod n s (recordPeriod n (s.ax n).ranAtTick (cutShort (closePeriod n s) (s.ax n)) s))
      else recordPeriod n (s.ax n).ranAtTick (cutShort (closePeriod n s) (s.ax n)) s := by
    rw [endOfPeriodCheck, if_pos hend]
    cases f <;> rfl
  rw [hcheck, hclose, hrecord]

/-- An axis that ran through its period is tested. -/
theorem endOfPeriodCheck_of_ran (hran : (s.ax n).ranAtTick = true) (hcut : cutShort s (s.ax n) = false) :
    endOfPeriodCheck n f s = ceFaultAt n f (reportPeriod n s (recordPeriod n true false s)) := by
  rw [endOfPeriodCheck_of_end hend f hcut, hran]
  rfl

/-- An axis that did not run in the period is not tested, and its PST registers are taken. -/
theorem endOfPeriodCheck_of_not_ran (hran : (s.ax n).ranAtTick = false) :
    endOfPeriodCheck n f s = recordPeriod n false false s := by
  rw [endOfPeriodCheck_of_end hend f (cutShort_of_not_ran hran), hran]
  rfl

/-- An axis that hardware stopped earlier in the period is not tested, and its PST registers stay. -/
theorem endOfPeriodCheck_of_cutShort (hcut : cutShort s (s.ax n) = true) :
    endOfPeriodCheck n f s = recordPeriod n (s.ax n).ranAtTick true s := by
  rw [endOfPeriodCheck_of_end hend f hcut]
  exact if_neg fun h => nomatch h.2

end

/-- Settles O7, by whether the axis ran through the period, did not run, or was stopped in it. -/
theorem endOfPeriod : Obligations.EndOfPeriod := by
  refine ⟨fun dt n f a m t s u hu hend ha hm hran hstop ht => ?_, fun dt n f a m t s u hu hend ha hm hran ht => ?_,
    fun dt n f a m t s u hu hend ha hm hran hstop hat ht => ?_, fun dt s u hu => ?_⟩
  · subst ha hm ht
    rw [exec_endOfPeriodCheck]
    refine after_eq_of hu ((endOfPeriodCheck_of_ran hend f hran (cutShort_of_not_stopped hstop)).trans ?_)
    cases f <;> rfl
  · subst ha hm ht
    rw [exec_endOfPeriodCheck]
    exact after_eq_of hu (endOfPeriodCheck_of_not_ran hend f hran)
  · subst ha hm ht
    rw [exec_endOfPeriodCheck]
    exact after_eq_of hu (endOfPeriodCheck_of_cutShort hend f (cutShort_of_stopped hran hstop hat))
  · rw [exec_pstClrCnt]
    exact after_eq_of hu rfl

/-! The miss counters of PST (R34). -/

theorem countSlot_rd (n : Nat) (miss : Bool) (s : State) {r : RegId} (hmiss : r ≠ .mitMiss) (hconsec : r ≠ .mitConsec) (i j : Nat) :
    (countSlot n miss s).rd r i j = s.rd r i j := by
  unfold countSlot
  split
  · rw [State.rd_bump, if_neg (by simp [hconsec]), State.rd_bump, if_neg (by simp [hmiss])]
  · exact State.rd_wr_ne _ _ (by simp [hconsec])

section
variable {r : RegId} (hr : r = .pstCeMiss ∨ r = .pstMitMiss) (n : Nat) (s : State)
include hr

/-- The miss counters are not among the registers that events, their reactions and the stop of an axis write. -/
theorem raise_missCounter (e : Ev) (tid arg : Nat) : (raise e tid arg s).rd r n = s.rd r n :=
  (raise_works e tid arg s).2 r n 0 (by obtain rfl | rfl := hr <;> rfl)

theorem fatalFault_missCounter : (fatalFault s).rd r n = s.rd r n := by
  have hrole : (s.wr .pairRole 4).rd r n = s.rd r n := State.rd_wr_ne _ _ (by obtain rfl | rfl := hr <;> simp)
  refine (stopAll_rd _ (by obtain rfl | rfl := hr <;> rfl) n 0).trans ?_
  rw [State.rd_with_pin]
  split
  · exact hrole
  · rfl

theorem ceFaultAt_missCounter (f : CeFaultIn) : (ceFaultAt n f s).rd r n = s.rd r n := by
  have hfault (crc : Bool) : (ceFault n crc s).rd r n = s.rd r n :=
    (raise_missCounter hr ..).trans (fatalFault_missCounter hr ..)
  cases f
  case none => rfl
  case sramEcc => exact hfault false
  case shadowCrc => exact hfault true

theorem settle_missCounter : (settle s).rd r n = s.rd r n := by
  obtain ⟨fan, h⟩ := settle_frame s
  exact h.rd (by obtain rfl | rfl := hr <;> rfl) n 0

theorem closePeriod_missCounter : (closePeriod n s).rd r n = s.rd r n := by
  unfold closePeriod
  split
  · exact countSlot_rd _ _ _ (by obtain rfl | rfl := hr <;> simp) (by obtain rfl | rfl := hr <;> simp) n 0
  · rfl

/-- The record of a period leaves the miss counters to its outcome. -/
theorem recordPeriod_missCounter (ran cut : Bool) : (recordPeriod n ran cut s).rd r n = s.rd r n := by
  have hupdate (mit : Bool) (t : State) : (pstUpdate n mit ran t).rd r n = t.rd r n := by
    obtain rfl | rfl := hr <;> simp [pstUpdate, State.rd_wr]
  rw [recordPeriod, State.rd_congr (State.setSlot_regs ..)]
  split
  · exact closePeriod_missCounter hr ..
  · exact (hupdate ..).trans (closePeriod_missCounter hr ..)

variable {n s}

/-- A miss counter that reads 0 reads 1 after one miss. -/
theorem bump_missCounter_of_zero (h : s.rd r n = 0) : (s.bump r 1 n).rd r n = 1 := by
  rw [State.rd_bump, if_pos ⟨rfl, rfl, rfl⟩, h]
  obtain rfl | rfl := hr <;> rfl

end

/-- What PST counts of a Mitre miss (Table ARC-3). -/
def countMitMiss (n : Nat) (mitMiss : Bool) (s : State) : State := if mitMiss then s.bump .pstMitMiss 1 n else s

theorem pstOutcome_of_ceMiss (n : Nat) (mitMiss late : Bool) (s : State) :
    pstOutcome n mitMiss true late s = raise .pstCeMiss 0 n (fatalFault
      ({ countMitMiss n mitMiss s with drv := { (countMitMiss n mitMiss s).drv with miss := List.range 8 } }.bump .pstCeMiss 1 n)) := by
  rw [pstOutcome, if_pos rfl, countMitMiss]

theorem pstOutcome_of_mitMiss (n : Nat) (late : Bool) (s : State) :
    pstOutcome n true false late s = raise .pstMitreMiss 0 (n + b2n late * 256) (s.bump .pstMitMiss 1 n) := by
  simp only [pstOutcome, if_true, Bool.false_eq_true, if_false]

/-- A miss of the CE counts once in PST_CE_MISS. -/
theorem pstOutcome_ceMiss (n : Nat) (mitMiss late : Bool) (s : State) :
    (pstOutcome n mitMiss true late s).rd .pstCeMiss n = (s.bump .pstCeMiss 1 n).rd .pstCeMiss n := by
  have hmit : (countMitMiss n mitMiss s).rd .pstCeMiss n = s.rd .pstCeMiss n := by
    cases mitMiss
    · rfl
    · exact State.rd_wr_ne _ _ (by simp)
  rw [pstOutcome_of_ceMiss, raise_missCounter (.inl rfl), fatalFault_missCounter (.inl rfl), State.rd_bump, State.rd_bump,
    State.rd_with_drv, hmit]

/-- A miss of Mitre counts once in PST_MIT_MISS, with a miss of the CE or without. -/
theorem pstOutcome_mitMiss (n : Nat) (ceMiss late : Bool) (s : State) :
    (pstOutcome n true ceMiss late s).rd .pstMitMiss n = (s.bump .pstMitMiss 1 n).rd .pstMitMiss n := by
  cases ceMiss
  case false => rw [pstOutcome_of_mitMiss, raise_missCounter (.inr rfl)]
  case true =>
    rw [pstOutcome_of_ceMiss, raise_missCounter (.inr rfl), fatalFault_missCounter (.inr rfl), State.rd_bump, if_neg (by simp),
      State.rd_with_drv, countMitMiss, if_pos rfl]

/-- Settles O58: the clear leaves the counters at 0 when the time has passed, and the check adds one miss to what it finds. -/
theorem clearBeforeCount : Obligations.ClearBeforeCount := by
  intro dt n f s u hu hclr hclear hend hran hstop
  have hcheck : exec (.endOfPeriodCheck dt n f) s = .next (settle (ceFaultAt n f (reportPeriod n u (recordPeriod n true false u)))) := by
    rw [exec_endOfPeriodCheck]
    exact after_eq_of hu (endOfPeriodCheck_of_ran hend f hran (cutShort_of_not_stopped (.inl hstop)))
  have hzero {r : RegId} (hr : r = .pstCeMiss ∨ r = .pstMitMiss) : (recordPeriod n true false u).rd r n = 0 := by
    rw [recordPeriod_missCounter hr, hu]
    exact elapse_pst dt s hclr (hu ▸ hclear) n.isLt hr
  refine ⟨_, hcheck, fun hce => ?_, fun harmed hcommit => ?_⟩
  · have hmiss : ceInTime (u.ax n) = false := by rw [ceInTime, hce]
    rw [settle_missCounter (.inl rfl), ceFaultAt_missCounter (.inl rfl), reportPeriod, hmiss]
    exact (pstOutcome_ceMiss ..).trans (bump_missCounter_of_zero (.inl rfl) (hzero (.inl rfl)))
  · have hmiss : ((u.slot n).armedAtTick && (u.slot n).commit.isNone) = true := by rw [harmed, hcommit]; rfl
    rw [settle_missCounter (.inr rfl), ceFaultAt_missCounter (.inr rfl), reportPeriod, hmiss]
    exact (pstOutcome_mitMiss ..).trans (bump_missCounter_of_zero (.inr rfl) (hzero (.inr rfl)))

end Sys2Proof.Machine
end

section
/-! PROOFS. The family of clocks and the timebase: the reference, the PLL and its monitor (R36, R39 to R45, R513), the clock gates
and the frequency meter (R46, R48, R49), device time (R51 to R53), and the grid (R37, R56, R57). -/

namespace Sys2Proof.Machine

/-! Single bits. -/

theorem bitOf_eq_testBit (n k : Nat) : bitOf n k = n.testBit k := by
  rw [bitOf, Nat.testBit_eq_decide_div_mod_eq, beq_eq_decide]

theorem bitOf_mod_two_pow {w k : Nat} (h : k < w) (n : Nat) : bitOf (n % 2 ^ w) k = bitOf n k := by
  rw [bitOf_eq_testBit, bitOf_eq_testBit, Nat.testBit_mod_two_pow, decide_eq_true h, Bool.true_and]

/-- A number is the bits above bit k, bit k, and the bits below it. -/
theorem bits_around (n k : Nat) : 2 ^ k * (2 * (n / 2 ^ k / 2) + b2n (bitOf n k)) + n % 2 ^ k = n := by
  have hq : 2 * (n / 2 ^ k / 2) + b2n (bitOf n k) = n / 2 ^ k := by
    obtain h | h := Nat.mod_two_eq_zero_or_one (n / 2 ^ k) <;> simp [b2n, bitOf, h] <;> omega
  rw [hq, Nat.div_add_mod]

/-- Setting bit k keeps the bits below it and those above. -/
theorem setBit_eq (n k : Nat) (b : Bool) : setBit n k b = 2 ^ k * (2 * (n / 2 ^ k / 2) + b2n b) + n % 2 ^ k := by
  have hn := bits_around n k
  by_cases hb : bitOf n k = b
  · rw [setBit, if_pos hb, ← hb, hn]
  · rw [setBit, if_neg hb]
    cases b <;> simp_all [b2n, Nat.mul_add] <;> omega

theorem bitOf_setBit (n k j : Nat) (b : Bool) : bitOf (setBit n k b) j = if j = k then b else bitOf n j := by
  have hlow : n % 2 ^ k < 2 ^ k := Nat.mod_lt _ (Nat.two_pow_pos k)
  have hn : n.testBit j = if j < k then (n % 2 ^ k).testBit j else (n / 2 ^ k).testBit (j - k) := by
    rw [← Nat.testBit_two_pow_mul_add _ hlow, Nat.div_add_mod]
  rw [bitOf_eq_testBit, bitOf_eq_testBit, setBit_eq, Nat.testBit_two_pow_mul_add _ hlow, hn]
  obtain hlt | rfl | hgt := Nat.lt_trichotomy j k
  · rw [if_pos hlt, if_neg hlt.ne, if_pos hlt]
  · cases b <;> simp [b2n]
  · obtain ⟨i, rfl⟩ : ∃ i, j = k + (i + 1) := ⟨j - k - 1, by omega⟩
    have hhigh : (2 * (n / 2 ^ k / 2) + b2n b) / 2 = n / 2 ^ k / 2 := by
      rw [b2n]
      split <;> omega
    rw [if_neg (by omega), if_neg (by omega), if_neg (by omega), Nat.add_sub_cancel_left, Nat.testBit_succ, hhigh, Nat.testBit_succ]

/-- Setting a list of bits to what `f` says of each. -/
theorem bitOf_setBits (f : Nat → Bool) (l : List Nat) (n j : Nat) :
    bitOf (l.foldl (fun w b => setBit w b (f b)) n) j = if j ∈ l then f j else bitOf n j := by
  induction l generalizing n with
  | nil => rfl
  | cons a l ih =>
    rw [List.foldl_cons, ih, bitOf_setBit]
    by_cases hl : j ∈ l <;> by_cases ha : j = a <;> simp [hl, ha]

/-! Qualification of the reference (R39 to R41, R45). -/

theorem startRound_of_present {s : State} (h : s.on .ckgLsxPresent = true) : startRound s = startAttempt .primary s :=
  if_pos h

/-- Without a crystal a round begins with the fall-back, on the RC. -/
theorem startRound_of_absent {s : State} (h : s.on .ckgLsxPresent = false) :
    startRound s = startAttempt .fallback { s with clk := { s.clk with onRc := true } } :=
  if_neg (Bool.eq_false_iff.1 h)

/-- CKG_LSX_PRESENT and the oscillator's state take what the presence judgement finds. -/
def noteCrystal (reg : Bool) (s : State) : State :=
  { s.wr .ckgLsxPresent (b2n reg) with clk := { s.clk with lsxOk := reg } }

theorem noteCrystal_on (reg : Bool) (s : State) : (noteCrystal reg s).on .ckgLsxPresent = reg := by
  have hrd : (noteCrystal reg s).rd .ckgLsxPresent = b2n reg % 2 := (State.rd_with_clk ..).trans (State.rd_wr_same ..)
  rw [State.on, hrd]
  cases reg <;> rfl

/-- The presence judgement, which falls 2 ms after T0, notes the crystal and starts a round. -/
theorem lsxPresenceJudge_of_due {s : State} (hup : startingUp s = true) (hidle : s.clk.qual = .idle)
    (hnow : s.now = s.clk.t0 + 2 * rootPerMs) (reg : Bool) :
    lsxPresenceJudge reg s = startRound (noteCrystal reg s) :=
  if_pos ⟨hup, hidle, hnow⟩

/-- The good windows in a row once a window has ended. -/
def goodRun (count : Nat) (s : State) : Nat := if qualOk s.clk.qual count then s.clk.qualGood + 1 else 0

/-- A window has ended: its count and the good windows in a row are noted, and the next window begins. -/
def noteWindow (count : Nat) (s : State) : State :=
  { s.wr .ckgQualLastCnt (min count 65535) with clk := { s.clk with qualGood := goodRun count s, winFrom := s.now } }

section
variable {count : Nat} {s : State} (h : s.clk.qual = .primary ∨ s.clk.qual = .fallback)
include h

/-- The windows that are missing no longer fit into the run of the attempt. -/
theorem qualWindowEnd_of_short (hend : s.clk.qualEnd < s.now + (4 - goodRun count s) * (s.now - s.clk.winFrom)) :
    qualWindowEnd count s = failAttempt (noteWindow count s) :=
  (if_pos h).trans (if_pos hend)

theorem qualWindowEnd_of_fourth (hend : s.now + (4 - goodRun count s) * (s.now - s.clk.winFrom) ≤ s.clk.qualEnd)
    (hgood : goodRun count s = 4) : qualWindowEnd count s = passQual (noteWindow count s) :=
  (if_pos h).trans ((if_neg (Nat.not_lt.2 hend)).trans (if_pos hgood))

theorem qualWindowEnd_of_open (hend : s.now + (4 - goodRun count s) * (s.now - s.clk.winFrom) ≤ s.clk.qualEnd)
    (hgood : goodRun count s ≠ 4) : qualWindowEnd count s = noteWindow count s :=
  (if_pos h).trans ((if_neg (Nat.not_lt.2 hend)).trans (if_neg hgood))

end

/-- After a primary attempt the fall-back begins at once. -/
theorem failAttempt_of_primary {s : State} (h : s.clk.qual = .primary) :
    failAttempt s = startAttempt .fallback { s with clk := { s.clk with qualFails := s.clk.qualFails + 1 } } := by
  simp only [failAttempt, h]

/-- After a fall-back attempt the next round waits 100 ms. -/
theorem failAttempt_of_fallback {s : State} (h : s.clk.qual = .fallback) :
    failAttempt s = { s with clk := { s.clk with qual := .waiting, qualFails := s.clk.qualFails + 1, qualRetried := true,
                                                 qualEnd := s.now + 100 * rootPerMs } } := by
  simp only [failAttempt, h]

theorem qualRetry_of_due {s : State} (hwait : s.clk.qual = .waiting) (hnow : s.now = s.clk.qualEnd) : qualRetry s = startRound s :=
  if_pos ⟨hwait, hnow⟩

theorem lsxLost_of_ok {s : State} (h : s.clk.lsxOk = true) :
    lsxLost s = raise .clkLsxAbsent 0 1 ({ s with clk := { s.clk with lsxOk := false, onRc := true } }.wr .ckgLsxLost 1) :=
  if_pos h

/-- Settles O1, by the outcome of the judgement and of each window. -/
theorem referenceQualification : Obligations.ReferenceQualification := by
  refine ⟨fun dt reg s u hu hup hidle hnow => ?_, fun dt count a s u hu ha hatt hok hthree hend => ?_,
    fun dt count g s u hu ha hg hend => ?_, fun dt count g s u hu ha hg hend => ?_,
    fun dt count a g s u hu ha hatt hg hfour hend => ?_, fun dt s u hu hwait hnow => ?_, fun dt s u hu hok => ?_⟩
  · rw [exec_lsxPresenceJudge]
    refine after_eq_of hu ((lsxPresenceJudge_of_due hup hidle hnow reg).trans ?_)
    cases reg
    case true => exact startRound_of_present (noteCrystal_on true u)
    case false => exact startRound_of_absent (noteCrystal_on false u)
  · subst ha
    have hgood : goodRun count u = 4 := by rw [goodRun, if_pos hok, hthree]
    have hfits : u.now + (4 - goodRun count u) * (u.now - u.clk.winFrom) ≤ u.clk.qualEnd := by simpa [hgood] using hend
    rw [exec_qualWindowEnd]
    refine after_eq_of hu ((qualWindowEnd_of_fourth hatt hfits hgood).trans ?_)
    rw [noteWindow, hgood]
  · obtain rfl : g = goodRun count u := by rw [hg, goodRun, ha]
    rw [exec_qualWindowEnd]
    exact after_eq_of hu ((qualWindowEnd_of_short (.inl ha) hend).trans (failAttempt_of_primary ha))
  · obtain rfl : g = goodRun count u := by rw [hg, goodRun, ha]
    rw [exec_qualWindowEnd]
    exact after_eq_of hu ((qualWindowEnd_of_short (.inr ha) hend).trans (failAttempt_of_fallback ha))
  · subst ha hg
    rw [exec_qualWindowEnd]
    exact after_eq_of hu (qualWindowEnd_of_open hatt hend hfour)
  · rw [exec_qualRetry]
    exact after_eq_of hu (qualRetry_of_due hwait hnow)
  · rw [exec_lsxLost]
    exact after_eq_of hu (lsxLost_of_ok hok)

/-! The PLL, the start of the log, and the monitor (R36, R42 to R44, R513). -/

/-- The PLL locks; the ROM starts, or a wake goes on. -/
theorem pllLock_of_passed {s : State} (hqual : s.clk.qual = .passed) (hup : s.clk.up = false) (hrun : s.boot.run = true) :
    pllLock s = if s.pwr.waking then wakeSwitch (lockPll s) else romStart (lockPll s) :=
  if_pos ⟨hqual, by rw [hup]; rfl, hrun⟩

/-- The log when the held records have entered it, the oldest first. -/
def heldEntered (l : LogSt) : LogSt := (heldSorted l.held).foldl (fun l r => l.enterAll r) { l with run := true, held := [] }

/-- The log starts once the clocks run and its domain is on. -/
theorem heldFlush_of_ready {s : State} (hrun : s.log.run = false) (hup : s.clk.up = true) (hdom : s.domOn 1 = true) :
    heldFlush s = countLost s.log.lost ({ s with log := heldEntered s.log }.wr .hostEvseq (heldEntered s.log).next) :=
  if_neg (by simp [hrun, hup, hdom])

section
variable {count : Nat} {s : State} (hup : s.clk.up = true) (hdom : s.domOn 1 = true)
include hup hdom

/-- A window inside the limits of R43, or the first outside them, is only recorded. -/
theorem clkmonWindow_of_recorded (h : ¬ ((count < 21074 ∨ 21934 < count) ∧ s.clk.monBad = true)) :
    clkmonWindow count s = { s.wr .ckgMonLast (min count 65535) with
      clk := { s.clk with monBad := decide (count < 21074 ∨ 21934 < count) } } :=
  (if_pos ⟨hup, hdom⟩).trans (if_neg h)

/-- The second bad window in a row is a frequency fault. -/
theorem clkmonWindow_of_fault (hout : count < 21074 ∨ 21934 < count) (hbad : s.clk.monBad = true) :
    clkmonWindow count s = clockFault 2 (s.wr .ckgMonLast (min count 65535)) :=
  (if_pos ⟨hup, hdom⟩).trans (if_pos ⟨hout, hbad⟩)

end

/-- Settles O2, by what follows the lock and by what a window of the monitor counts. -/
theorem pllLockAndMonitor : Obligations.PllLockAndMonitor := by
  refine ⟨fun dt s u hu hqual hup hrun hwake => ?_, fun dt s u hu hqual hup hrun hwake => ?_,
    fun dt l s u hu hrun hup hdom hl => ?_, fun dt count s u hu hup hdom h => ?_,
    fun dt count s u hu hup hdom hout hbad => ?_, fun dt s u hu hup hdom => ?_⟩
  · rw [exec_pllLock]
    exact after_eq_of hu ((pllLock_of_passed hqual hup hrun).trans (if_neg (Bool.eq_false_iff.1 hwake)))
  · rw [exec_pllLock]
    exact after_eq_of hu ((pllLock_of_passed hqual hup hrun).trans (if_pos hwake))
  · subst hl
    rw [exec_heldRecordsFlush]
    exact after_eq_of hu (heldFlush_of_ready hrun hup hdom)
  · rw [exec_clkmonWindowEnd]
    refine after_eq_of hu (clkmonWindow_of_recorded hup hdom fun ⟨hout, hbad⟩ => ?_)
    obtain ⟨hlow, hhigh⟩ | hgood := h
    · exact hout.elim (Nat.not_lt.2 hlow) (Nat.not_lt.2 hhigh)
    · exact Bool.eq_false_iff.1 hgood hbad
  · rw [exec_clkmonWindowEnd]
    exact after_eq_of hu (clkmonWindow_of_fault hup hdom hout hbad)
  · rw [exec_pllLockLoss]
    exact after_eq_of hu (if_pos ⟨hup, hdom⟩)

/-! Clock gates (R46, R48). -/

/-- The bits of CKG_EN that a write of v would clear and may not. -/
def keptGates (v : Word) (s : State) : List Nat := whichOf 21 fun b => !(bitOf v.toNat b) && gateHeld s b

/-- What CKG_EN takes of a write of v: those bits keep their value. -/
def gateWord (v : Word) (s : State) : Nat :=
  (keptGates v s).foldl (fun w b => setBit w b (s.rdBit .ckgEn b)) (v.toNat % 2 ^ 21)

/-- CKG_EN has taken a write of v, and the clocks that it selects run where their domain is on. -/
def takeGates (v : Word) (s : State) : State := foldN 21 gateOn (s.wr .ckgEn (gateWord v s))

theorem mem_keptGates {v : Word} {s : State} {b : Nat} :
    b ∈ keptGates v s ↔ b < 21 ∧ bitOf v.toNat b = false ∧ gateHeld s b = true := by
  simp [keptGates, whichOf]

theorem ckgEnWrite_of_kept {v : Word} {s : State} (h : keptGates v s ≠ []) (tid : Nat) :
    ckgEnWrite tid v s = raise .clkCfgReject tid 0x008 (takeGates v s) :=
  if_neg fun hempty => h (List.isEmpty_iff.1 hempty)

theorem ckgEnWrite_of_free {v : Word} {s : State} (h : keptGates v s = []) (tid : Nat) :
    ckgEnWrite tid v s = takeGates v s :=
  if_pos (List.isEmpty_iff.2 h)

theorem gateWord_of_free {v : Word} {s : State} (h : keptGates v s = []) : gateWord v s = v.toNat % 2 ^ 21 := by
  rw [gateWord, h]; rfl

/-- Turning a clock on leaves its selection alone. -/
theorem gateOn_ckgEn (bit : Nat) (s : State) : (gateOn bit s).rd .ckgEn = s.rd .ckgEn := by
  unfold gateOn
  split
  · exact State.rd_wr_ne _ _ (by simp)
  · rfl

/-- The kept bits of CKG_EN read as before, and the others as written. -/
theorem takeGates_rdBit (v : Word) (s : State) {b : Nat} (h : b < 21) :
    (takeGates v s).rdBit .ckgEn b = if b ∈ keptGates v s then s.rdBit .ckgEn b else bitOf v.toNat b := by
  have hword : (takeGates v s).rd .ckgEn = gateWord v s % 2 ^ 21 :=
    (foldN_inv (fun s : State => s.rd .ckgEn) 21 _ gateOn_ckgEn _).trans (State.rd_wr_same ..)
  rw [State.rdBit, hword, bitOf_mod_two_pow h, gateWord, bitOf_setBits fun b => s.rdBit .ckgEn b, bitOf_mod_two_pow h]

/-- The bits that R48 holds: those of the CE and of the motor I/O, and those of clusters with an enabled Mitre group. -/
theorem gateHeld_eq (s : State) (b : Nat) : gateHeld s b =
    (s.anyEnabled && (b == 0 || b == 1 || (decide (3 ≤ b) && decide (b ≤ 10) && s.mitreIn (b - 3)))) := by
  have hloop : (b == 0 || b == 1) = decide (b ≤ 1) := by
    obtain _ | _ | b := b <;> simp
  rw [hloop, gateHeld]
  split
  case isTrue h => simp [h]
  case isFalse h =>
    split
    case isTrue hc => simp [h, hc]
    case isFalse hc => simp [h]; omega

/-- Settles O56: the kept bits are the bits of R48 that the write would clear. -/
theorem heldClockGates : Obligations.HeldClockGates := by
  intro dt tid v s u held hu hheld
  have hkept (b : Nat) : b ∈ keptGates v u ↔ b < 21 ∧ held b = true := by
    simp [mem_keptGates, hheld, gateHeld_eq, and_assoc]
  refine ⟨takeGates v u, ?_, fun b hb => ?_⟩
  · rw [exec_ckgEnWrite]
    refine after_eq_of hu ?_
    by_cases hany : (List.range 21).any held = true
    · obtain ⟨b, hb, hheldb⟩ := List.any_eq_true.1 hany
      rw [if_pos hany]
      exact ckgEnWrite_of_kept (List.ne_nil_of_mem ((hkept b).2 ⟨List.mem_range.1 hb, hheldb⟩)) tid
    · rw [if_neg hany]
      refine ckgEnWrite_of_free (List.eq_nil_iff_forall_not_mem.2 fun b hb => hany ?_) tid
      obtain ⟨hlt, hheldb⟩ := (hkept b).1 hb
      exact List.any_eq_true.2 ⟨b, List.mem_range.2 hlt, hheldb⟩
  · simp [takeGates_rdBit v u hb, hkept, hb]

theorem clockGateOff_of_idle {bit : Nat} {s : State} (hon : s.clockOn bit = true) (hsel : s.rdBit .ckgEn bit = false)
    (hidle : blockWaits s bit = false) : clockGateOff bit s = stopClock bit s :=
  if_pos (by simp [hon, hsel, hidle])

/-! The frequency meter (R49). -/

/-- What a write of FMTR_CTRL that is not ignored sets before a measurement starts: its fields, but for an NREF of 0 (R512). -/
def takeMeter (tid : Nat) (v : Word) (s : State) : State :=
  let t := (((s.wr .fmtrSrc v.toNat).wr .fmtrRef (bitsOf v.toNat 4 1)).wr .fmtrPre (bitsOf v.toNat 5 3)).wr .fmtrPort (bitsOf v.toNat 10 2)
  if bitsOf v.toNat 12 20 = 0 then raise .clkCfgReject tid 0x020 t else t.wr .fmtrNref (bitsOf v.toNat 12 20)

/-- A measurement starts at time `now`. -/
def startMeter (now : Nat) (s : State) : State :=
  { s with clk := { s.clk with fmtr := some ⟨now, s.rd .fmtrSrc, s.rd .fmtrRef, s.rd .fmtrPre, s.rd .fmtrNref⟩ } }.wr .fmtrStart 1

/-- A rejected configuration takes no time. -/
theorem raise_clkCfgReject_now (tid off : Nat) (s : State) : (raise .clkCfgReject tid off s).now = s.now := by
  obtain ⟨_, _, _, h, -⟩ := raise_frame .clkCfgReject tid off s rfl rfl
  rw [h]

theorem takeMeter_now (tid : Nat) (v : Word) (s : State) : (takeMeter tid v s).now = s.now := by
  unfold takeMeter
  simp only
  split
  · exact raise_clkCfgReject_now ..
  · rfl

theorem fmtrStart_of_pending {v : Word} {s : State} (hstart : bitOf v.toNat 8 = true) (hrun : s.clk.fmtr ≠ none) (tid : Nat) :
    fmtrStart tid v s = s :=
  if_pos ⟨hstart, Option.isSome_iff_ne_none.2 hrun⟩

/-- A write without START, or with no measurement pending. -/
theorem fmtrStart_of_taken {v : Word} {s : State} (h : bitOf v.toNat 8 = false ∨ s.clk.fmtr = none) (tid : Nat) :
    fmtrStart tid v s = if bitOf v.toNat 8 = true then startMeter s.now (takeMeter tid v s) else takeMeter tid v s := by
  rw [← takeMeter_now tid v s]
  exact if_neg fun ⟨hstart, hrun⟩ => by obtain h | h := h <;> simp_all

/-- The gate of a measurement has closed. -/
theorem fmtrDone_of_closed {r : FmtrRun} {s : State} (hrun : s.clk.fmtr = some r) (hend : r.gateEnd ≤ s.now) (edges : Nat) :
    fmtrDone edges s = fmtrClose r edges s := by
  rw [fmtrDone, hrun]
  exact if_pos hend

/-- A prescaled count above that of 525 MHz has no meaning. -/
def OverRange (r : FmtrRun) (edges : Nat) : Prop :=
  525000000 * r.nref < edges / 2 ^ r.pre * (if r.ref = 0 then 25000000 else 20000000)

theorem fmtrClose_of_count {r : FmtrRun} {edges : Nat} (h : ¬ OverRange r edges) (s : State) :
    fmtrClose r edges s =
      (({ s with clk := { s.clk with fmtr := none } }.wr .fmtrStart 0).wr .fmtrOvr 0).wr .fmtrCnt (edges / 2 ^ r.pre) := by
  unfold OverRange at h
  simp only [fmtrClose, h, decide_false, b2n, Bool.false_eq_true, if_false]

theorem fmtrClose_of_over {r : FmtrRun} {edges : Nat} (h : OverRange r edges) (s : State) :
    fmtrClose r edges s =
      (({ s with clk := { s.clk with fmtr := none }, freeCtr := s.freeCtr + 1 }.wr .fmtrStart 0).wr .fmtrOvr 1).wr .fmtrCnt
        (Config.free s.freeCtr).toNat := by
  unfold OverRange at h
  simp only [fmtrClose, h, decide_true, b2n, if_true]
  rfl

/-- Settles O3, by the bits that a write may not clear, and by what the meter is doing. -/
theorem clockGatingAndMeter : Obligations.ClockGatingAndMeter := by
  refine ⟨fun dt tid v s u hu hfree => ?_, fun dt tid v held s u hu hheld hne => ?_,
    fun dt bit s u hu hon hsel hidle => ?_, fun dt tid v s u hu hstart hrun => ?_,
    fun dt tid v t s u hu hnref hstart ht => ?_, fun dt tid v t s u hu hnref hstart ht => ?_,
    fun dt edges r s u hu hrun hend hin => ?_, fun dt edges r s u hu hrun hend hover => ?_⟩
  · have hnone : keptGates v u = [] := List.eq_nil_iff_forall_not_mem.2 fun b hb => by
      obtain ⟨hlt, hzero, hheld⟩ := mem_keptGates.1 hb
      exact Bool.eq_false_iff.1 (hfree b hlt hzero) hheld
    rw [exec_ckgEnWrite]
    refine after_eq_of hu ((ckgEnWrite_of_free hnone tid).trans ?_)
    rw [takeGates, gateWord_of_free hnone]
  · subst hheld
    rw [exec_ckgEnWrite]
    exact after_eq_of hu (ckgEnWrite_of_kept hne tid)
  · rw [exec_clockGateOff]
    exact after_eq_of hu (clockGateOff_of_idle hon hsel hidle)
  · rw [exec_fmtrStart]
    exact after_eq_of hu (fmtrStart_of_pending hstart hrun tid)
  · obtain rfl : t = takeMeter tid v u := ht.trans (if_neg hnref).symm
    rw [exec_fmtrStart]
    exact after_eq_of hu (fmtrStart_of_taken hstart tid)
  · obtain rfl : t = takeMeter tid v u := ht.trans (if_pos hnref).symm
    rw [exec_fmtrStart]
    exact after_eq_of hu (fmtrStart_of_taken hstart tid)
  · rw [exec_fmtrDone]
    exact after_eq_of hu ((fmtrDone_of_closed hrun hend edges).trans (fmtrClose_of_count (Nat.not_lt.2 hin) u))
  · rw [exec_fmtrDone]
    exact after_eq_of hu ((fmtrDone_of_closed hrun hend edges).trans (fmtrClose_of_over hover u))

/-! Device time (R51 to R53). -/

theorem dtimeAdj_of_small {v : Word} (hlow : -1000000000 < s32 v.toNat) (hhigh : s32 v.toNat < 1000000000) (tid : Nat) (s : State) :
    dtimeAdj tid v s = { s with clk := { s.clk with adj := s32 v.toNat } } :=
  if_neg (not_or.2 ⟨Int.not_le.2 hlow, Int.not_le.2 hhigh⟩)

/-- A step of a second or more is discarded. -/
theorem dtimeAdj_of_large {v : Word} (h : s32 v.toNat ≤ -1000000000 ∨ 1000000000 ≤ s32 v.toNat) (tid : Nat) (s : State) :
    dtimeAdj tid v s = raise .clkCfgReject tid 0x074 s :=
  if_pos h

/-- Settles O4, by the size of a step. -/
theorem deviceTime : Obligations.DeviceTime := by
  refine ⟨fun dt v t s u hu ht => ?_, fun dt tid v s u hu hlow hhigh => ?_, fun dt tid v s u hu h => ?_, fun dt s u hu => ?_⟩
  · subst ht
    rw [exec_dtimeIncWrite]
    exact after_eq_of hu rfl
  · rw [exec_dtimeAdj]
    exact after_eq_of hu (dtimeAdj_of_small hlow hhigh tid u)
  · rw [exec_dtimeAdj]
    exact after_eq_of hu (dtimeAdj_of_large h tid u)
  · rw [exec_dtimeNsecRead]
    exact after_eq_of hu rfl

/-! The epoch and the grid (R37, R56, R57, R103). -/

/-- A move of the epoch waits for DTIME to reach the target that EPOCH_NSEC and EPOCH_SEC hold. -/
def armEpoch (s : State) : State :=
  { s with clk := { s.clk with epochTgt := some ((s.rd .epochSecHi * 2 ^ 32 + s.rd .epochSecLo) * 1000000000 + s.rd .epochNsec),
                               armedAt := s.now } }

theorem epochArm_of_idle {v : Word} {s : State} (harm : bitOf v.toNat 31 = true) (h : s.anyEnabled = false) (tid : Nat) :
    epochArm tid v s = armEpoch ((s.wr .epochSecHi v.toNat).wr .epochArm 1) :=
  (if_pos harm).trans (if_neg (Bool.eq_false_iff.1 h))

theorem epochArm_of_enabled {v : Word} {s : State} (harm : bitOf v.toNat 31 = true) (h : s.anyEnabled = true) (tid : Nat) :
    epochArm tid v s = raise .clkCfgReject tid 0x080 s :=
  (if_pos harm).trans (if_pos h)

/-- A write of EPOCH_SEC_HI without ARM. -/
theorem epochArm_of_no_arm {v : Word} {s : State} (h : bitOf v.toNat 31 = false) (tid : Nat) :
    epochArm tid v s = s.wr .epochSecHi v.toNat :=
  if_neg (Bool.eq_false_iff.1 h)

theorem epochMove_of_due {t : Nat} {s : State} (htgt : s.clk.epochTgt = some t) (hdue : epochDue s t = true) :
    epochMove s = restartGrid ({ s with clk := { s.clk with epochTgt := none } }.wr .epochArm 0) := by
  rw [epochMove, htgt]
  exact if_pos hdue

theorem bitsOf_mod (n lo w : Nat) : bitsOf n lo w % 2 ^ w = bitsOf n lo w := Nat.mod_mod ..

theorem bitsOf_base (n : Nat) : bitsOf n 0 2 = n % 4 := by
  simp [bitsOf]

theorem phasesFit_eq_true_iff {s : State} {base : Nat} :
    phasesFit s base = true ↔ ∀ n < 8, s.rd .axTbPhase n < shortestPer base (s.rd .axTbPer n) := by
  simp [phasesFit]

/-- A write of TB_CFG is taken when nothing is enabled or ARMED and every phase fits. -/
theorem tbCfgWrite_of_fit {v : Word} {s : State} (hen : s.anyEnabled = false) (harmed : ∀ n < 8, s.armed n = false)
    (hfit : phasesFit s (bitsOf v.toNat 0 2) = true) (tid : Nat) :
    tbCfgWrite tid v s = { s with clk := { s.clk with basePend := some s.now } }.wr .tbBase (bitsOf v.toNat 0 2) :=
  if_neg (by simpa [hen, hfit] using harmed)

theorem tbCfgWrite_of_misfit {v : Word} {s : State} (h : s.anyEnabled = true ∨ phasesFit s (bitsOf v.toNat 0 2) = false) (tid : Nat) :
    tbCfgWrite tid v s = raise .clkCfgReject tid 0x030 s :=
  if_pos (h.imp_right fun hfit => .inr (by rw [hfit]; rfl))

/-- A base tick that waits applies at the first coincidence point after its write. -/
theorem tbCfgApply_of_due {t : Nat} {s : State} (hpend : s.clk.basePend = some t) (hcoin : s.onCoin = true) (hlt : t < s.now)
    (hfirst : s.now ≤ t + rootPerCoin) :
    tbCfgApply s = restartGrid { s with clk := { s.clk with basePend := none, base := s.rd .tbBase } } := by
  rw [tbCfgApply, hpend]
  exact if_pos ⟨hcoin, hlt, hfirst⟩

/-- AXn_TB.PER takes any value but 0b11. -/
def takePer (n per : Nat) (s : State) : State := if per = 3 then s else s.wr .axTbPer per n

/-- AXn_TB.PHASE takes a value below the shortest period. -/
def takePhase (n ph : Nat) (s : State) : State :=
  if ph < shortestPer (s.rd .tbBase) (s.rd .axTbPer n) then s.wr .axTbPhase ph n else s

/-- AXn_TB takes a write field by field, and the axis is left without an open period. -/
def takeAxTb (n : Nat) (v : Word) (s : State) : State :=
  let t := takePhase n (bitsOf v.toNat 8 18) (takePer n (bitsOf v.toNat 0 2) s)
  t.setAx n { t.ax n with open_ := false }

theorem takePer_rd_per (n per : Nat) (s : State) :
    (takePer n per s).rd .axTbPer n = if per = 3 then s.rd .axTbPer n else per % 2 ^ 2 := by
  unfold takePer
  split
  · rfl
  · exact State.rd_wr_same ..

theorem takePer_rd_ne (n per : Nat) (s : State) {r : RegId} (h : r ≠ .axTbPer) (i : Nat) :
    (takePer n per s).rd r i = s.rd r i := by
  unfold takePer
  split
  · rfl
  · exact State.rd_wr_ne _ _ fun ⟨hr, _⟩ => h hr

theorem takePer_rd_base (n per : Nat) (s : State) : (takePer n per s).rd .tbBase = s.rd .tbBase :=
  takePer_rd_ne n per s (by simp) 0

theorem takePhase_rd_phase (n ph : Nat) (s : State) : (takePhase n ph s).rd .axTbPhase n =
    if ph < shortestPer (s.rd .tbBase) (s.rd .axTbPer n) then ph % 2 ^ 18 else s.rd .axTbPhase n := by
  unfold takePhase
  split
  · exact State.rd_wr_same ..
  · rfl

theorem takePhase_rd_per (n ph : Nat) (s : State) : (takePhase n ph s).rd .axTbPer n = s.rd .axTbPer n := by
  unfold takePhase
  split
  · exact State.rd_wr_ne _ _ (by simp)
  · rfl

theorem takeAxTb_rd (n : Nat) (v : Word) (s : State) (r : RegId) : (takeAxTb n v s).rd r n =
    (takePhase n (bitsOf v.toNat 8 18) (takePer n (bitsOf v.toNat 0 2) s)).rd r n :=
  State.rd_congr (State.setAx_regs ..) ..

theorem takeAxTb_rd_per (n : Nat) (v : Word) (s : State) :
    (takeAxTb n v s).rd .axTbPer n = (takePer n (bitsOf v.toNat 0 2) s).rd .axTbPer n :=
  (takeAxTb_rd ..).trans (takePhase_rd_per ..)

theorem axnTbWrite_of_busy {n : Nat} {s : State} (h : s.enabled n = true ∨ s.armed n = true) (tid : Nat) (v : Word) :
    axnTbWrite tid n v s = raise .clkCfgReject tid (0x040 + 4 * n) s :=
  if_pos h

/-- While its axis is disabled and its slot not ARMED, AXn_TB takes a write, with the event when a field is discarded. -/
theorem axnTbWrite_of_free {n : Nat} {s : State} (hen : s.enabled n = false) (harmed : s.armed n = false) (tid : Nat) (v : Word) :
    axnTbWrite tid n v s =
      if bitsOf v.toNat 0 2 = 3 ∨ shortestPer (s.rd .tbBase) ((takeAxTb n v s).rd .axTbPer n) ≤ bitsOf v.toNat 8 18 then
        raise .clkCfgReject tid (0x040 + 4 * n) (takeAxTb n v s)
      else takeAxTb n v s := by
  refine (if_neg (by simp [hen, harmed])).trans (if_congr (or_congr_right ?_) rfl rfl)
  rw [takeAxTb_rd_per, ← takePer_rd_base n (bitsOf v.toNat 0 2) s, ← Nat.not_lt]
  simp [takePer]

/-- Settles O5, by what the arming, the move and each write of the grid find. -/
theorem epochAndGrid : Obligations.EpochAndGrid := by
  refine ⟨fun dt tid v t s u hu harm hidle ht => ?_, fun dt tid v s u hu harm hen => ?_, fun dt tid v s u hu harm => ?_,
    fun dt t s u hu htgt hcoin harmed hreached hfirst => ?_, fun dt tid v s u hu hen harmed hfit => ?_,
    fun dt t s u hu hpend hcoin hlt hfirst => ?_, fun dt tid n v t s u hu hen harmed hper ht hphase => ?_,
    fun dt tid n v s u hu hbusy => ?_⟩
  · subst ht
    rw [exec_epochArm]
    exact after_eq_of hu (epochArm_of_idle harm hidle tid)
  · rw [exec_epochArm]
    exact after_eq_of hu (epochArm_of_enabled harm hen tid)
  · rw [exec_epochArm]
    exact after_eq_of hu (epochArm_of_no_arm harm tid)
  · have hdue : epochDue u t = true := by simp [epochDue, hcoin, harmed, hreached, hfirst]
    rw [exec_epochMove]
    exact after_eq_of hu (epochMove_of_due htgt hdue)
  · rw [← bitsOf_base] at hfit ⊢
    rw [exec_tbCfgWrite]
    exact after_eq_of hu (tbCfgWrite_of_fit hen harmed hfit tid)
  · rw [exec_tbCfgApply]
    exact after_eq_of hu (tbCfgApply_of_due hpend hcoin hlt hfirst)
  · rw [← bitsOf_base] at hper ht
    obtain rfl : t = takePer n (bitsOf v.toNat 0 2) u := ht.trans (if_neg hper).symm
    have htaken : ¬ (bitsOf v.toNat 0 2 = 3 ∨
        shortestPer (u.rd .tbBase) ((takeAxTb n v u).rd .axTbPer n) ≤ bitsOf v.toNat 8 18) := by
      rw [takeAxTb_rd_per, ← takePer_rd_base n (bitsOf v.toNat 0 2) u]
      exact not_or.2 ⟨hper, Nat.not_le.2 hphase⟩
    rw [exec_axnTbWrite]
    refine after_eq_of hu ((axnTbWrite_of_free hen harmed tid v).trans ((if_neg htaken).trans ?_))
    rw [takeAxTb, takePhase, if_pos hphase]
  · rw [exec_axnTbWrite]
    exact after_eq_of hu (axnTbWrite_of_busy hbusy tid v)

/-- Settles O57: what AXn_TB takes of a write, field by field, and the phase for which TB_CFG takes none. -/
theorem phaseBelowShortestPeriod : Obligations.PhaseBelowShortestPeriod := by
  refine ⟨fun dt tid n v s u hu hen => ?_, fun dt tid n v s u per ph hu hen harmed hper hph => ?_, fun dt tid v s u hu h => ?_⟩
  · rw [exec_axnTbWrite]
    exact after_eq_of hu (axnTbWrite_of_busy (.inl hen) tid v)
  · subst hper hph
    refine ⟨takeAxTb n v u, ?_, ?_, ?_⟩
    · rw [takeAxTb_rd_per, takePer_rd_per, bitsOf_mod]
    · rw [takeAxTb_rd_per, takeAxTb_rd, takePhase_rd_phase, takePer_rd_base, takePer_rd_ne (r := .axTbPhase) _ _ _ (by simp), bitsOf_mod]
    · rw [exec_axnTbWrite]
      exact after_eq_of hu (axnTbWrite_of_free hen harmed tid v)
  · have hreject : u.anyEnabled = true ∨ phasesFit u (bitsOf v.toNat 0 2) = false := h.imp_right fun ⟨n, hn, hlong⟩ =>
      Bool.eq_false_iff.2 fun hfit => Nat.not_lt.2 hlong (phasesFit_eq_true_iff.1 hfit n hn)
    rw [exec_tbCfgWrite]
    exact after_eq_of hu (tbCfgWrite_of_misfit hreject tid)

end Sys2Proof.Machine
end

section
/-! PROOFS. The family of the control engine: enabling and disabling an axis (R60), its mode and source (R68, R512), and the
publication of a guard (R71, R151). -/

namespace Sys2Proof.Machine

/-! Enable and disable (R60). -/

theorem axEnableWrite_of_ok {n : Nat} {s : State} (h : enableOk s n = true) (tid : Nat) :
    axEnableWrite tid n s = (s.wr .axEn 1 n).setAx n { s.ax n with enPend := if (s.ax n).run then none else some true } :=
  if_pos h

theorem axEnableWrite_of_not_ok {n : Nat} {s : State} (h : enableOk s n = false) (tid : Nat) :
    axEnableWrite tid n s = raise .ceCfgReject tid (0x400 + n * 0x100) s :=
  if_neg (Bool.eq_false_iff.1 h)

theorem requestDisable_eq (n : Nat) (s : State) :
    requestDisable n s = (s.wr .axEn 0 n).setAx n { s.ax n with enPend := if (s.ax n).run then some false else none } := by
  cases h : (s.ax n).run <;> simp [requestDisable, h]

/-! A write with a reject event (R512). -/

theorem State.on_eq_false_of_rd {s : State} {r : RegId} {i j : Nat} (h : s.rd r i j = 0) : s.on r i j = false := by
  rw [State.on, h]; rfl

/-- Is the value that a word carries for a field discarded, where a write sets the field? -/
def dropsField (locked : Bool) (v : Nat) (bad : RegKey → Nat → Bool) (k : RegKey) : Bool :=
  k.r.info.ty.sets locked && bad k (k.part v)

/-- A block's reject event follows the write without it, when a value of the word is discarded. -/
theorem wordWrite_some (w : RegW) (e : Ev) (skip : RegId → Bool) (bad : RegKey → Nat → Bool) (s : State) :
    wordWrite w (some e) skip bad s =
      if (fieldsAt w.slot w.off).any (dropsField (lockOn w.slot s) w.v bad) then
        raise e w.tid w.off (wordWrite w none skip bad s)
      else wordWrite w none skip bad s := rfl

theorem fieldStep_of_skip {locked : Bool} {skip : RegId → Bool} {k : RegKey} (h : skip k.r = true) (v : Nat)
    (bad : RegKey → Nat → Bool) (s : State) : fieldStep locked v skip bad s k = s := by
  simp [fieldStep, h]

theorem fieldStep_of_drop {locked : Bool} {v : Nat} {bad : RegKey → Nat → Bool} {k : RegKey}
    (h : dropsField locked v bad k = true) (skip : RegId → Bool) (s : State) : fieldStep locked v skip bad s k = s :=
  if_pos (by rw [Bool.or_eq_true]; exact .inl h)

theorem fieldStep_of_take {locked : Bool} {v : Nat} {skip : RegId → Bool} {bad : RegKey → Nat → Bool} {k : RegKey}
    (hsets : k.r.info.ty.sets locked = true) (hskip : skip k.r = false) (hbad : bad k (k.part v) = false) (s : State) :
    fieldStep locked v skip bad s k = s.wr k.r (k.part v) k.i k.j := by
  simp [fieldStep, hskip, hbad, fieldWrite_of_sets hsets]

/-! A write of AX_CTRL (R60, R68, Table CE-6). -/

/-- The fields of AX_CTRL of an axis, in the order of Table CE-6. -/
theorem fieldsAt_axCtrl (n : Fin 8) : fieldsAt 3 (axOff n) =
    [⟨.axEn, n, 0⟩, ⟨.axMode, n, 0⟩, ⟨.axSpsrc, n, 0⟩, ⟨.axI3, n, 0⟩, ⟨.axNs, n, 0⟩, ⟨.axNp, n, 0⟩, ⟨.axAnaCh, n, 0⟩] := by
  revert n; decide

/-- The only LOCK of the CE block is CE_LOCK. -/
theorem lockOn_ce (s : State) : lockOn 3 s = s.on .ceLock := by
  have hlocks : (RegId.ofSlot 3).filter (fun r => r.info.ty == .lock) = [.ceLock] := by decide
  rw [lockOn, ← List.any_filter, hlocks, List.any_cons, List.any_nil, Bool.or_false]

/-- The fields of the CE block whose effect is not their type's alone. -/
def ceSpecial (r : RegId) : Bool := r == .axEn || r == .axEncCpr || r == .gdTsS

/-- What a write of the CE block does field by field, before the effects of its special registers. -/
def ceWord (w : RegW) (s : State) : State := wordWrite w (some .ceCfgReject) ceSpecial (ceBad s w) s

/-- A write of AX_CTRL ends with the request that its EN bit makes. -/
theorem ceWrite_axCtrl (w : RegW) (n : Fin 8) (hoff : w.off = axOff n) (s : State) :
    ceWrite w s =
      if !w.bit 0 then requestDisable n (ceWord w s)
      else if enableOk s n then axEnableWrite w.tid n (ceWord w s) else ceWord w s := by
  have hn := n.isLt
  have hinst : w.inst 0x400 0x100 = n := by simp [RegW.inst, hoff, axOff]
  have hguard : ¬ (0x100 ≤ w.off ∧ w.off < 0x200 ∧ w.off % 0x10 = 8) := by simp only [hoff, axOff]; omega
  have haxis : ¬ (w.off < 0x400 ∨ 0xC00 ≤ w.off) := by simp only [hoff, axOff]; omega
  have hctrl : w.off % 0x100 = 0 := by simp only [hoff, axOff]; omega
  simp only [ceWrite, hinst, if_neg hguard, if_neg haxis, if_pos hctrl]
  rfl

/-- May the combination of mode and source that a word carries be taken (Table CE-2, R68)? -/
def pairOk (s : State) (n v : Nat) : Bool :=
  srcAllowed (bitsOf v 1 2) (bitsOf v 4 2) && (bitsOf v 4 2 != 2 || !(s.enabled n) || s.on .axAnaEn n)

theorem pairOk_of_allowed {s : State} {n v : Nat} (h : srcAllowed (bitsOf v 1 2) (bitsOf v 4 2) = true)
    (hana : bitsOf v 4 2 ≠ 2 ∨ s.enabled n = false ∨ s.rd .axAnaEn n = 1) : pairOk s n v = true := by
  simpa [pairOk, h, State.on, or_assoc] using hana

theorem pairOk_of_not_allowed {s : State} {n v : Nat} (h : srcAllowed (bitsOf v 1 2) (bitsOf v 4 2) = false) :
    pairOk s n v = false := by
  rw [pairOk, h, Bool.false_and]

/-- The fields of AX_CTRL for which Table CE-6 excludes no value. -/
def takeAxFree (n v : Nat) (s : State) : State :=
  (((s.wr .axI3 (bitsOf v 6 1) n).wr .axNs (bitsOf v 8 4) n).wr .axNp (bitsOf v 12 4) n).wr .axAnaCh (bitsOf v 16 3) n

/-- MODE and SPSRC of AX_CTRL. -/
def takeAxPair (n v : Nat) (s : State) : State := (s.wr .axMode (bitsOf v 1 2) n).wr .axSpsrc (bitsOf v 4 2) n

section
variable {w : RegW} {n : Fin 8} {s : State}

theorem ceBad_axEn (hen : bitOf w.v 0 = true → enableOk s n = true) : ceBad s w ⟨.axEn, n, 0⟩ (bitsOf w.v 0 1) = false := by
  cases h : bitOf w.v 0
  · have : bitsOf w.v 0 1 ≠ 1 := by simpa [bitOf, bitsOf] using h
    simp [ceBad, this]
  · simp [ceBad, hen h]

/-- MODE and SPSRC are judged as a pair: without LOCK each is discarded exactly when the combination may not be taken. -/
theorem ceBad_pair (hlock : s.on .ceLock = false) {r : RegId} (hr : r = .axMode ∨ r = .axSpsrc) (x : Nat) :
    ceBad s w ⟨r, n, 0⟩ x = !(pairOk s n w.v) := by
  obtain rfl | rfl := hr <;> simp [ceBad, hlock, pairOk, RegW.f]

theorem dropsField_pair (hlock : s.on .ceLock = false) {r : RegId} (hr : r = .axMode ∨ r = .axSpsrc) :
    dropsField false w.v (ceBad s w) ⟨r, n, 0⟩ = !(pairOk s n w.v) := by
  rw [dropsField, ceBad_pair hlock hr]
  obtain rfl | rfl := hr <;> rfl

/-- Without LOCK a write of AX_CTRL discards a value exactly when its pair may not be taken. -/
theorem axCtrl_any_drops (hlock : s.on .ceLock = false) (hen : bitOf w.v 0 = true → enableOk s n = true) :
    (fieldsAt 3 (axOff n)).any (dropsField false w.v (ceBad s w)) = !(pairOk s n w.v) := by
  have hkeepEn : dropsField false w.v (ceBad s w) ⟨.axEn, n, 0⟩ = false := ceBad_axEn hen
  have hfree : [⟨.axI3, n, 0⟩, ⟨.axNs, n, 0⟩, ⟨.axNp, n, 0⟩, ⟨.axAnaCh, n, 0⟩].any (dropsField false w.v (ceBad s w)) = false := rfl
  rw [fieldsAt_axCtrl, List.any_cons, List.any_cons, List.any_cons, hfree, hkeepEn, dropsField_pair hlock (.inl rfl),
    dropsField_pair hlock (.inr rfl), Bool.or_false, Bool.or_self, Bool.false_or]

/-- Without LOCK the fields of AX_CTRL but EN take their bits of the word, MODE and SPSRC only as a pair that is allowed. -/
theorem axCtrl_fieldSteps (hlock : s.on .ceLock = false) :
    (fieldsAt 3 (axOff n)).foldl (fieldStep false w.v ceSpecial (ceBad s w)) s =
      takeAxFree n w.v (if pairOk s n w.v then takeAxPair n w.v s else s) := by
  have hfree (t : State) : [⟨.axI3, n, 0⟩, ⟨.axNs, n, 0⟩, ⟨.axNp, n, 0⟩, ⟨.axAnaCh, n, 0⟩].foldl
      (fieldStep false w.v ceSpecial (ceBad s w)) t = takeAxFree n w.v t := rfl
  rw [fieldsAt_axCtrl, List.foldl_cons, List.foldl_cons, List.foldl_cons, hfree, fieldStep_of_skip (k := ⟨.axEn, n, 0⟩) rfl]
  congr 1
  cases hpair : pairOk s n w.v
  · rw [fieldStep_of_drop (k := ⟨.axMode, n, 0⟩) (by rw [dropsField_pair hlock (.inl rfl), hpair]; rfl),
      fieldStep_of_drop (k := ⟨.axSpsrc, n, 0⟩) (by rw [dropsField_pair hlock (.inr rfl), hpair]; rfl)]
    rfl
  · rw [fieldStep_of_take (k := ⟨.axMode, n, 0⟩) rfl rfl (by rw [ceBad_pair hlock (.inl rfl), hpair]; rfl),
      fieldStep_of_take (k := ⟨.axSpsrc, n, 0⟩) rfl rfl (by rw [ceBad_pair hlock (.inr rfl), hpair]; rfl)]
    rfl

/-- Without LOCK a write of AX_CTRL takes what its fields take, and raises the event when its pair may not be taken. -/
theorem ceWord_axCtrl (hslot : w.slot = 3) (hoff : w.off = axOff n) (hlock : s.on .ceLock = false)
    (hen : bitOf w.v 0 = true → enableOk s n = true) :
    ceWord w s =
      if pairOk s n w.v then takeAxFree n w.v (takeAxPair n w.v s)
      else raise .ceCfgReject w.tid w.off (takeAxFree n w.v s) := by
  have hunlocked : lockOn w.slot s = false := by rw [hslot, lockOn_ce, hlock]
  rw [ceWord, wordWrite_some, wordWrite_unlocked hunlocked, hunlocked, hslot, hoff, axCtrl_any_drops hlock hen, axCtrl_fieldSteps hlock]
  cases pairOk s n w.v <;> rfl

end

/-- A write of AX_CTRL without LOCK, of a pair that is allowed and without an enable that is refused. -/
theorem axCtrlCfgWrite_of_allowed {tid : Nat} {n : Fin 8} {v : Word} {s : State} (hlock : s.on .ceLock = false)
    (hpair : pairOk s n v.toNat = true) (hen : bitOf v.toNat 0 = true → enableOk s n = true) :
    axCtrlCfgWrite tid n v s =
      let t := takeAxFree n v.toNat (takeAxPair n v.toNat s)
      if bitOf v.toNat 0 then axEnableWrite tid n t else requestDisable n t := by
  rw [axCtrlCfgWrite, ceWrite_axCtrl _ n rfl, ceWord_axCtrl rfl rfl hlock hen, if_pos hpair]
  cases h : bitOf v.toNat 0
  · simp [RegW.bit, h]
  · simp [RegW.bit, h, hen h]

/-- A write of AX_CTRL with EN = 0, without LOCK, of a pair that is not allowed. -/
theorem axCtrlCfgWrite_of_not_allowed {tid : Nat} {n : Fin 8} {v : Word} {s : State} (hlock : s.on .ceLock = false)
    (hpair : pairOk s n v.toNat = false) (hen : bitOf v.toNat 0 = false) :
    axCtrlCfgWrite tid n v s =
      requestDisable n (raise .ceCfgReject tid (0x400 + n * 0x100) (takeAxFree n v.toNat s)) := by
  have hen' : bitOf v.toNat 0 = true → enableOk s n = true := by simp [hen]
  rw [axCtrlCfgWrite, ceWrite_axCtrl _ n rfl, ceWord_axCtrl rfl rfl hlock hen', if_neg (Bool.eq_false_iff.1 hpair)]
  simp [RegW.bit, hen, axOff]

/-! Publication of a guard (R71, R151). -/

theorem guardCollision_of_held {s : State} (h : s.comp.look.held = true) (g sec ns : Nat) : guardCollision g sec ns s = s :=
  if_pos h

/-- The collision context publishes with the earlier of the two stamps. -/
theorem guardCollision_of_free {s : State} (h : s.comp.look.held = false) (g sec ns : Nat) :
    guardCollision g sec ns s =
      if sec < s.comp.look.sec ∨ (sec = s.comp.look.sec ∧ ns ≤ s.comp.look.ns) then
        guardPublish g (BitVec.ofNat 32 sec) (s.wr .gdTsNs ns g)
      else guardPublish g (BitVec.ofNat 32 s.comp.look.sec) (s.wr .gdTsNs s.comp.look.ns g) := by
  split
  · next hframe => simp [guardCollision, h, hframe]
  · next hframe => simp [guardCollision, h, hframe]

/-- Settles O8, by what enables an axis, by the pair that AX_CTRL carries, and by where a guard's stamp comes from. -/
theorem axisControlWrites : Obligations.AxisControlWrites := by
  refine ⟨fun dt tid n s u hu hok => ?_, fun dt tid n s u hu hok => ?_, fun dt n s u hu => ?_,
    fun dt tid n v w t s u hu hw hlock hsrc hana hen ht => ?_, fun dt tid n v w t s u hu hw hlock hsrc hen ht => ?_,
    fun dt g v t s u hu ht => ?_, fun dt g sec ns s u hu hheld => ?_, fun dt g sec ns s u hu hheld => ?_⟩
  · rw [exec_axEnableWrite]
    exact after_eq_of hu (axEnableWrite_of_ok hok tid)
  · rw [exec_axEnableWrite]
    exact after_eq_of hu (axEnableWrite_of_not_ok hok tid)
  · rw [exec_axDisableWrite]
    exact after_eq_of hu (requestDisable_eq n u)
  · subst hw ht
    rw [exec_axCtrlCfgWrite]
    exact after_eq_of hu (axCtrlCfgWrite_of_allowed (State.on_eq_false_of_rd hlock) (pairOk_of_allowed hsrc hana) hen)
  · subst hw ht
    rw [exec_axCtrlCfgWrite]
    exact after_eq_of hu (axCtrlCfgWrite_of_not_allowed (State.on_eq_false_of_rd hlock) (pairOk_of_not_allowed hsrc) hen)
  · subst ht
    rw [exec_guardPublish]
    exact after_eq_of hu rfl
  · rw [exec_guardPublish]
    exact after_eq_of hu (guardCollision_of_free hheld g sec ns)
  · rw [exec_guardPublish]
    exact after_eq_of hu (guardCollision_of_held hheld g sec ns)

end Sys2Proof.Machine
end

section
/-! PROOFS. The family of the motor-side I/O: ESTOP, trips, over-current and the clears of their latches (R85 to R87, R92), and the
encoder, SSI, pulse and ADC inputs (R93 to R96, R98, R99). -/

namespace Sys2Proof.Machine

/-! Repetition. -/

/-- Two steps that agree below `n`, wherever what one of them keeps is as it was at first, repeat alike. -/
theorem foldN_congr_of_inv {α β : Type} (g : α → β) {n : Nat} {f f' : Nat → α → α} {a : α} (hinv : ∀ k x, g (f' k x) = g x)
    (h : ∀ k < n, ∀ x, g x = g a → f k x = f' k x) : foldN n f a = foldN n f' a := by
  induction n with
  | zero => rfl
  | succ n ih =>
    rw [foldN_succ, foldN_succ, ih fun k hk => h k (Nat.lt_succ_of_lt hk)]
    exact h n n.lt_succ_self _ (foldN_inv g n f' hinv a)

theorem foldN_congr {α : Type} {n : Nat} {f f' : Nat → α → α} (h : ∀ k < n, ∀ x, f k x = f' k x) (a : α) :
    foldN n f a = foldN n f' a :=
  foldN_congr_of_inv (fun _ => ()) (fun _ _ => rfl) fun k hk x _ => h k hk x

theorem foldN_of_fixed {α : Type} {n : Nat} {f : Nat → α → α} (h : ∀ k < n, ∀ x, f k x = x) (a : α) : foldN n f a = a :=
  (foldN_congr h a).trans (foldN_inv id n _ (fun _ _ => rfl) a)

/-! Over-current (R92). -/

/-- The effect of an over-current excursion of a channel, beyond the upper threshold or beyond the lower one (R92). -/
def recordOvercurrent (ch : Nat) (low : Bool) (s : State) : State :=
  raise .mioOvercurrent 0 (ch + b2n low * 32)
    (stopAxis (ch / 3) ((s.setSd ch { s.sdOf ch with tripped := true }).wrBit .mioOc (ch / 3) true))

theorem ocRuns_of_enabled {s : State} {ch : Nat} (hsd : s.rd .sdEn ch = 1) (hoc : s.rd .sdOcEn ch = 1) :
    ocRuns s ch = true := by
  simp [ocRuns, State.on, hsd, hoc]

theorem ocHeld_eq_false {s : State} {ch : Nat} (h : s.rdBit .mioOc (ch / 3) = false ∨ (s.sdOf ch).tripped = false) :
    ocHeld s ch = false :=
  Bool.and_eq_false_iff.2 h

theorem ocReached_of_run {s : State} {ch : Nat} {vs : List Int}
    (h : s.rd .sdOcCnt ch + 1 ≤ ocRun (s.rdS .sdOcHi ch) (s.rdS .sdOcLo ch) vs) : ocReached s ch vs = true :=
  decide_eq_true h

/-- A running channel that has not tripped trips at an edge of its clock when its run has reached the count. -/
theorem overcurrentTrip_of_reached {s : State} {ch : Nat} {bits : List Bool} (hedge : sdClkEdge s (s.rd .sdClksel ch) = true)
    (hruns : ocRuns s ch = true) (hfree : ocHeld s ch = false) (hreached : ocReached s ch (ocOf s ch bits) = true) :
    overcurrentTrip ch bits s =
      recordOvercurrent ch (decide ((ocOf s ch bits).getLast?.getD 0 < s.rdS .sdOcLo ch)) s :=
  if_pos ⟨hedge, hruns, by rw [hfree]; rfl, hreached⟩

/-! Clearing the latches (R87). -/

/-- The registers that say which over-current filters run, and on what. -/
def filterReg (r : RegId) : Bool :=
  r == .sdEn || r == .sdOcEn || r == .sdOcOsr || r == .sdOcHi || r == .sdOcLo || r == .sdClksel || r == .sdClkEn || r == .ckgEnStat

section
variable {r : RegId} (h : filterReg r = false) (s : State) (v i j : Nat)
include h

theorem rd_wr_of_filterReg {r' : RegId} (h' : filterReg r' = true) (i' j' : Nat) :
    (s.wr r v i j).rd r' i' j' = s.rd r' i' j' :=
  State.rd_wr_ne _ _ fun ⟨hr, _⟩ => by simp [hr, h] at h'

theorem sdClkOn_wr (k : Nat) : sdClkOn (s.wr r v i j) k = sdClkOn s k := by
  simp only [sdClkOn, State.mioOn, State.clockOn, State.rdBit, State.wr_clk, rd_wr_of_filterReg h s v i j (r' := .ckgEnStat) rfl,
    rd_wr_of_filterReg h s v i j (r' := .sdClkEn) rfl]

theorem ocRuns_wr (m : Nat) : ocRuns (s.wr r v i j) m = ocRuns s m := by
  simp only [ocRuns, State.on, rd_wr_of_filterReg h s v i j (r' := .sdEn) rfl, rd_wr_of_filterReg h s v i j (r' := .sdOcEn) rfl]

theorem ocOf_wr (m : Nat) (bits : List Bool) : ocOf (s.wr r v i j) m bits = ocOf s m bits := by
  simp only [ocOf, clocked, sdClkEdges, sdClkOn_wr h s v i j, State.wr_now, State.wr_clk, State.wr_loop,
    rd_wr_of_filterReg h s v i j (r' := .sdOcOsr) rfl, rd_wr_of_filterReg h s v i j (r' := .sdClksel) rfl]

theorem ocOutside_wr (m : Nat) (bits : List Bool) : ocOutside (s.wr r v i j) m bits = ocOutside s m bits := by
  rw [ocOutside, ocRuns_wr h, ocOf_wr h, State.rdS, State.rdS, rd_wr_of_filterReg h s v i j (r' := .sdOcHi) rfl,
    rd_wr_of_filterReg h s v i j (r' := .sdOcLo) rfl]
  rfl

/-- No other register enters the judgement of an axis's over-current filters. -/
theorem ocWithin_wr (oc : List (List Bool)) (n : Nat) : ocWithin (s.wr r v i j) oc n = ocWithin s oc n := by
  simp only [ocWithin, ocOutside_wr h s v i j]

end

theorem ocWithin_setSd (s : State) (m : Nat) (c : SdChan) (oc : List (List Bool)) (n : Nat) :
    ocWithin (s.setSd m c) oc n = ocWithin s oc n := rfl

theorem ocWithin_clearOc (k : Nat) (s : State) (oc : List (List Bool)) (n : Nat) :
    ocWithin (clearOc k s) oc n = ocWithin s oc n :=
  (foldN_inv (ocWithin · oc n) 3 _ (fun _ t => ocWithin_setSd t _ _ oc n) _).trans (ocWithin_wr rfl s _ _ _ oc n)

theorem ocWithin_tellPins (estopN : Bool) (tripN : Nat) (s : State) (oc : List (List Bool)) (n : Nat) :
    ocWithin (tellPins estopN tripN s) oc n = ocWithin s oc n :=
  (ocWithin_wr (r := .mioEstopInN) rfl _ _ _ _ oc n).trans (ocWithin_wr rfl s _ _ _ oc n)

/-- The trips that a word clears: those whose pin is inactive. -/
def clearTrips (v tripN : Nat) (s : State) : State :=
  foldN 8 (fun n s => if bitOf v n ∧ bitOf tripN n then s.wrBit .mioTrip n false else s) s

/-- The over-current bits that a word clears: those of the axes whose filters lie within their thresholds. -/
def clearOcs (v : Nat) (within : Nat → Bool) (s : State) : State :=
  foldN 8 (fun n s => if bitOf v (8 + n) ∧ within n then clearOc n s else s) s

theorem ocWithin_clearTrips (v tripN : Nat) (s : State) (oc : List (List Bool)) :
    ocWithin (clearTrips v tripN s) oc = ocWithin s oc := by
  refine foldN_inv (ocWithin · oc) 8 _ (fun k t => funext fun n => ?_) s
  split
  · exact ocWithin_wr rfl t _ _ _ oc n
  · rfl

/-- A clear of one axis's bit changes no other axis's filters, so that all are judged on the state that the write finds. -/
theorem clearOcs_of_judged {within : Nat → Bool} {oc : List (List Bool)} {s : State} (h : ocWithin s oc = within) (v : Nat) :
    foldN 8 (fun n t => if bitOf v (8 + n) ∧ ocWithin t oc n then clearOc n t else t) s = clearOcs v within s := by
  refine foldN_congr_of_inv (ocWithin · oc) (fun k t => funext fun n => ?_) fun k _ t ht => ?_
  · split
    · exact ocWithin_clearOc k t oc n
    · rfl
  · rw [ht, h]

/-- MIO_TRIP_CLEAR clears each latch by itself: of the bits of its word, those whose input is released. -/
theorem mioTripClear_eq (v : Word) (l : TripLive) (s : State) :
    mioTripClear v l s =
      let t := clearOcs v.toNat (ocWithin s l.oc) (clearTrips v.toNat l.tripN.toNat (tellPins l.estopN l.tripN.toNat s))
      if bitOf v.toNat 16 ∧ l.estopN then t.wr .mioEstop 0 else t := by
  have hjudged : ocWithin (clearTrips v.toNat l.tripN.toNat (tellPins l.estopN l.tripN.toNat s)) l.oc = ocWithin s l.oc :=
    (ocWithin_clearTrips ..).trans (funext fun n => ocWithin_tellPins _ _ s l.oc n)
  rw [← clearOcs_of_judged hjudged]
  rfl

theorem clearTrips_of_inactive {tripN : Nat} (h : ∀ n < 8, bitOf tripN n = true) (v : Nat) (s : State) :
    clearTrips v tripN s = foldN 8 (fun n s => if bitOf v n then s.wrBit .mioTrip n false else s) s :=
  foldN_congr (fun n hn _ => if_congr (and_iff_left (h n hn)) rfl rfl) s

theorem clearTrips_of_active {tripN : Nat} (h : ∀ n < 8, bitOf tripN n = false) (v : Nat) (s : State) : clearTrips v tripN s = s :=
  foldN_of_fixed (fun n hn _ => if_neg fun ⟨_, hpin⟩ => Bool.eq_false_iff.1 (h n hn) hpin) s

theorem clearOcs_of_within {within : Nat → Bool} (h : ∀ n < 8, within n = true) (v : Nat) (s : State) :
    clearOcs v within s = foldN 8 (fun n s => if bitOf v (8 + n) then clearOc n s else s) s :=
  foldN_congr (fun n hn _ => if_congr (and_iff_left (h n hn)) rfl rfl) s

theorem clearOcs_of_outside {within : Nat → Bool} (h : ∀ n < 8, within n = false) (v : Nat) (s : State) : clearOcs v within s = s :=
  foldN_of_fixed (fun n hn _ => if_neg fun ⟨_, hin⟩ => Bool.eq_false_iff.1 (h n hn) hin) s

/-- With every input released the word clears what it names, and ESTOP. -/
theorem mioTripClear_of_released {v : Word} {oc : List (List Bool)} {s : State} (hin : ∀ n < 8, ocWithin s oc n = true)
    (hestop : bitOf v.toNat 16 = true) :
    mioTripClear v ⟨true, 0xFF, oc⟩ s =
      (foldN 8 (fun n s => if bitOf v.toNat (8 + n) then clearOc n s else s)
        (foldN 8 (fun n s => if bitOf v.toNat n then s.wrBit .mioTrip n false else s) (tellPins true 255 s))).wr .mioEstop 0 := by
  have hpins : ∀ n < 8, bitOf 255 n = true := by decide
  rw [mioTripClear_eq, clearOcs_of_within hin, ← clearTrips_of_inactive hpins]
  exact if_pos ⟨hestop, rfl⟩

/-- With every input active nothing is cleared. -/
theorem mioTripClear_of_active {oc : List (List Bool)} {s : State} (hout : ∀ n < 8, ocWithin s oc n = false) (v : Word) :
    mioTripClear v ⟨false, 0, oc⟩ s = tellPins false 0 s := by
  have hpins : ∀ n < 8, bitOf 0 n = false := by decide
  rw [mioTripClear_eq, clearOcs_of_outside hout]
  exact (if_neg fun ⟨_, hpin⟩ => Bool.false_ne_true hpin).trans (clearTrips_of_active hpins ..)

/-- Settles O9, by what each recognition stops and by the inputs that each latch's clear needs released. -/
theorem tripsAndEstop : Obligations.TripsAndEstop := by
  refine ⟨fun dt t s u hu ht => ?_, fun dt n m t s u hu hm ht => ?_,
    fun dt ch bits vs s u hu hvs hedge hsd hoc hfree hrun => ?_,
    fun dt v estopN tripN oc t s u hu htrip hestop hin hclear ht => ?_,
    fun dt v estopN tripN oc s u hu hestop htrip hout => ?_⟩
  · subst ht
    rw [exec_estopRecognised]
    exact after_eq_of hu rfl
  · subst hm ht
    rw [exec_tripRecognised]
    exact after_eq_of hu rfl
  · subst hvs
    rw [exec_overcurrentTrip]
    exact after_eq_of hu
      (overcurrentTrip_of_reached hedge (ocRuns_of_enabled hsd hoc) (ocHeld_eq_false hfree) (ocReached_of_run hrun))
  · subst htrip hestop ht
    rw [exec_mioTripClear]
    exact after_eq_of hu (mioTripClear_of_released hin hclear)
  · subst hestop htrip
    rw [exec_mioTripClear]
    exact after_eq_of hu (mioTripClear_of_active hout v)

theorem State.on_iff {s : State} {r : RegId} {i j : Nat} : s.on r i j = true ↔ s.rd r i j = 1 := beq_iff_eq

/-! Quadrature encoders (R93, R94). -/

/-- Is a change of A or B that has lasted `held` samples followed: a running block, a port in ABZ mode, and a filter that accepts? -/
def EncFollows (s : State) (p held : Nat) : Prop :=
  s.mioOn ∧ s.rd .encMode p = 1 ∧ accepted (s.rd .encFilt p) held

theorem encFollows_of {s : State} {p held : Nat} (hon : s.mioOn = true) (hheld : s.rd .encFilt p + 1 ≤ held)
    (hmode : s.rd .encMode p = 1) : EncFollows s p held :=
  ⟨hon, hmode, decide_eq_true hheld⟩

/-- What an accepted edge of a port counts, in the direction that the port is set to. -/
def encCount (s : State) (p : Nat) (a b : Bool) : Int :=
  if s.rd .encDir p = 1 then -quadStep (s.encOf p).a (s.encOf p).b a b else quadStep (s.encOf p).a (s.encOf p).b a b

theorem encEdge_of_single {s : State} {p held : Nat} {a b : Bool} (hfollows : EncFollows s p held)
    (hsingle : (s.encOf p).a = a ∨ (s.encOf p).b = b) :
    encEdge p a b held s = encAdd p (encCount s p a b) (s.setEnc p { s.encOf p with a := a, b := b }) := by
  have hnotBoth : ¬ ((s.encOf p).a ≠ a ∧ (s.encOf p).b ≠ b) := fun ⟨ha, hb⟩ => hsingle.elim ha hb
  rw [encCount, ← if_congr (State.on_iff (s := s)) rfl rfl]
  exact (if_pos hfollows).trans (if_neg hnotBoth)

theorem encEdge_of_both {s : State} {p held : Nat} {a b : Bool} (hfollows : EncFollows s p held)
    (ha : (s.encOf p).a ≠ a) (hb : (s.encOf p).b ≠ b) :
    encEdge p a b held s =
      raise .mioEncError 0 p ((s.setEnc p { s.encOf p with a := a, b := b }).bump .encQerr 1 p) :=
  (if_pos hfollows).trans (if_pos ⟨ha, hb⟩)

/-- An accepted edge of Z latches the position; mode 3 clears the modulo position at every such edge, mode 2 at the first. -/
theorem encZEdge_of_follows {s : State} {p held : Nat} (hfollows : EncFollows s p held) (hz : s.rd .encZmode p ≠ 0) :
    encZEdge p held s =
      let t := s.wr .encZpos (s.rd .encPos p) p
      (if s.rd .encZmode p = 3 ∨ (s.rd .encZmode p = 2 ∧ (s.encOf p).zDone = false) then t.wr .encPosmod 0 p else t).setEnc p
        { s.encOf p with zDone := true } := by
  obtain ⟨hon, hmode, hheld⟩ := hfollows
  refine (if_pos ⟨hon, hmode, hz, hheld⟩).trans ?_
  simp only [Bool.not_eq_true']

theorem encCprWrite_of_nonzero {s : State} {n : Nat} {v : Word} (hlock : s.on .ceLock = false) (hv : v.toNat ≠ 0) (tid : Nat) :
    encCprWrite tid n v s = (s.wr .axEncCpr v.toNat n).wr .encPosmod 0 n :=
  (if_neg (Bool.eq_false_iff.1 hlock)).trans (if_neg hv)

/-! SSI frames (R95, R96). -/

/-- Now is SSI_LEAD before a tick at `t`, on a CECLK edge, with the port in SSI mode and the clocks running. -/
def SsiStartsFor (s : State) (p t : Nat) : Prop :=
  s.mioOn ∧ s.ceOn ∧ s.onCeEdge ∧ s.rd .encMode p = 2 ∧ s.now + s.rd .ssiLead p * rootPerCe = t

/-- The frame that a port starts now, for the tick at `t`. -/
def ssiRunFor (s : State) (p t : Nat) : SsiRun :=
  ⟨s.now, t, s.rd .ssiBits p + 1 + s.rd .ssiPar p, s.rd .ssiDiv p, s.rd .ssiDly p⟩

/-- A frame starts when the encoder is ready, with a high ENCn_A; else the port reports that it is not. -/
theorem ssiFrameStart_of_due {s : State} {p : Nat} (h : SsiStartsFor s p (gridNext s p)) (level : Bool) :
    ssiFrameStart p level s =
      if level then s.setEnc p { s.encOf p with ssi := some (ssiRunFor s p (gridNext s p)) } else ssiBad p 1 s :=
  if_pos h

theorem ssiFrameEnd_of_last_sample {s : State} {p : Nat} {r : SsiRun} (hrun : (s.encOf p).ssi = some r) (hon : s.mioOn = true)
    (hnow : s.now = r.sampleAt (r.nb - 1)) (data : Word) (parity : Bool) :
    ssiFrameEnd p data parity s = ssiJudge p data parity r s := by
  rw [ssiFrameEnd, hrun]
  exact if_pos ⟨hon, hnow⟩

theorem ssiJudge_of_late {s : State} {r : SsiRun} (h : r.tick < s.now + 8 * rootPerCe) (p : Nat) (data : Word) (parity : Bool) :
    ssiJudge p data parity r s = ssiBad p 3 s :=
  if_pos h

/-- A frame in time whose parity, where the port checks it, is even over data and parity bit. -/
theorem ssiJudge_of_good {s : State} {p : Nat} {data : Word} {parity : Bool} {r : SsiRun} {bits raw : Nat}
    (hbits : bits = s.rd .ssiBits p + 1) (hraw : raw = data.toNat % 2 ^ bits) (htime : s.now + 8 * rootPerCe ≤ r.tick)
    (hparity : s.rd .ssiPar p = 1 → (popcount bits raw + b2n parity) % 2 = 0) :
    ssiJudge p data parity r s = ssiGood p bits (if s.rd .ssiGray p = 1 then grayDecode bits raw else raw) s := by
  have heven : ¬ (s.on .ssiPar p = true ∧ (popcount bits raw + b2n parity) % 2 = 1) := fun ⟨hon, hodd⟩ =>
    Nat.zero_ne_one ((hparity (State.on_iff.1 hon)).symm.trans hodd)
  rw [← if_congr (State.on_iff (s := s)) rfl rfl]
  subst hbits hraw
  exact (if_neg (Nat.not_lt.2 htime)).trans (if_neg heven)

/-! Pulse inputs (R98). -/

/-- Is a change of a pulse port's levels followed while the port is on? -/
def PlsFollows (s : State) (p held : Nat) : Prop := s.mioOn ∧ accepted (s.rd .plsFilt p) held

theorem plsFollows_of {s : State} {p held : Nat} (hon : s.mioOn = true) (hheld : s.rd .plsFilt p + 1 ≤ held) :
    PlsFollows s p held :=
  ⟨hon, decide_eq_true hheld⟩

/-- In mode 2 a pulse port counts an edge in quadrature. -/
theorem pulseEdge_of_quadrature {s : State} {p held : Nat} {a b : Bool} (hfollows : PlsFollows s p held)
    (hmode : s.rd .plsMode p = 2) (hsingle : (s.plsOf p).a = a ∨ (s.plsOf p).b = b) :
    pulseEdge p a b held s = (s.setPls p ⟨a, b⟩).wrS .plsCnt
      (s.rdS .plsCnt p + (if s.rd .plsDirinv p = 1 then -quadStep (s.plsOf p).a (s.plsOf p).b a b
        else quadStep (s.plsOf p).a (s.plsOf p).b a b)) p := by
  obtain ⟨hon, hheld⟩ := hfollows
  have hnotBoth : ¬ ((s.plsOf p).a ≠ a ∧ (s.plsOf p).b ≠ b) := fun ⟨ha, hb⟩ => hsingle.elim ha hb
  simp [pulseEdge, hon, hheld, hmode, hnotBoth, State.on]

/-- In mode 1 a pulse port counts a rising edge of A, up or down by the level of B and by DIRINV. -/
theorem pulseEdge_of_rising {s : State} {p held : Nat} {b : Bool} (hfollows : PlsFollows s p held)
    (hmode : s.rd .plsMode p = 1) (hlow : (s.plsOf p).a = false) :
    pulseEdge p true b held s = (s.setPls p ⟨true, b⟩).wrS .plsCnt
      (s.rdS .plsCnt p + (if (s.plsOf p).b = s.on .plsDirinv p then -1 else 1)) p := by
  obtain ⟨hon, hheld⟩ := hfollows
  cases hdir : s.on .plsDirinv p <;> cases hb : (s.plsOf p).b <;> simp [pulseEdge, hon, hheld, hmode, hlow, hdir, hb]

/-! The set-point ADC (R99). -/

/-- Each slot starts the conversion of the next enabled channel. -/
theorem adcSlot_of_next {s : State} {c : Nat} (hslot : atAdcSlot s = true)
    (hnext : nextAdc (s.rd .adcEn) s.loop.adc.last = some c) :
    adcSlot s = { s with loop := { s.loop with adc := ⟨c, s.loop.adc.busy ++ [c]⟩ } } := by
  rw [adcSlot, if_pos hslot, hnext]

theorem adcConversionDone_of_busy {s : State} {c : Nat} {l : List Nat} (hbusy : s.loop.adc.busy = c :: l) (hon : s.mioOn = true)
    (nanovolts : Int) :
    adcConversionDone nanovolts s =
      { s with loop := { s.loop with adc := { s.loop.adc with busy := l } } }.wr .adcCode (adcCodeOf nanovolts) c := by
  rw [adcConversionDone, hbusy, hon]
  rfl

/-- Settles O10, by what each input's port follows and by what it counts. -/
theorem encodersAndPulses : Obligations.EncodersAndPulses := by
  refine ⟨fun dt p held a b e d s u hu hon hheld hmode he hsingle hd => ?_, fun dt p held a b e s u hu hon hheld hmode he ha hb => ?_,
    fun dt p held z t s u hu hon hheld hmode hz hz0 ht => ?_, fun dt tid n v s u hu hlock hv => ?_,
    fun dt p level t s u hu ht hon hce hedge hmode hlead => ?_,
    fun dt p data parity r bits raw s u hu hrun hon hnow hbits hraw htime hparity => ?_,
    fun dt p data parity r s u hu hrun hon hnow hlate => ?_, fun dt p held a b e s u hu hon hheld he hmode hsingle => ?_,
    fun dt p held a b e s u hu hon hheld he hmode hlow hhigh => ?_, fun dt c s u hu hslot hnext => ?_,
    fun dt nanovolts c l s u hu hbusy hon => ?_⟩
  · subst he hd
    rw [exec_encEdge]
    exact after_eq_of hu (encEdge_of_single (encFollows_of hon hheld hmode) hsingle)
  · subst he
    rw [exec_encEdge]
    exact after_eq_of hu (encEdge_of_both (encFollows_of hon hheld hmode) ha hb)
  · subst hz ht
    rw [exec_encZEdge]
    exact after_eq_of hu (encZEdge_of_follows (encFollows_of hon hheld hmode) hz0)
  · rw [exec_encCprWrite]
    exact after_eq_of hu (encCprWrite_of_nonzero (State.on_eq_false_of_rd hlock) hv tid)
  · subst ht
    rw [exec_ssiFrameStart]
    exact after_eq_of hu (ssiFrameStart_of_due ⟨hon, hce, hedge, hmode, hlead⟩ level)
  · rw [exec_ssiFrameEnd]
    exact after_eq_of hu ((ssiFrameEnd_of_last_sample hrun hon hnow data parity).trans (ssiJudge_of_good hbits hraw htime hparity))
  · rw [exec_ssiFrameEnd]
    exact after_eq_of hu ((ssiFrameEnd_of_last_sample hrun hon hnow data parity).trans (ssiJudge_of_late hlate p data parity))
  · subst he
    rw [exec_pulseEdge]
    exact after_eq_of hu (pulseEdge_of_quadrature (plsFollows_of hon hheld) hmode hsingle)
  · subst he hhigh
    rw [exec_pulseEdge]
    exact after_eq_of hu (pulseEdge_of_rising (plsFollows_of hon hheld) hmode hlow)
  · rw [exec_adcSlot]
    exact after_eq_of hu (adcSlot_of_next hslot hnext)
  · rw [exec_adcConversionDone]
    exact after_eq_of hu (adcConversionDone_of_busy hbusy hon nanovolts)

end Sys2Proof.Machine
end

section
/-! PROOFS. The family of the Mitre group: loading, arming, disarming and unloading a slot (R100 to R104, R114), and the scratchpad
banks that it runs in (R101, R203 to R213), with the commands of the DRAM controller. -/

namespace Sys2Proof.Machine

/-! Loading and arming a Mitre slot (R100, R103). -/

theorem State.slot_setSlot_same (s : State) (n : Nat) (m : MitSlot) : (s.setSlot n m).slot n = m :=
  Tab.get_set_same ..

theorem mitreLoaded_of_unarmed {n : Nat} {s : State} (h : s.rd .mitState n ≤ 1) (tid recAddr ringAddr : Nat) :
    mitreLoaded tid n recAddr ringAddr s =
      ((s.wr .mitState 1 n).wr .mitImg 1 n).setSlot n { s.slot n with recAddr := recAddr, ringAddr := ringAddr } :=
  if_pos h

theorem mitreLoaded_of_held {n : Nat} {s : State} (h : 2 ≤ s.rd .mitState n) (tid recAddr ringAddr : Nat) :
    mitreLoaded tid n recAddr ringAddr s = mitReject tid (mitOff n) s :=
  if_neg (Nat.not_le.2 h)

section
variable {n : Nat} {s : State} (harm : s.on .mitArm n = false)
include harm

theorem mitreArmRequest_of_ok (hok : armOk s n = true) (tid : Nat) :
    mitreArmRequest tid n s = (s.wr .mitArm 1 n).setSlot n { s.slot n with armPend := some true } :=
  (if_neg (Bool.eq_false_iff.1 harm)).trans (if_pos hok)

theorem mitreArmRequest_of_not_ok (hok : armOk s n = false) (tid : Nat) :
    mitreArmRequest tid n s = mitReject tid (mitOff n) s :=
  (if_neg (Bool.eq_false_iff.1 harm)).trans (if_neg (Bool.eq_false_iff.1 hok))

end

/-- Clearing MIT_ARM leaves the state of the slot alone, so that it decides whether a disarm waits. -/
theorem mitreDisarm_eq (n : Nat) (s : State) :
    mitreDisarm n s =
      (s.wr .mitArm 0 n).setSlot n { s.slot n with armPend := if 2 ≤ s.rd .mitState n then some false else none } := by
  have hstate : (s.wr .mitArm 0 n).rd .mitState n = s.rd .mitState n := State.rd_wr_ne _ _ (by simp)
  rw [mitreDisarm, hstate]
  split <;> rfl

/-- The cores of slot n are idle from now on. -/
def mitIdle (n : Nat) (s : State) : Tab Nat :=
  (List.range 64).foldl (fun l t => if mitHasCore s n t = true then l.set t s.now else l) s.sch.idle

theorem mitreUnload_of_loaded {n : Nat} {s : State} (hstate : s.rd .mitState n = 1) (harm : (s.slot n).armPend ≠ some true) :
    mitreUnload n s = ({ s with sch := { s.sch with idle := mitIdle n s } }.wr .mitState 0 n).wr .mitImg 0 n :=
  if_pos ⟨hstate, harm⟩

/-! Loading a model (R104). -/

/-- The library holds the report on a load. -/
def noteLoad (r : LoadRep) (s : State) : State := { s with sch := { s.sch with load := r } }

/-- Slot n notes what its model needs. -/
def noteModel (n weightBytes prog act modelId : Nat) (s : State) : State :=
  s.setSlot n { s.slot n with weightBytes := weightBytes, prog := prog, act := act, modelId := modelId }

theorem noteModel_rd (n weightBytes prog act modelId : Nat) (s : State) (r : RegId) (i j : Nat) :
    (noteModel n weightBytes prog act modelId s).rd r i j = s.rd r i j :=
  State.rd_congr (State.setSlot_regs ..) r i j

/-- No arming begins or ends with a load. -/
theorem noteModel_armPend (n weightBytes prog act modelId : Nat) (s : State) :
    ((noteModel n weightBytes prog act modelId s).slot n).armPend = (s.slot n).armPend := by
  rw [noteModel, State.slot_setSlot_same]

theorem mitHeld_eq_false {s : State} {n : Nat} (hstate : s.rd .mitState n ≤ 1) (harm : (s.slot n).armPend ≠ some true) :
    mitHeld s n = false := by
  simp [mitHeld, harm, Nat.lt_succ_of_le hstate]

theorem mitWcetWrite_of_free {n : Nat} {s : State} (hlock : s.on .mitLock = false) (hfree : mitHeld s n = false) (tid v : Nat) :
    mitWcetWrite tid n v s = s.wr .mitWcet v n :=
  (if_neg (Bool.eq_false_iff.1 hlock)).trans (if_neg (Bool.eq_false_iff.1 hfree))

theorem mitreModelLoad_of_held {n : Nat} {s : State} (h : 2 ≤ s.rd .mitState n) (weightBytes prog act wcet modelId : Nat) :
    mitreModelLoad n weightBytes prog act wcet modelId s = noteLoad { s.sch.load with err := molBusy } s :=
  if_pos h

section
variable {n weightBytes prog act wcet : Nat} {s : State} (hstate : s.rd .mitState n ≤ 1)
include hstate

/-- A model that fits is noted in its slot, with its WCET. -/
theorem mitreModelLoad_of_fit (hfit : (mitFit s n weightBytes prog act wcet).ok = true) (hlock : s.on .mitLock = false)
    (harm : (s.slot n).armPend ≠ some true) (modelId : Nat) :
    mitreModelLoad n weightBytes prog act wcet modelId s =
      let f := mitFit s n weightBytes prog act wcet
      (noteModel n weightBytes prog act modelId (noteLoad ⟨modelId, 0, 0, f.w, f.ls, f.t, 0, 0⟩ s)).wr .mitWcet wcet n := by
  refine (if_neg (Nat.not_le.2 (Nat.lt_succ_of_le hstate))).trans ?_
  simp only [hfit, if_true]
  rw [← noteLoad, ← noteModel]
  refine mitWcetWrite_of_free ?_ (mitHeld_eq_false ?_ ?_) 1 wcet
  · rw [State.on, noteModel_rd]
    exact hlock
  · rw [noteModel_rd]
    exact hstate
  · rw [noteModel_armPend]
    exact harm

/-- A model that does not fit is reported by what it is over by, the weights before the LS before the time. -/
theorem mitreModelLoad_of_oversize (hfit : (mitFit s n weightBytes prog act wcet).ok = false) (modelId : Nat) :
    mitreModelLoad n weightBytes prog act wcet modelId s =
      let f := mitFit s n weightBytes prog act wcet
      raise .schMitreOversize 1 (n + (if f.w ≠ 0 then 0 else if f.ls ≠ 0 then 16 else 32))
        (noteLoad ⟨modelId, 3, 5, f.w, f.ls, f.t, 0, molRejected⟩ s) := by
  refine (if_neg (Nat.not_le.2 (Nat.lt_succ_of_le hstate))).trans ?_
  simp only [hfit, Bool.false_eq_true, if_false]
  rfl

end

theorem mitreMissLimit_of_reached {n : Nat} {s : State} (hlim : s.rd .mitMissLimit n ≠ 0)
    (hmiss : s.rd .mitMissLimit n ≤ s.rd .mitConsec n) : mitreMissLimit n s = mitreFault n 4 s :=
  if_pos ⟨hlim, hmiss⟩

/-- Settles O11, by the state of the slot, by R100 to R103 for an arm request and by R104 for a load. -/
theorem mitreSlotCommands : Obligations.MitreSlotCommands := by
  refine ⟨fun dt tid n recAddr ringAddr s u hu hstate => ?_, fun dt tid n recAddr ringAddr s u hu hstate => ?_,
    fun dt tid n s u hu harm hok => ?_, fun dt tid n s u hu harm hok => ?_, fun dt n s u hu => ?_,
    fun dt n l s u hu hstate harm hl => ?_,
    fun dt n weightBytes wcet modelId prog act ops f s u hu hf hstate hfit hlock harm => ?_,
    fun dt n weightBytes wcet modelId prog act ops f s u hu hf hstate hfit => ?_,
    fun dt n weightBytes wcet modelId prog act ops s u hu hstate => ?_, fun dt n s u hu hlim hmiss => ?_⟩
  · rw [exec_mitreLoaded]
    exact after_eq_of hu (mitreLoaded_of_unarmed hstate tid recAddr ringAddr)
  · rw [exec_mitreLoaded]
    exact after_eq_of hu (mitreLoaded_of_held hstate tid recAddr ringAddr)
  · rw [exec_mitreArmRequest]
    exact after_eq_of hu (mitreArmRequest_of_ok (State.on_eq_false_of_rd harm) hok tid)
  · rw [exec_mitreArmRequest]
    exact after_eq_of hu (mitreArmRequest_of_not_ok (State.on_eq_false_of_rd harm) hok tid)
  · rw [exec_mitreDisarm]
    exact after_eq_of hu (mitreDisarm_eq n u)
  · subst hl
    rw [exec_mitreUnload]
    exact after_eq_of hu (mitreUnload_of_loaded hstate harm)
  · subst hf
    rw [exec_mitreModelLoad]
    exact after_eq_of hu (mitreModelLoad_of_fit hstate hfit (State.on_eq_false_of_rd hlock) harm modelId)
  · subst hf
    rw [exec_mitreModelLoad]
    exact after_eq_of hu (mitreModelLoad_of_oversize hstate hfit modelId)
  · rw [exec_mitreModelLoad]
    exact after_eq_of hu (mitreModelLoad_of_held hstate weightBytes prog act wcet modelId)
  · rw [exec_mitreMissLimit]
    exact after_eq_of hu (mitreMissLimit_of_reached hlim hmiss)

/-! The requests of a bank (R203, R206). -/

/-- The requests to bank k that take part in its grant. -/
def bankReqs (s : State) (k : Nat) (reqs : List SpmReq) : List SpmReq :=
  reqs.filter fun r => isSpm r.addr && bankOf r.addr == k && !recordTime s r

/-- The narrow ones of a list of requests. -/
def narrowReqs (l : List SpmReq) : List SpmReq := l.filter fun r => !r.wide

/-- The port whose request was granted last, once `r` is granted. -/
def SpmReq.lastPort (r : SpmReq) (last : Nat) : Nat :=
  match r.who with
  | .narrow t _ _ => t % 4
  | _ => last

/-- Bank k has granted a narrow request `r` and holds the merge `m`. -/
def takeNarrow (k : Nat) (r : SpmReq) (m : Option SpmReq) (s : State) : State :=
  takeBank k (s.setBank k { s.bank k with merge := m, last := r.lastPort (s.bank k).last })

/-- What waits for a bank is no part of the bank. -/
theorem noteWaits_bank (k : Nat) (won : Option SpmReq) (narrow : List SpmReq) (s : State) (j : Nat) :
    (noteWaits k won narrow s).bank j = s.bank j := rfl

theorem spmAccessGrant_of_taken {k : Nat} {s : State} (h : bankTaken s k = true) (reqs : List SpmReq) :
    spmAccessGrant k reqs [] s = s :=
  if_pos h

/-- A bank that is free in this TCLK records what Clamp blocks, and grants among the rest. -/
theorem spmAccessGrant_of_free {k : Nat} {s : State} (h : bankTaken s k = false) (reqs : List SpmReq) :
    spmAccessGrant k reqs [] s =
      let l := (bankReqs s k reqs).filter (spmAllowed s)
      grantBank k (l.filter SpmReq.wide) (narrowReqs l)
        (((bankReqs s k reqs).filter fun r => !spmAllowed s r).foldl (fun s r => spmBlocked r s) s) :=
  if_neg (Bool.eq_false_iff.1 h)

theorem spmAccessGrant_of_allowed {k : Nat} {reqs : List SpmReq} {s : State} (hfree : bankTaken s k = false)
    (hall : (bankReqs s k reqs).all (spmAllowed s) = true) :
    spmAccessGrant k reqs [] s =
      grantBank k ((bankReqs s k reqs).filter SpmReq.wide) (narrowReqs (bankReqs s k reqs)) s := by
  rw [List.all_eq_true] at hall
  have hrest : (bankReqs s k reqs).filter (spmAllowed s) = bankReqs s k reqs := List.filter_eq_self.2 hall
  have hbad : (bankReqs s k reqs).filter (fun r => !spmAllowed s r) = [] :=
    List.filter_eq_nil_iff.2 fun r hr => by simp [hall r hr]
  rw [spmAccessGrant_of_free hfree, hrest, hbad]
  rfl

section
variable {k : Nat} {wide narrow : List SpmReq} {s : State}

/-- A wide request wins over every narrow one. -/
theorem grantBank_of_wide {w : SpmReq} (h : wideWinner k (tclkNo s) wide = some w) :
    grantBank k wide narrow s =
      grantWide k w (bankCount k false narrow.length (bankCount k true (wide.length - 1) (noteWaits k none narrow s))) := by
  rw [grantBank, h]

theorem grantBank_of_narrow {r : SpmReq} (hwide : wideWinner k (tclkNo s) wide = none) (h : narrowWinner s k narrow = some r) :
    grantBank k wide narrow s = grantNarrow k r (noteWaits k (some r) narrow s) := by
  rw [grantBank, hwide, h]

end

theorem wideWinner_nil (k n : Nat) : wideWinner k n [] = none := by
  simp [wideWinner]

theorem narrowWinner_nil (s : State) (k : Nat) : narrowWinner s k [] = none := by
  cases h : (s.bank k).merge <;> simp [narrowWinner, h, firstPlaced]

/-- Without a request a bank grants nothing. -/
theorem grantBank_nil (k : Nat) (s : State) : grantBank k [] [] s = s := by
  rw [grantBank, wideWinner_nil, narrowWinner_nil]

/-- A request that Clamp blocks, alone at its bank, is only recorded. -/
theorem spmAccessGrant_of_blocked {k : Nat} {r : SpmReq} {s : State} (hfree : bankTaken s k = false)
    (hreq : bankReqs s k [r] = [r]) (hbad : spmAllowed s r = false) : spmAccessGrant k [r] [] s = spmBlocked r s := by
  have hrest : [r].filter (spmAllowed s) = [] := by simp [hbad]
  have hblocked : [r].filter (fun r => !spmAllowed s r) = [r] := by simp [hbad]
  rw [spmAccessGrant_of_free hfree, hreq, hrest, hblocked]
  exact grantBank_nil k _

/-- A read, a whole write and the second grant of a partial write take effect (R206). -/
theorem grantNarrow_of_effect {k : Nat} {r : SpmReq} {s : State}
    (h : r.data = none ∨ r.strobes % 256 = 255 ∨ (s.bank k).merge ≠ none) :
    grantNarrow k r s = takeEffect r (takeNarrow k r none s) :=
  if_neg fun ⟨hdata, hpart, hmerge⟩ => h.elim (Option.isSome_iff_ne_none.1 hdata) fun h =>
    h.elim hpart fun h => h (Option.isNone_iff_eq_none.1 hmerge)

/-- A partial write first only opens its merge (R207). -/
theorem grantNarrow_of_opening {k : Nat} {r : SpmReq} {s : State} (hdata : r.data ≠ none) (hpart : r.strobes % 256 ≠ 255)
    (hmerge : (s.bank k).merge = none) : grantNarrow k r s = takeNarrow k r (some r) s :=
  if_pos ⟨Option.isSome_iff_ne_none.2 hdata, hpart, Option.isNone_iff_eq_none.2 hmerge⟩

/-! Completion, write-back and starvation (R205, R208, R210, R211). -/

/-- The access has left the bank. -/
def landFlight (k : Nat) (s : State) : State := { s with spm := { s.spm with flight := s.spm.flight.eraseIdx k } }

/-- An access in flight completes once its latency, with that of a correction, has passed. -/
theorem spmAccessComplete_of_due {k : Nat} {f : SpmFlight} {s : State} (hf : s.spm.flight[k]? = some f)
    (hdue : f.grantAt + (spmLatency f.req.base + (if f.corr then 4 else 0)) * rootPerT ≤ s.now) :
    spmAccessComplete k [] s =
      let t := (landFlight k s).respond (if f.bad then rData else rOkay) (spmData f)
      if f.bad then spmFail f.req t else t := by
  rw [spmAccessComplete, hf]
  exact if_neg (Nat.not_lt.2 hdue)

theorem spmEccWriteback_of_free {k a : Nat} {s : State} (hwb : (s.ecc.wb.find? fun a => bankOf a == k) = some a)
    (hfree : bankFree s k = true) : spmEccWriteback k s = takeBank k (eccFresh [a] s) := by
  rw [spmEccWriteback, hwb]
  exact if_pos hfree

/-- The only waiting request, once it has waited the limit, is told of. -/
theorem spmNarrowStarve_of_single {tid addr port : Nat} {w : SpmWait} {s : State} (hlim : s.rd .spmStarveLim ≠ 0)
    (hwait : s.spm.wait = [w]) (hw : starves s tid addr port w = true) :
    spmNarrowStarve tid addr port s =
      raise .spmNarrowStarve tid (spmArg addr) { s with spm := { s.spm with wait := [{ w with told := true }] } } := by
  have hany : s.spm.wait.any (starves s tid addr port) = true := by simp [hwait, hw]
  refine (if_pos ⟨hlim, hany⟩).trans ?_
  simp [hwait, hw]

/-! Zero-fill, and the DRAM controller's scrub (R212, R248). -/

/-- With no named cluster in use, SPM_INIT starts a zero-fill in each of them. -/
theorem spmInit_of_free {v : Byte} {s : State} (h : ∀ c < 8, bitOf v.toNat c = true → clusterInUse s c = false) (tid : Nat) :
    spmInit tid v s = foldN 8 (fun c t => if bitOf v.toNat c then spmInitStart c t else t) s := by
  have hok : ¬ ((List.range 8).any fun c => bitOf v.toNat c && clusterInUse s c) = true := by
    simpa using h
  refine (if_neg hok).trans (foldN_congr (fun c hc t => if_congr ?_ rfl rfl) s)
  exact and_iff_left_of_imp fun hbit => by rw [h c hc hbit]; rfl

theorem spmInitDone_of_due {c e : Nat} {s : State} (hend : s.spm.initEnd.get none c = some e) (hdue : e ≤ s.now) :
    spmInitDone c s =
      let t := clearCluster c (s.wrBit .spmInit c false)
      gateOn (3 + c) { t with spm := { t.spm with initEnd := t.spm.initEnd.set c none } } := by
  rw [spmInitDone, hend]
  exact if_pos hdue

/-- The scrub goes on to the next block, at the end of the usable ones to the first. -/
def scrubOn (s : State) : State :=
  { s with memc := { s.memc with
      scrubNext := if s.memc.scrubNext + 64 < dramUsable s then s.memc.scrubNext + 64 else 0, scrubAt := s.now } }

theorem memcScrubRead_of_clean {s : State} (hen : s.on .memcScrubEn = true) (htrained : s.memc.trained = true)
    (hclk : s.clockOn 14 = true) (hdue : scrubDue s = true) (hunc : s.memc.scrubNext ∉ s.ecc.unc)
    (hcor : s.memc.scrubNext ∉ s.ecc.cor) : memcScrubRead [] s = scrubOn s :=
  (if_pos ⟨hen, htrained, hclk, hdue⟩).trans ((if_neg hunc).trans (if_neg hcor))

/-- Settles O19, by what a bank's requests are and what its grant finds, and by what each other command waits for. -/
theorem scratchpadBanks : Obligations.ScratchpadBanks := by
  refine ⟨fun dt k reqs x l w s u hu hx hfree hl hall hwin => ?_,
    fun dt k reqs x l r t s u hu hx hfree hl hall hwide hwin heffect ht => ?_,
    fun dt k reqs x l r t s u hu hx hfree hl hall hwide hwin hdata hpart hmerge ht => ?_,
    fun dt k reqs x r s u hu hx hreqs hfree hspm hbank htime hbad => ?_, fun dt k reqs x s u hu hx htaken => ?_,
    fun dt k x f s u hu hx hf hgood hdue => ?_, fun dt k x f s u hu hx hf hbad hdue => ?_, fun dt k a s u hu hwb hfree => ?_,
    fun dt tid addr port w s u hu hlim hwait hw => ?_, fun dt tid v s u hu hidle => ?_, fun dt c e s u hu hend hdue => ?_,
    fun dt s u hu => ?_, fun dt x b s u hu hx hen htrained hclk hdue hb hunc hcor => ?_, fun dt s u hu => ?_⟩
  · subst hx hl
    rw [exec_spmAccessGrant]
    exact after_eq_of hu ((spmAccessGrant_of_allowed hfree hall).trans (grantBank_of_wide hwin))
  · subst hx hl ht
    rw [exec_spmAccessGrant]
    exact after_eq_of hu ((spmAccessGrant_of_allowed hfree hall).trans
      ((grantBank_of_narrow hwide hwin).trans (grantNarrow_of_effect (by rwa [noteWaits_bank]))))
  · subst hx hl ht
    rw [exec_spmAccessGrant]
    exact after_eq_of hu ((spmAccessGrant_of_allowed hfree hall).trans
      ((grantBank_of_narrow hwide hwin).trans (grantNarrow_of_opening hdata hpart (by rwa [noteWaits_bank]))))
  · subst hx hreqs
    have hreq : bankReqs u k [r] = [r] := by simp [bankReqs, hspm, hbank, htime]
    rw [exec_spmAccessGrant]
    exact after_eq_of hu (spmAccessGrant_of_blocked hfree hreq hbad)
  · subst hx
    rw [exec_spmAccessGrant]
    exact after_eq_of hu (spmAccessGrant_of_taken htaken reqs)
  · subst hx
    rw [exec_spmAccessComplete]
    refine after_eq_of hu ((spmAccessComplete_of_due hf hdue).trans ?_)
    rw [hgood]
    rfl
  · subst hx
    rw [exec_spmAccessComplete]
    refine after_eq_of hu ((spmAccessComplete_of_due hf hdue).trans ?_)
    rw [hbad]
    rfl
  · rw [exec_spmEccWriteback]
    exact after_eq_of hu (spmEccWriteback_of_free hwb hfree)
  · rw [exec_spmNarrowStarve]
    exact after_eq_of hu (spmNarrowStarve_of_single hlim hwait hw)
  · rw [exec_spmInit]
    exact after_eq_of hu (spmInit_of_free hidle tid)
  · rw [exec_spmInitDone]
    exact after_eq_of hu (spmInitDone_of_due hend hdue)
  · rw [exec_spmCntClr]
    exact after_eq_of hu rfl
  · subst hx hb
    rw [exec_memcScrubRead]
    exact after_eq_of hu (memcScrubRead_of_clean (State.on_iff.2 hen) htrained hclk hdue hunc hcor)
  · rw [exec_memcCntClr]
    exact after_eq_of hu rfl

end Sys2Proof.Machine
end

section
/-! PROOFS. The family of the camera and sensor streams: the packets of a camera port (R119, R120, R126, R132 to R134), commits and
the applied FIFO (R123 to R125), the sensor command queue (R127 to R130), and the TDM ports (R136, R137). -/

namespace Sys2Proof.Machine

/-! Which streams are enabled (R118). -/

/-- Only a write of STR_EN changes which streams are enabled. -/
theorem strOn_wr {r : RegId} (hlo : r ≠ .strEnLo) (hhi : r ≠ .strEnHi) (s : State) (v i j k : Nat) :
    strOn (s.wr r v i j) k = strOn s k := by
  simp [strOn, State.rdBit, State.rd_wr, hlo.symm, hhi.symm]

/-- A saturating counter is no enable. -/
theorem strOn_bump {r : RegId} (hlo : r ≠ .strEnLo) (hhi : r ≠ .strEnHi) (s : State) (n i j k : Nat) :
    strOn (s.bump r n i j) k = strOn s k :=
  strOn_wr hlo hhi ..

theorem strOn_setCam (s : State) (k : Nat) (c : CamSt) (m : Nat) : strOn (s.setCam k c) m = strOn s m := rfl

/-- The lanes' leaving ULPS enables no stream. -/
theorem strOn_leaveUlps (s : State) (p k : Nat) : strOn (s.wr .csiUlps 0 p) k = strOn s k :=
  strOn_wr (by simp) (by simp) ..

/-! Packets of a camera port (R119, R120). -/

theorem csiCorrected_of_ne {hdr : CamHdr} (h : hdr ≠ .corrected) (k : Nat) (s : State) : csiCorrected k hdr s = s :=
  if_neg h

/-- Counting a corrected header enables no stream. -/
theorem strOn_csiCorrected (k : Nat) (hdr : CamHdr) (s : State) (m : Nat) : strOn (csiCorrected k hdr s) m = strOn s m := by
  have hbump : strOn (s.bump .csiErrCorr 1 (k / 4)) m = strOn s m := strOn_bump (by simp) (by simp) ..
  by_cases h : hdr = .corrected
  · rw [csiCorrected, if_pos h, ← hbump]
    dsimp only
    split
    · exact strOn_setCam ..
    · rfl
  · rw [csiCorrected_of_ne h]

section
variable {p vc : Nat} {h : CamHead} {s : State} (hport : s.on .csiEn p = true ∧ camOn s = true)
include hport

/-- A packet of an enabled stream that is not lost counts a corrected header and is taken. -/
theorem csiPacket_of_taken (hon : strOn s (4 * p + vc) = true) (hhdr : h.hdr ≠ .lost) (extra : Nat) (lost take : State → State) :
    csiPacket p vc h extra lost take s =
      let t := take (csiCorrected (4 * p + vc) h.hdr (s.wr .csiUlps 0 p))
      if h.ulps then t.wr .csiUlps 1 p else t := by
  simp only [csiPacket, if_pos hport, strOn_leaveUlps, hon, if_true, if_neg hhdr, strOn_csiCorrected]

/-- A lost packet of an enabled stream counts as uncorrectable for the port. -/
theorem csiPacket_of_lost (hon : strOn s (4 * p + vc) = true) (hhdr : h.hdr = .lost) (extra : Nat) (lost take : State → State) :
    csiPacket p vc h extra lost take s =
      let t := lost ((s.wr .csiUlps 0 p).bump .csiErrUncorr 1 p)
      if h.ulps then t.wr .csiUlps 1 p else t := by
  simp only [csiPacket, if_pos hport, strOn_leaveUlps, hon, if_true, if_pos hhdr]

/-- Without its stream enabled a good packet is dropped, and so are the short ones before it and what came with it (R120). -/
theorem csiPacket_of_dropped (hoff : strOn s (4 * p + vc) = false) (hhdr : h.hdr = .good) (extra : Nat)
    (lost take : State → State) :
    csiPacket p vc h extra lost take s =
      let t := ((s.wr .csiUlps 0 p).bump .csiErrDrop h.shorts p).bump .csiErrDrop (1 + extra) p
      if h.ulps then t.wr .csiUlps 1 p else t := by
  have hdrop : strOn ((s.wr .csiUlps 0 p).bump .csiErrDrop h.shorts p) (4 * p + vc) = false := by
    rw [strOn_bump (by simp) (by simp), strOn_leaveUlps, hoff]
  have hgood : csiCorrected (4 * p + vc) h.hdr = id := funext (csiCorrected_of_ne (by simp [hhdr]) _)
  have hkept : h.hdr ≠ .lost := by simp [hhdr]
  simp only [csiPacket, if_pos hport, strOn_leaveUlps, hoff, Bool.false_eq_true, if_false, if_neg hkept, hgood, id, hdrop]

end

/-- The port and the virtual channel of stream k (Table STR-1). -/
theorem port_channel (k : Nat) : 4 * (k / 4) + k % 4 = k := Nat.div_add_mod k 4

/-! Lines (R132). -/

/-- Without Line Start numbers a line of the stream's data type takes the next row of its open frame. -/
theorem camLine_of_arrival {k : Nat} {dataType : BitVec 6} {f : CamFrame} {s : State} (hdt : dataType.toNat = s.rd .camDt k)
    (hlnum : s.rd .camLnum k = 0) (hf : (s.cam k).frame = some f) (line : Option Nat) (crcOk : Bool) (l : List Byte) :
    camLine k dataType line crcOk l s = takeLine k f.next crcOk l s := by
  refine (if_neg (not_not_intro hdt)).trans ?_
  simp [hf, State.on_eq_false_of_rd hlnum]

/-- A lost packet of the stream's data type leaves the next row of the open frame missing. -/
theorem camLost_of_frame {k : Nat} {dataType : BitVec 6} {f : CamFrame} {s : State} (hon : strOn s k = true)
    (hdt : dataType.toNat = s.rd .camDt k) (hf : (s.cam k).frame = some f) :
    camLost k dataType s = s.setCam k { s.cam k with frame := some { f with next := f.next + 1 } } := by
  rw [camLost, hf]
  exact if_pos ⟨hon, hdt⟩

/-! Commits (R123, R124). -/

/-- The address that a commit of stream k takes. -/
def commitAddr (s : State) (k : Nat) : Nat := s.rd .camAddrHi k * 2 ^ 32 + s.rd .camAddrLo k

theorem camCommit_of_aligned {k : Nat} {s : State} (halign : commitAddr s k % 128 = 0) (hpend : (s.cam k).pend = none)
    (tid : Nat) (tag : Byte) :
    camCommit tid k tag s =
      ((s.setCam k { s.cam k with pend := some ⟨commitAddr s k, tag.toNat, pclkNext s⟩ }).wr .camPendP 1 k).wr
        .camPendTag tag.toNat k := by
  refine (if_neg (not_not_intro halign)).trans ?_
  rw [hpend]
  rfl

theorem camCommit_of_misaligned {k : Nat} {s : State} (h : commitAddr s k % 128 ≠ 0) (tid : Nat) (tag : Byte) :
    camCommit tid k tag s = raise .strCfgReject tid (0x11C + k * 0x80) s :=
  if_pos h

/-- Settles O13, by what becomes of a packet (R120), and by the alignment of a commit (R124). -/
theorem cameraFrames : Obligations.CameraFrames := by
  refine ⟨fun dt k fnum hd t s u hu hen hclk hhdr hon ht => ?_, fun dt k fnum hd t s u hu hen hclk hhdr hoff ht => ?_,
    fun dt k hd t s u hu hen hclk hhdr hon ht => ?_,
    fun dt p vc dataType line hd crcOk payload f s u hu hen hclk hhdr hulps hon hdt hlnum hf => ?_,
    fun dt p vc dataType line hd crcOk payload f t s u hu hen hclk hhdr hulps hon hdt hf ht => ?_,
    fun dt p vc dataType line hd crcOk payload s u hu hen hclk hhdr hulps hoff => ?_,
    fun dt tid k tag a t s u hu ha halign hpend ht => ?_, fun dt tid k tag s u hu halign => ?_, fun dt k s u hu => ?_⟩
  · subst ht
    rw [← port_channel k] at hon
    rw [exec_camFrameStart]
    refine after_eq_of hu ((csiPacket_of_taken ⟨State.on_iff.2 hen, hclk⟩ hon hhdr 0 _ _).trans ?_)
    rw [port_channel]
  · subst ht
    rw [← port_channel k] at hoff
    rw [exec_camFrameStart]
    exact after_eq_of hu (csiPacket_of_dropped ⟨State.on_iff.2 hen, hclk⟩ hoff hhdr 0 _ _)
  · subst ht
    rw [← port_channel k] at hon
    rw [exec_camFrameEnd]
    refine after_eq_of hu ((csiPacket_of_taken ⟨State.on_iff.2 hen, hclk⟩ hon hhdr 0 _ _).trans ?_)
    rw [port_channel]
  · have hkept : hd.hdr ≠ .lost := by simp [hhdr]
    have hgood : hd.hdr ≠ .corrected := by simp [hhdr]
    rw [exec_camLinePacket]
    refine after_eq_of hu ((csiPacket_of_taken ⟨State.on_iff.2 hen, hclk⟩ hon hkept _ _ _).trans ?_)
    rw [csiCorrected_of_ne hgood, hulps]
    refine camLine_of_arrival (s := u.wr .csiUlps 0 p) ?_ ?_ hf line crcOk payload
    · rw [State.rd_wr_ne _ _ (by simp), hdt]
    · rw [State.rd_wr_ne _ _ (by simp), hlnum]
  · subst ht
    rw [exec_camLinePacket]
    refine after_eq_of hu ((csiPacket_of_lost ⟨State.on_iff.2 hen, hclk⟩ hon hhdr _ _ _).trans ?_)
    rw [hulps]
    refine camLost_of_frame (s := (u.wr .csiUlps 0 p).bump .csiErrUncorr 1 p) ?_ ?_ hf
    · rw [strOn_bump (by simp) (by simp), strOn_leaveUlps, hon]
    · rw [State.rd_bump, if_neg (by simp), State.rd_wr_ne _ _ (by simp), hdt]
  · rw [exec_camLinePacket]
    refine after_eq_of hu ((csiPacket_of_dropped ⟨State.on_iff.2 hen, hclk⟩ hoff hhdr _ _ _).trans ?_)
    rw [hulps]
    rfl
  · subst ha ht
    rw [exec_camCommit]
    exact after_eq_of hu (camCommit_of_aligned halign hpend tid tag)
  · rw [exec_camCommit]
    exact after_eq_of hu (camCommit_of_misaligned halign tid tag)
  · rw [exec_camAppliedPop]
    exact after_eq_of hu rfl

/-! The sensor command queue (R127 to R130). -/

theorem scqEntry_of_room {p : Nat} {s : State} (h : s.rd .scqFree p ≠ 0) (tid : Nat) (v : Word) :
    scqEntry tid p v s =
      showScq p (s.setScq p { s.scq p with acc := (s.scq p).acc ++ [(bitsOf v.toNat 0 16, bitsOf v.toNat 16 16)] }) :=
  if_neg h

theorem scqSubmit_of_room {p : Nat} {s : State} (h : s.rd .scqSets p < 4) (tid : Nat) (epoch : Byte) :
    scqSubmit tid p epoch s =
      showScq p (s.setScq p { s.scq p with
        acc := [], sets := (s.scq p).sets ++ [⟨epoch.toNat, (s.scq p).acc, pclkNext s⟩] }) :=
  if_neg (Nat.not_le.2 h)

theorem scqSubmit_of_full {p : Nat} {s : State} (h : 4 ≤ s.rd .scqSets p) (tid : Nat) (epoch : Byte) :
    scqSubmit tid p epoch s = raise .strCfgReject tid (0x1808 + p * 0x20) s :=
  if_pos h

section
variable {p : Nat} {r : ScqRun} {s : State} (hrun : (s.scq p).run = some r)
include hrun

/-- An acknowledge before the last write of the set sends the next one. -/
theorem scqWriteAck_of_more {w w' : Nat × Nat} {l : List (Nat × Nat)} (hw : r.set.writes = w :: w' :: l) :
    scqWriteAck p s = scqSend p w' (showScq p (s.setScq p { s.scq p with
      run := some { r with set := { r.set with writes := w' :: l }, again := false } })) := by
  simp only [scqWriteAck, hrun, hw]

theorem scqWriteAck_of_last {w : Nat × Nat} (hw : r.set.writes = [w]) : scqWriteAck p s = scqRelease p r s := by
  simp only [scqWriteAck, hrun, hw]

variable {w : Nat × Nat} {l : List (Nat × Nat)} (hw : r.set.writes = w :: l)
include hw

/-- A first negative acknowledge repeats the write. -/
theorem scqWriteNack_of_first (hagain : r.again = false) :
    scqWriteNack p s = scqSend p w (s.setScq p { s.scq p with run := some { r with again := true } }) := by
  simp only [scqWriteNack, hrun, hw]
  exact if_neg (Bool.eq_false_iff.1 hagain)

/-- A second one ends the set and makes the epoch uncertain from the frame in which the set would have taken effect. -/
theorem scqWriteNack_of_second (hagain : r.again = true) :
    scqWriteNack p s = raise .scqNack 3 (p + r.set.epoch * 256) (showScq p ((s.setScq p { s.scq p with
      run := none, unc := (((s.scq p).last + 1 + s.rd .scqD p) % 2 ^ 32, (s.scq p).relNo) :: (s.scq p).unc }).wr
        .scqUncertain 1 p)) := by
  simp only [scqWriteNack, hrun, hw]
  exact if_pos hagain

end

/-! TDM frames (R136). -/

/-- A frame of which only the first slot has its stream enabled checks that slot alone. -/
theorem tdmFrame_of_first_slot {q : Nat} {a : Word} {s t : State} (hend : tdmEnds s q = true) (hon : strOn s (40 + 2 * q) = true)
    (ht : t = tdmChannel q 0 a s) (hoff : strOn t (41 + 2 * q) = false) (b : Word) :
    tdmFrame q a b s = { t with str := { t.str with tdmFrom := t.str.tdmFrom.set q t.now } } := by
  rw [tdmFrame, if_pos hend]
  simp only [if_pos hon, ← ht, hoff, Bool.false_eq_true, if_false]

/-- Settles O14, by the room in the queue, by what is left of the set that runs, and by the enabled slots of the port. -/
theorem sensorQueueAndTdm : Obligations.SensorQueueAndTdm := by
  refine ⟨fun dt tid p v s u hu hfree => ?_, fun dt tid p epoch s u hu hroom => ?_, fun dt tid p epoch s u hu hfull => ?_,
    fun dt p r w w2 l s u hu hrun hw => ?_, fun dt p r w s u hu hrun hw => ?_, fun dt p r w l s u hu hrun hw hagain => ?_,
    fun dt p r w l q s u hu hq hrun hw hagain => ?_, fun dt q a b t s u hu hend hon _ ht hoff => ?_⟩
  · have hlow : bitsOf v.toNat 0 16 = v.toNat % 65536 := by simp [bitsOf]
    rw [exec_scqEntry, ← hlow]
    exact after_eq_of hu (scqEntry_of_room hfree tid v)
  · rw [exec_scqSubmit]
    exact after_eq_of hu (scqSubmit_of_room hroom tid epoch)
  · rw [exec_scqSubmit]
    exact after_eq_of hu (scqSubmit_of_full hfull tid epoch)
  · rw [exec_scqWriteAck]
    exact after_eq_of hu (scqWriteAck_of_more hrun hw)
  · rw [exec_scqWriteAck]
    exact after_eq_of hu (scqWriteAck_of_last hrun hw)
  · rw [exec_scqWriteNack]
    exact after_eq_of hu (scqWriteNack_of_first hrun hw hagain)
  · subst hq
    rw [exec_scqWriteNack]
    exact after_eq_of hu (scqWriteNack_of_second hrun hw hagain)
  · rw [exec_tdmFrame]
    exact after_eq_of hu (tdmFrame_of_first_slot hend hon ht hoff b)

end Sys2Proof.Machine
end

section
/-! PROOFS. The family of Yarrow and the preprocessing units: the dictionary load (R143), submission and start of jobs (R147, R152,
R281, R454), what a job makes and writes (R138, R148, R153, R154), and the feed position (R150). -/

namespace Sys2Proof.Machine

/-! The dictionary (R143). -/

/-- Unit n takes the entries `l`, `k` by count, with digest `d`. -/
def takeDict (n : Nat) (l : List DictEnt) (k d : Nat) (s : State) : State :=
  ((((s.setYar n { s.yar n with dict := l }).wr .yarDictValid 1 n).wr .yarDictN k n).wr .yarDictDigLo d n).wr .yarDictDigHi
    (d / 2 ^ 32) n

section
variable {n : Nat} {s : State} (hempty : s.rd .yarQTail n = s.rd .yarQHead n)
include hempty

theorem yarDictLoad_of_valid {img : List Byte} {t : State} {l : List DictEnt} {k d : Nat}
    (himg : dictImage (dictAddr s n) s = (img, t)) (hcheck : dictCheck (t.on .yarFold n) img = .inr (l, k, d)) (tid : Nat) :
    yarDictLoad tid n s = takeDict n l k d t := by
  rw [yarDictLoad, if_neg (not_not_intro hempty), himg]
  simp only [hcheck, takeDict]

theorem yarDictLoad_of_offence {img : List Byte} {t : State} {k : Nat} (himg : dictImage (dictAddr s n) s = (img, t))
    (hcheck : dictCheck (t.on .yarFold n) img = .inl k) (tid : Nat) :
    yarDictLoad tid n s = raise .yarDictReject tid k t := by
  rw [yarDictLoad, if_neg (not_not_intro hempty), himg]
  simp only [hcheck]

end

/-! Submission and start (R147, R152, R281, R454). -/

/-- Unit n takes a tail index, and the descriptors up to it as jobs. -/
def takeTail (n v : Nat) (s : State) : State :=
  showQbytes n (addJobs (newJobs n (s.rd .yarQTail n) v) (s.wr .yarQTail v n))

/-- A tail that the ring rule allows is taken, by whoever writes it; the runtime may send jobs to the host beside it. -/
theorem yarQSubmit_of_ringOk {n v : Nat} {s : State} (h : ringOk 32 (s.rd .yarQHead n) (s.rd .yarQTail n) v = true) (tid : Nat)
    (host : List Nat) :
    yarQSubmit tid n v host s = if tid = 1 then hostSubmit host (takeTail n v s) else takeTail n v s := by
  simp only [yarQSubmit, if_pos h, takeTail]

/-- Another tail is discarded; only the runtime sends jobs to the host. -/
theorem yarQSubmit_of_not_ringOk {n v tid : Nat} {s : State} (h : ringOk 32 (s.rd .yarQHead n) (s.rd .yarQTail n) v = false)
    (htid : tid ≠ 1) (host : List Nat) : yarQSubmit tid n v host s = yarReject tid (yarOff n + 0x24) s := by
  simp only [yarQSubmit, if_neg (Bool.eq_false_iff.1 h), if_neg htid]

theorem yarJobStart_of_ready {n : Nat} {s : State} (hen : s.rd .yarEn n = 1) (hclk : s.clockOn 11 = true)
    (hidle : (s.yar n).run = false) (hqueued : s.rd .yarQHead n ≠ s.rd .yarQTail n) (hshare : startAllowed s (32 + n) = true) :
    yarJobStart n s = showQbytes n (s.setYar n { s.yar n with run := true, startAt := s.now }) :=
  if_pos ⟨State.on_iff.2 hen, hclk, by rw [hidle]; rfl, hqueued, hshare⟩

theorem ppuQSubmit_of_ringOk {v t : Nat} {s : State} (h : ringOk 32 (s.rd .ppuQHead v) (s.rd .ppuQTail v) t = true) (tid : Nat) :
    ppuQSubmit tid v t s = s.wr .ppuQTail t v :=
  if_pos h

section
variable {v : Nat} {j : PpuJob} {s : State} (hclk : s.clockOn 11 = true) (hidle : s.ppuRun v = none) (hok : ppuJobOk j = true)
  (hshare : startAllowed s (ppuEngine v) = true)
include hclk hidle hok hshare

/-- An idle unit starts the job of a stream with TID 3 (R138). -/
theorem ppuJobStart_of_stream : ppuJobStart v true j s = s.setPpu v (some ⟨false, { j with tid := 3 }, s.now⟩) :=
  if_pos ⟨hclk, by rw [hidle]; rfl, hok, hshare⟩

/-- An idle unit starts the queued job at the head of its ring with the TID of its descriptor (R138). -/
theorem ppuJobStart_of_queued (hqueued : s.rd .ppuQHead v ≠ s.rd .ppuQTail v) {d : List Byte} {t : State}
    (hread : ringRead (ppuDesc s v) 64 s = (d, t)) :
    ppuJobStart v false j s = t.setPpu v (some ⟨true, { j with tid := fieldAt d 48 2 % 1024 }, t.now⟩) := by
  have hready : s.clockOn 11 = true ∧ (s.ppuRun v).isNone = true ∧ ppuJobOk j = true ∧ startAllowed s (ppuEngine v) = true :=
    ⟨hclk, by rw [hidle]; rfl, hok, hshare⟩
  rw [ppuJobStart, if_pos hready, if_neg Bool.false_ne_true, if_neg hqueued, hread]

end

/-! What a Yarrow job makes of its text (R138, R144 to R148). `d` is its descriptor, `s` the state after the read of it. -/

/-- The read of the text. -/
def yarText (n : Nat) (d : List Byte) (s : State) : XOut :=
  xRead (32 + n) (fieldAt d 48 2 % 1024) (fieldAt d 0 8 % 2 ^ 48) (fieldAt d 8 4) s

/-- The blocks of the text, a last one without its LF among them. -/
def yarBlocks (n : Nat) (d : List Byte) (s : State) : List Blk :=
  tokenize ((yarText n d s).s.on .yarFold n) (s.yar n).dict ((yarText n d s).data.map BitVec.toNat)

/-- The blocks that the job may take: a job that is not FINAL leaves one without its LF. -/
def yarWhole (n : Nat) (d : List Byte) (s : State) : List Blk :=
  if bitOf (fieldAt d 50 1) 0 then yarBlocks n d s else (yarBlocks n d s).filter Blk.lf

/-- The blocks that the job's capacities hold, and whether one did not fit. -/
def yarTaken (n : Nat) (d : List Byte) (s : State) : List Blk × Bool :=
  takeBlocks (fieldAt d 24 4) (fieldAt d 36 4) (yarWhole n d s) 0 0

/-- The block table: of each block its first token and its first byte. -/
def blockTable (bs : List Blk) : List Byte :=
  (bs.foldl (fun (x : Nat × List Byte) b => (x.1 + b.toks.length, x.2 ++ leBytes 4 x.1 ++ leBytes 4 b.start)) (0, [])).2

/-- The write of the token records. -/
def yarTokens (n : Nat) (d : List Byte) (s : State) : XOut :=
  xWrite (32 + n) (fieldAt d 48 2 % 1024) (fieldAt d 16 8 % 2 ^ 48) ((yarTaken n d s).1.flatMap fun b => b.toks.flatMap Tok.bytes)
    (yarText n d s).s

/-- The write of the block table. -/
def yarTable (n : Nat) (d : List Byte) (s : State) : XOut :=
  xWrite (32 + n) (fieldAt d 48 2 % 1024) (fieldAt d 28 8 % 2 ^ 48) (blockTable (yarTaken n d s).1) (yarTokens n d s).s

/-- What the job has made. -/
def yarMade (n : Nat) (d : List Byte) (s : State) : YarMade :=
  ⟨fieldAt d 48 2 % 1024, fieldAt d 12 4, (yarTaken n d s).1, (yarTaken n d s).2,
    decide ((yarWhole n d s).length < (yarBlocks n d s).length)⟩

section
variable {n a : Nat} {d : List Byte} {s t : State} (hread : ringRead a 64 s = (d, t))
include hread

/-- A unit without a valid dictionary does no job's work (R147). -/
theorem yarWork_of_no_dict (h : t.rd .yarDictValid n = 0) : yarWork n a s = (.mismatch, t) := by
  rw [yarWork, hread]
  exact if_pos (.inl (by rw [State.on_eq_false_of_rd h]; rfl))

/-- A job for the loaded dictionary whose accesses all succeed has made its blocks. -/
theorem yarWork_of_written (hvalid : t.rd .yarDictValid n = 1)
    (hdigest : fieldAt d 40 8 = t.rd .yarDictDigHi n * 2 ^ 32 + t.rd .yarDictDigLo n) (htext : (yarText n d t).fault = none)
    (htokens : (yarTokens n d t).fault = none) (htable : (yarTable n d t).fault = none) :
    yarWork n a s = (.made (yarMade n d t), (yarTable n d t).s) := by
  have hdict : ¬ ((!t.on .yarDictValid n) = true ∨
      fieldAt d 40 8 ≠ t.rd .yarDictDigHi n * 2 ^ 32 + t.rd .yarDictDigLo n) := by
    simp [State.on_iff.2 hvalid, hdigest]
  simp only [yarTable, yarTokens, yarTaken, yarWhole, yarBlocks, yarText, blockTable] at htext htokens htable
  simp only [yarWork, hread, if_neg hdict, htext, htokens, htable]
  rfl

end

/-! The end of a Yarrow job (R147, R153). -/

section
variable {n : Nat} {s t : State} (hrun : (s.yar n).run = true) (hstall : s.mmu.stall.get none (32 + n) = none)
include hrun hstall

/-- A running unit that no fault stalls works on the descriptor at its head. -/
theorem unit_works : ¬ ((!(s.yar n).run) = true ∨ (s.mmu.stall.get none (32 + n)).isSome = true) := by
  simp [hrun, hstall]

theorem yarUnitDone_of_made {m : YarMade} (h : yarWork n (yarRing s n + s.rd .yarQHead n * 64) s = (.made m, t)) :
    yarUnitDone n s = yarFinish n m t := by
  rw [yarUnitDone, if_neg (unit_works hrun hstall), h]

theorem yarUnitDone_of_mismatch (h : yarWork n (yarRing s n + s.rd .yarQHead n * 64) s = (.mismatch, t)) :
    yarUnitDone n s = yarEnd n 3 0 0 0 0 t := by
  rw [yarUnitDone, if_neg (unit_works hrun hstall), h]

end

/-- A job on the host counts and writes back as on the unit. -/
theorem yarHostDone_of_made {n a : Nat} {m : YarMade} {s t : State}
    (hjob : (s.comp.look.jobs.any fun j => j.unit == 2 && j.key == a && j.ran.isNone) = true)
    (h : yarWork n a s = (.made m, t)) :
    yarHostDone n a s = jobRan 2 a m.blk0 (m.blk0 + m.bs.length)
      ((yarBack a m.status m.consumed m.toks.length m.bs.length (yarCount n m t)).setOb .hostJobs (s.ob .hostJobs + 1)) := by
  rw [yarHostDone, if_pos hjob, h]

/-! What a PPU job makes of its tensor (R154). -/

/-- The read of the elements. -/
def ppuSource (v : Nat) (j : PpuJob) (s : State) : XOut :=
  xRead (ppuEngine v) j.tid j.src (packedLen j.fmt (j.w * j.h * j.ch)) s

/-- The read of the exponents or scales of a block format. -/
def ppuSourceScales (v : Nat) (j : PpuJob) (s : State) : XOut :=
  xRead (ppuEngine v) j.tid j.srcScale (if blockLen j.fmt = 0 then 0 else ceilDiv (j.w * j.h * j.ch) (blockLen j.fmt))
    (ppuSource v j s).s

/-- The tensor after the chain of operations. -/
def ppuResult (v : Nat) (j : PpuJob) (s : State) : PpuTen :=
  j.ops.foldl (ppuStep fun k => s.rd .strWidx (k - 16))
    ⟨j.fmt, j.w, j.h, j.ch, (decodeElts j.fmt (ppuSource v j s).data (ppuSourceScales v j s).data (j.w * j.h * j.ch)).map some⟩

/-- The write of the result. -/
def ppuStore (v : Nat) (j : PpuJob) (s : State) : XOut :=
  xWrite (ppuEngine v) j.tid j.dst (ppuBytes (ppuResult v j s)).1 (ppuSourceScales v j s).s

/-- The write of its exponents or scales. -/
def ppuStoreScales (v : Nat) (j : PpuJob) (s : State) : XOut :=
  xWrite (ppuEngine v) j.tid j.dstScale (ppuBytes (ppuResult v j s)).2 (ppuStore v j s).s

/-- The job ends with STATUS 1; elements that it could not produce are counted, and raise their event. -/
def ppuFinish (v : Nat) (r : PpuRun) (elts : List (Option Fl)) (s : State) : State :=
  let bad := (elts.filter Option.isNone).length
  let t := ppuEnd v 1 r (s.bump .ppuCntErr bad v)
  if 0 < bad then raise .ppuElemError r.job.tid v t else t

/-- A job whose accesses all succeed finishes with its result written. -/
theorem ppuJobDone_of_written {v : Nat} {r : PpuRun} {s : State} (hrun : s.ppuRun v = some r)
    (hstall : s.mmu.stall.get none (ppuEngine v) = none) (hsrc : (ppuSource v r.job s).fault = none)
    (hscales : (ppuSourceScales v r.job s).fault = none) (hdst : (ppuStore v r.job s).fault = none)
    (hdscales : (ppuStoreScales v r.job s).fault = none) :
    ppuJobDone v s = ppuFinish v r (ppuResult v r.job s).elts (ppuStoreScales v r.job s).s := by
  have hfree : ¬ (s.mmu.stall.get none (ppuEngine v)).isSome = true := by simp [hstall]
  simp only [ppuStoreScales, ppuStore, ppuResult, ppuSourceScales, ppuSource] at hsrc hscales hdst hdscales
  simp only [ppuJobDone, hrun, if_neg hfree, hsrc, hscales, hdst, hdscales]
  rfl

/-! The feed position (R150). -/

/-- The feed begins at IPOS, which was written now. -/
def moveFeed (v progEnd : Nat) (s : State) : State :=
  { s.setOb .ipos v with comp := { s.comp with
      look := { s.comp.look with start := v, progEnd := progEnd, sec := s.clk.sec, ns := s.clk.ns } } }

/-- Results of the jobs submitted so far count no more. -/
def dropJobs (s : State) : State :=
  { s with comp := { s.comp with look := { s.comp.look with jobs := s.comp.look.jobs.map fun j => { j with kept := false } } } }

theorem iposWrite_of_fed {v : Nat} {s : State} (hlo : s.comp.look.start ≤ v) (hhi : v < s.ob .tokEnd) (progEnd : Nat) :
    iposWrite v progEnd s = showWindow (moveFeed v progEnd s) :=
  if_pos ⟨hlo, hhi⟩

/-- IPOS past the fed range restarts the feed. -/
theorem iposWrite_of_past {v : Nat} {s : State} (h : s.ob .tokEnd ≤ v) (progEnd : Nat) :
    iposWrite v progEnd s =
      showWindow (raise .yarLaResync 1 (v % 65536) ((dropJobs (moveFeed v progEnd s)).setOb .tokEnd v)) :=
  if_neg fun ⟨_, hhi⟩ => Nat.not_le.2 hhi h

/-- Settles O15, by what the image, the ring and each access of a job give, and by whether IPOS lies in the fed range. -/
theorem yarrowAndPpuJobs : Obligations.YarrowAndPpuJobs := by
  refine ⟨fun dt tid n x l k d s u hu hempty hx hcheck => ?_, fun dt tid n x k s u hu hempty hx hcheck => ?_,
    fun dt tid n v host t s u hu hring ht => ?_, fun dt tid n v host s u hu hring htid => ?_,
    fun dt n s u hu hen hclk hidle hqueued hshare => ?_,
    fun dt n x tid r w w2 all whole b s u hu hrun hstall hx htid hvalid hdigest hr hrok hall hwhole hb hw hwok hw2 hw2ok => ?_,
    fun dt n x s u hu hrun hstall hx hvalid => ?_, fun dt n a m t s u hu hjob hwork => ?_, fun dt tid v t s u hu hring => ?_,
    fun dt v stream job s u hu hclk hidle hok hshare hstream => ?_,
    fun dt v stream job x s u hu hclk hidle hok hshare hstream hqueued hx => ?_,
    fun dt v r x sc t w w2 s u hu hrun hstall hx hxok hsc hscok ht hw hwok hw2 hw2ok => ?_,
    fun dt v progEnd t s u hu ht hlo hhi => ?_, fun dt v progEnd t s u hu ht hpast => ?_⟩
  · rw [exec_yarDictLoad]
    exact after_eq_of hu (yarDictLoad_of_valid hempty hx.symm hcheck tid)
  · rw [exec_yarDictLoad]
    exact after_eq_of hu (yarDictLoad_of_offence hempty hx.symm hcheck tid)
  · subst ht
    rw [exec_yarQSubmit]
    exact after_eq_of hu (yarQSubmit_of_ringOk hring tid host)
  · rw [exec_yarQSubmit]
    exact after_eq_of hu (yarQSubmit_of_not_ringOk hring htid host)
  · rw [exec_yarJobStart]
    exact after_eq_of hu (yarJobStart_of_ready hen hclk hidle hqueued hshare)
  · subst htid hr hall hwhole hb hw hw2
    rw [exec_yarJobDone]
    exact after_eq_of hu (yarUnitDone_of_made hrun hstall (yarWork_of_written hx.symm hvalid hdigest hrok hwok hw2ok))
  · rw [exec_yarJobDone]
    exact after_eq_of hu (yarUnitDone_of_mismatch hrun hstall (yarWork_of_no_dict hx.symm hvalid))
  · rw [exec_yarJobDone]
    exact after_eq_of hu (yarHostDone_of_made hjob hwork)
  · rw [exec_ppuQSubmit]
    exact after_eq_of hu (ppuQSubmit_of_ringOk hring tid)
  · subst hstream
    rw [exec_ppuJobStart]
    exact after_eq_of hu (ppuJobStart_of_stream hclk hidle hok hshare)
  · subst hstream
    rw [exec_ppuJobStart]
    exact after_eq_of hu (ppuJobStart_of_queued hclk hidle hok hshare hqueued hx.symm)
  · subst hx hsc ht hw hw2
    rw [exec_ppuJobDone]
    exact after_eq_of hu (ppuJobDone_of_written hrun hstall hxok hscok hwok hw2ok)
  · subst ht
    rw [exec_iposWrite]
    exact after_eq_of hu (iposWrite_of_fed hlo hhi progEnd)
  · subst ht
    rw [exec_iposWrite]
    exact after_eq_of hu (iposWrite_of_past hpast progEnd)

end Sys2Proof.Machine
end

section
/-! PROOFS. The tensor cores' family: what memory reads after a write (R155, R297), the array operation (R157 to R162), the vector
unit (R168), and the restart and the seed of a core (R171, R172). -/

namespace Sys2Proof.Machine

/-! The bytes of a number. -/

@[simp] theorem length_leBytes (n v : Nat) : (leBytes n v).length = n := by
  induction n generalizing v with
  | zero => rfl
  | succ n ih => rw [leBytes, List.length_cons, ih]

/-- Bytes spell the number that they were made of, cut to their count: the first byte is its rest by 256, the others spell its
quotient. -/
theorem leNat_leBytes (n v : Nat) : leNat (leBytes n v) = v % 256 ^ n := by
  induction n generalizing v with
  | zero => rw [pow_zero, Nat.mod_one]; rfl
  | succ n ih =>
    have hsplit : v % 256 ^ (n + 1) = v % 256 + 256 * (v / 256 % 256 ^ n) := by rw [pow_succ', Nat.mod_mul]
    rw [leBytes, leNat, ih, hsplit, BitVec.toNat_ofNat]

/-! A run of bytes in memory. -/

theorem State.rdBytes_wrBytes_same (s : State) (a : Nat) (l : List Byte) : (s.wrBytes a l).rdBytes a l.length = l := by
  refine List.ext_getElem (by simp [State.rdBytes]) fun k _ hk => ?_
  have hread : (s.wrBytes a l).rd8 (a + k) = l[k] := by simp [s.rd8_wrBytes, hk]
  simpa [State.rdBytes] using hread

/-- A read does not see the bytes written beside it. -/
theorem State.rdBytes_wrBytes_disjoint (s : State) {a n b : Nat} {l : List Byte} (h : b + l.length ≤ a ∨ a + n ≤ b) :
    (s.wrBytes b l).rdBytes a n = s.rdBytes a n := by
  refine List.map_congr_left fun k hk => s.rd8_wrBytes_out b l (a + k) ?_
  have hlt : k < n := List.mem_range.1 hk
  omega

/-! A number in memory. -/

theorem State.rdMem_wrMem_same (s : State) (a n v : Nat) : (s.wrMem a n v).rdMem a n = v % 256 ^ n := by
  have hbytes : (s.wrMem a n v).rdBytes a n = leBytes n v := by
    simpa [State.wrMem] using s.rdBytes_wrBytes_same a (leBytes n v)
  rw [State.rdMem, hbytes, leNat_leBytes]

theorem State.rdMem_wrMem_disjoint (s : State) {a n b m : Nat} (h : b + m ≤ a ∨ a + n ≤ b) (w : Nat) :
    (s.wrMem b m w).rdMem a n = s.rdMem a n := by
  rw [State.rdMem, State.wrMem, s.rdBytes_wrBytes_disjoint (by rwa [length_leBytes]), State.rdMem]

/-- Settles O60, by the bytes of the number and by the bytes beside them. -/
theorem memoryReadBack : Obligations.MemoryReadBack :=
  ⟨fun s a n v => s.rdMem_wrMem_same a n v,
    fun s a n v _ _ w h => ((s.wrMem a n v).rdMem_wrMem_disjoint h w).trans (s.rdMem_wrMem_same a n v)⟩

/-! The array operation (R157 to R162). -/

section
variable {c : Nat} {s : State} (hwork : coreWorks s c = true)
include hwork

theorem core_works : ¬ (!coreWorks s c) = true := by simp [hwork]

/-- An invalid descriptor stops the core with cause 4 (R159). -/
theorem tenArrayOp_of_invalid {desc : List Byte} (h : arrValid s c (arrDesc desc) = false) (pc wait : Nat) :
    tenArrayOp c pc desc wait s = stopCore c 4 pc s := by
  simp only [tenArrayOp, if_neg (core_works hwork), h, Bool.not_false, if_true]

/-- An operation that neither accumulates nor writes starts from 0 and finishes with what its two reads of rows give. -/
theorem tenArrayOp_of_rows {desc : List Byte} {d : ArrDesc} {as bs : List (List Byte × List Byte)} {t t2 : State}
    (hd : d = arrDesc desc) (hvalid : arrValid s c d = true) (hacc : d.acc = false) (hwr : d.wr = false)
    (ha : readRows c (s.rd .tcTid c) d.fa d.k d.astr d.aaddr d.saaddr d.m 0 [] s = (.ok as, t))
    (hb : readRows c (s.rd .tcTid c) d.fb d.k d.bstr d.baddr d.sbaddr d.n 0 [] t = (.ok bs, t2)) (pc wait : Nat) :
    tenArrayOp c pc desc wait s = arrFinish c pc wait d [] (arrAcc d (fun _ => 0) as bs) t2 := by
  have hok : ¬ (!arrValid s c d) = true := by simp [hvalid]
  have hrecords : ¬ (d.wr = true ∧ d.qaddr ≠ 0) := by simp [hwr]
  rw [tenArrayOp, if_neg (core_works hwork), ← hd]
  simp only [if_neg hok, ha, hb, if_neg hrecords, hacc, Bool.false_eq_true, if_false]

/-! The vector unit (R168). -/

/-- An instruction of Table TEN-6 stops the core with its cause. -/
theorem tenVectorOp_of_stop {op : VecOp} {cause : Nat} (h : vecStop op = some cause) (pc : Nat) (sr : Bool) (a b e : List Nat) :
    tenVectorOp c pc op sr a b e s = stopCore c cause pc s := by
  rw [tenVectorOp, if_neg (core_works hwork), h]

end

/-- What an instruction makes of its 64 lanes, with the generator values `rs` and the free value `k`. -/
def vecOut (op : VecOp) (rs : List (Option Nat)) (a b e : List Nat) (k : Nat) : List (Nat × NumFlags) × List Nat :=
  match op with
  | .convert src dst => vecConvert src dst rs a e
  | _ => ((List.range 64).map fun i =>
      vecLane op (rs.getD i none) (a.getD i 0) (b.getD i 0) (e.getD i 0) (Config.freeAt k i).toNat, [])

/-- The core holds the lanes and scales, is busy for the instruction's time, and flags the lanes' conditions. -/
def leaveLanes (c pc : Nat) (op : VecOp) (out : List (Nat × NumFlags) × List Nat) (s : State) : State :=
  (flagAll c pc (out.1.map Prod.snd) 0 (s.setCore c { s.core c with
    lanes := out.1.map Prod.fst, scales := out.2, busyTo := max (s.core c).busyTo (s.now + vecTime op * rootPerT) })).2

/-- An instruction without lanes of a block format works lane by lane. -/
theorem vecOut_of_not_convert {op : VecOp} (h : ∀ src dst, op ≠ .convert src dst) (rs : List (Option Nat)) (a b e : List Nat)
    (k : Nat) : vecOut op rs a b e k = ((List.range 64).map fun i =>
      vecLane op (rs.getD i none) (a.getD i 0) (b.getD i 0) (e.getD i 0) (Config.freeAt k i).toNat, []) := by
  unfold vecOut
  split
  · exact absurd rfl (h _ _)
  · rfl

/-- An instruction that does not stop the core draws its generator values and one free value, and leaves its lanes. -/
theorem tenVectorOp_of_no_stop {c : Nat} {s : State} {op : VecOp} (hwork : coreWorks s c = true) (hstop : vecStop op = none)
    (pc : Nat) (sr : Bool) (a b e : List Nat) :
    tenVectorOp c pc op sr a b e s =
      leaveLanes c pc op (vecOut op (srDraw c 64 sr s).1 a b e (srDraw c 64 sr s).2.freeCtr)
        { (srDraw c 64 sr s).2 with freeCtr := (srDraw c 64 sr s).2.freeCtr + 1 } := by
  rw [tenVectorOp, if_neg (core_works hwork), hstop]
  rfl

/-- A conversion between formats of Table TEN-1 does not stop the core. -/
theorem vecStop_convert {src dst : Nat} (hsrc : src < 16) (hdst : dst < 16) : vecStop (.convert src dst) = none := by
  simp [vecStop, hsrc, hdst]

/-! Restart and seed (R171, R172). -/

theorem tcRestart_of_stopped {c : Nat} {s : State} (h : s.rd .tcState c = 3) :
    tcRestart c s = ({ s with sch := { s.sch with idle := s.sch.idle.set c s.now } }.wr .tcState 0 c).wr .tcTid 0 c :=
  if_pos h

/-- With no work in flight a seed is loaded at its write, and an earlier one waits no more. -/
theorem tcSrSeedWrite_of_free {c : Nat} {s : State} (h : (s.core c).busyTo ≤ s.now) (v : Nat) :
    tcSrSeedWrite c v s = (s.wr .tcSrSeed (if v = 0 then 1 else v) c).setCore c { s.core c with seed := none } :=
  if_pos h

/-- A seed waits for the work in flight at its write. -/
theorem tcSrSeedWrite_of_busy {c : Nat} {s : State} (h : s.now < (s.core c).busyTo) (v : Nat) :
    tcSrSeedWrite c v s = s.setCore c { s.core c with seed := some (if v = 0 then 1 else v, (s.core c).busyTo) } :=
  if_neg (Nat.not_le.2 h)

theorem tcSrSeedLoad_of_due {c : Nat} {s : State} {x : Nat × Nat} (hseed : (s.core c).seed = some x) (hdue : x.2 ≤ s.now) :
    tcSrSeedLoad c s = (s.wr .tcSrSeed x.1 c).setCore c { s.core c with seed := none } := by
  simp only [tcSrSeedLoad, hseed, if_pos hdue]

/-- Settles O16, by the validity of a descriptor, by what an instruction does to its core, and by the work in flight at a seed's
write. -/
theorem tensorCommands : Obligations.TensorCommands := by
  refine ⟨fun dt c pc desc wait d as bs t t2 s u hu hwork hd hvalid hacc hwr ha hb => ?_,
    fun dt c pc desc wait s u hu hwork hvalid => ?_,
    fun dt c pc op sr a b e x out t s u hu hwork hstop hconv hx hout ht => ?_,
    fun dt c pc op sr a b e src dst x out t s u hu hwork hop hsrc hdst hx hout ht => ?_,
    fun dt c pc op sr a b e cause s u hu hwork hstop => ?_, fun dt c s u hu hstopped => ?_,
    fun dt c v s u hu hfree => ?_, fun dt c v s u hu hbusy => ?_, fun dt c x s u hu hseed hdue => ?_⟩
  · rw [exec_tenArrayOp]
    exact after_eq_of hu (tenArrayOp_of_rows hwork hd hvalid hacc hwr ha hb ..)
  · rw [exec_tenArrayOp]
    exact after_eq_of hu (tenArrayOp_of_invalid hwork hvalid ..)
  · have hlanes : ∀ src dst, op ≠ .convert src dst := by
      rintro src dst rfl
      cases hconv
    subst hx hout ht
    rw [exec_tenVectorOp]
    refine after_eq_of hu ((tenVectorOp_of_no_stop hwork hstop ..).trans ?_)
    rw [vecOut_of_not_convert hlanes]
    rfl
  · subst hop hx hout ht
    rw [exec_tenVectorOp]
    exact after_eq_of hu (tenVectorOp_of_no_stop hwork (vecStop_convert hsrc hdst) ..)
  · rw [exec_tenVectorOp]
    exact after_eq_of hu (tenVectorOp_of_stop hwork hstop ..)
  · rw [exec_tcRestart]
    exact after_eq_of hu (tcRestart_of_stopped hstopped)
  · rw [exec_tcSrSeedWrite]
    exact after_eq_of hu (tcSrSeedWrite_of_free hfree v.toNat)
  · rw [exec_tcSrSeedWrite]
    exact after_eq_of hu (tcSrSeedWrite_of_busy hbusy v.toNat)
  · rw [exec_tcSrSeedLoad]
    exact after_eq_of hu (tcSrSeedLoad_of_due hseed hdue)

end Sys2Proof.Machine
end

section
/-! PROOFS. The family of the convolution engines: the submission of jobs (R174, R281), the start of a job (R173, R178), and its end
as a valid, an invalid or a stopped one (R178, R183 to R185). -/

namespace Sys2Proof.Machine

/-! Submission (R174, R281). -/

theorem cnvQSubmit_of_ringOk {c v : Nat} {s : State} (h : ringOk 16 (s.rd .cnvQHead c) (s.rd .cnvQTail c) v = true) (tid : Nat) :
    cnvQSubmit tid c v s = s.wr .cnvQTail v c :=
  if_pos h

theorem cnvQSubmit_of_not_ringOk {c v : Nat} {s : State} (h : ringOk 16 (s.rd .cnvQHead c) (s.rd .cnvQTail c) v = false)
    (tid : Nat) : cnvQSubmit tid c v s = cnvInvalid tid c 6 v s :=
  if_neg (ne_true_of_eq_false h)

/-! Start (R173, R178). -/

/-- An enabled engine whose cluster is clocked, that runs no job and whose ring holds one. -/
def CnvReady (s : State) (c : Nat) : Prop :=
  s.rd .cnvEn c = 1 ∧ s.clockOn (3 + c) = true ∧ s.rd .cnvBusy c = 0 ∧ s.rd .cnvQHead c ≠ s.rd .cnvQTail c

section
variable {c : Nat} {s : State} (hready : CnvReady s c)
include hready

theorem cnvJobStart_takes : s.on .cnvEn c ∧ s.clockOn (3 + c) ∧ !(s.on .cnvBusy c) ∧ s.rd .cnvQHead c ≠ s.rd .cnvQTail c := by
  obtain ⟨hen, hclk, hidle, hring⟩ := hready
  exact ⟨State.on_iff.2 hen, hclk, by rw [State.on_eq_false_of_rd hidle]; rfl, hring⟩

theorem cnvJobStart_of_read {raw : List Byte} {t : State} (h : cnvFetch c s = (.ok raw, t)) :
    cnvJobStart c s = cnvBegin c raw none t := by
  rw [cnvJobStart, if_pos (cnvJobStart_takes hready), h]

/-- A slot that cannot be read begins as a job that the failed access has stopped. -/
theorem cnvJobStart_of_failed {e : LocFail} {t : State} (h : cnvFetch c s = (.error e, t)) :
    cnvJobStart c s = cnvBegin c (cnvPeek t c (cnvSlot t c (t.rd .cnvQHead c))) (some 1) t := by
  rw [cnvJobStart, if_pos (cnvJobStart_takes hready), h]

end

/-! End (R178, R182 to R185). -/

/-- A job without KEEP whose STATUS and T are written leaves no line buffer. A job that asked to continue and did not is a reload, and is
counted (R183). -/
theorem cnvComplete_of_written {c n : Nat} {j : CnvJob} {s t : State} (hkeep : j.hdr.keep = false)
    (h : cnvStatus c j.hdr.tid (if j.hdr.cont = true ∧ (s.cnv c).cont = false then 2 else 1) n s = (none, t)) :
    cnvComplete c n j s =
      cnvEnd c n 1 (dropLb c (if j.hdr.cont = true ∧ (s.cnv c).cont = false then t.bump .cnvCntReload 1 c else t)) := by
  simp only [cnvComplete, Bool.and_eq_true, Bool.not_eq_true', h, hkeep, Bool.false_eq_true, if_false]

section
variable {c : Nat} {raw : List Byte} {s : State} (hjob : (s.cnv c).job = some raw)
include hjob

theorem cnvJobDone_of_stopped {e : Nat} (hstop : (s.cnv c).stop = some e) (wait : Nat) :
    cnvJobDone c wait s = cnvStopped c (cnvJob raw).hdr.tid s := by
  simp only [cnvJobDone, hjob, hstop, Option.isSome_some, if_true]

theorem cnvJobDone_of_invalid (hstop : (s.cnv c).stop = none) (hcause : cnvCause s c (s.rd .cnvQHead c) raw ≠ 0) (wait : Nat) :
    cnvJobDone c wait s = cnvRefused c (cnvJob raw).hdr.tid (cnvCause s c (s.rd .cnvQHead c) raw) s := by
  simp only [cnvJobDone, hjob, hstop, Option.isSome_none, Bool.false_eq_true, if_false, if_pos hcause]

/-- A valid job whose rows are written completes at its time. -/
theorem cnvJobDone_of_due {wait n : Nat} (hstop : (s.cnv c).stop = none) (hvalid : cnvCause s c (s.rd .cnvQHead c) raw = 0)
    (hrows : (s.cnv c).run.row = (cnvJob raw).hdr.r0 + (cnvJob raw).hdr.nr) (hn : n = (cnvJob raw).time (s.cnv c).cont + wait)
    (hnow : s.now = (s.cnv c).run.start + n * rootPerT) :
    cnvJobDone c wait s = cnvComplete c n (cnvJob raw) s := by
  subst hn
  simp only [cnvJobDone, hjob, hstop, Option.isSome_none, Bool.false_eq_true, if_false, if_neg (not_not.2 hvalid),
    if_pos (And.intro hrows hnow)]

end

/-- Settles O17, by whether the ring takes the tail, what the read of the slot gives, and how the job at the head stands. -/
theorem convolutionJobs : Obligations.ConvolutionJobs := by
  refine ⟨fun dt tid c v s u hu hring => ?_, fun dt tid c v s u hu hring => ?_,
    fun dt c raw t s u hu hen hclk hidle hring hread => ?_, fun dt c e t s u hu hen hclk hidle hring hread => ?_,
    fun dt c wait raw j s u hu hjob hj hstop hcause => ?_, fun dt c wait raw e s u hu hjob hstop => ?_,
    fun dt c wait raw j n t s u hu hjob hj hvalid hstop hrows hn hnow hstatus hkeep => ?_⟩
  · rw [exec_cnvQSubmit]
    exact after_eq_of hu (cnvQSubmit_of_ringOk hring tid)
  · rw [exec_cnvQSubmit]
    exact after_eq_of hu (cnvQSubmit_of_not_ringOk hring tid)
  · rw [exec_cnvJobStart]
    exact after_eq_of hu (cnvJobStart_of_read ⟨hen, hclk, hidle, hring⟩ hread)
  · rw [exec_cnvJobStart]
    exact after_eq_of hu (cnvJobStart_of_failed ⟨hen, hclk, hidle, hring⟩ hread)
  · subst hj
    rw [exec_cnvJobDone]
    exact after_eq_of hu (cnvJobDone_of_invalid hjob hstop hcause wait)
  · rw [exec_cnvJobDone]
    exact after_eq_of hu (cnvJobDone_of_stopped hjob hstop wait)
  · subst hj
    rw [exec_cnvJobDone]
    exact after_eq_of hu ((cnvJobDone_of_due hjob hstop hvalid hrows hn hnow).trans (cnvComplete_of_written hkeep hstatus))

end Sys2Proof.Machine
end

section
/-! PROOFS. The family of the embedding engines: the submission of jobs (R187, R281), the start of a job (R186, R187, R454), the lock and
the write of a row (R193, R195), the end of a job (R187, R199), and the seed (R200). -/

namespace Sys2Proof.Machine

/-! Submission (R187, R281). -/

theorem embQSubmit_of_ringOk {e v : Nat} {s : State} (h : ringOk 32 (s.rd .embQHead e) (s.rd .embQTail e) v = true) (tid : Nat) :
    embQSubmit tid e v s = s.wr .embQTail v e :=
  if_pos h

theorem embQSubmit_of_not_ringOk {e v : Nat} {s : State} (h : ringOk 32 (s.rd .embQHead e) (s.rd .embQTail e) v = false)
    (tid : Nat) : embQSubmit tid e v s = embInvalid tid e 5 v s :=
  if_neg (ne_true_of_eq_false h)

/-! Start (R186, R187, R454). -/

/-- The table descriptor of a run, read from memory. -/
def readTbl (e : Nat) (r : EmbRun) (s : State) : XOut := xRead (38 + e) (embDesc r.desc).tid (embDesc r.desc).tbl 128 s

/-- The run that its table descriptor leaves: ready for its end, as a valid job or as one with a cause. -/
def EmbRun.checked (r : EmbRun) (tbl : List Byte) (cause : Nat) : EmbRun :=
  { r with tbl := tbl, stage := 2, end_ := if cause = 0 then 0 else 3, cause := cause }

/-- A run whose table descriptor is read, and which is no valid update, has nothing to plan. -/
theorem embGo_of_read {e cause : Nat} {r : EmbRun} {s : State} (hstage : r.stage = 0) (hread : (readTbl e r s).fault = none)
    (hcause : cause = embCause e r.desc (readTbl e r s).data) (hgather : cause = 0 → (embDesc r.desc).op = 1) :
    embGo e r s = (readTbl e r s).s.setEmb e (some (r.checked (readTbl e r s).data cause)) := by
  subst hcause
  have hplan : ¬ (embCause e r.desc (readTbl e r s).data = 0 ∧ (embDesc r.desc).op = 2) := fun ⟨hvalid, hupdate⟩ =>
    absurd ((hgather hvalid).symm.trans hupdate) (by decide)
  rw [readTbl] at hread hplan ⊢
  simp only [embGo, if_pos hstage, hread, if_neg hplan, EmbRun.checked, OfNat.ofNat_ne_one, if_false]

/-- A run at its beginning, with its descriptor read. -/
def EmbRun.fresh (desc : List Byte) (now : Nat) : EmbRun := ⟨desc, [], 0, [], 0, 0, 0, 0, now, none⟩

/-- Engine e is busy with a run. -/
def takeRun (e : Nat) (r : EmbRun) (s : State) : State :=
  ((s.setEmb e (some r)).wr .embBusy 1 e).wr .embTid (embDesc r.desc).tid e

/-- An enabled engine that is clocked and has not stalled. -/
def EmbRuns (s : State) (e : Nat) : Prop := s.rd .embEn e = 1 ∧ s.clockOn 13 = true ∧ s.mmu.stall.get none (38 + e) = none

/-- An idle engine takes the job at the head of its ring. -/
theorem embJobStart_of_idle {e : Nat} {s t : State} {desc : List Byte} (hruns : EmbRuns s e) (hidle : s.embRun e = none)
    (hring : s.rd .embQHead e ≠ s.rd .embQTail e) (hshare : startAllowed s (38 + e) = true)
    (hhead : ringRead (embRing s e + s.rd .embQHead e * 64) 64 s = (desc, t)) :
    embJobStart e s = embGo e (EmbRun.fresh desc t.now) (takeRun e (EmbRun.fresh desc t.now) t) := by
  obtain ⟨hen, hclk, hstall⟩ := hruns
  have hgoes : s.on .embEn e ∧ s.clockOn 13 ∧ (s.mmu.stall.get none (38 + e)).isNone :=
    ⟨State.on_iff.2 hen, hclk, by rw [hstall]; rfl⟩
  rw [embJobStart, if_pos hgoes]
  split
  case h_1 r hrun => cases hidle.symm.trans hrun
  case h_2 =>
    rw [if_pos ⟨hring, hshare⟩]
    split
    case h_1 hread =>
      cases hhead.symm.trans hread
      rfl

/-! Row locks (R193, R195). -/

section
variable {e : Nat} {r : EmbRun} {w : EmbGrad} {rest : List EmbGrad} {ps : List (Nat × Nat)} {s t : State}
  (hrun : s.embRun e = some r) (htodo : r.todo = w :: rest) (hstall : s.mmu.stall.get none (38 + e) = none)
  (hpieces : rowPieces e (embDesc r.desc).tid ((embTbl r.tbl).rowLen + 1) w.va (embTbl r.tbl).rowLen [] s = (.ok ps, t))
include hrun htodo hstall hpieces

/-- The next row waits while the lock table is full or a job holds the row. -/
theorem embRowLockGrant_of_held (hheld : 128 ≤ t.comp.locks.length ∨ rowLocked t ((ps.map Prod.fst).headD 0) = true) :
    embRowLockGrant e s = lockWaits e r t := by
  simp only [embRowLockGrant, hrun, htodo, hstall, Option.isSome_none, Bool.false_eq_true, if_false, hpieces, if_pos hheld]

/-- The next row is locked with the bytes that its update makes of it. -/
theorem embRowLockGrant_of_free {bytes data : List Byte} {t₁ t₂ : State} (hroom : t.comp.locks.length < 128)
    (hfree : rowLocked t ((ps.map Prod.fst).headD 0) = false)
    (hread : readPieces (embDesc r.desc).tid ps (lockTaken e r t) = (bytes, false, t₁))
    (hmake : rowMake e (embTbl r.tbl) bytes (w.grad.map f32) t₁ = (data, t₂)) :
    embRowLockGrant e s =
      let u := t₂.setEmb e (some { r with todo := rest, rows := r.rows + 1, waitFrom := none })
      { u with comp := { u.comp with locks := u.comp.locks ++ [⟨e, (embDesc r.desc).tid, w.va, ps, data⟩] } } := by
  have hgrant : ¬ (128 ≤ t.comp.locks.length ∨ rowLocked t ((ps.map Prod.fst).headD 0) = true) :=
    not_or.2 ⟨Nat.not_le.2 hroom, ne_true_of_eq_false hfree⟩
  simp only [embRowLockGrant, hrun, htodo, hstall, Option.isSome_none, Bool.false_eq_true, if_false, hpieces, if_neg hgrant, hread,
    hmake]

end

/-- The acknowledged row is written, its lock is gone, and the row is counted. -/
theorem embRowWriteAck_of_lock {e addr : Nat} {l : EmbLock} {s : State}
    (h : (s.comp.locks.find? fun l => l.e == e && (l.pieces.map Prod.fst).head? == some addr) = some l) :
    embRowWriteAck e addr s =
      (writePieces l.tid l.pieces l.data { s with comp := { s.comp with locks := s.comp.locks.filter (· != l) } }).bump
        .embCntRows 1 e := by
  rw [embRowWriteAck, h]

/-! End (R187, R199). -/

section
variable {e : Nat} {r : EmbRun} {s : State} (hrun : s.embRun e = some r) (hstall : s.mmu.stall.get none (38 + e) = none)
  (hlocks : s.comp.locks.any (fun l => l.e == e) = false)
include hrun hstall hlocks

omit hrun in
theorem embJobDone_not_held :
    ¬ ((s.mmu.stall.get none (38 + e)).isSome = true ∨ s.comp.locks.any (fun l => l.e == e) = true) := by
  simp [hstall, hlocks]

/-- A job found invalid, or killed, ends without its rows. -/
theorem embJobDone_of_dead (hend : r.end_ ≠ 0) : embJobDone e s = embDead e r.end_ r.cause (embDesc r.desc) s := by
  simp only [embJobDone, hrun, if_neg (embJobDone_not_held hstall hlocks), if_pos hend]

section
variable (hend : r.end_ = 0) (hstage : r.stage = 2)
include hend hstage

theorem embJobDone_of_gather (hop : (embDesc r.desc).op = 1) : embJobDone e s = gatherDone e r s := by
  have hplanned : ¬ r.stage < 2 := by omega
  simp only [embJobDone, hrun, if_neg (embJobDone_not_held hstall hlocks), if_neg (not_not_intro hend), if_neg hplanned,
    if_pos hop]

/-- An update with no row left to write ends. -/
theorem embJobDone_of_update (hop : (embDesc r.desc).op ≠ 1) (htodo : r.todo = []) :
    embJobDone e s = embEnd e (if r.skipped = 0 then 1 else 2) r.skipped r.rows s := by
  have hplanned : ¬ r.stage < 2 := by omega
  simp only [embJobDone, hrun, if_neg (embJobDone_not_held hstall hlocks), if_neg (not_not_intro hend), if_neg hplanned,
    if_neg hop, htodo, List.isEmpty_nil, Bool.not_true, Bool.false_eq_true, if_false]

end
end

/-! The seed (R200). -/

/-- A seed written while no job runs is loaded at once. -/
theorem embSrSeedWrite_of_idle {e : Nat} {v : Word} {s : State} (h : s.embRun e = none) :
    embSrSeedWrite e v s = embSeedLoad e { s with comp := { s.comp with embSeed := s.comp.embSeed.set e (some v.toNat) } } :=
  if_pos (Option.isNone_iff_eq_none.2 h)

/-- Settles O18, by whether the ring takes the tail, what the next row of an update meets at the lock table, and how the job stands at
its end. -/
theorem embeddingJobs : Obligations.EmbeddingJobs := by
  refine ⟨fun dt tid e v s u hu hring => ?_, fun dt tid e v s u hu hring => ?_,
    fun dt e x r o cause s u hu hen hclk hidle hring hstall hshare hx hr ho hread hcause hgather => ?_,
    fun dt e r w l ps t y z s u hu hrun htodo hstall hpieces hroom hfree hy hgood hz => ?_,
    fun dt e r w l ps t s u hu hrun htodo hstall hpieces hheld => ?_, fun dt e addr l t s u hu hlock ht => ?_,
    fun dt e x r s u hu hx hrun hstall hend hstage hop htodo hlocks => ?_,
    fun dt e x r s u hu hx hrun hstall hend hstage hop hlocks => ?_,
    fun dt e x r s u hu hx hrun hstall hend hlocks => ?_, fun dt e v s u hu hidle => ?_⟩
  · rw [exec_embQSubmit]
    exact after_eq_of hu (embQSubmit_of_ringOk hring tid)
  · rw [exec_embQSubmit]
    exact after_eq_of hu (embQSubmit_of_not_ringOk hring tid)
  · obtain ⟨desc, t⟩ := x
    subst hr ho
    rw [exec_embJobStart]
    exact after_eq_of hu ((embJobStart_of_idle ⟨hen, hclk, hstall⟩ hidle hring hshare hx.symm).trans
      (embGo_of_read rfl hread hcause hgather))
  · obtain ⟨bytes, bad, t₁⟩ := y
    obtain ⟨data, t₂⟩ := z
    cases hgood
    rw [exec_embRowLockGrant]
    exact after_eq_of hu (embRowLockGrant_of_free hrun htodo hstall hpieces hroom hfree hy.symm hz.symm)
  · rw [exec_embRowLockGrant]
    exact after_eq_of hu (embRowLockGrant_of_held hrun htodo hstall hpieces hheld)
  · subst ht
    rw [exec_embRowWriteAck]
    exact after_eq_of hu (embRowWriteAck_of_lock hlock)
  · subst hx
    have hupdate : (embDesc r.desc).op ≠ 1 := by simp [hop]
    rw [exec_embJobDone]
    exact after_eq_of hu (embJobDone_of_update hrun hstall hlocks hend hstage hupdate htodo)
  · subst hx
    rw [exec_embJobDone]
    exact after_eq_of hu (embJobDone_of_gather hrun hstall hlocks hend hstage hop)
  · subst hx
    have hdead : r.end_ ≠ 0 := by simp [hend]
    rw [exec_embJobDone]
    refine after_eq_of hu ((embJobDone_of_dead hrun hstall hlocks hdead).trans ?_)
    rw [hend]
  · rw [exec_embSrSeedWrite]
    exact after_eq_of hu (embSrSeedWrite_of_idle hidle)

end Sys2Proof.Machine
end

section
/-! PROOFS. The family of what every step holds: a step runs the front command (log entry 2), every command answers a next state
(log entry 3), the reported power state follows its conditions (R440), and an STO brings the safe state (R479, R480, R484). -/

namespace Sys2Proof.Machine

/-! Steps. -/

/-- Settles O51: a step is the case of the queue that it reads. -/
theorem frontCommandRuns : Obligations.FrontCommandRuns := by
  refine ⟨fun c l s => rfl, fun s hidle => ?_⟩
  rw [step, hidle]

/-- Settles O52: each command ends by bringing the reported power state up to date, and that answers a next state. -/
theorem everyCommandCompletes : Obligations.EveryCommandCompletes := by
  intro c s
  obtain ⟨x, hx⟩ := exec_settles c s
  exact ⟨settle x, hx⟩

/-! The reported power state (R440). -/

theorem SettleFrame.boot {s t : State} (h : SettleFrame s t) : t.boot = s.boot := by
  obtain ⟨_, _, _, _, rfl, -⟩ := h
  rfl

theorem SettleFrame.saf {s t : State} (h : SettleFrame s t) : t.saf = s.saf := by
  obtain ⟨_, _, _, _, rfl, -⟩ := h
  rfl

theorem SettleFrame.pin {s t : State} (h : SettleFrame s t) : t.pin = s.pin := by
  obtain ⟨_, _, _, _, rfl, -⟩ := h
  rfl

theorem SettleFrame.ax {s t : State} (h : SettleFrame s t) (n : Nat) : t.ax n = s.ax n := by
  obtain ⟨_, _, _, _, rfl, -⟩ := h
  rfl

theorem SettleFrame.rd {s t : State} (h : SettleFrame s t) {r : RegId} (hr : settleReg r = false) (i j : Nat) :
    t.rd r i j = s.rd r i j := by
  obtain ⟨_, h⟩ := h
  exact LogFrame.rd h hr i j

theorem showPwrState_pwrState (new : Nat) (s : State) : (showPwrState new s).rd .pwrState = new % 8 := by
  refine ((raise_frame .pwrState 0 _ _ rfl rfl).rd rfl 0 0).trans ?_
  rw [State.rd_wr_ne _ _ (by simp), State.rd_wr_same]
  rfl

/-- The spin-up of a fan leaves the power state alone. -/
theorem spinUp_pwrState (f : Nat) (s : State) : (spinUp f s).rd .pwrState = s.rd .pwrState := by
  unfold spinUp
  split
  · rw [State.rd_wr_ne _ _ (by simp), State.rd_wr_ne _ _ (by simp), State.rd_wr_ne _ _ (by simp)]
    rfl
  · rfl

theorem enterReported_pwrState (new : Nat) (s : State) : (enterReported new s).rd .pwrState = new % 8 := by
  unfold enterReported
  dsimp only
  split
  · rw [spinUp_pwrState, spinUp_pwrState, showPwrState_pwrState]
  · exact showPwrState_pwrState new s

/-- The state that `settle` leaves follows its conditions, which `settle` itself does not change. -/
theorem settled_settle (s : State) : Settled (settle s) := by
  intro hstate hready
  rw [reportedState_frame (settle_frame s)]
  by_cases h : 3 ≤ s.rd .pwrState ∧ s.boot.p120 = true ∧ s.rd .pwrState ≠ reportedState s
  · rw [settle, if_pos h, enterReported_pwrState, Nat.mod_eq_of_lt (reportedState_lt s)]
  · rw [(settle_frame s).boot] at hready
    rw [settle, if_neg h] at hstate ⊢
    exact not_not.1 fun hne => h ⟨hstate, hready, hne⟩

/-- Settles O54: a command ends in `settle`, and a step without one changes nothing. -/
theorem reportedStateFollows : Obligations.ReportedStateFollows := by
  intro s t hs hstep
  match hp : s.pending with
  | [] =>
    rw [step, hp] at hstep
    cases hstep
    exact hs
  | c :: l =>
    rw [step, hp] at hstep
    obtain ⟨x, hx⟩ := exec_settles c { s with pending := l }
    cases hx.symm.trans hstep
    exact settled_settle x

/-! The safe state (R480). -/

/-- Every axis is stopped, nothing is armed, STO_N is low, and the cause bit of Table SAF-1 is set. -/
def StoHeld (bit : Nat) (s : State) : Prop := SafeState s ∧ s.rdBit .safStoCause bit = true

/-- Registers that hold the safe state. -/
def stoReg (r : RegId) : Bool := r == .axEn || r == .safArmed || r == .safStoCause

/-- A change of other registers and other parts of the state keeps the safe state. -/
theorem StoHeld.of_frame {bit : Nat} {s t : State} (h : StoHeld bit s) (hax : ∀ n, t.ax n = s.ax n) (hpin : t.pin = s.pin)
    (hrd : ∀ r i j, stoReg r = true → t.rd r i j = s.rd r i j) : StoHeld bit t := by
  obtain ⟨⟨haxes, harmed, hsto⟩, hcause⟩ := h
  refine ⟨⟨fun n hn => ?_, (hrd _ _ _ rfl).trans harmed, hpin ▸ hsto⟩, ?_⟩
  · rw [hrd _ _ _ rfl, hax]
    exact haxes n hn
  · rw [State.rdBit, hrd _ _ _ rfl]
    exact hcause

theorem stoReg_not_settleReg {r : RegId} (h : stoReg r = true) : settleReg r = false := by
  simp only [stoReg, Bool.or_eq_true, beq_iff_eq] at h
  obtain (rfl | rfl) | rfl := h <;> rfl

theorem stoReg_not_logReg {r : RegId} (h : stoReg r = true) : logReg r = false := by
  simp only [stoReg, Bool.or_eq_true, beq_iff_eq] at h
  obtain (rfl | rfl) | rfl := h <;> rfl

theorem StoHeld.settle {bit : Nat} {s : State} (h : StoHeld bit s) : StoHeld bit (settle s) :=
  h.of_frame (settle_frame s).ax (settle_frame s).pin fun _ i j hr => (settle_frame s).rd (stoReg_not_settleReg hr) i j

theorem LogFrame.ax {p : RegId → Bool} {s t : State} (h : LogFrame p s t) (n : Nat) : t.ax n = s.ax n := by
  obtain ⟨_, _, _, rfl, -⟩ := h
  rfl

theorem LogFrame.pin {p : RegId → Bool} {s t : State} (h : LogFrame p s t) : t.pin = s.pin := by
  obtain ⟨_, _, _, rfl, -⟩ := h
  rfl

theorem LogFrame.saf {p : RegId → Bool} {s t : State} (h : LogFrame p s t) : t.saf = s.saf := by
  obtain ⟨_, _, _, rfl, -⟩ := h
  rfl

theorem logEv_frame (e : Ev) (tid arg : Nat) (s : State) : LogFrame logReg s (logEv e tid arg s) := logEvTo_frame ..

theorem StoHeld.logEv {bit : Nat} {s : State} (h : StoHeld bit s) (e : Ev) (tid arg : Nat) : StoHeld bit (logEv e tid arg s) :=
  h.of_frame (logEv_frame e tid arg s).ax (logEv_frame e tid arg s).pin fun _ i j hr =>
    (logEv_frame e tid arg s).rd (stoReg_not_logReg hr) i j

/-- A write of a register that does not hold the safe state keeps it. -/
theorem StoHeld.wr {bit : Nat} {s : State} (h : StoHeld bit s) {r : RegId} (hr : stoReg r = false) (v i j : Nat) :
    StoHeld bit (s.wr r v i j) :=
  h.of_frame (fun _ => rfl) rfl fun r' i' j' hr' => State.rd_wr_ne s v (by rintro ⟨rfl, -⟩; simp_all)

/-- A change of SAF_STAT.STATE keeps the safe state. -/
theorem StoHeld.updSafState {bit : Nat} {s : State} (h : StoHeld bit s) : StoHeld bit (updSafState s) := by
  rw [Machine.updSafState]
  exact h.wr rfl _ _ _

/-- Stopped axes that are disarmed are held by the cause bit and the level of STO_N. -/
theorem StoHeld.of_stopped {bit : Nat} (hbit : bit < 10) {s : State} (hax : ∀ n < 8, s.rd .axEn n = 0 ∧ (s.ax n).run = false)
    (harmed : s.rd .safArmed = 0) (hsto : s.pin.stoN = some false) : StoHeld bit (s.wrBit .safStoCause bit true) := by
  refine ⟨⟨fun n hn => ?_, ?_, hsto⟩, ?_⟩
  · rw [State.rd_wrBit, if_neg (by simp)]
    exact hax n hn
  · rw [State.rd_wrBit, if_neg (by simp)]
    exact harmed
  · have hcause : (s.wrBit .safStoCause bit true).rd .safStoCause = setBit (s.rd .safStoCause) bit true % 2 ^ 10 := by
      rw [State.rd_wrBit, if_pos (by simp)]
      rfl
    rw [State.rdBit, hcause, bitOf_mod_two_pow hbit, bitOf_setBit, if_pos rfl]

/-- Every axis stopped, disarmed, with STO_N low. -/
def stoStops (s : State) : State :=
  let t := stopAll (s.wr .safArmed 0)
  { t with pin := { t.pin with stoN := some false } }

theorem stoStops_held {bit : Nat} (hbit : bit < 10) (s : State) : StoHeld bit ((stoStops s).wrBit .safStoCause bit true) := by
  refine .of_stopped hbit (fun n hn => ⟨?_, ?_⟩) ?_ rfl
  · rw [stoStops, State.rd_with_pin, stopAll_axEn _ hn]
  · rw [stoStops, State.ax_with_pin, stopAll_run _ hn]
  · rw [stoStops, State.rd_with_pin, stopAll_rd _ rfl, State.rd_wr_same, Nat.zero_mod]

/-- An STO stops and disarms, sets its cause bit, and is logged. -/
theorem applySto_eq (bit : Nat) (s : State) :
    applySto bit s = logEv .safSto 0 bit
      (updSafState ((((stoStops s).wrBit .safStoCause bit true).wr .safStoDrv 0).wr .safStoPad 0)) := rfl

theorem applySto_held {bit : Nat} (hbit : bit < 10) (s : State) : StoHeld bit (applySto bit s) := by
  rw [applySto_eq]
  exact (((stoStops_held hbit s).wr rfl _ _ _).wr rfl _ _ _).updSafState.logEv ..

/-! What keeps an escalation (R479). -/

@[simp] theorem logEv_saf (e : Ev) (tid arg : Nat) (s : State) : (logEv e tid arg s).saf = s.saf := (logEv_frame ..).saf

@[simp] theorem updSafState_saf (s : State) : (updSafState s).saf = s.saf := rfl

@[simp] theorem stoStops_saf (s : State) : (stoStops s).saf = s.saf := by
  show (stopAll (s.wr .safArmed 0)).saf = s.saf
  rw [stopAll_saf, State.wr_saf]

@[simp] theorem applySto_saf (bit : Nat) (s : State) : (applySto bit s).saf = s.saf := by
  rw [applySto_eq]
  simp

@[simp] theorem requestDisable_saf (n : Nat) (s : State) : (requestDisable n s).saf = s.saf := by
  unfold requestDisable
  dsimp only
  split <;> rfl

theorem startSs1_escalated (s : State) : (startSs1 s).saf.escalated = s.saf.escalated := by
  unfold startSs1
  split
  · rfl
  · split
    · simp
    · dsimp only
      rw [logEv_saf, updSafState_saf, State.wr_saf, foldN_inv (fun s : State => s.saf)]
      intro n s
      split
      · exact requestDisable_saf n s
      · rfl

/-- No reaction of the Safety Island ends an escalation. -/
theorem react_escalated (e : Ev) (s : State) : (react e s).saf.escalated = s.saf.escalated := by
  have hsto (b : Nat) : (stoReaction b s).saf.escalated = s.saf.escalated := by
    unfold stoReaction
    simp
  unfold react
  split
  · exact hsto _
  · split
    · rfl
    · split
      · rfl
      · unfold restartReaction
        split <;> rfl
      · exact startSs1_escalated s
      · exact hsto _

@[simp] theorem raise_escalated (e : Ev) (tid arg : Nat) (s : State) : (raise e tid arg s).saf.escalated = s.saf.escalated := by
  rw [raise, react_escalated, logEv_saf]

theorem mitreFault_escalated (n cause : Nat) (s : State) : (mitreFault n cause s).saf.escalated = s.saf.escalated := by
  unfold mitreFault
  split
  · dsimp only
    rw [raise_escalated]
    show (if _ then _ else _ : State).saf.escalated = _
    split <;> split <;> rfl
  · rfl

/-- Repetition keeps the parts of the Safety Island that its body keeps. -/
theorem foldN_escalated {n : Nat} {f : Nat → State → State} (h : ∀ k s, (f k s).saf.escalated = s.saf.escalated) (s : State) :
    (foldN n f s).saf.escalated = s.saf.escalated :=
  foldN_inv (fun s : State => s.saf.escalated) n f h s

theorem advanceDone_saf (ch n : Nat) (s : State) : (advanceDone ch n s).saf = s.saf := by
  induction n generalizing s with
  | zero => rfl
  | succ n ih =>
    rw [advanceDone]
    split
    · exact ih _
    · rfl

theorem msix_saf (v : Nat) (s : State) : (msix v s).saf = s.saf := by
  unfold msix
  repeat' split
  all_goals rfl

theorem notifyCh_saf (ch : Nat) (s : State) : (notifyCh ch s).saf = s.saf := by
  unfold notifyCh
  extract_lets old t
  split
  · rfl
  · rw [msix_saf]
    split <;> rfl

theorem showCh_saf (ch : Nat) (s : State) : (showCh ch s).saf = s.saf := by
  unfold showCh
  split <;> rfl

/-- An ended entry shows its result and its time, DONE advances, and the host is notified if the descriptor asks for it. -/
def noteEnded (ch i result t : Nat) (s : State) : State :=
  let w0 := taskWord s ch i 0
  let u := (s.wr .taskRing (w0 - bitsOf w0 24 4 * 2 ^ 24 + result * 2 ^ 24) ch (i % 8 * 16)).wr .taskRing t ch (i % 8 * 16 + 2)
  let u := advanceDone ch 8 (u.setCh ch { u.ch ch with comp := (i % 8) :: (u.ch ch).comp })
  if (taskDesc s ch i).notify then notifyCh ch u else u

/-- The error is counted on the slot of the channel. -/
def countTaskError (ch : Nat) (s : State) : State :=
  s.setCtx (s.rd .chSlot ch) { s.ctx (s.rd .chSlot ch) with errs := satAdd 32 (s.ctx (s.rd .chSlot ch)).errs 1 }

/-- A channel that is not halted halts with the result and the index of the entry. -/
def haltCh (ch i result : Nat) (s : State) : State :=
  if s.rd .chState ch = 2 then s else ((s.wr .chState 2 ch).wr .chResult result ch).wr .chIndex i ch

theorem endEntry_eq (ch i result t : Nat) (s : State) : endEntry ch i result t s =
    if 2 ≤ result ∧ result ≤ 7 then
      raise .schTaskError
        ((haltCh ch i result (countTaskError ch (noteEnded ch i result t s))).rd .ctxTid ((noteEnded ch i result t s).rd .chSlot ch))
        (ch + result * 256) (haltCh ch i result (countTaskError ch (noteEnded ch i result t s)))
    else showCh ch (noteEnded ch i result t s) := rfl

@[simp] theorem State.setCh_saf (s : State) (ch : Nat) (x : ChSt) : (s.setCh ch x).saf = s.saf := rfl

theorem noteEnded_saf (ch i result t : Nat) (s : State) : (noteEnded ch i result t s).saf = s.saf := by
  unfold noteEnded
  split
  · rw [notifyCh_saf, advanceDone_saf, State.setCh_saf, State.wr_saf, State.wr_saf]
  · rw [advanceDone_saf, State.setCh_saf, State.wr_saf, State.wr_saf]

theorem haltCh_saf (ch i result : Nat) (s : State) : (haltCh ch i result s).saf = s.saf := by
  unfold haltCh
  split <;> rfl

theorem countTaskError_saf (ch : Nat) (s : State) : (countTaskError ch s).saf = s.saf := rfl

theorem endEntry_escalated (ch i result t : Nat) (s : State) :
    (endEntry ch i result t s).saf.escalated = s.saf.escalated := by
  rw [endEntry_eq]
  split
  · rw [raise_escalated, haltCh_saf, countTaskError_saf, noteEnded_saf]
  · rw [showCh_saf, noteEnded_saf]

theorem freeRes_saf (r : TaskRes) (s : State) : (freeRes r s).saf = s.saf := by
  unfold freeRes
  extract_lets t
  split
  · split <;> rfl
  · rfl

theorem endRun_escalated (r : TaskRun) (result : Nat) (s : State) : (endRun r result s).saf.escalated = s.saf.escalated := by
  unfold endRun
  extract_lets used freed
  rw [endEntry_escalated, freeRes_saf]
  show used.saf.escalated = _
  unfold used
  split <;> rfl

theorem endClusterTasks_escalated (c : Nat) (s : State) : (endClusterTasks c s).saf.escalated = s.saf.escalated := by
  unfold endClusterTasks
  generalize (s.sch.runs.filter fun r => r.res.cluster == c) = l
  induction l generalizing s with
  | nil => rfl
  | cons r l ih => exact (ih _).trans (endRun_escalated r 8 s)

theorem clusterLost_escalated (c : Nat) (s : State) : (clusterLost c s).saf.escalated = s.saf.escalated := by
  unfold clusterLost
  refine foldN_escalated (fun n s => ?_) s
  split
  · exact mitreFault_escalated n 5 s
  · rfl

theorem dropImages_escalated (c : Nat) (s : State) : (dropImages c s).saf.escalated = s.saf.escalated := by
  unfold dropImages
  refine foldN_escalated (fun n s => ?_) s
  split <;> rfl

theorem clearCluster_saf (c : Nat) (s : State) : (clearCluster c s).saf = s.saf := rfl

theorem clusterReset_escalated (c : Nat) (s : State) : (clusterReset c s).saf.escalated = s.saf.escalated := by
  unfold clusterReset
  extract_lets cleared restarted
  have hrestarted : restarted.saf.escalated = cleared.saf.escalated := by
    unfold restarted
    clear_value cleared
    refine foldN_escalated (fun _ _ => ?_) cleared
    rfl
  have hcleared : cleared.saf.escalated = s.saf.escalated := by
    unfold cleared
    rw [clearCluster_saf, dropImages_escalated, clusterLost_escalated, endClusterTasks_escalated]
  clear_value restarted cleared
  exact hrestarted.trans hcleared

theorem ackIdle_saf (e : Nat) (s : State) : (ackIdle e s).saf = s.saf := by
  have hack (s : State) : (setAck e s).saf = s.saf := by
    unfold setAck
    split <;> rfl
  have hdone (s : State) : (invDone s).saf = s.saf := by
    unfold invDone
    repeat' split
    all_goals rfl
  unfold ackIdle
  split
  · rw [hdone, hack]
  · rfl

theorem ungateDomain_escalated (d : Nat) (s : State) : (ungateDomain d s).saf.escalated = s.saf.escalated := by
  have hempty (l : List Nat) (s : State) : (l.foldl (fun s e => emptyL1 e s) s).saf = s.saf := by
    induction l generalizing s with
    | nil => rfl
    | cons e l ih => exact (ih _).trans (ackIdle_saf e _)
  refine foldN_escalated (fun b s => ?_) s
  split
  · rw [hempty]
    rfl
  · rfl

theorem strapFields_saf (d : Nat) (s : State) : (strapFields d s).saf = s.saf := by
  unfold strapFields
  split
  · rfl
  · split <;> rfl
  · rfl
  · rfl

/-- Only the reset of PD1, the domain of the Safety Island itself, ends an escalation. -/
theorem domainState_escalated {d : Nat} (h : d ≠ 1) (s : State) : (domainState d s).saf.escalated = s.saf.escalated := by
  unfold domainState
  split
  case h_1 => exact absurd rfl h
  case h_14 =>
    split
    · exact clusterReset_escalated _ s
    · rfl
  all_goals rfl

theorem domainOff_escalated {d : Nat} (h : d ≠ 1) (s : State) : (domainOff d s).saf.escalated = s.saf.escalated := by
  show (strapFields d (clearDomainRegs false d (domainState d (ungateDomain d s)))).saf.escalated = _
  rw [strapFields_saf]
  exact (domainState_escalated h _).trans (ungateDomain_escalated d s)

theorem computeOff_escalated (s : State) : (computeOff s).saf.escalated = s.saf.escalated := by
  unfold computeOff
  exact foldN_escalated (fun d s => domainOff_escalated (d := d + 4) (by omega) s) s

theorem react_safEscalated (s : State) : react .safEscalated s = stoReaction 6 s := rfl

/-- An escalation is an STO of cause bit 6 that stays escalated (R479). -/
theorem escalate_held (arg : Nat) (s : State) : StoHeld 6 (escalate arg s) ∧ (escalate arg s).saf.escalated = true := by
  unfold escalate
  dsimp only
  constructor
  · rw [raise, react_safEscalated]
    exact (applySto_held (by decide) _).updSafState
  · rw [updSafState_saf, raise_escalated, computeOff_escalated]

theorem ss1Expire_of_due {s : State} {e : Nat} (h : s.saf.ss1End = some e) (hnow : e = s.now) :
    ss1Expire s = applySto 5 (raise .safSs1 0 1 (showSs1Rem { s with saf := { s.saf with ss1End := none } })) := by
  simp only [ss1Expire, h, if_pos hnow]

theorem safRestartTimeout_of_late {s : State} {r : RestartRun} (h : s.saf.restart = some r)
    (hnow : s.now = r.trigAt + 150 * rootPerMs) : safRestartTimeout s = escalate 0 s := by
  simp only [safRestartTimeout, h, if_pos hnow]

/-- Settles O55: the expiry is an STO of cause bit 5, the time-out an escalation. -/
theorem stoBringsSafeState : Obligations.StoBringsSafeState := by
  refine ⟨fun dt s u e hu hend hnow => ?_, fun dt s u r hu hrestart hnow => ?_⟩
  · obtain ⟨hsafe, hcause⟩ := (applySto_held (bit := 5) (by decide)
      (raise .safSs1 0 1 (showSs1Rem { u with saf := { u.saf with ss1End := none } }))).settle
    exact ⟨_, exec_ss1Expire.trans (after_eq_of hu (ss1Expire_of_due hend hnow)), hsafe, hcause⟩
  · obtain ⟨hheld, hesc⟩ := escalate_held 0 u
    obtain ⟨hsafe, hcause⟩ := hheld.settle
    exact ⟨_, exec_safRestartTimeout.trans (after_eq_of hu (safRestartTimeout_of_late hrestart hnow)), hsafe, hcause,
      (congrArg SafSt.escalated (settle_frame _).saf).trans hesc⟩

end Sys2Proof.Machine
end

section
/-! PROOFS. The families of the buffer pools (R214 to R219), of the fabric (R221 to R242), of the Clamp commits (R235 to R239), and of
address translation (R253 to R272). -/

namespace Sys2Proof.Machine

/-! Buffer pools (R214 to R219). -/

/-- A pool is enabled with every buffer FREE. -/
def openPool (p : Nat) (s : State) : State :=
  let bufs := (s.pool p).bufs.map fun e => (e.1, { e.2 with alloc := false })
  (((s.setPool p { bufs := bufs, free := List.range (poolCount s p), hadFree := true }).wr .poolEn 1 p).wr
    .poolFree (poolCount s p) p).wr .poolLow (poolCount s p) p

theorem poolEnable_of_ok {p : Nat} {s : State} (h : poolOk s p = true) (tid : Nat) : poolEnable tid p s = openPool p s :=
  if_pos h

theorem poolEnable_of_not_ok {p : Nat} {s : State} (h : poolOk s p = false) (tid : Nat) :
    poolEnable tid p s = bpuReject tid (poolOff p) s :=
  if_neg (ne_true_of_eq_false h)

theorem poolDisable_of_free {p : Nat} {s : State} (hen : s.rd .poolEn p = 1) (hfree : (s.pool p).free.length = poolCount s p)
    (tid : Nat) : poolDisable tid p s = s.wr .poolEn 0 p := by
  rw [poolDisable, State.on_iff.2 hen]
  exact if_pos hfree

/-- A command runs at once while no reclaim runs. -/
theorem bpuCmd_of_idle {s : State} (h : s.bpu.reclaim = none) (c : BpuCmd) : bpuCmd c s = bpuRun c s :=
  if_neg (by rw [h]; decide)

/-- The generation that follows g: 255 is followed by 1. -/
def nextBufGen (g : Nat) : Nat := if g = 255 then 1 else g + 1

/-- An allocation takes the oldest FREE buffer and returns its handle. -/
theorem bpuAllocNow_of_free {p i : Nat} {l : List Nat} {s : State} (hen : s.rd .poolEn p = 1) (hfree : (s.pool p).free = i :: l)
    (tid : Nat) : bpuAllocNow tid p s =
      (showFree p (s.setPool p { s.pool p with bufs := (s.pool p).bufs.set i ⟨true, tid, nextBufGen ((s.pool p).buf i).gen⟩, free := l })).reply
        (mkHandle p i (nextBufGen ((s.pool p).buf i).gen)) := by
  simp only [bpuAllocNow, State.on_iff.2 hen, hfree, nextBufGen]

section
variable {s : State} {p h tid : Nat} (halloc : ((s.pool p).buf (bitsOf h 8 16)).alloc = true)
  (hgen : ((s.pool p).buf (bitsOf h 8 16)).gen = h % 256) (howner : ((s.pool p).buf (bitsOf h 8 16)).owner = tid)
include halloc hgen howner

/-- The owner of an allocated buffer frees it: it is the last to be allocated again. -/
theorem bpuFreeNow_of_owner (hgood : handleBad s p h none = none) : bpuFreeNow tid p h s =
    showFree p (s.setPool p
      { bufs := (s.pool p).bufs.set (bitsOf h 8 16) { (s.pool p).buf (bitsOf h 8 16) with alloc := false }
        free := (s.pool p).free ++ [bitsOf h 8 16]
        hadFree := true }) := by
  simp [bpuFreeNow, hgood, halloc, hgen, howner]

/-- The owner of an allocated buffer gives it. -/
theorem bpuGiveNow_of_owner {g : Nat} (hgood : handleBad s p h (some g) = none) : bpuGiveNow tid p g h s =
    s.setPool p { s.pool p with
      bufs := (s.pool p).bufs.set (bitsOf h 8 16) { (s.pool p).buf (bitsOf h 8 16) with owner := g } } := by
  simp [bpuGiveNow, hgood, halloc, hgen, howner]

end

/-- The end of a reclaim with no command waiting; `t` is the state with the buffers of its TID free. -/
theorem bpuReclaimDone_of_due {g e : Nat} {s t : State} (hrun : s.bpu.reclaim = some (g, e)) (hdue : e ≤ s.now)
    (ht : t = foldN 32 (reclaimPool g) s) (hwait : t.bpu.waiting = []) :
    bpuReclaimDone s = { t with bpu := { t.bpu with reclaim := none, waiting := [] } }.wr .bpuReclaimBusy 0 := by
  simp only [bpuReclaimDone, hrun, if_pos hdue, ← ht, hwait, bpuDrain]

/-- A reclaim occupies the unit for one NCLK per buffer of each enabled pool. -/
theorem bpuReclaimNow_eq (g : Nat) (s : State) : bpuReclaimNow g s =
    { s with bpu := { s.bpu with reclaim := some (g, s.now +
      ((List.range 32).map fun p => if s.rd .poolEn p = 1 then poolCount s p else 0).sum * 10) } }.wr .bpuReclaimBusy 1 := by
  simp only [bpuReclaimNow, State.on_iff]
  rfl

/-- Settles O20, by whether the pool meets R215, and by the handle and the owner of each command. -/
theorem bufferPools : Obligations.BufferPools := by
  refine ⟨fun dt tid p s u hu hok => ?_, fun dt tid p s u hu hok => ?_, fun dt tid p s u hu hen hfree => ?_,
    fun dt tid p i l x g s u hu hidle hen hx hfree hg => ?_,
    fun dt tid p h i x b s u hu hidle hgood hx hi hb halloc hgen howner => ?_,
    fun dt tid p g h i x b s u hu hidle hgood hx hi hb halloc hgen howner => ?_, fun dt g s u hu hidle => ?_,
    fun dt g e t s u hu hrun hdue ht hwait => ?_⟩
  · rw [exec_poolEnable]
    exact after_eq_of hu (poolEnable_of_ok hok tid)
  · rw [exec_poolEnable]
    exact after_eq_of hu (poolEnable_of_not_ok hok tid)
  · rw [exec_poolDisable]
    exact after_eq_of hu (poolDisable_of_free hen hfree tid)
  · subst hx hg
    rw [exec_bpuAlloc]
    exact after_eq_of hu ((bpuCmd_of_idle hidle _).trans (bpuAllocNow_of_free hen hfree tid))
  · subst hx hb hi
    rw [exec_bpuFree]
    exact after_eq_of hu ((bpuCmd_of_idle hidle _).trans (bpuFreeNow_of_owner halloc hgen howner hgood))
  · subst hx hb hi
    rw [exec_bpuGive]
    exact after_eq_of hu ((bpuCmd_of_idle hidle _).trans (bpuGiveNow_of_owner halloc hgen howner hgood))
  · rw [exec_bpuReclaim]
    exact after_eq_of hu ((bpuCmd_of_idle hidle _).trans (bpuReclaimNow_eq g.toNat u))
  · rw [exec_bpuReclaimDone]
    exact after_eq_of hu (bpuReclaimDone_of_due hrun hdue ht hwait)

/-! Requests on the fabric (R221 to R226, R242). -/

/-- A request without an upset before it, at a fabric that runs. -/
theorem execFabricRequest_of_on {dt : Nat} {s u : State} (hu : u = elapse dt s) (hon : fabOn u = true) (f : FabIn) (env : RegEnv)
    (reply : FabReply) {t : State} (h : fabRequest f env reply u = t) :
    exec (.fabricRequest dt f env [] [] reply) s = .next (settle t) := by
  rw [exec_fabricRequest]
  exact after_eq_of hu ((if_pos hon).trans h)

/-- The request that an input makes. -/
def FabIn.req (f : FabIn) : Req := ⟨f.port, f.tid, f.addr, f.len, f.data.isSome⟩

section
variable {f : FabIn} {env : RegEnv} {reply : FabReply} {s : State} (htid : hartTidOk s f.port f.tid = true)
include htid

/-- A request that fails a check is refused. -/
theorem fabRequest_of_refused (h : respOf (parityAt f.req s) f.req ≠ 0) :
    fabRequest f env reply s = refuse f.req (respOf (parityAt f.req s) f.req) (parityAt f.req s) := by
  rw [fabRequest, htid]
  exact if_pos h

variable {k : Win} (hok : respOf (parityAt f.req s) f.req = 0) (hwin : decodeAddr (parityAt f.req s) f.addr = some k)
include hok hwin

/-- A request that passes the checks enters its target port, or has not been accepted yet. -/
theorem fabRequest_of_ok : fabRequest f env reply s =
    if portTakes s f k then serveAt f.req (f.data.map (sized f.len)) env reply (portTaken f k (parityAt f.req s)) else s := by
  have hpass : ¬ respOf (parityAt f.req s) f.req ≠ rOkay := not_not_intro hok
  simp only [← FabIn.req.eq_1, fabRequest, htid, if_neg hpass, hwin, Bool.not_true, Bool.false_eq_true, if_false]

theorem fabRequest_of_taken (htakes : portTakes s f k = true) : fabRequest f env reply s =
    serveAt f.req (f.data.map (sized f.len)) env reply (portTaken f k (parityAt f.req s)) :=
  (fabRequest_of_ok htid hok hwin).trans (if_pos htakes)

theorem fabRequest_of_not_taken (htakes : portTakes s f k = false) : fabRequest f env reply s = s :=
  (fabRequest_of_ok htid hok hwin).trans (if_neg (ne_true_of_eq_false htakes))

end

section
variable {q : Req} {env : RegEnv} {reply : FabReply} {s : State}

theorem serveAt_of_block {k : Nat} (hwin : decodeAddr s q.addr = some (.per k)) (data : Option (List Byte)) :
    serveAt q data env reply s = perServe q k data env reply s := by
  rw [serveAt, hwin]

variable (hwin : decodeAddr s q.addr = some .dram)
include hwin

theorem serveAt_of_dram (data : Option (List Byte)) : serveAt q data env reply s = memServe q data s := by
  rw [serveAt, hwin]

/-- A write of DRAM that finds no uncorrectable word is stored. -/
theorem memServe_write_of_good {l : List Byte} (hgood : (eccWrite q.tid q.addr q.len s).1 = false) :
    memServe q (some l) s = ((eccWrite q.tid q.addr q.len s).2.wrBytes q.addr l).respond 0 [] := by
  simp [memServe, putChunk, hwin, hgood, rOkay]

/-- A read of DRAM that finds no uncorrectable word returns the bytes. -/
theorem memServe_read_of_good (hgood : (eccRead q.tid q.addr q.len s).1 = false) : memServe q none s =
    (eccRead q.tid q.addr q.len s).2.respond 0 ((eccRead q.tid q.addr q.len s).2.rdBytes q.addr q.len) := by
  simp [memServe, getChunk, hwin, hgood, rOkay]

end

/-- The request that an entry of the outstanding requests stands for. -/
def FabReq.req (r : FabReq) : Req := ⟨r.port, r.tid, r.addr, r.len, r.wr⟩

section
variable {id : Nat} {r : FabReq} {s : State} (hfind : s.fab.reqs.find? (fun r => r.id == id) = some r)
include hfind

theorem fabTimeout_of_due (hwait : r.timedOut = false) (hdue : r.at_ + (timeoutOf s r.addr).1 ≤ s.now) : fabTimeout id s =
    (raiseTimeout r.req (errRecord r.req rTimeout (markTimedOut id s))).respond rTimeout (zeroData r.req) := by
  have hlate : ¬ (r.timedOut = true ∨ s.now < r.at_ + (timeoutOf s r.addr).1) :=
    not_or.2 ⟨ne_true_of_eq_false hwait, Nat.not_lt.2 hdue⟩
  simp only [fabTimeout, hfind, if_neg hlate, FabReq.req]

theorem fabLate_of_timedOut (hlate : r.timedOut = true) (hown : ownAnswer s r = false) : fabLate id s =
    { s with fab := { s.fab with reqs := s.fab.reqs.filter fun x => x.id != id } }.bump .fabLateCnt 1 := by
  have houtside : r.timedOut = true ∧ (!ownAnswer s r) = true := ⟨hlate, by rw [hown]; rfl⟩
  simp only [fabLate, hfind, if_pos houtside]

end

/-- Settles O21, by the checks of the request, its target, and its time. -/
theorem fabricRequests : Obligations.FabricRequests := by
  refine ⟨fun dt f env x cu reply q t s u hu hx hcu hon htid hq ht hresp => ?_,
    fun dt f env x cu reply q t d s u hu hx hcu hon htid hdata hq hok hwin htakes ht hwin' hgood => ?_,
    fun dt f env x cu reply q t s u hu hx hcu hon htid hdata hq hok hwin htakes ht hwin' hgood => ?_,
    fun dt f env x cu reply q t k s u hu hx hcu hon htid hq hok hwin htakes ht hwin' => ?_,
    fun dt f env x cu reply q k s u hu hx hcu hon htid hq hok hwin htakes => ?_,
    fun dt id r s u hu hfind hwait hdue => ?_, fun dt id r s u hu hfind hlate hown => ?_⟩
  · subst hx hcu hq ht
    exact execFabricRequest_of_on hu hon f env reply (fabRequest_of_refused htid hresp)
  · have hreq : q = f.req := by rw [hq, FabIn.req, hdata]; rfl
    subst hx hcu hreq ht
    refine execFabricRequest_of_on hu hon f env reply ((fabRequest_of_taken htid hok hwin htakes).trans ?_)
    rw [serveAt_of_dram hwin', hdata]
    exact memServe_write_of_good hwin' hgood
  · have hreq : q = f.req := by rw [hq, FabIn.req, hdata]; rfl
    subst hx hcu hreq ht
    refine execFabricRequest_of_on hu hon f env reply ((fabRequest_of_taken htid hok hwin htakes).trans ?_)
    rw [serveAt_of_dram hwin', hdata]
    exact memServe_read_of_good hwin' hgood
  · subst hx hcu hq ht
    exact execFabricRequest_of_on hu hon f env reply
      ((fabRequest_of_taken htid hok hwin htakes).trans (serveAt_of_block (q := f.req) hwin' _))
  · subst hx hcu hq
    exact execFabricRequest_of_on hu hon f env reply (fabRequest_of_not_taken htid hok hwin htakes)
  · rw [exec_fabricTimeout]
    exact after_eq_of hu (fabTimeout_of_due hfind hwait hdue)
  · rw [exec_fabricLateResponse]
    exact after_eq_of hu (fabLate_of_timedOut hfind hlate hown)

/-! Clamp commits (R235 to R239). -/

/-- Only TID 0 writes CLP_COMMIT. -/
theorem clampCommit_hardOk (tid : Nat) : fabHardOk (.per 0) 0x1000 tid true = decide (tid = 0) := by
  simp [fabHardOk, beq_eq_decide]

/-- A commit captures AT_TICK and AXIS, whether a commit waits or not. -/
def noteCommit (i : Nat) (v : Word) (s : State) : State :=
  (s.wr .clpCommitAtTick (bitsOf v.toNat 1 1) i).wr .clpCommitAxis (bitsOf v.toNat 2 3) i

/-- The staging copy of instance i waits to become active. -/
def captureStaging (i : Nat) (s : State) : State :=
  (s.wr .clpCommitGo 1 i).setClpPend i (some ⟨stagedTable s i, s.now, s.on .clpCommitAtTick i, s.rd .clpCommitAxis i⟩)

section
variable {i : Nat} {v : Word} {s : State} (hgo : bitOf v.toNat 0 = true)
include hgo

theorem clampGo_of_free (hfree : s.fab.pend.get none i = none) (tid : Nat) :
    clampGo tid i v s = captureStaging i (noteCommit i v s) := by
  simp only [clampGo, hgo, hfree, Bool.not_true, Bool.false_eq_true, if_false, captureStaging, noteCommit]

/-- The GO of a commit is discarded while another waits. -/
theorem clampGo_of_waiting {p : ClpPend} (hwait : s.fab.pend.get none i = some p) (tid : Nat) :
    clampGo tid i v s = fabReject tid (0x1000 + i * 0x20) (noteCommit i v s) := by
  simp only [clampGo, hgo, hwait, Bool.not_true, Bool.false_eq_true, if_false, noteCommit]

end

section
variable {i : Nat} {p : ClpPend} {s : State} (hwait : s.fab.pend.get none i = some p)
  (hexamined : p.goAt + clpEntries i * rootPerN ≤ s.now)
include hwait hexamined

theorem clampActivate_of_good (hgood : clpOffence i p.tbl = none) (htick : p.atTick = true → (s.tickNow p.axis).isSome = true) :
    clampActivate i s = activateClamp i p.tbl p.tbl (((s.setClpPend i none).wr .clpCommitGo 0 i).wr .clpRej 0 i) := by
  have hnow : ¬ (p.atTick = true ∧ (s.tickNow p.axis).isNone = true) := fun ⟨hat, hno⟩ => by
    have hsome := htick hat
    rw [Option.isNone_iff_eq_none.1 hno] at hsome
    cases hsome
  simp only [clampActivate, hwait, if_neg (Nat.not_lt.2 hexamined), hgood, if_neg hnow]

theorem clampActivate_of_offence {e c : Nat} (hbad : clpOffence i p.tbl = some (e, c)) :
    clampActivate i s = fabReject 0 (clpEntryOff i e)
      ((((s.setClpPend i none).wr .clpCommitGo 0 i).wr .clpRej 1 i).wr .clpCause c i) := by
  simp only [clampActivate, hwait, if_neg (Nat.not_lt.2 hexamined), hbad]

end

/-- Settles O22, by the TID and the commit that waits, and by the first offence of the captured table. -/
theorem clampCommits : Obligations.ClampCommits := by
  refine ⟨fun dt tid i v w s u hu htid hgo hw hfree => ?_, fun dt tid i v s u hu htid => ?_,
    fun dt tid i v p s u hu htid hgo hwait => ?_, fun dt i p s u hu hwait hexamined hgood htick => ?_,
    fun dt i p e c s u hu hwait hexamined hbad => ?_⟩
  · subst htid hw
    rw [exec_clampCommit]
    exact after_eq_of hu ((if_pos rfl).trans (clampGo_of_free hgo hfree 0))
  · rw [exec_clampCommit]
    exact after_eq_of hu (if_neg (by simpa [clampCommit_hardOk] using htid))
  · subst htid
    rw [exec_clampCommit]
    exact after_eq_of hu ((if_pos rfl).trans (clampGo_of_waiting hgo hwait 0))
  · rw [exec_clampCommitActivate]
    exact after_eq_of hu (clampActivate_of_good hwait hexamined hgood htick)
  · rw [exec_clampCommitActivate]
    exact after_eq_of hu (clampActivate_of_offence hwait hexamined hbad)

/-! Address translation (R253 to R272). -/

/-- A walk that nothing stalls ends with its translation, or reports its fault; `r` is what it finds. -/
theorem mmuWalkComplete_of_walk {e tid va begun : Nat} {wr : Bool} {s : State} {r : XRes × State}
    (hstall : s.mmu.stall.get none e = none) (hwalk : r = xlate e tid (va % 2 ^ 48) wr (walkAgain tid begun s)) :
    mmuWalkComplete e tid va wr begun s = match r.1 with
      | .ok _ => r.2
      | .fault c l => engineFault e tid (va % 2 ^ 48) wr c l r.2 := by
  subst hwalk
  simp only [mmuWalkComplete, hstall, Option.isSome_none, Bool.false_eq_true, if_false]
  split <;> simp_all

theorem walkAgain_of_before {tid begun : Nat} {s : State} (h : s.mmu.invAt.get 0 tid + begun ≤ s.now) : walkAgain tid begun s = s :=
  if_neg (Nat.not_lt.2 h)

/-- A walk in flight when an invalidation of its TID started is made again. -/
theorem walkAgain_of_after {tid begun : Nat} {s : State} (h : s.now < s.mmu.invAt.get 0 tid + begun) :
    walkAgain tid begun s = s.bump .mmuCntWalk 1 :=
  if_pos h

/-- A probe takes its operands. -/
def noteProbe (v : Word) (s : State) : State := (s.wr .mmuXlateTid v.toNat).wr .mmuXlateWr (bitsOf v.toNat 16 1)

/-- The address that a probe asks for. -/
def probeVa (s : State) : Nat := s.rd .mmuXlateVaHi * 2 ^ 32 + s.rd .mmuXlateVaLo

/-- What a probe shows. -/
def showProbe (tid va : Nat) (r : XRes × State) : State :=
  match r.1 with
  | .fault c _ => ((r.2.wr .mmuXlateDone 1).wr .mmuXlateFault 1).wr .mmuXlateCause c
  | .ok x =>
    let w := ((r.2.wr .mmuXlateDone 1).wr .mmuXlateFault 0).wr .mmuXlateCause 0
    let w := ((w.wr .mmuXlatePgs x.pgs).wr .mmuXlatePaLo (x.phys va / 4096)).wr .mmuXlatePaHi (x.phys va / 2 ^ 32)
    w.wr .mmuXlateGen (w.rd .mmuGen tid)

theorem bitOf_iff (n k : Nat) : bitOf n k = true ↔ n / 2 ^ k % 2 = 1 := beq_iff_eq

/-- The probe of a TID with a page table. -/
theorem mmuXlate_of_tid {v : Word} {s : State} (hgo : bitOf v.toNat 31 = true) (htid : 24 ≤ (noteProbe v s).rd .mmuXlateTid)
    (hlive : (noteProbe v s).rd .mmuDead ((noteProbe v s).rd .mmuXlateTid) = 0) :
    mmuXlate v s = showProbe ((noteProbe v s).rd .mmuXlateTid) (probeVa (noteProbe v s))
      (xlateL2 ((noteProbe v s).rd .mmuXlateTid) (probeVa (noteProbe v s)) ((noteProbe v s).on .mmuXlateWr) (noteProbe v s)) := by
  have hdead : (noteProbe v s).on .mmuDead ((noteProbe v s).rd .mmuXlateTid) = false := State.on_eq_false_of_rd hlive
  have hwalks : ¬ (noteProbe v s).rd .mmuXlateTid < 24 := Nat.not_lt.2 htid
  simp only [noteProbe, probeVa, showProbe] at *
  simp only [mmuXlate, hgo, Bool.not_true, Bool.false_eq_true, if_false, if_neg hwalks, hdead]
  split <;> simp_all

/-- The replicas whose stalls a resume of tid ends are retired first. -/
def retireStalled (tid : Nat) (s : State) : State := (stalledReplicas s tid).foldl retireReplica s

/-- The runtime resumes a TID at once, or once the invalidations have begun that did not fit. -/
theorem runtimeResume_eq (tid : Nat) (s : State) : runtimeResume tid s =
    let x := startInvs (retireStalled tid s).host.inv (retireStalled tid s)
    let t := { x.2 with host := { x.2.host with inv := x.1 } }
    if x.1.isEmpty then mmuResume tid t else t := rfl

theorem runtimeResume_of_none {tid : Nat} {s : State} (hnone : stalledReplicas s tid = []) (hinv : s.host.inv = []) :
    runtimeResume tid s = mmuResume tid s := by
  have hsame : { s with host := { s.host with inv := [] } } = s := by rw [← hinv]
  rw [runtimeResume_eq, retireStalled, hnone]
  simp only [List.foldl_nil, hinv, startInvs, List.isEmpty_nil, if_true, hsame]

theorem runtimeResume_of_waiting {tid : Nat} {s : State} {x : List (Nat × Nat × Nat) × State}
    (hx : x = startInvs (retireStalled tid s).host.inv (retireStalled tid s)) (hwait : x.1 ≠ []) :
    runtimeResume tid s = { x.2 with host := { x.2.host with inv := x.1 } } := by
  rw [runtimeResume_eq, ← hx]
  exact if_neg fun hempty => hwait (List.isEmpty_iff.1 hempty)

/-- A retry whose walk succeeds ends the stall. -/
theorem mmuRetry_of_ok {e : Nat} {x : MmuStall} {r : XRes × State} {y : TlbEnt} {s : State}
    (hstall : s.mmu.stall.get none e = some x) (hretry : x.retry = true) (hruns : invRuns s x.tid = false)
    (hwalk : r = xlate e x.tid x.va x.wr (unstall e s)) (hok : r.1 = .ok y) : mmuRetry e s = r.2 := by
  obtain ⟨res, t⟩ := r
  cases hok
  have hgo : x.retry = true ∧ (!invRuns s x.tid) = true := ⟨hretry, by rw [hruns]; rfl⟩
  simp only [mmuRetry, hstall, if_pos hgo, ← hwalk]

/-- The invalidation that a write of MMU_INV_GO asks for. -/
def invOf (s : State) : MmuInv :=
  ⟨s.rd .mmuInvTid, s.rd .mmuInvBaseHi * 2 ^ 32 + s.rd .mmuInvBaseLo * 4096, s.rd .mmuInvLen, s.now⟩

/-- An invalidation begins: the generation advances, and no acknowledgement has come. -/
def beginInv (i : MmuInv) (s : State) : State :=
  (((((s.wr .mmuGen (nextGen (s.rd .mmuGen i.tid)) i.tid).wr .mmuInvBusy 1).wr .mmuInvGo 1).wr .mmuInvTimeout 0).wr .mmuInvAckLo 0).wr
    .mmuInvAckHi 0

/-- The entries of the range are dropped from the TLBs. -/
def dropRange (i : MmuInv) (s : State) : State :=
  { s with mmu := { s.mmu with inv := some i, invAt := s.mmu.invAt.set i.tid s.now,
                               l1 := s.mmu.l1.map fun e => (e.1, e.2.filter fun x => !i.covers x),
                               l2 := s.mmu.l2.map fun e => (e.1, e.2.filter fun x => !i.covers x) } }

/-- The engines that hold nothing acknowledge at once. -/
def ackIdleEngines (s : State) : State := foldN 40 (fun e s => if ackAtOnce s e then setAck e s else s) s

section
variable {v : Word} {s : State} (hgo : bitOf v.toNat 31 = true)
include hgo

theorem mmuInvalidate_of_idle (hidle : s.rd .mmuInvBusy = 0) (tid : Nat) :
    mmuInvalidate tid v s = invDone (ackIdleEngines (dropRange (invOf (s.wr .mmuInvTid v.toNat))
      (beginInv (invOf (s.wr .mmuInvTid v.toNat)) (s.wr .mmuInvTid v.toNat)))) := by
  simp only [mmuInvalidate, hgo, State.on_eq_false_of_rd hidle, Bool.not_true, Bool.false_eq_true, if_false]
  rfl

theorem mmuInvalidate_of_busy (hbusy : s.rd .mmuInvBusy = 1) (tid : Nat) :
    mmuInvalidate tid v s = mmuReject tid 0x030 (s.wr .mmuInvTid v.toNat) := by
  simp only [mmuInvalidate, hgo, State.on_iff.2 hbusy, Bool.not_true, Bool.false_eq_true, if_false, if_true]

end

section
variable {i : MmuInv} {s : State} (hinv : s.mmu.inv = some i)
include hinv

theorem mmuInvAck_of_free {e : Nat} (hfree : invHeld s e = false) : mmuInvAck e s = invDone (setAck e s) := by
  have hruns : s.mmu.inv.isSome = true := by rw [hinv]; rfl
  rw [mmuInvAck, if_neg (ne_true_of_eq_false hfree), ackIdle, if_pos hruns]

theorem mmuInvTimeout_of_late (hlate : i.at_ + 100 * rootPerUs ≤ s.now) (hfirst : s.rd .mmuInvTimeout = 0) :
    mmuInvTimeout s =
      raise .mmuInvTimeout 1 ((List.range 40).countP fun e => !ackBit s e) (s.wr .mmuInvTimeout 1) := by
  have hdue : i.at_ + 100 * rootPerUs ≤ s.now ∧ (!s.on .mmuInvTimeout) = true :=
    ⟨hlate, by rw [State.on_eq_false_of_rd hfirst]; rfl⟩
  simp only [mmuInvTimeout, hinv, if_pos hdue]

end

/-- Settles O23, by what each walk finds, by the replicas that a resume retires, and by the invalidation that runs. -/
theorem translationCommands : Obligations.TranslationCommands := by
  refine ⟨fun dt e tid va wr begun r s u hu hstall hbefore hr => ?_, fun dt e tid va wr begun r s u hu hstall hafter hr => ?_,
    fun dt v t r s u hu hgo ht htid hlive hr => ?_, fun dt tid s u hu hnone hinv => ?_, fun dt tid x s u hu hx hwait => ?_,
    fun dt e x r y s u hu hstall hretry hruns hr hok => ?_, fun dt tid v w t i s u hu hgo hidle hw hi ht => ?_,
    fun dt tid v s u hu hgo hbusy => ?_, fun dt e i s u hu hinv hfree => ?_, fun dt i s u hu hinv hlate hfirst => ?_⟩
  · rw [exec_mmuWalkComplete]
    exact after_eq_of hu (mmuWalkComplete_of_walk hstall (by rw [walkAgain_of_before hbefore]; exact hr))
  · rw [exec_mmuWalkComplete]
    exact after_eq_of hu (mmuWalkComplete_of_walk hstall (by rw [walkAgain_of_after hafter]; exact hr))
  · subst ht hr
    rw [exec_mmuXlate]
    exact after_eq_of hu (mmuXlate_of_tid ((bitOf_iff _ _).2 hgo) htid hlive)
  · rw [exec_mmuResume]
    exact after_eq_of hu (runtimeResume_of_none hnone hinv)
  · rw [exec_mmuResume]
    exact after_eq_of hu (runtimeResume_of_waiting hx hwait)
  · rw [exec_mmuRetry]
    exact after_eq_of hu (mmuRetry_of_ok hstall hretry hruns hr hok)
  · subst ht hi hw
    rw [exec_mmuInvalidate]
    exact after_eq_of hu (mmuInvalidate_of_idle ((bitOf_iff _ _).2 hgo) hidle tid)
  · rw [exec_mmuInvalidate]
    exact after_eq_of hu (mmuInvalidate_of_busy ((bitOf_iff _ _).2 hgo) hbusy tid)
  · rw [exec_mmuInvAck]
    exact after_eq_of hu (mmuInvAck_of_free hinv hfree)
  · rw [exec_mmuInvTimeout]
    exact after_eq_of hu (mmuInvTimeout_of_late hinv hlate hfirst)

end Sys2Proof.Machine
end

section
/-! PROOFS. The families of the task channels (R280 to R288) and of the classification of a model (R291 to R293). -/

namespace Sys2Proof.Machine

/-! Submission and dispatch (R280, R281, R284). -/

theorem chTailSubmit_of_ringOk {ch v : Nat} {s : State} (h : ringOk 8 (chH s ch) (s.rd .chTail ch) v = true) (tid : Nat) :
    chTailSubmit tid ch v s = showCh ch (s.wr .chTail v ch) :=
  if_pos h

theorem chTailSubmit_of_not_ringOk {ch v : Nat} {s : State} (h : ringOk 8 (chH s ch) (s.rd .chTail ch) v = false) (tid : Nat) :
    chTailSubmit tid ch v s = schReject tid (chOff ch + 4) s :=
  if_neg (ne_true_of_eq_false h)

section
variable {c ch : Nat} {s : State}

theorem taskDispatch_of_resource {r : TaskRes} (h : (tdOrder s c).findSome? (tdTake s c) = some (ch, some r)) :
    taskDispatch c s = startTask ch (taskDesc s ch (s.rd .chHead ch)) r s := by
  rw [taskDispatch, h]

variable (h : (tdOrder s c).findSome? (tdTake s c) = some (ch, none))
include h

/-- A barrier completes with result 1. -/
theorem taskDispatch_of_barrier (hvalid : taskValid s ch (taskDesc s ch (s.rd .chHead ch)) = true) :
    taskDispatch c s = endHead ch 1 s := by
  simp only [taskDispatch, h, hvalid, if_true]

/-- An invalid task ends with result 7. -/
theorem taskDispatch_of_invalid (hvalid : taskValid s ch (taskDesc s ch (s.rd .chHead ch)) = false) :
    taskDispatch c s = endHead ch 7 s := by
  simp only [taskDispatch, h, hvalid, Bool.false_eq_true, if_false]

end

/-! Completion and overrun (R285, R286). -/

theorem pastLimit_eq_false {s : State} {r : TaskRun} (h : runTime s r < tlim s + rootPerT) : pastLimit s r = false :=
  decide_eq_false (Nat.not_le.2 h)

section
variable {ch i : Nat} {r : TaskRun} {s : State} (hrun : findRun s ch i = some r) (hgoes : r.stallFrom = none)
include hrun hgoes

/-- A core task ends with the result that arose, or in time with result 1. -/
theorem taskComplete_of_core {k : Nat} (hres : r.res = .core k) (hends : r.fail ≠ 0 ∨ runTime s r < tlim s + rootPerT) :
    taskComplete ch i s = endRun r (if r.fail = 0 then 1 else r.fail) s := by
  simp only [taskComplete, hrun, hgoes, Option.isSome_none, Bool.false_eq_true, if_false, hres]
  by_cases hfail : r.fail = 0
  · have hintime := pastLimit_eq_false (hends.resolve_left (not_not_intro hfail))
    simp only [hfail, hintime, ne_eq, not_true, if_true, Bool.false_eq_true, if_false]
  · simp only [hfail, ne_eq, not_false_eq_true, if_true, if_false]

/-- A DMA task whose rows all move in time ends with result 1. -/
theorem taskComplete_of_dma {c x k : Nat} {t : State} (hres : r.res = .dma c x) (hintime : runTime s r < tlim s + rootPerT)
    (hrows : dmaRun r 65536 s = (0, k, t)) : taskComplete ch i s = endRun r 1 t := by
  simp only [taskComplete, hrun, hgoes, Option.isSome_none, Bool.false_eq_true, if_false, hres, pastLimit_eq_false hintime,
    completeDma, hrows, if_true]

/-- A convolution task ends once its job has. -/
theorem taskComplete_of_cnv {c : Nat} (hres : r.res = .cnv c) (hfail : r.fail ≠ 0) :
    taskComplete ch i s = endRun r (if tlim s < runTime s r then 6 else r.fail) s := by
  simp only [taskComplete, hrun, hgoes, Option.isSome_none, Bool.false_eq_true, if_false, hres, completeCnv, hfail]

/-- A core task that still runs in the TCLK of TLIM is abandoned. -/
theorem taskOverrun_of_core {k : Nat} (hlate : tlim s ≤ runTime s r) (hnow : runTime s r < tlim s + rootPerT) (hfail : r.fail = 0)
    (hres : r.res = .core k) (rows : Nat) : taskOverrun ch i rows s = abandonCore r k s := by
  have hover : ¬ (r.stallFrom.isSome = true ∨ r.fail ≠ 0 ∨ runTime s r < tlim s ∨ pastLimit s r = true) := by
    simp [hgoes, hfail, Nat.not_lt.2 hlate, pastLimit_eq_false hnow]
  simp only [taskOverrun, hrun, if_neg hover, hres]

end

theorem abandonCore_of_idle {r : TaskRun} {t : Nat} {s : State} (h : s.rd .tcState t ≠ 1 ∨ (s.core t).busyTo ≤ s.now) :
    abandonCore r t s = endRun r 6 s := by
  refine if_neg fun ⟨hstate, hbusy⟩ => ?_
  obtain h | h := h
  · exact h hstate
  · exact Nat.not_lt.2 h hbusy

/-- A core with operations in flight is busy until they have completed. -/
theorem abandonCore_of_busy {r : TaskRun} {k : Nat} {s t : State} (hstate : s.rd .tcState k = 1) (hbusy : s.now < (s.core k).busyTo)
    (ht : t = endRun r 6 s) : abandonCore r k s =
      ({ t with sch := { t.sch with drain := k :: t.sch.drain } }.wr .tcState 1 k).wr .tcTid r.tid k := by
  rw [ht]
  exact if_pos ⟨hstate, hbusy⟩

/-! Resume and flush (R287, R288). -/

theorem chResume_of_halted {ch : Nat} {s : State} (h : s.rd .chState ch = 2) : chResume ch s = showCh ch (s.wr .chState 0 ch) :=
  if_pos h

theorem cancelQueued_of_empty {ch : Nat} {s : State} (h : chQueued s ch = 0) (n : Nat) : cancelQueued ch n s = s := by
  cases n with
  | zero => rfl
  | succ n => exact if_pos h

/-- The oldest queued task ends with result 8. -/
def cancelHead (ch : Nat) (s : State) : State := endEntry ch (s.rd .chHead ch) 8 0 (s.wr .chHead (s.rd .chHead ch + 1) ch)

theorem cancelQueued_of_queued {ch : Nat} {s : State} (h : chQueued s ch ≠ 0) (n : Nat) :
    cancelQueued ch (n + 1) s = cancelQueued ch n (cancelHead ch s) :=
  if_neg h

/-- A channel with one queued task. -/
theorem cancelQueued_of_one {ch : Nat} {s : State} (h : chQueued s ch = 1) (hlast : chQueued (cancelHead ch s) ch = 0) (n : Nat) :
    cancelQueued ch (n + 1) s = cancelHead ch s :=
  (cancelQueued_of_queued (by rw [h]; decide) n).trans (cancelQueued_of_empty hlast n)

/-- Settles O25, by what the dispatcher takes, and by the resource, the result and the time of a running task. -/
theorem taskChannels : Obligations.TaskChannels := by
  refine ⟨fun dt tid ch v s u hu hring => ?_, fun dt tid ch v s u hu hring => ?_, fun dt c ch r s u hu htake => ?_,
    fun dt c ch s u hu htake hvalid => ?_, fun dt c ch s u hu htake hvalid => ?_, fun dt ch i r k s u hu hrun hgoes hres hends => ?_,
    fun dt ch i r c x k t s u hu hrun hgoes hres hintime hrows => ?_, fun dt ch i r c s u hu hrun hgoes hres hfail => ?_,
    fun dt ch i rows r k s u hu hrun hgoes hlate hnow hfail hres hidle => ?_,
    fun dt ch i rows r k t s u hu hrun hgoes hlate hnow hfail hres hstate hbusy ht => ?_, fun dt ch s u hu hhalted => ?_,
    fun dt ch i s u hu hi hone hlast => ?_, fun dt ch s u hu hnone => ?_⟩
  · rw [exec_chTailSubmit]
    exact after_eq_of hu (chTailSubmit_of_ringOk hring tid)
  · rw [exec_chTailSubmit]
    exact after_eq_of hu (chTailSubmit_of_not_ringOk hring tid)
  · rw [exec_taskDispatch]
    exact after_eq_of hu (taskDispatch_of_resource htake)
  · rw [exec_taskDispatch]
    exact after_eq_of hu (taskDispatch_of_barrier htake hvalid)
  · rw [exec_taskDispatch]
    exact after_eq_of hu (taskDispatch_of_invalid htake hvalid)
  · rw [exec_taskComplete]
    exact after_eq_of hu (congrArg handOver (taskComplete_of_core hrun hgoes hres hends))
  · rw [exec_taskComplete]
    exact after_eq_of hu (congrArg handOver (taskComplete_of_dma hrun hgoes hres hintime hrows))
  · rw [exec_taskComplete]
    exact after_eq_of hu (congrArg handOver (taskComplete_of_cnv hrun hgoes hres hfail))
  · rw [exec_taskOverrun]
    exact after_eq_of hu (congrArg handOver
      ((taskOverrun_of_core hrun hgoes hlate hnow hfail hres rows).trans (abandonCore_of_idle hidle)))
  · rw [exec_taskOverrun]
    exact after_eq_of hu (congrArg handOver
      ((taskOverrun_of_core hrun hgoes hlate hnow hfail hres rows).trans (abandonCore_of_busy hstate hbusy ht)))
  · rw [exec_chResume]
    exact after_eq_of hu (chResume_of_halted hhalted)
  · subst hi
    rw [exec_chFlush]
    exact after_eq_of hu (cancelQueued_of_one hone hlast 7)
  · rw [exec_chFlush]
    exact after_eq_of hu (cancelQueued_of_empty hnone 8)

/-! The classification of a model (R291 to R293). -/

/-- Bytes of weights that the slot's clusters hold beside the arena (Table SCH-7). -/
def weightSpace (s : State) (k aCs : Nat) : Nat := ctxClusters s k * (s.rd .ctxCsNb k * 0x20000 - aCs)

/-- The report of a load: what it found, and the excesses. -/
def reportLoad (k modelId cls why w aCs aLs cost err : Nat) (s : State) : State :=
  { s with sch := { s.sch with
      load := ⟨modelId, cls, why, w - weightSpace s k aCs, aLs - s.rd .ctxLsNb k * 0x8000, 0, cost, err⟩ } }

section
variable {k w aCs aLs : Nat} {img : ModelImage} {s : State}

theorem modelLoad_of_fits (hclass : classify s k img w aCs aLs = (0, 0)) (modelId : Nat) :
    modelLoad k modelId img w aCs aLs s = reportLoad k modelId 0 0 w aCs aLs 0 0 s := by
  simp only [modelLoad, hclass]
  rfl

theorem modelLoad_of_streamed (hclass : classify s k img w aCs aLs = (1, 0)) (modelId : Nat) :
    modelLoad k modelId img w aCs aLs s = raise .schFitsStreamed 1 k
      (reportLoad k modelId 1 0 w aCs aLs (ceilDiv (w - weightSpace s k aCs) (2 * s.rd .ctxBw k)) 0 s) := by
  simp only [modelLoad, hclass]
  rfl

theorem modelLoad_of_rejected {why : Nat} (hclass : classify s k img w aCs aLs = (3, why)) (modelId : Nat) :
    modelLoad k modelId img w aCs aLs s =
      raise .schModelRejected 1 why (reportLoad k modelId 3 why w aCs aLs 0 molRejected s) := by
  simp only [modelLoad, hclass]
  rfl

theorem classify_of_malformed (himg : img.ok = false) (s : State) (k w aCs aLs : Nat) : classify s k img w aCs aLs = (3, 1) := by
  simp only [classify, himg, Bool.not_false, if_true]

variable (himg : img.ok = true)
include himg

theorem classify_of_oversize (h : s.rd .ctxLsNb k * 0x8000 < aLs ∨ s.rd .ctxCsNb k * 0x20000 ≤ aCs) (w : Nat) :
    classify s k img w aCs aLs = (3, 2) := by
  simp only [classify, himg, Bool.not_true, Bool.false_eq_true, if_false, if_pos h]

variable (hls : aLs ≤ s.rd .ctxLsNb k * 0x8000) (hcs : aCs < s.rd .ctxCsNb k * 0x20000)
include hls hcs

/-- A model whose arena fits is classified by its weights. -/
theorem classify_of_arena (w : Nat) : classify s k img w aCs aLs =
    if w ≤ weightSpace s k aCs then (0, 0) else if 4 * w ≤ 5 * weightSpace s k aCs then (1, 0)
    else if chipCapacity s < w ∧ assemblyThere s then (2, 0) else if w ≤ chipCapacity s then (3, 3) else (3, 4) := by
  have harena : ¬ (s.rd .ctxLsNb k * 0x8000 < aLs ∨ s.rd .ctxCsNb k * 0x20000 ≤ aCs) :=
    not_or.2 ⟨Nat.not_lt.2 hls, Nat.not_le.2 hcs⟩
  simp only [classify, himg, Bool.not_true, Bool.false_eq_true, if_false, if_neg harena, weightSpace]
  rfl

theorem classify_of_fits (hw : w ≤ weightSpace s k aCs) : classify s k img w aCs aLs = (0, 0) :=
  (classify_of_arena himg hls hcs w).trans (if_pos hw)

theorem classify_of_streamed (hmore : weightSpace s k aCs < w) (hquarter : 4 * w ≤ 5 * weightSpace s k aCs) :
    classify s k img w aCs aLs = (1, 0) :=
  (classify_of_arena himg hls hcs w).trans ((if_neg (Nat.not_le.2 hmore)).trans (if_pos hquarter))

end

/-- Settles O26, by the rows of Table SCH-7. -/
theorem modelClassification : Obligations.ModelClassification := by
  refine ⟨fun dt k modelId img w aCs aLs ls cs sh s u hu hls hcs hsh himg hals hacs hw => ?_,
    fun dt k modelId img w aCs aLs ls cs sh s u hu hls hcs hsh himg hals hacs hmore hquarter => ?_,
    fun dt k modelId img w aCs aLs ls cs sh s u hu hls hcs hsh himg => ?_,
    fun dt k modelId img w aCs aLs ls cs sh s u hu hls hcs hsh himg hover => ?_⟩
  · subst hsh hls hcs
    rw [exec_modelLoad]
    exact after_eq_of hu (modelLoad_of_fits (classify_of_fits himg hals hacs hw) modelId)
  · subst hsh hls hcs
    rw [exec_modelLoad]
    exact after_eq_of hu (modelLoad_of_streamed (classify_of_streamed himg hals hacs hmore hquarter) modelId)
  · subst hsh hls hcs
    rw [exec_modelLoad]
    exact after_eq_of hu (modelLoad_of_rejected (classify_of_malformed himg u k w aCs aLs) modelId)
  · subst hsh hls hcs
    rw [exec_modelLoad]
    exact after_eq_of hu (modelLoad_of_rejected (classify_of_oversize himg hover w) modelId)

end Sys2Proof.Machine
end

section
/-! PROOFS. The families of the object dictionary: its requests (R294 to R300), the store and the log (R301 to R309, R365), and the drive
profile (R311 to R317). -/

namespace Sys2Proof.Machine

/-! The front request (R294, R298). -/

/-- The server takes request q from the front of its queue, which leaves x. -/
def OdTakes (u : State) (q : OdReq) (x : State) : Prop :=
  u.od.auth = none ∧ ∃ l, u.od.queue = q :: l ∧ x = { u with od := { u.od with queue := l } }

/-- The front request is served where the command picks it. -/
theorem odServe_of_front {u x : State} {q : OdReq} (h : OdTakes u q x) {p : OdReq → Bool} (hp : p q = true)
    (f : OdReq → State → State) : odServe p f u = f q x := by
  obtain ⟨hauth, l, hqueue, rfl⟩ := h
  have hfront : odFront u = some q := by simp [odFront, hauth, hqueue]
  simp only [odServe, hfront, hp, if_true, odPop, hqueue, List.drop_succ_cons, List.drop_zero]

theorem OdReq.data_of_write {q : OdReq} {v : List Byte} (h : q.op = .write v) : q.data = some v := by
  rw [OdReq.data, h]

theorem odDone_zero (q : OdReq) (s : State) : odDone q 0 s = odReply q 0 0 [] s := rfl

theorem odDone_of_ne_zero {code : Nat} (h : code ≠ 0) (q : OdReq) (s : State) : odDone q code s = odReply q 1 code [] s := by
  rw [odDone, if_neg h]

/-! Reception (R294 to R296). -/

theorem odTurnAway_of_can {q : OdReq} (h : q.src.port = 0) (code : Nat) (s : State) : odTurnAway q code s = odReply q 1 code [] s :=
  if_neg (by simp [h])

theorem odReceive_of_not_ready {s : State} (h : s.rd .hostDictReady ≠ 1) (q : OdReq) : odReceive q s = odTurnAway q abState s := by
  have hready : dictReady s = false := beq_eq_false_iff_ne.2 h
  rw [odReceive, hready]
  rfl

section
variable {q : OdReq} {s : State} (hready : s.rd .hostDictReady = 1)
include hready

theorem odReceive_of_room (h : (s.od.queue.filter fun r => r.src.port == q.src.port).length < 16) :
    odReceive q s = { s with od := { s.od with queue := s.od.queue ++ [q.stamp s.now] } } := by
  have hdict : dictReady s = true := State.on_iff.2 hready
  rw [odReceive, hdict]
  exact if_neg (Nat.not_le.2 h)

theorem odReceive_of_full (h : 16 ≤ (s.od.queue.filter fun r => r.src.port == q.src.port).length) :
    odReceive q s = odTurnAway q abQueue (odOverflow q s) := by
  have hdict : dictReady s = true := State.on_iff.2 hready
  rw [odReceive, hdict]
  exact if_pos h

end

/-- The first request of CAN that finds the queue full is counted and reported. -/
theorem odOverflow_of_can {q : OdReq} {s : State} (hport : q.src.port = 0) (hfirst : 0 ∉ s.od.ovfTold) : odOverflow q s =
    let t := s.setOb .odOvf (satAdd 32 (s.ob .odOvf 0 0) 1) 0 0
    raise .odQueueOvf 1 0 { t with od := { t.od with ovfTold := 0 :: t.od.ovfTold } } := by
  have htold (v : Nat) : 0 ∉ (s.setOb .odOvf v 0 0).od.ovfTold := hfirst
  simp only [odOverflow, hport, htold, if_false, OfNat.zero_ne_ofNat]

/-! Reads and writes (R298 to R300). -/

/-- A read that is not one of the event log. -/
def PlainRead (q : OdReq) : Prop := q.op = .read ∧ q.names .logRecord = false ∧ q.names .logBlock = false

section
variable {u x : State} {q : OdReq} (htake : OdTakes u q x)
include htake

theorem odRead_of_front (hread : PlainRead q) : odRead u =
    if odAccess q.idx q.sub false ≠ 0 then odReply q 1 (odAccess q.idx q.sub false) [] x
    else match objAt q.idx q.sub with
      | none => x
      | some k => if blockBad q k (odBytes x k) then odReply q 1 abSize [] x else odReply q 0 0 (odBytes x k) x := by
  obtain ⟨hop, hrec, hblock⟩ := hread
  rw [odRead]
  exact odServe_of_front htake (by simp [OdReq.isRead, hop, hrec, hblock]) _

/-- A read that Table OD-2 allows returns the bytes of the object. -/
theorem odRead_of_allowed (hread : PlainRead q) (hok : odAccess q.idx q.sub false = 0) {k : ObjKey}
    (hobj : objAt q.idx q.sub = some k) : odRead u = odReply q 0 0 (odBytes x k) x := by
  have hwhole : blockBad q k (odBytes x k) = false := by simp [blockBad, hread.1]
  simp only [odRead_of_front htake hread, hok, ne_eq, not_true, if_false, hobj, hwhole, Bool.false_eq_true]

theorem odRead_of_refused (hread : PlainRead q) (hbad : odAccess q.idx q.sub false ≠ 0) :
    odRead u = odReply q 1 (odAccess q.idx q.sub false) [] x :=
  (odRead_of_front htake hread).trans (if_pos hbad)

variable {v : List Byte} (hop : q.op = .write v) (progEnd : Nat)
include hop

theorem odWrite_of_front (hplain : (objAt q.idx q.sub).any (fun k => ownRow k.o) = false) : odWrite progEnd u =
    if odWriteCheck x q.idx q.sub v ≠ 0 then odReply q 1 (odWriteCheck x q.idx q.sub v) [] x
    else match objAt q.idx q.sub with
      | none => x
      | some k => odReply q 0 0 [] (odApply k (leNat v) progEnd x) := by
  have hpick : q.plainWrite = true := by simp [OdReq.plainWrite, OdReq.data_of_write hop, hplain]
  have hdata : q.data.getD [] = v := by rw [OdReq.data_of_write hop, Option.getD_some]
  subst hdata
  rw [odWrite]
  exact odServe_of_front htake hpick _

/-- A write that passes the checks takes effect and is answered. -/
theorem odWrite_of_allowed {k : ObjKey} (hobj : objAt q.idx q.sub = some k) (hplain : ownRow k.o = false)
    (hok : odWriteCheck x q.idx q.sub v = 0) : odWrite progEnd u = odReply q 0 0 [] (odApply k (leNat v) progEnd x) := by
  rw [odWrite_of_front htake hop progEnd (by simp [hobj, hplain])]
  simp only [hok, ne_eq, not_true, if_false, hobj]

theorem odWrite_of_refused (hplain : (objAt q.idx q.sub).any (fun k => ownRow k.o) = false)
    (hbad : odWriteCheck x q.idx q.sub v ≠ 0) : odWrite progEnd u = odReply q 1 (odWriteCheck x q.idx q.sub v) [] x :=
  (odWrite_of_front htake hop progEnd hplain).trans (if_pos hbad)

end

/-- Settles O27, by the room of the queue, and by the checks of Table OD-2 on the request at its front. -/
theorem dictionaryRequests : Obligations.DictionaryRequests := by
  refine ⟨fun dt q s u hu hready hport => ?_, fun dt q s u hu hready hroom => ?_, fun dt q s u hu hready hfull hport hfirst => ?_,
    fun dt q l x k s u hu hauth hqueue hx hop hrec hblock hok hobj => ?_,
    fun dt q l x s u hu hauth hqueue hx hop hrec hblock hbad => ?_,
    fun dt progEnd q l x k v s u hu hauth hqueue hx hop hobj hplain hok => ?_,
    fun dt progEnd q l x v s u hu hauth hqueue hx hop hplain hbad => ?_⟩
  · rw [exec_odRequestReceive]
    exact after_eq_of hu ((odReceive_of_not_ready hready q).trans (odTurnAway_of_can hport _ u))
  · rw [exec_odRequestReceive]
    exact after_eq_of hu (odReceive_of_room hready hroom)
  · rw [exec_odRequestReceive]
    refine after_eq_of hu ((odReceive_of_full hready hfull).trans ?_)
    rw [odTurnAway_of_can hport, odOverflow_of_can hport hfirst]
    rfl
  · rw [exec_odRead]
    exact after_eq_of hu (odRead_of_allowed ⟨hauth, l, hqueue, hx⟩ ⟨hop, hrec, hblock⟩ hok hobj)
  · rw [exec_odRead]
    exact after_eq_of hu (odRead_of_refused ⟨hauth, l, hqueue, hx⟩ ⟨hop, hrec, hblock⟩ hbad)
  · rw [exec_odWrite]
    exact after_eq_of hu (odWrite_of_allowed ⟨hauth, l, hqueue, hx⟩ hop progEnd hobj hplain hok)
  · rw [exec_odWrite]
    exact after_eq_of hu (odWrite_of_refused ⟨hauth, l, hqueue, hx⟩ hop progEnd hplain hbad)

/-! The store (R301 to R303), process data (R306), the event log (R308, R309) and the staging buffer (R365). -/

/-- The front request on 0x1010:01. -/
theorem odStore_of_front {u x : State} {q : OdReq} (htake : OdTakes u q x) (hwrites : q.writes .storeAll = true) : odStore u =
    if ownCheck q ≠ 0 then odDone q (ownCheck q) x
    else if q.num ≠ 0x65766173 then odDone q abCheck x
    else if x.od.store.isSome then odDone q abState x
    else { x with od := { x.od with store := some ⟨snapshot x .p, q⟩ } } := by
  rw [odStore, odServe_of_front htake hwrites]

/-- The word "save" takes a snapshot. -/
theorem odStore_of_save {u x : State} {q : OdReq} (htake : OdTakes u q x) (hwrites : q.writes .storeAll = true)
    (hok : ownCheck q = 0) (hword : q.num = 0x65766173) (hidle : x.od.store = none) :
    odStore u = { x with od := { x.od with store := some ⟨snapshot x .p, q⟩ } } :=
  (odStore_of_front htake hwrites).trans ((if_neg (not_not_intro hok)).trans ((if_neg (not_not_intro hword)).trans
    (if_neg (by rw [hidle]; decide))))

theorem odStore_of_other_word {u x : State} {q : OdReq} (htake : OdTakes u q x) (hwrites : q.writes .storeAll = true)
    (hok : ownCheck q = 0) (hword : q.num ≠ 0x65766173) : odStore u = odReply q 1 abCheck [] x :=
  (odStore_of_front htake hwrites).trans ((if_neg (not_not_intro hok)).trans ((if_pos hword).trans
    (odDone_of_ne_zero (by decide) q x)))

section
variable {u x : State} {q : OdReq} (htake : OdTakes u q x)
include htake

/-- The word "load" makes the copies invalid. -/
theorem odRestore_of_load (hwrites : q.writes .restoreAll = true) (hok : ownCheck q = 0) (hword : q.num = 0x64616F6C) :
    odRestore u =
      odReply q 0 0 [] { x with od := { x.od with copies := x.od.copies.map fun c => { c with valid := false } } } := by
  rw [odRestore, odServe_of_front htake hwrites]
  exact (if_neg (not_not_intro hok)).trans (if_neg (not_not_intro hword))

theorem processDataForward_of_process {vs : List PdVal} {rx : Nat} (hop : q.op = .process vs rx) (live : TripLive) (progEnd : Nat) :
    processDataForward live progEnd u =
      odReply q 0 0 [] (watchErr 0 (vs.foldl (fun s y => pdWrite live progEnd rx y s) x)) := by
  have hvals : q.vals = some (vs, rx) := by rw [OdReq.vals, hop]
  rw [processDataForward, odServe_of_front htake (by rw [hvals]; rfl)]
  simp only [hvals, Option.getD_some]

/-- A read at the cursor takes the record there, or 16 zeros. -/
theorem logReadCursor_of_record (hop : q.op = .read) (hnames : q.names .logRecord = true) {n : Nat} {r : EvRec} {rs : List EvRec}
    (hlog : logFrom x.log = (n, r :: rs)) : logReadCursor u = odReply q 0 0 r.bytes (moveCursor n 1 x) := by
  rw [logReadCursor, odServe_of_front htake (by simp [OdReq.isRead, hop, hnames])]
  refine (if_neg (by simp [hop])).trans ?_
  rw [hlog]

theorem logReadCursor_of_end (hop : q.op = .read) (hnames : q.names .logRecord = true) {n : Nat}
    (hlog : logFrom x.log = (n, [])) : logReadCursor u = odReply q 0 0 (List.replicate 16 0) x := by
  rw [logReadCursor, odServe_of_front htake (by simp [OdReq.isRead, hop, hnames])]
  refine (if_neg (by simp [hop])).trans ?_
  rw [hlog]

theorem logBlockRead_of_block (hop : q.op = .block) (hnames : q.names .logBlock = true) {n : Nat} {rs : List EvRec}
    (hlog : logFrom x.log = (n, rs)) :
    logBlockRead u = odReply q 0 0 ((rs.take 64).flatMap EvRec.bytes) (moveCursor n (min 64 rs.length) x) := by
  rw [logBlockRead, odServe_of_front htake (by simp [OdReq.isRead, hop, hnames])]
  simp only [hlog, List.length_take]

theorem logClear_of_write (hwrites : q.writes .logClear = true) (hok : ownCheck q = 0) :
    logClear u = odReply q 0 0 [] (clearLog x) := by
  rw [logClear, odServe_of_front htake hwrites]
  exact if_neg (not_not_intro hok)

theorem stagingReset_of_write (hwrites : q.writes .stageReset = true) (hok : ownCheck q = 0) :
    stagingReset u = odReply q 0 0 [] { x with od := { x.od with staging := [] } } := by
  rw [stagingReset, odServe_of_front htake hwrites]
  exact if_neg (not_not_intro hok)

/-- A chunk that fits extends the staging buffer. -/
theorem stagingChunk_of_fit (hwrites : q.writes .stageChunk = true) (hok : ownCheck q = 0) {v : List Byte} (hop : q.op = .write v)
    (hfit : x.od.staging.length + v.length ≤ stagingMax) :
    stagingChunk u = odReply q 0 0 [] { x with od := { x.od with staging := x.od.staging ++ v } } := by
  rw [stagingChunk, odServe_of_front htake hwrites]
  simp only [OdReq.data_of_write hop, Option.getD_some]
  exact (if_neg (not_not_intro hok)).trans (if_neg (Nat.not_lt.2 hfit))

end

section
variable {r : OdStoreRun} {s : State} (hrun : s.od.store = some r)
include hrun

theorem odStoreDone_of_ok {n : Nat} (hn : n = match newestCopy s.od.copies with | some c => c.seq + 1 | none => 1) :
    odStoreDone true s = odReply r.req 0 0 [] (raise .odStored 1 n
      { s with od := { s.od with store := none, copies := putCopy ⟨n, true, r.vals⟩ s.od.copies } }) := by
  rw [hn]
  cases hcopy : newestCopy s.od.copies <;> simp only [odStoreDone, hrun, if_true, odDone_zero, hcopy]

theorem odStoreDone_of_failure : odStoreDone false s =
    odReply r.req 1 abFlash [] (raise .odStoreFail 1 0 { s with od := { s.od with store := none } }) := by
  simp only [odStoreDone, hrun, Bool.false_eq_true, if_false]
  exact odDone_of_ne_zero (by decide) ..

end

/-- Settles O28, by the word or the object that the front request writes, and by the outcome of the flash write. -/
theorem dictionaryStore : Obligations.DictionaryStore := by
  refine ⟨fun dt q l x s u hu hauth hqueue hx hwrites hok hword hidle => ?_,
    fun dt q l x s u hu hauth hqueue hx hwrites hok hword => ?_, fun dt ok r n s u hu hrun hok hn => ?_,
    fun dt ok r s u hu hrun hok => ?_, fun dt q l x s u hu hauth hqueue hx hwrites hok hword => ?_,
    fun dt live progEnd q l x vs rx s u hu hauth hqueue hx hop => ?_,
    fun dt q l x n r rs s u hu hauth hqueue hx hop hnames hlog => ?_,
    fun dt q l x n s u hu hauth hqueue hx hop hnames hlog => ?_,
    fun dt q l x n rs s u hu hauth hqueue hx hop hnames hlog => ?_, fun dt q l x s u hu hauth hqueue hx hwrites hok => ?_,
    fun dt q l x s u hu hauth hqueue hx hwrites hok => ?_,
    fun dt q l x v s u hu hauth hqueue hx hwrites hok hop hfit => ?_⟩
  · rw [exec_odStore]
    exact after_eq_of hu (odStore_of_save ⟨hauth, l, hqueue, hx⟩ hwrites hok hword hidle)
  · rw [exec_odStore]
    exact after_eq_of hu (odStore_of_other_word ⟨hauth, l, hqueue, hx⟩ hwrites hok hword)
  · subst hok
    rw [exec_odStoreDone]
    exact after_eq_of hu (odStoreDone_of_ok hrun hn)
  · subst hok
    rw [exec_odStoreDone]
    exact after_eq_of hu (odStoreDone_of_failure hrun)
  · rw [exec_odRestoreDefaults]
    exact after_eq_of hu (odRestore_of_load ⟨hauth, l, hqueue, hx⟩ hwrites hok hword)
  · rw [exec_processDataForward]
    exact after_eq_of hu (processDataForward_of_process ⟨hauth, l, hqueue, hx⟩ hop live progEnd)
  · rw [exec_logReadCursor]
    exact after_eq_of hu (logReadCursor_of_record ⟨hauth, l, hqueue, hx⟩ hop hnames hlog)
  · rw [exec_logReadCursor]
    exact after_eq_of hu (logReadCursor_of_end ⟨hauth, l, hqueue, hx⟩ hop hnames hlog)
  · rw [exec_logBlockRead]
    exact after_eq_of hu (logBlockRead_of_block ⟨hauth, l, hqueue, hx⟩ hop hnames hlog)
  · rw [exec_logClear]
    exact after_eq_of hu (logClear_of_write ⟨hauth, l, hqueue, hx⟩ hwrites hok)
  · rw [exec_stagingReset]
    exact after_eq_of hu (stagingReset_of_write ⟨hauth, l, hqueue, hx⟩ hwrites hok)
  · rw [exec_stagingChunk]
    exact after_eq_of hu (stagingChunk_of_fit ⟨hauth, l, hqueue, hx⟩ hwrites hok hop hfit)

/-! Modes of operation (R311). -/

theorem modeRow_zero : modeRow 0 = none := by decide

/-- Forwarding a target leaves the drive profile alone. -/
theorem forwardMode_prof (n : Nat) (s : State) (k : Nat) : (forwardMode n s).prof k = s.prof k := by
  unfold forwardMode
  split <;> rfl

/-- A mode of Table OD-8 below Operation enabled sets mode and source; only an axis in Not ready to switch on changes its state. -/
theorem modeWrite_of_row {n mode src : Nat} {m : Int} {s : State} (hrow : modeRow m = some (mode, src)) (hst : (s.prof n).st = 1)
    (htaken : modeTaken s n src = true) : modeWrite n m s =
      (0, forwardMode n (((s.setOb .axModeObj (unsigned 8 m) n).wr .axMode mode n).wr .axSpsrc src n)) := by
  have hm : m ≠ 0 := by
    rintro rfl
    cases modeRow_zero.symm.trans hrow
  have hkept : ((forwardMode n (((s.setOb .axModeObj (unsigned 8 m) n).wr .axMode mode n).wr .axSpsrc src n)).prof n).st = 1 :=
    (congrArg ProfSt.st (forwardMode_prof ..)).trans hst
  simp only [modeWrite, hst, hm, hrow, htaken, hkept, Nat.reduceLeDiff, if_false, if_true, one_ne_zero]

theorem modeWrite_of_enabled {n : Nat} {s : State} (hst : 4 ≤ (s.prof n).st) (m : Int) : modeWrite n m s = (abState, s) :=
  if_pos hst

section
variable {u x : State} {q : OdReq} {n : Nat} (htake : OdTakes u q x)
include htake

section
variable (hwrites : q.axisWrite .axModeObj n = true) (hok : ownCheck q = 0)
include hwrites hok

/-- A value of Table OD-8, or 0, is written as a mode. -/
theorem modeOfOperationWrite_of_mode (hmode : signed 8 q.num = 0 ∨ (modeRow (signed 8 q.num)).isSome = true) :
    modeOfOperationWrite n u = odDone q (modeWrite n (signed 8 q.num) x).1 (modeWrite n (signed 8 q.num) x).2 := by
  have hvalue : ¬ (signed 8 q.num ≠ 0 ∧ (modeRow (signed 8 q.num)).isNone = true) := by
    rintro ⟨hne, hnone⟩
    have hsome := hmode.resolve_left hne
    rw [Option.isNone_iff_eq_none.1 hnone] at hsome
    cases hsome
  rw [modeOfOperationWrite, odServe_of_front htake hwrites]
  simp only [hok, ne_eq, not_true, if_false, if_neg hvalue]

end

/-- A controlword is evaluated, and its answer sent. -/
theorem controlwordWrite_of_word (hwrites : q.axisWrite .axControl n = true) (hok : ownCheck q = 0) (live : TripLive) {c : Nat}
    {t : State} (h : controlword n q.num live x = (c, t)) : controlwordWrite n live u = odDone q c (watchErr 0 t) := by
  rw [controlwordWrite, odServe_of_front htake hwrites]
  simp only [hok, ne_eq, not_true, if_false, h]

end

/-! Controlwords (R312, R313, R315). -/

section
variable {n v : Nat} {s : State} (hmode : profMode s n ≠ 0)
include hmode

theorem controlword_of_no_row (hst : (s.prof n).st ≠ 7) (hrow : cwRow (s.prof n).st v = none) (live : TripLive) :
    controlword n v live s = (0, s.setOb .axControl v n) := by
  simp only [controlword, if_neg hmode, if_neg hst, hrow]

/-- Transition 2. -/
theorem controlword_of_shutdown (hst : (s.prof n).st = 1) (live : TripLive) :
    controlword n 6 live s = (0, goState n 2 (s.setOb .axControl 6 n)) := by
  have hrow : cwRow 1 6 = some ⟨[1], 0x87, 0x06, 2, 2⟩ := by decide
  simp only [controlword, if_neg hmode, hst, hrow]
  rfl

/-- Transition 4 of an axis that is not armed is refused. -/
theorem controlword_of_unarmed (hst : (s.prof n).st = 3) (harmed : s.rdBit .safArmed n = false) (live : TripLive) :
    controlword n 15 live s = (0, raise .odAxisRefused 1 n (((s.setOb .axControl 15 n).setOb .axErrCode 0xFF10 n).setProf n
      { s.prof n with refused := true })) := by
  have hrow : cwRow 3 15 = some ⟨[3], 0x8F, 0x0F, 4, 1⟩ := by decide
  have hseven : ¬ (3 : Nat) = 7 := by decide
  simp only [controlword, if_neg hmode, hst, if_neg hseven, hrow, harmed, Bool.not_false, and_self, if_true]

end

/-! The entry into Fault (R317). -/

/-- The tracking misses of axis n have been looked at. -/
def dropMiss (n : Nat) (s : State) : State := { s with drv := { s.drv with miss := s.drv.miss.filter (· != n) } }

/-- The misses of an axis are the last cause that is looked at. -/
theorem faultCause_eq (n : Nat) (s : State) : faultCause s n =
    (faultCause (dropMiss n s) n).or (if n ∈ s.drv.miss then some (0xFF03, 0) else none) := by
  have hnot : n ∉ (dropMiss n s).drv.miss := by simp [dropMiss]
  have hon : (dropMiss n s).on .mioEstop = s.on .mioEstop := rfl
  have hbit (r : RegId) : (dropMiss n s).rdBit r n = s.rdBit r n := rfl
  unfold faultCause
  rw [hon, hbit, hbit, if_neg hnot]
  by_cases hestop : s.on .mioEstop = true
  · rw [if_pos hestop, if_pos hestop]
    rfl
  by_cases hoc : s.rdBit .mioOc n = true
  · rw [if_neg hestop, if_neg hestop, if_pos hoc, if_pos hoc]
    rfl
  by_cases htrip : s.rdBit .mioTrip n = true
  · rw [if_neg hestop, if_neg hestop, if_neg hoc, if_neg hoc, if_pos htrip, if_pos htrip]
    rfl
  · rw [if_neg hestop, if_neg hestop, if_neg hoc, if_neg hoc, if_neg htrip, if_neg htrip]
    rfl

/-- A cause that holds without the misses of the axis holds with them. -/
theorem faultCause_of_dropMiss {n : Nat} {s : State} {c : Nat × Nat} (h : faultCause (dropMiss n s) n = some c) :
    faultCause s n = some c := by
  rw [faultCause_eq, h, Option.some_or]

theorem axisFaultEntry_of_enabled {n code bits : Nat} {s : State} (hcause : faultCause s n = some (code, bits))
    (hmode : profMode s n ≠ 0) (hst : (s.prof n).st = 4) : axisFaultEntry n s =
      (writeEn n 0 ((goState n 7 (dropMiss n s)).setOb .axErrCode code n)).setProf n ⟨7, false, bits, code == 0x2310⟩ := by
  have hseven : ¬ (4 : Nat) = 7 := by decide
  have hfive : ¬ (4 : Nat) = 5 := by decide
  simp only [axisFaultEntry, hcause, if_neg hmode, hst, if_neg hseven, if_neg hfive, dropMiss]

theorem State.prof_setProf_same (s : State) (n : Nat) (p : ProfSt) : (s.setProf n p).prof n = p := Tab.get_set_same ..

/-- An axis that leaves Operation enabled for Fault tells it in an emergency message. -/
theorem axisFault_of_enabled {n code bits : Nat} {s : State} (hcause : faultCause s n = some (code, bits))
    (hmode : profMode s n ≠ 0) (hst : (s.prof n).st = 4) {t : State}
    (ht : t = (writeEn n 0 ((goState n 7 (dropMiss n s)).setOb .axErrCode code n)).setProf n ⟨7, false, bits, code == 0x2310⟩) :
    axisFault n s = watchErr 0 (emcy (t.ob .axErrCode n) (faultEvent (t.ob .axErrCode n)) t) := by
  have hentry := (axisFaultEntry_of_enabled hcause hmode hst).trans ht.symm
  have hfault : (t.prof n).st = 7 := by
    rw [ht, State.prof_setProf_same]
  have henters : (s.prof n).st ≠ 7 ∧ (t.prof n).st = 7 := ⟨by rw [hst]; decide, hfault⟩
  simp only [axisFault, hentry]
  exact if_pos henters

/-- Settles O29, by the state of the axis and the row of Table OD-8 or Table OD-9 that the value names. -/
theorem driveProfile : Obligations.DriveProfile := by
  refine ⟨fun dt n q l x m mode src t s u hu hauth hqueue hx hwrites hok hm hrow hst htaken ht => ?_,
    fun dt n q l x s u hu hauth hqueue hx hwrites hok hst hmode => ?_,
    fun dt n live q l x s u hu hauth hqueue hx hwrites hok hmode hst hrow => ?_,
    fun dt n live q l x s u hu hauth hqueue hx hwrites hok hmode hst hnum => ?_,
    fun dt n live q l x s u hu hauth hqueue hx hwrites hok hmode hst hnum harmed => ?_,
    fun dt n x t code bits s u hu hx hcause hmode hst ht => ?_⟩
  · subst hm ht
    rw [exec_modeOfOperationWrite]
    refine after_eq_of hu ((modeOfOperationWrite_of_mode ⟨hauth, l, hqueue, hx⟩ hwrites hok (.inr (by rw [hrow]; rfl))).trans ?_)
    rw [modeWrite_of_row hrow hst htaken, odDone_zero]
  · rw [exec_modeOfOperationWrite]
    refine after_eq_of hu ((modeOfOperationWrite_of_mode ⟨hauth, l, hqueue, hx⟩ hwrites hok hmode).trans ?_)
    rw [modeWrite_of_enabled hst]
    exact odDone_of_ne_zero (code := abState) (by decide) q x
  · rw [exec_controlwordWrite]
    exact after_eq_of hu (controlwordWrite_of_word ⟨hauth, l, hqueue, hx⟩ hwrites hok live (controlword_of_no_row hmode hst hrow live))
  · rw [exec_controlwordWrite]
    exact after_eq_of hu (controlwordWrite_of_word ⟨hauth, l, hqueue, hx⟩ hwrites hok live
      ((congrArg (controlword n · live x) hnum).trans (controlword_of_shutdown hmode hst live)))
  · rw [exec_controlwordWrite]
    exact after_eq_of hu (controlwordWrite_of_word ⟨hauth, l, hqueue, hx⟩ hwrites hok live
      ((congrArg (controlword n · live x) hnum).trans (controlword_of_unarmed hmode hst harmed live)))
  · subst hx
    rw [exec_axisFaultEntry]
    exact after_eq_of hu (axisFault_of_enabled (faultCause_of_dropMiss hcause) hmode hst ht)

end Sys2Proof.Machine
end

section
/-! PROOFS. The families of the CAN controllers (R325 to R337) and of the CANopen node (R340 to R343). -/

namespace Sys2Proof.Machine

/-! Reception and errors (R325, R329, R336). -/

section
variable {s : State} {n : Nat} (hlive : canLive s n = true)
include hlive

/-- A classic frame that an unrestricted controller other than CAN0 receives is sorted, lowers REC and ends the rule history. -/
theorem canFrameReceive_of_classic {f : CanFrame} (hfd : f.fd = false) (hn : n ≠ 0) (ago : Nat) (resRec : Bool) {t : State}
    (ht : t = sortFrame n f ago (s.wr .canBus 0 n)) (hrom : (t.ctl n).rom = false) :
    canFrameReceive n f ago resRec s = watchErr 0 (recDown n (t.setCtl n { t.ctl n with hist := [] })) := by
  have hkeep : ((t.setCtl n { t.ctl n with hist := [] }).ctl n).rom = false :=
    (congrArg CanCtl.rom (Tab.get_set_same ..)).trans hrom
  simp only [canFrameReceive, hlive, hfd, ← ht, hkeep, if_neg hn, if_true, Bool.false_eq_true, false_and, if_false]

/-- An FD frame with FD off and protocol exceptions on is a protocol exception. -/
theorem canFrameReceive_of_exception {f : CanFrame} (hfd : f.fd = true) (hoff : s.rd .canFdEn n = 0) (hpex : s.rd .canPexOff n = 0)
    (ago : Nat) (resRec : Bool) :
    canFrameReceive n f ago resRec s = raise .canProtocolExc 0 n ((s.bump .canCntPex 1 n).wr .canBus 3 n) := by
  have hexc : f.fd = true ∧ (s.rd .canFdEn n = 0 ∨ resRec = true) := ⟨hfd, .inl hoff⟩
  simp only [canFrameReceive, if_pos hlive, if_pos hexc, if_pos hpex]

/-- An error of an unrestricted controller moves the counter that ISO 11898-1 names. -/
theorem canBusError_of_unrestricted (hrom : (s.ctl n).rom = false) (e : CanErr) :
    canBusError n e s = watchErr 0 (canError n e s) := by
  simp only [canBusError, if_pos hlive, hrom, Bool.false_eq_true, if_false]

end

/-! Transmission (R330 to R333). -/

theorem canMbSend_of_transmit {s : State} {n b : Nat} (hdir : pairBit s .canMbdirLo .canMbdirHi b n = true) (tid : Nat) :
    canMbSend tid n b s = showTxnext n (setPair .canTxabtLo .canTxabtHi b false n (setPair .canTxdoneLo .canTxdoneHi b false n
      (setPair .canTxpendLo .canTxpendHi b true n (noteRequest n b s)))) :=
  if_pos hdir

theorem canMbSend_of_receive {s : State} {n b : Nat} (hdir : pairBit s .canMbdirLo .canMbdirHi b n = false) (tid : Nat) :
    canMbSend tid n b s = raise .canCfgReject tid (0x100 + n * 0x100 + 0x3C) s :=
  if_neg (by rw [hdir]; decide)

section
variable {s : State} {n b : Nat} (hpend : pairBit s .canTxpendLo .canTxpendHi b n = true)
include hpend

theorem canMbAbort_off_bus : canMbAbort n b false s = endAborted n b s :=
  (if_pos hpend).trans (if_neg (by simp))

/-- On the bus it waits for the attempt. -/
theorem canMbAbort_on_bus (hsends : canSends s n = true) :
    canMbAbort n b true s = s.setCtl n { s.ctl n with aborting := b :: (s.ctl n).aborting } :=
  (if_pos hpend).trans (if_pos ⟨rfl, hsends⟩)

end

/-- The mailbox that was offered at the SOF is stamped and done. -/
theorem canTxSuccess_of_mailbox {s : State} {n : Nat} {b : Fin 64} {ago : Nat} (hsends : canSends s n = true)
    (hoffer : offeredAt s n b (s.now - ago) = true) (delay : Nat) {f : CanFrame} {t x : State} (hf : f = canElement s n (mbWord b))
    (ht : t = canPut n (mbWord b + 2) [(stampAt s ago).2, (stampAt s ago).1 % 2 ^ 32] s)
    (hx : x = setPair .canTxdoneLo .canTxdoneHi b true n (setPair .canTxpendLo .canTxpendHi b false n t)) :
    canTxSuccess n (.mb b) ago delay s = watchErr 0 (showTxnext n (frameSent n f delay
      (x.setCtl n { x.ctl n with aborting := (x.ctl n).aborting.filter (· != b.val), gone := [] }))) := by
  rw [hx, ht, hf]
  exact (if_pos hsends).trans (if_pos hoffer)

/-- The frame of the node that wins its arbitration is sent. -/
theorem canTxSuccess_of_node {s : State} (hsends : canSends s 0 = true) {f : CanFrame} (hnext : nodeNext s.node.tx = some f)
    (ago delay : Nat) : canTxSuccess 0 .node ago delay s =
      watchErr 0 (booted f (frameSent 0 f delay (s.setNode { s.node with tx := s.node.tx.erase f }))) := by
  simp only [canTxSuccess, hsends, hnext, if_true]

theorem canTxRetry_of_aborting {s : State} {n : Nat} {b : Fin 64} (h : b.val ∈ (s.ctl n).aborting) :
    canTxRetry n (.mb b) s = endAborted n b s :=
  if_pos h

/-! Queues (R334). -/

section
variable {s : State} {n q a : Nat}

/-- ACK of an element in the queue frees the elements up to it. -/
theorem canQueueRelease_of_inside {d : Nat} (hd : d = (a + 32 - s.rd (qRd q) n) % 32) (hfill : d < s.rd (qFill q) n) (tid : Nat)
    {t : State} (ht : t = (s.wr (qRd q) (a + 1) n).wr (qFill q) (s.rd (qFill q) n - d - 1) n) :
    canQueueRelease tid n q a s = t.setCtl n { t.ctl n with told := (t.ctl n).told.filter (· != q) } := by
  rw [ht]
  rw [hd] at hfill ⊢
  exact if_pos hfill

theorem canQueueRelease_of_outside (hfill : s.rd (qFill q) n ≤ (a + 32 - s.rd (qRd q) n) % 32) (tid : Nat) :
    canQueueRelease tid n q a s = raise .canCfgReject tid (0x100 + n * 0x100 + 0x20 + 8 * q) s :=
  if_neg (Nat.not_lt.2 hfill)

end

/-! Bus-off and restricted operation (R335, R337). -/

section
variable {s : State} {n : Nat} (hoff : s.rd .canOff n = 1)
include hoff

/-- A recovery from bus-off starts once. -/
theorem canBoffRecover_of_off (hrecov : (s.ctl n).recov = false) : canBoffRecover n s =
    ((s.setCtl n { s.ctl n with recov := true, recovAt := s.now }).wr .canBoffRecover 1 n).wr .canRecovCnt 0 n :=
  if_pos ⟨State.on_iff.2 hoff, by rw [hrecov]; rfl⟩

/-- The end of a recovery clears the counters and is reported. -/
theorem canBoffRecovered_of_due (hrecov : (s.ctl n).recov = true) (hon : canOn s = true)
    (hdue : (s.ctl n).recovAt + 1408 * arbBit s n ≤ s.now) (hn : n ≠ 0) {t : State}
    (ht : t = (((((((s.wr .canTec 0 n).wr .canRec 0 n).wr .canOff 0 n).wr .canPassive 0 n).wr .canWarn 0 n).wr
      .canBoffRecover 0 n).wr .canBus 0 n).wr .canRecovCnt 128 n) :
    canBoffRecovered n s = raise .canBoffRecovered 0 n (t.setCtl n { t.ctl n with recov := false }) := by
  rw [ht]
  exact (if_pos ⟨State.on_iff.2 hoff, hrecov, hon, hdue⟩).trans (if_neg hn)

end

theorem canBoffAutoRecover_of_due {s : State} (hup : s.node.up = true) (hoff : s.rd .canOff = 1)
    (hdue : (s.ctl 0).offAt + 500 * rootPerMs ≤ s.now) : canBoffAutoRecover s = canBoffRecover 0 s :=
  if_pos ⟨hup, State.on_iff.2 hoff, hdue⟩

/-- Settles O30, by what the controller receives, sends, aborts and recovers from. -/
theorem canControllers : Obligations.CanControllers := by
  refine ⟨fun dt n f ago resRec t s u hu hlive hfd _ hn ht hrom => ?_, fun dt n f ago resRec s u hu hlive hfd hoff hpex => ?_,
    fun dt n e s u hu hlive hrom he => ?_, fun dt n e s u hu hlive hrom he => ?_, fun dt tid n b s u hu hdir => ?_,
    fun dt tid n b s u hu hdir => ?_, fun dt n b onBus s u hu hpend hbus => ?_, fun dt n b onBus s u hu hpend hbus hsends => ?_,
    fun dt n src ago delay b f t x s u hu hsends hsrc hoffer hf ht hx => ?_,
    fun dt n src ago delay f s u hu hsends hsrc hn hnext => ?_, fun dt n src b s u hu hsrc habort => ?_,
    fun dt tid n q a d t s u hu hd hfill ht => ?_, fun dt tid n q a s u hu hfill => ?_, fun dt n s u hu hoff hrecov => ?_,
    fun dt n t s u hu hoff hrecov hon hdue hn ht => ?_, fun dt n s u hu => ?_, fun dt s u hu hup hoff hdue hrecov => ?_⟩
  · rw [exec_canFrameReceive]
    exact after_eq_of hu (canFrameReceive_of_classic hlive hfd hn ago resRec ht hrom)
  · rw [exec_canFrameReceive]
    exact after_eq_of hu (canFrameReceive_of_exception hlive hfd hoff hpex ago resRec)
  · subst he
    rw [exec_canBusError]
    exact after_eq_of hu (canBusError_of_unrestricted hlive hrom .transmitter)
  · subst he
    rw [exec_canBusError]
    exact after_eq_of hu (canBusError_of_unrestricted hlive hrom .receiver)
  · rw [exec_canMbSend]
    exact after_eq_of hu (canMbSend_of_transmit hdir tid)
  · rw [exec_canMbSend]
    exact after_eq_of hu (canMbSend_of_receive hdir tid)
  · subst hbus
    rw [exec_canMbAbort]
    exact after_eq_of hu (canMbAbort_off_bus hpend)
  · subst hbus
    rw [exec_canMbAbort]
    exact after_eq_of hu (canMbAbort_on_bus hpend hsends)
  · subst hsrc
    rw [exec_canTxSuccess]
    exact after_eq_of hu (canTxSuccess_of_mailbox hsends hoffer delay hf ht hx)
  · obtain rfl : n = 0 := Fin.ext hn
    subst hsrc
    rw [exec_canTxSuccess]
    exact after_eq_of hu (canTxSuccess_of_node hsends hnext ago delay)
  · subst hsrc
    rw [exec_canTxRetry]
    exact after_eq_of hu (canTxRetry_of_aborting habort)
  · rw [exec_canQueueRelease]
    exact after_eq_of hu (canQueueRelease_of_inside hd hfill tid ht)
  · rw [exec_canQueueRelease]
    exact after_eq_of hu (canQueueRelease_of_outside hfill tid)
  · rw [exec_canBoffRecover]
    exact after_eq_of hu (canBoffRecover_of_off hoff hrecov)
  · rw [exec_canBoffRecovered]
    exact after_eq_of hu (canBoffRecovered_of_due hoff hrecov hon hdue hn ht)
  · rw [exec_canRomApply]
    exact after_eq_of hu rfl
  · rw [exec_canBoffAutoRecover]
    exact after_eq_of hu ((canBoffAutoRecover_of_due hup hoff hdue).trans (canBoffRecover_of_off hoff hrecov))

/-! The CANopen node (R340 to R343). -/

/-- An NMT command at the front of Q0 of CAN0 is released and changes the NMT state. -/
theorem nmtCommand_of_front {s : State} (hup : s.node.up = true) {f : CanFrame} (hfront : q0Front s = some f)
    (hnmt : isNmt f = true) : nmtCommand s = nodePump 32 (nmtEffect f (releaseOne 0 0 s)) := by
  simp only [nmtCommand, if_pos hup, hfront, if_pos hnmt]
  rfl

/-- A classic request of 8 bytes on the SDO identifier is served once the node has booted. -/
theorem sdoRequest_of_classic {s : State} (hup : s.node.up = true) (hwait : sdoTimeout s = s) {f : CanFrame}
    (hfront : q0Front s = some f) (hsdo : isSdo s f = true) (hfd : f.fd = false) (hdlc : f.dlc = 8)
    (hboot : (releaseOne 0 0 s).node.boot = true) (hserves : nodeServes (releaseOne 0 0 s) = true) (usdo : SdoMsg) :
    sdoRequest usdo s = nodePump 32 (sdoService false f.brs (sdoDecode f.data) (releaseOne 0 0 s)) := by
  simp only [sdoRequest, hwait, if_pos hup, hfront, if_pos hsdo, hfd, hdlc, hboot, hserves, Bool.false_eq_true, Bool.not_false,
    Bool.not_true, ne_eq, not_true, and_false, if_false]
  rfl

/-- A transfer that has waited a second is aborted. -/
theorem sdoTimeout_of_late {s : State} {r : SdoRun} (hrun : s.node.sdo = some r) (hwaits : r.waits = false)
    (hlate : r.lastAt + 1000 * rootPerMs ≤ s.now) : sdoTimeout s = sdoAbort r.fd r.brs r.idx r.sub 0x05040000 (sdoEnd s) := by
  have hdue : (!r.waits) = true ∧ r.lastAt + 1000 * rootPerMs ≤ s.now := ⟨by rw [hwaits]; rfl, hlate⟩
  simp only [sdoTimeout, hrun, if_pos hdue, sdoFail]

/-- A TPDO of an operational node that has not been sent before is sent when its event timer has run. -/
theorem tpdoEventTimer_of_due {s : State} {i c : Nat} {d : List Byte} (hop : s.node.nmt = 5) (htimer : s.ob .tpdoTimer i ≠ 0)
    (hc : c = odSpecial s .tpdoCob i 0) (hvalid : bitOf c 31 = false) (hmap : s.ob .tmapCount i ≠ 0)
    (hdue : s.node.tpdoFrom.get 0 i + s.ob .tpdoTimer i * rootPerMs ≤ s.now) (hfirst : s.node.tpdoAt.get none i = none)
    (hd : d = tpdoBytes s i) (hshort : d.length ≤ 8) : tpdoEventTimer i s = nodeSend (classic (c % 2 ^ 11) d)
      (s.setNode { s.node with tpdoFrom := s.node.tpdoFrom.set i s.now, tpdoAt := s.node.tpdoAt.set i (some s.now) }) := by
  rw [hc] at hvalid ⊢
  rw [hd] at hshort ⊢
  simp only [tpdoEventTimer, hop, htimer, hvalid, hmap, hdue, hfirst, hshort, ne_eq, not_false_eq_true, Bool.not_false, and_self,
    if_true]

/-- A heartbeat that has not been heard for its time is reported once. -/
theorem hbConsumerTimeout_of_late {s : State} {j t k : Nat} (hheard : s.node.hbAt.get none j = some t) (hboot : s.node.boot = true)
    (hk : k = s.ob .consHb 0 j) (hon : k % 65536 ≠ 0) (hlate : t + k % 65536 * rootPerMs ≤ s.now)
    (hfirst : s.node.hbMiss.contains j = false) : hbConsumerTimeout j s = watchErr 0 (emcy 0x8130 Ev.canHbTimeout.code
      (raise .canHbTimeout 1 (bitsOf k 16 7) (s.setNode { s.node with hbMiss := j :: s.node.hbMiss }))) := by
  rw [hk] at hon hlate ⊢
  have hdue : s.node.boot = true ∧ s.ob .consHb 0 j % 65536 ≠ 0 ∧ t + s.ob .consHb 0 j % 65536 * rootPerMs ≤ s.now ∧
      (!s.node.hbMiss.contains j) = true := ⟨hboot, hon, hlate, by rw [hfirst]; rfl⟩
  simp only [hbConsumerTimeout, hheard, if_pos hdue]

/-- The heartbeat is sent with its period. -/
theorem heartbeatProducerTimer_of_due {s : State} {k : Nat} (hk : k = s.ob .prodHb) (hboot : s.node.boot = true) (hon : k ≠ 0)
    (hdue : every s s.node.prodAt (k * rootPerMs) = true) : heartbeatProducerTimer s =
      nodeSend (classic (0x700 + nodeNo s) (leBytes 1 s.node.nmt)) (s.setNode { s.node with prodAt := s.now }) := by
  rw [hk] at hon hdue
  exact if_pos ⟨hboot, hon, hdue⟩

/-- Settles O31, by the frame at the front of Q0 and by the timer that has run. -/
theorem canopenNode : Obligations.CanopenNode := by
  refine ⟨fun dt f s u hu hup hfront hnmt => ?_, fun dt usdo f s u hu hup hwait hfront hsdo hfd hdlc hboot hserves => ?_,
    fun dt r s u hu hrun hwaits hlate => ?_, fun dt i c d s u hu hop htimer hc hvalid hmap hdue hfirst hd hshort => ?_,
    fun dt j t k s u hu hheard hboot hk hon hlate hfirst => ?_, fun dt k s u hu hk hboot hon hdue => ?_⟩
  · rw [exec_nmtCommand]
    exact after_eq_of hu (nmtCommand_of_front hup hfront hnmt)
  · rw [exec_sdoRequest]
    exact after_eq_of hu (sdoRequest_of_classic hup hwait hfront hsdo hfd hdlc hboot hserves usdo)
  · rw [exec_sdoTimeout]
    exact after_eq_of hu (sdoTimeout_of_late hrun hwaits hlate)
  · rw [exec_tpdoEventTimer]
    exact after_eq_of hu (tpdoEventTimer_of_due hop htimer hc hvalid hmap hdue hfirst hd hshort)
  · rw [exec_hbConsumerTimeout]
    exact after_eq_of hu (hbConsumerTimeout_of_late hheard hboot hk hon hlate hfirst)
  · rw [exec_heartbeatProducerTimer]
    exact after_eq_of hu (heartbeatProducerTimer_of_due hk hboot hon hdue)

end Sys2Proof.Machine
end

section
/-! PROOFS. The families of the Ethernet MACs (R345 to R354), of VDP (R356 to R364), and of the authenticated writes (R365 to R368). -/

namespace Sys2Proof.Machine

/-! Reception and links (R346, R354). -/

section
variable {s : State} {m : Nat} (hon : ethOn s m = true) (hlink : s.rd .ethLink m = 1)
include hon hlink

theorem ethFrameReceive_of_dropped {f : EthFrame} (htype : f.etype ≠ etGptp) (hdrop : ethAccepts s m f = false) :
    ethFrameReceive m f s = s.bump .ethRxdrop 1 m :=
  (if_pos ⟨hon, State.on_iff.2 hlink, htype⟩).trans (if_neg (by rw [hdrop]; decide))

/-- An accepted IPv4 packet goes to the service of its protocol. -/
theorem ethFrameReceive_of_ip {f : EthFrame} (htype : f.etype = etIp) (htake : ethAccepts s m f = true)
    (hrun : s.boot.p120 = true) : ethFrameReceive m f s = ipReceive m f s := by
  have hgptp : ¬ etIp = etGptp := by decide
  have harp : ¬ etIp = etArp := by decide
  have hserved : ethOn s m = true ∧ s.on .ethLink m = true ∧ etIp ≠ etGptp := ⟨hon, State.on_iff.2 hlink, hgptp⟩
  simp only [ethFrameReceive, if_pos hserved, if_pos htake, hrun, htype, if_neg harp, Bool.not_true, Bool.false_eq_true, if_false,
    if_true]

theorem ethLinkChange_of_fall (speed : Nat) :
    ethLinkChange m false speed s = raise .netLinkDown 1 m ((creditUp m s).wr .ethLink 0 m) := by
  simp only [ethLinkChange, hon, State.on_iff.2 hlink, Bool.not_true, Bool.not_false, Bool.false_eq_true, if_false, if_true]

end

/-! gPTP (R349, R350). -/

/-- The offset of a Sync whose grandmaster time is given. -/
def syncOffset (s : State) (gmSec gmNs : Nat) : Int := rxStamp s + secOfs s * 1000000000 - (gmSec * 1000000000 + gmNs)

theorem servoNext_of_locked {s : State} (hstate : s.rd .netState = 2) {o : Int} (hnear : o.natAbs < 4 * s.rd .servoLockNs) :
    servoNext s false o = 2 := by
  have hfree : ¬ (false = true ∨ (2 : Nat) = 0 ∨ (2 : Nat) = 3) := by decide
  have hlocked : ¬ ((2 : Nat) = 2 ∧ 4 * s.rd .servoLockNs ≤ o.natAbs) := not_and_of_not_right _ (Nat.not_le.2 hnear)
  rw [servoNext, hstate]
  exact (if_neg hfree).trans (if_neg hlocked)

theorem servoNext_of_no_sync {s : State} (hstate : s.rd .netState = 0) (newGm : Bool) (o : Int) : servoNext s newGm o = 1 :=
  if_pos (.inr (.inl hstate))

section
variable {s : State} (hen : s.rd .gptpEn = 1) (hport : ethOn s (s.rd .gptpPort) = true) (hrun : s.boot.p120 = true)
  (hserves : servoOff s = false) {gmSec gmNs : Nat} {o : Int} (ho : o = syncOffset s gmSec gmNs)
include hen hport hrun hserves ho

/-- A Sync while LOCKED with an offset below four times the lock bound slews. -/
theorem gptpSync_of_locked (hstate : s.rd .netState = 2) (hnear : o.natAbs < 4 * s.rd .servoLockNs) {near : Bool}
    (hbound : near = decide (o.natAbs < s.rd .servoLockNs)) {t : State} (ht : t = (s.wrS .netOfsNs (satInt 32 o)).wr .netState 2) :
    gptpSync gmSec gmNs false s = servoSlew o
      { t with eth := { t.eth with servo := { t.eth.servo with run := if near then s.eth.servo.run + 1 else 0, lastAt := t.now } } } := by
  have hsync : s.on .gptpEn = true ∧ ethOn s (s.rd .gptpPort) = true ∧ s.boot.p120 = true ∧ (!servoOff s) = true :=
    ⟨State.on_iff.2 hen, hport, hrun, by rw [hserves]; rfl⟩
  have hone : ¬ (2 : Nat) = 1 := by decide
  rw [syncOffset] at ho
  rw [ht, hbound]
  simp only [gptpSync, if_pos hsync, ← ho, servoNext_of_locked hstate hnear, hstate, if_true, hone, false_and, if_false,
    decide_eq_true_eq]

/-- A Sync after no Sync goes to LOCKING, and takes the whole seconds of a large offset. -/
theorem gptpSync_of_no_sync (hstate : s.rd .netState = 0) (hfar : s.rd .servoLockNs ≤ o.natAbs) (hsecond : 1000000000 ≤ o.natAbs)
    (newGm : Bool) {t : State} (ht : t = (s.wrS .netOfsNs (satInt 32 o)).wr .netState 1) {x : State}
    (hx : x = { t with eth := { t.eth with servo := { t.eth.servo with run := 0, lastAt := t.now } } }) :
    gptpSync gmSec gmNs newGm s = setSecOfs (secOfs x - wholeSec o) x := by
  have hsync : s.on .gptpEn = true ∧ ethOn s (s.rd .gptpPort) = true ∧ s.boot.p120 = true ∧ (!servoOff s) = true :=
    ⟨State.on_iff.2 hen, hport, hrun, by rw [hserves]; rfl⟩
  have htwo : ¬ (1 : Nat) = 2 := by decide
  have hrunless : ¬ (8 : Nat) ≤ 0 := by decide
  rw [syncOffset] at ho
  rw [hx, ht]
  simp only [gptpSync, if_pos hsync, ← ho, servoNext_of_no_sync hstate, if_neg (Nat.not_lt.2 hfar), if_neg htwo, if_pos hsecond,
    hrunless, and_false, if_false]

end

theorem gptpSyncTimeout_of_lost {s : State} (hen : s.rd .gptpEn = 1) (hstate : s.rd .netState = 1 ∨ s.rd .netState = 2)
    (hlate : s.eth.servo.lastAt * 10 + 3 * syncNs s * 84 ≤ s.now * 10) :
    gptpSyncTimeout s = raise .netGptpLost 1 (s.rd .gptpPort) (s.wr .netState 3) :=
  if_pos ⟨State.on_iff.2 hen, hstate, hlate⟩

/-! Gate lists and transmission (R351 to R353, R345). -/

section
variable {s : State} {m : Nat} (hidle : (s.mac m).adminAt = none)
include hidle

theorem tasListActivate_of_idle : tasListActivate m s = s := by
  simp only [tasListActivate, hidle]

/-- The gates follow DTIME where they are enabled. -/
theorem tasGateEvent_of_enabled (hen : s.rd .tasEn m = 1) : tasGateEvent m s = gateUpdate m s := by
  simp only [tasGateEvent, tasListActivate_of_idle hidle, State.on_iff.2 hen, if_true]

theorem tasGateEvent_of_disabled (hen : s.rd .tasEn m = 0) : tasGateEvent m s = s := by
  simp only [tasGateEvent, tasListActivate_of_idle hidle, State.on_eq_false_of_rd hen, Bool.false_eq_true, if_false]

/-- GO holds the administrative list for its base time. -/
theorem tasGo_of_go {v : Nat} {t x : State} {base go : Nat} {l : List GateEnt} (ht : t = gateUpdate m (s.wr .tasEn v m))
    (hgo : bitOf v 1 = true) (hfree : (t.mac m).adminAt = none) (hmin : 1000 ≤ t.rd .tasCycle m)
    (hmax : t.rd .tasCycle m ≤ 1000000000)
    (hbase : base = (t.rd .tasBaseSecHi m * 2 ^ 32 + t.rd .tasBaseSecLo m) * 1000000000 + t.rd .tasBaseNsec m)
    (hstart : go = nextStart base (t.rd .tasCycle m) t.dtNs) (hlist : adminList t m = (l, x)) (tid : Nat) : tasGo tid m v s =
      (x.setMac m { x.mac m with adminAt := some go, admin := l, adminCycle := t.rd .tasCycle m, adminBase := go }).wr .tasGo 1 m := by
  have hokay : ¬ ((t.mac m).adminAt.isSome = true ∨ t.rd .tasCycle m < 1000 ∨ 1000000000 < t.rd .tasCycle m) := by
    rw [hfree]
    rintro (h | h | h)
    · cases h
    · exact absurd h (Nat.not_lt.2 hmin)
    · exact absurd h (Nat.not_lt.2 hmax)
  simp only [tasGo, tasListActivate_of_idle hidle, ← ht, hgo, Bool.not_true, Bool.false_eq_true, if_false, if_neg hokay, ← hbase,
    ← hstart, hlist]

theorem tasGo_of_no_go {v : Nat} (hgo : bitOf v 1 = false) (tid : Nat) : tasGo tid m v s = gateUpdate m (s.wr .tasEn v m) := by
  simp only [tasGo, tasListActivate_of_idle hidle, hgo, Bool.not_false, if_true]

section
variable (hon : ethOn s m = true) (hlink : s.rd .ethLink m = 1) {q : Nat} {f : EthOut}
include hon hlink

/-- The highest queue that may start puts its frame on the line. -/
theorem ethFrameTransmit_of_start (hfree : (s.mac m).freeAt ≤ s.now)
    (hq : ((List.range 8).reverse.find? fun q => mayStart s m q) = some q) (hhead : queueHead s m q = some f) :
    ethFrameTransmit m s = startFrame m q f s := by
  simp only [ethFrameTransmit, tasListActivate_of_idle hidle, hon, State.on_iff.2 hlink, hfree, decide_true, Bool.true_and,
    Bool.and_self, Bool.not_true, Bool.false_eq_true, if_false, hq, hhead]

/-- A frame that never fits is dropped and reported. -/
theorem ethFrameTransmit_of_drop (hnone : ((List.range 8).reverse.find? fun q => mayStart s m q) = none)
    (hq : ((List.range 8).reverse.find? fun q => neverFits s m q) = some q) (hhead : queueHead s m q = some f) :
    ethFrameTransmit m s = raise .netGateDrop 1 (m + 2 * q) ((takeHead m q f s).bump .ethTasdrop 1 m) := by
  have hstart : ((List.range 8).reverse.find? fun q => decide ((s.mac m).freeAt ≤ s.now) && mayStart s m q) = none := by
    rw [List.find?_eq_none] at hnone ⊢
    exact fun k hk h => hnone k hk (Bool.and_elim_right h)
  simp only [ethFrameTransmit, tasListActivate_of_idle hidle, hon, State.on_iff.2 hlink, hstart, Bool.and_self, Bool.not_true,
    Bool.false_eq_true, if_false, hq, hhead]

end

end

/-- The held list becomes operational at its base time. -/
theorem tasListActivate_of_due {s : State} {m t : Nat} (hheld : (s.mac m).adminAt = some t) (hdue : t ≤ s.dtNs) :
    tasListActivate m s = gateUpdate m ((s.setMac m { s.mac m with
      adminAt := none, oper := (s.mac m).admin, cycle := (s.mac m).adminCycle, base := (s.mac m).adminBase }).wr .tasGo 0 m) := by
  simp only [tasListActivate, hheld, if_pos hdue]

/-- Settles O32, by the frame, the link, the state of the servo, and the lists of the gates. -/
theorem ethernetMacs : Obligations.EthernetMacs := by
  refine ⟨fun dt m f s u hu hon hlink htype hdrop => ?_, fun dt m f s u hu hon hlink htype htake hrun => ?_,
    fun dt m up speed s u hu hon hup hlink => ?_,
    fun dt gmSec gmNs newGm o t near s u hu hen hport hrun hserves ho hgm hstate hnear hbound ht => ?_,
    fun dt gmSec gmNs newGm o t s u hu hen hport hrun hserves ho hstate hfar hsecond ht => ?_,
    fun dt s u hu hen hstate hlate => ?_, fun dt m s u hu hidle hen => ?_, fun dt m s u hu hidle hen => ?_,
    fun dt tid m v t x base go l s u hu hidle ht hgo hfree hmin hmax hbase hstart hlist => ?_,
    fun dt tid m v s u hu hidle hgo => ?_, fun dt m t s u hu hheld hdue => ?_,
    fun dt m q f s u hu hidle hon hlink hfree hq hhead => ?_, fun dt m q f s u hu hidle hon hlink hnone hq hhead => ?_⟩
  · rw [exec_ethFrameReceive]
    exact after_eq_of hu (ethFrameReceive_of_dropped hon hlink htype hdrop)
  · rw [exec_ethFrameReceive]
    exact after_eq_of hu (ethFrameReceive_of_ip hon hlink htype htake hrun)
  · subst hup
    rw [exec_ethLinkChange]
    exact after_eq_of hu (ethLinkChange_of_fall hon hlink speed)
  · subst hgm
    rw [exec_gptpSync]
    exact after_eq_of hu (gptpSync_of_locked hen hport hrun hserves ho hstate hnear hbound ht)
  · rw [exec_gptpSync]
    exact after_eq_of hu (gptpSync_of_no_sync hen hport hrun hserves ho hstate hfar hsecond newGm ht rfl)
  · rw [exec_gptpSyncTimeout]
    exact after_eq_of hu (gptpSyncTimeout_of_lost hen hstate hlate)
  · rw [exec_tasGateEvent]
    exact after_eq_of hu (tasGateEvent_of_enabled hidle hen)
  · rw [exec_tasGateEvent]
    exact after_eq_of hu (tasGateEvent_of_disabled hidle hen)
  · rw [exec_tasGo]
    exact after_eq_of hu (tasGo_of_go hidle ht hgo hfree hmin hmax hbase hstart hlist tid)
  · rw [exec_tasGo]
    exact after_eq_of hu (tasGo_of_no_go hidle hgo tid)
  · rw [exec_tasListActivate]
    exact after_eq_of hu (tasListActivate_of_due hheld hdue)
  · rw [exec_ethFrameTransmit]
    exact after_eq_of hu (ethFrameTransmit_of_start hidle hon hlink hfree hq hhead)
  · rw [exec_ethFrameTransmit]
    exact after_eq_of hu (ethFrameTransmit_of_drop hidle hon hlink hnone hq hhead)

/-! VDP requests (R356 to R360). -/

/-- The front datagram x, admitted by session no, leaves t. -/
def VdpTakes (u : State) (x : VdpIn) (no : Nat) (t : State) : Prop :=
  ∃ l, u.eth.vdpIn = x :: l ∧ vdpAdmit x (vdpSessionLapse { u with eth := { u.eth with vdpIn := l } }) = (some no, t)

section
variable {u t : State} {x : VdpIn} {no : Nat} (htake : VdpTakes u x no t)
include htake

/-- The front datagram is served by the command of its opcode. -/
theorem vdpServe_of_front {op : Nat} {cyc : Bool} (hop : vdpOp x.data = op) (hcyc : op ≠ 2 ∨ vdpCyc x.data = cyc)
    (f : VdpIn → Nat → State → State) : vdpServe op cyc f u = f x no t := by
  obtain ⟨l, hqueue, hadmit⟩ := htake
  simp only [vdpServe, hqueue, if_pos (And.intro hop hcyc), hadmit]

theorem vdpRead_of_front (hop : vdpOp x.data = 1) : vdpRead u =
    odReceive ⟨.vdp no (vdpSeq x.data) 1, .read, payIdx (vdpPay x.data), paySub (vdpPay x.data)⟩ t := by
  rw [vdpRead, vdpServe_of_front htake hop (.inl (by decide)), vdpReq, hop]

theorem vdpWrite_of_front (hop : vdpOp x.data = 2) (hcyc : vdpCyc x.data = false) : vdpWrite u =
    odReceive ⟨.vdp no (vdpSeq x.data) 2, .write ((vdpPay x.data).drop 4), payIdx (vdpPay x.data), paySub (vdpPay x.data)⟩ t := by
  rw [vdpWrite, vdpServe_of_front htake hop (.inr hcyc), vdpReq, hop]

theorem vdpAuthWrite_of_front (hop : vdpOp x.data = 3) : vdpAuthWrite u =
    odReceive ⟨.vdp no (vdpSeq x.data) 3, .write (vdpPay x.data), 0x3801, 1⟩ t := by
  rw [vdpAuthWrite, vdpServe_of_front htake hop (.inl (by decide)), vdpReq, hop]

theorem vdpBlockRead_of_front (hop : vdpOp x.data = 4) : vdpBlockRead u =
    odReceive ⟨.vdp no (vdpSeq x.data) 4, .block, payIdx (vdpPay x.data), paySub (vdpPay x.data)⟩ t := by
  rw [vdpBlockRead, vdpServe_of_front htake hop (.inl (by decide)), vdpReq, hop]

/-- A SUBSCRIBE of a free channel opens it with its mapping, to publish from the next cycle, or to consume from now. -/
theorem vdpSubscribe_of_mapping (hop : vdpOp x.data = 5) (hready : t.rd .hostDictReady = 1) {c dir : Nat}
    (hc : c = payAt (vdpPay x.data) 0) (hdir : dir = payAt (vdpPay x.data) 1)
    (hfree : (t.chan c).any (fun y => y.no != no) = false) (hcyclic : dir = 0 ∨ dir = 1) (hlen : payAt (vdpPay x.data) 2 ≠ 0)
    (hmap : (subMap (vdpPay x.data)).all (chanMapOk dir) = true) : vdpSubscribe u =
      vdpAnswer no (vdpSeq x.data) 5 0 [] (t.setChan c (some ⟨no, dir, payAt (vdpPay x.data) 3, subMap (vdpPay x.data),
        if t.on .tasEn x.mac then 0 else (cycleAt t x.mac t.dtNs).1 + 1, if dir = 1 then t.now else 0, false⟩)) := by
  have hdict : dictReady t = true := State.on_iff.2 hready
  have hevent : ¬ dir = 2 := by omega
  rw [vdpSubscribe, vdpServe_of_front htake hop (.inl (by decide))]
  simp only [hdict, ← hc, ← hdir, hfree, if_neg hevent, if_neg hlen, hmap, Bool.not_true, Bool.false_eq_true, if_false]

end

/-- A cyclic frame of the length of its mapping becomes process data, and restarts the supervision of its channel. -/
theorem vdpCyclicWrite_of_frame {u t : State} {x : VdpIn} {y : VdpChan} (htake : VdpTakes u x y.no t) (hop : vdpOp x.data = 2)
    (hcyc : vdpCyc x.data = true) {c : Nat} (hc : c = payAt (vdpPay x.data) 0) (hchan : t.chan c = some y) (hdir : y.dir = 1)
    (hlen : (vdpPay x.data).length = 4 + mapBytes y.map) : vdpCyclicWrite u =
      odReceive ⟨.vdp y.no (vdpSeq x.data) (vdpOp x.data), .process (unpack y.map ((vdpPay x.data).drop 4)) 0, 0, 0⟩
        (t.setChan c (some { y with last := t.now, told := false })) := by
  rw [vdpCyclicWrite, vdpServe_of_front htake hop (.inr hcyc)]
  simp only [← hc, hchan, hdir, hlen, and_self, if_true, vdpReq]

/-- Settles O33, by the opcode of the front datagram. -/
theorem vdpRequests : Obligations.VdpRequests := by
  refine ⟨fun dt x l no t s u hu hqueue hop hadmit => ?_, fun dt x l no t s u hu hqueue hop hcyc hadmit => ?_,
    fun dt x l no t s u hu hqueue hop hadmit => ?_, fun dt x l no t s u hu hqueue hop hadmit => ?_,
    fun dt x l no c dir t s u hu hqueue hop hadmit hready hc hdir hfree hcyclic hlen hmap => ?_,
    fun dt x l c t y s u hu hqueue hop hcyc hadmit hc hchan hdir hlen => ?_⟩
  · rw [exec_vdpRead]
    exact after_eq_of hu (vdpRead_of_front ⟨l, hqueue, hadmit⟩ hop)
  · rw [exec_vdpWrite]
    exact after_eq_of hu (vdpWrite_of_front ⟨l, hqueue, hadmit⟩ hop hcyc)
  · rw [exec_vdpAuthWrite]
    exact after_eq_of hu (vdpAuthWrite_of_front ⟨l, hqueue, hadmit⟩ hop)
  · rw [exec_vdpBlockRead]
    exact after_eq_of hu (vdpBlockRead_of_front ⟨l, hqueue, hadmit⟩ hop)
  · rw [exec_vdpSubscribe]
    exact after_eq_of hu (vdpSubscribe_of_mapping ⟨l, hqueue, hadmit⟩ hop hready hc hdir hfree hcyclic hlen hmap)
  · rw [exec_vdpCyclicWrite]
    exact after_eq_of hu (vdpCyclicWrite_of_frame ⟨l, hqueue, hadmit⟩ hop hcyc hc hchan hdir hlen)

/-! VDP channels (R360, R361). -/

section
variable {s : State} {c : Nat} {y : VdpChan} {z : VdpSess} (hchan : s.chan c = some y) (hsess : s.liveSess y.no = some z)
include hchan hsess

/-- A publishing channel sends when DTIME reaches the lead of its cycle. -/
theorem vdpCyclicPublish_of_due (hidle : (s.mac z.mac).adminAt = none) (htas : s.rd .tasEn z.mac = 0) {cyc start : Nat}
    (hcycle : cycleAt s z.mac (s.dtNs + s.rd .netCycLead * 1000) = (cyc, start)) (hdir : y.dir = 0)
    (hready : s.rd .hostDictReady = 1) (hlead : s.rd .netCycLead * 1000 ≤ start)
    (hdue : dtReaches s (start - s.rd .netCycLead * 1000) = true) (hlast : y.last ≤ cyc) (hfrom : y.from_ ≤ cyc)
    (hmod : (cyc - y.from_) % y.m = 0) : vdpCyclicPublish c s = publish c y z cyc start s := by
  have hdict : dictReady s = true := State.on_iff.2 hready
  have hpub : y.dir = 0 ∧ dictReady s = true ∧ s.rd .netCycLead * 1000 ≤ start + 0 ∧
      dtReaches s (start + 0 - s.rd .netCycLead * 1000) = true ∧ y.last ≤ cyc ∧ y.from_ ≤ cyc ∧ (cyc - y.from_) % y.m = 0 :=
    ⟨hdir, hdict, hlead, hdue, hlast, hfrom, hmod⟩
  simp only [vdpCyclicPublish, hchan, hsess, tasListActivate_of_idle hidle, hcycle, State.on_eq_false_of_rd htas,
    Bool.false_eq_true, if_false, if_pos hpub]

/-- A consuming channel without a frame for three of its cycles is reported once. -/
theorem vdpCycTimeout_of_late (hdir : y.dir = 1) (htold : y.told = false)
    (hlate : y.last * 10 + 3 * y.m * cycleNs s z.mac * 84 ≤ s.now * 10) :
    vdpCycTimeout c s = raise .netCycTimeout 1 c (s.setChan c (some { y with told := true })) := by
  have hdue : y.dir = 1 ∧ (!y.told) = true ∧ y.last * 10 + 3 * y.m * cycleNs s z.mac * 84 ≤ s.now * 10 :=
    ⟨hdir, by rw [htold]; rfl, hlate⟩
  simp only [vdpCycTimeout, hchan, hsess, if_pos hdue]

/-- An event channel pushes up to 64 records of its classes, and moves past them. -/
theorem vdpEventPush_of_records (hdir : y.dir = 2) (hpush : z.push = none) {n0 : Nat} {l : List EvRec}
    (hrecs : recsFrom s.log y.from_ = (n0, l)) {pick : List (EvRec × Nat)}
    (hpick : pick = (l.zipIdx.filter fun r => bitOf y.m (classBit r.1.code)).take 64) {last : EvRec × Nat}
    (hlast : pick.getLast? = some last) {t : State}
    (ht : t = setSess { z with push := some s.now } (s.setChan c (some { y with from_ := (n0 + last.2 + 1) % 2 ^ 32 }))) :
    vdpEventPush c s = vdpEvent z 0 0 0 (timeBlock t ++ pick.flatMap fun r => r.1.bytes) t := by
  rw [ht]
  unfold vdpEventPush
  split
  next h => cases hchan.symm.trans h
  next y' h =>
  cases hchan.symm.trans h
  rw [hsess, hrecs]
  dsimp only
  rw [← hpick, hlast, hpush]
  exact if_pos ⟨hdir, rfl⟩

end

/-- Settles O34, by the direction of the channel and the time that has passed. -/
theorem vdpChannels : Obligations.VdpChannels := by
  refine ⟨fun dt c y z cyc start s u hu hchan hsess hidle htas hcycle hdir hready hlead hdue hlast hfrom hmod => ?_,
    fun dt c y z s u hu hchan hsess hdir htold hlate => ?_,
    fun dt c y z n0 l pick last t s u hu hchan hsess hdir hpush hrecs hpick hlast ht => ?_, fun dt s u hu => ?_⟩
  · rw [exec_vdpCyclicPublish]
    exact after_eq_of hu (vdpCyclicPublish_of_due hchan hsess hidle htas hcycle hdir hready hlead hdue hlast hfrom hmod)
  · rw [exec_vdpCycTimeout]
    exact after_eq_of hu (vdpCycTimeout_of_late hchan hsess hdir htold hlate)
  · rw [exec_vdpEventPush]
    exact after_eq_of hu (vdpEventPush_of_records hchan hsess hdir hpush hrecs hpick hlast ht)
  · rw [exec_vdpSessionLapse]
    exact after_eq_of hu rfl

/-! Authenticated writes (R365 to R368). -/

/-- Record r is at the front of the queue, names an object of key k that can be written, and its slot is not exhausted. -/
structure AuthTakes (u : State) (q : OdReq) (x : State) (r : List Byte) (k : ObjKey) : Prop where
  front : OdTakes u q x
  writes : q.writes .authWrite = true
  own : ownCheck q = 0
  op : q.op = .write r
  obj : objAt (recIdx r) (recSub r) = some k
  writable : odAccess (recIdx r) (recSub r) true ≠ abReadOnly
  counter : x.rd .cryCnt (recSlot r) ≠ 0xFFFFFFFF

section
variable {u x : State} {q : OdReq} {r : List Byte} {k : ObjKey} (h : AuthTakes u q x r k) (flashOk : Bool)
include h

/-- What the checks of R367 decide. -/
theorem authWrite_of_front : authWrite flashOk u =
    if authFault x k.o r ≠ 0 then authRefuse q r (authFault x k.o r) x
    else if x.od.flash.get 0 (recSlot r) + 256 ≤ recCounter r then
      { x with od := { x.od with auth := some ⟨recSlot r, recCounter r, r, q⟩ } }
    else authTake q r k flashOk x := by
  have htold : tellExhausted (recSlot r) x = x := if_neg h.counter
  rw [authWrite, odServe_of_front h.front h.writes, if_neg (not_not_intro h.own)]
  simp only [authRecord, OdReq.data_of_write h.op, Option.getD_some, h.obj, if_neg h.writable, htold]

theorem authWrite_of_fault (hbad : authFault x k.o r ≠ 0) :
    authWrite flashOk u = odReply q 1 0x08000020 [] (raise .netAuthFail 1 (recSlot r + (authFault x k.o r - 1) * 256)
      (x.setOb .slotFails (satAdd 32 (x.ob .slotFails (recSlot r)) 1) (recSlot r))) :=
  (authWrite_of_front h flashOk).trans ((if_pos hbad).trans (odDone_of_ne_zero (by decide) ..))

/-- A counter that runs 256 ahead of the flash copy waits for the flash write. -/
theorem authWrite_of_ahead (hok : authFault x k.o r = 0) (hahead : x.od.flash.get 0 (recSlot r) + 256 ≤ recCounter r) :
    authWrite flashOk u = { x with od := { x.od with auth := some ⟨recSlot r, recCounter r, r, q⟩ } } :=
  (authWrite_of_front h flashOk).trans ((if_neg (not_not_intro hok)).trans (if_pos hahead))

theorem authWrite_of_near (hok : authFault x k.o r = 0) (hnear : recCounter r < x.od.flash.get 0 (recSlot r) + 256) :
    authWrite flashOk u = authTake q r k flashOk x :=
  (authWrite_of_front h flashOk).trans ((if_neg (not_not_intro hok)).trans (if_neg (Nat.not_le.2 hnear)))

end

section
variable {s : State} {a : AuthWait} (hwait : s.od.auth = some a)
include hwait

theorem authCounterFlashDone_of_ok {k : ObjKey} (hobj : objAt (recIdx a.record) (recSub a.record) = some k) {x : State}
    (hx : x = { s with od := { s.od with auth := none, flash := s.od.flash.set a.slot a.counter } }) (flashOk : Bool) :
    authCounterFlashDone true flashOk s = authTake a.req a.record k flashOk x := by
  simp only [authCounterFlashDone, hwait, if_true, hobj, hx]

theorem authCounterFlashDone_of_failure (flashOk : Bool) : authCounterFlashDone false flashOk s =
    odReply a.req 1 abFlash [] (raise .netCntFlashFail 1 a.slot { s with od := { s.od with auth := none } }) := by
  simp only [authCounterFlashDone, hwait, Bool.false_eq_true, if_false]
  exact odDone_of_ne_zero (by decide) ..

end

/-- Settles O35, by the checks of R367, the distance to the flash copy, and the outcome of the flash write. -/
theorem authenticatedWrites : Obligations.AuthenticatedWrites := by
  refine ⟨fun dt flashOk q l x r k s u hu hauth hqueue hx hwrites hown hop hobj hwritable hcounter hbad => ?_,
    fun dt flashOk q l x r k s u hu hauth hqueue hx hwrites hown hop hobj hwritable hcounter hok hahead => ?_,
    fun dt flashOk q l x r k s u hu hauth hqueue hx hwrites hown hop hobj hwritable hcounter hok hnear => ?_,
    fun dt ok flashOk a x k s u hu hwait hok hobj hx => ?_, fun dt ok flashOk a s u hu hwait hok => ?_⟩
  · rw [exec_authWrite]
    exact after_eq_of hu (authWrite_of_fault ⟨⟨hauth, l, hqueue, hx⟩, hwrites, hown, hop, hobj, hwritable, hcounter⟩ flashOk hbad)
  · rw [exec_authWrite]
    exact after_eq_of hu
      (authWrite_of_ahead ⟨⟨hauth, l, hqueue, hx⟩, hwrites, hown, hop, hobj, hwritable, hcounter⟩ flashOk hok hahead)
  · rw [exec_authWrite]
    exact after_eq_of hu
      (authWrite_of_near ⟨⟨hauth, l, hqueue, hx⟩, hwrites, hown, hop, hobj, hwritable, hcounter⟩ flashOk hok hnear)
  · subst hok
    rw [exec_authCounterFlashDone]
    exact after_eq_of hu (authCounterFlashDone_of_ok hwait hobj hx flashOk)
  · subst hok
    rw [exec_authCounterFlashDone]
    exact after_eq_of hu (authCounterFlashDone_of_failure hwait flashOk)

end Sys2Proof.Machine
end

section
/-! PROOFS. The families of the PCIe endpoint (R371 to R376, R391 to R395) and of the queue pairs (R380 to R390). -/

namespace Sys2Proof.Machine

/-! Configuration requests (R372, R391). -/

/-- The link is up, and PERST_N is not asserted. -/
def PcieLinked (s : State) : Prop := s.rd .pcieUp = 1 ∧ s.host.perst = false

section
variable {s : State} (hlink : PcieLinked s)
include hlink

theorem pcieLinked_served : ¬ ((!s.on .pcieUp) = true ∨ s.host.perst = true) := by
  rw [State.on_iff.2 hlink.1, hlink.2]
  decide

theorem pcieConfigRequest_of_not_ready (hready : s.rd .pcieReady = 0) (r : CfgReg) (w : Option Word) :
    pcieConfigRequest r w s = cpl 2 [] s :=
  (if_neg (pcieLinked_served hlink)).trans (if_pos (by rw [State.on_eq_false_of_rd hready]; rfl))

section
variable (hready : s.rd .pcieReady = 1)
include hready

theorem pcieConfigRequest_of_write (r : CfgReg) (v : Word) : pcieConfigRequest r (some v) s = cpl 0 [] (cfgWrite r v.toNat s) :=
  (if_neg (pcieLinked_served hlink)).trans (if_neg (by rw [State.on_iff.2 hready]; decide))

theorem pcieConfigRequest_of_read (r : CfgReg) :
    pcieConfigRequest r none s = cpl 0 (leBytes 4 (cfgValue r s).1) (cfgValue r s).2 :=
  (if_neg (pcieLinked_served hlink)).trans (if_neg (by rw [State.on_iff.2 hready]; decide))

end

/-! Memory requests (R374, R376, R391). -/

/-- A memory request that the endpoint does not serve is dropped, or completed with UR if it reads. -/
theorem pciInbound_of_not_served {x : PciAcc} (hserved : inbServed x s = false) (env : RegEnv) (reply : FabReply) :
    pciInbound x env reply s = if x.wr then s else cpl 1 [] s :=
  (if_neg (pcieLinked_served hlink)).trans (if_pos (by rw [hserved]; rfl))

theorem pciInbound_of_bar0 {x : PciAcc} (hserved : inbServed x s = true) (hbar : x.bar = 0) (env : RegEnv) (reply : FabReply) :
    pciInbound x env reply s = bar0Access x s :=
  (if_neg (pcieLinked_served hlink)).trans ((if_neg (by rw [hserved]; decide)).trans (if_pos hbar))

end

theorem cfgValue_ids (s : State) : cfgValue .ids s = (0x42001F6B, { s with freeCtr := s.freeCtr + 1 }) := rfl

/-- An aligned read of 4 bytes returns the register. -/
theorem bar0Access_of_read {x : PciAcc} (halign : x.off % 4 = 0) (hlen : x.len = 4) (hfull : x.full = true) (hwr : x.wr = false)
    {s t : State} (ht : t = regRead 1 256 x.off s) : bar0Access x s = cpl 0 (t.fab.lastData.map (BitVec.ofNat 8)) t := by
  have hwhole : ¬ (x.off % 4 ≠ 0 ∨ x.len ≠ 4 ∨ (!x.full) = true ∨ (x.wr = true ∧ x.data.length ≠ 4)) := by
    simp [halign, hlen, hfull, hwr]
  rw [ht]
  exact (if_neg hwhole).trans (if_neg (by rw [hwr]; decide))

/-! Host enable (R380), and the link (R371, R395). -/

theorem hostEnable_of_off {s : State} (h : s.rd .hostEn = 0) : hostEnable s = showRdy (beginQp 0 { Qp.init with
    sqBase := s.rd .hostAqSqHi * 2 ^ 32 + s.rd .hostAqSqLo * 4096, cqBase := s.rd .hostAqCqHi * 2 ^ 32 + s.rd .hostAqCqLo * 4096,
    sqSize := s.rd .hostAqSizeSq + 1, cqSize := s.rd .hostAqSizeCq + 1, tid := 1 } (s.wr .hostEn 1)) :=
  if_neg (by rw [State.on_eq_false_of_rd h]; decide)

theorem hostDisable_of_on {s : State} (h : s.rd .hostEn = 1) : hostDisable s = showRdy (foldN 64 endQp (s.wr .hostEn 0)) :=
  if_pos (State.on_iff.2 h)

theorem pcieLinkUp_of_down {s : State} (hdom : s.domOn 17 = true) (hclock : s.clockOn 15 = true) (hperst : s.host.perst = false)
    (hdown : s.rd .pcieUp = 0) (speed width : Nat) {t : State}
    (ht : t = ((s.wr .pcieSpeed speed).wr .pcieWidth width).wr .pcieUp 1) :
    pcieLinkUp speed width s = raise .pciLinkUp 1 (speed + width * 16) { t with host := { t.host with l2 := false } } := by
  rw [ht]
  exact if_pos ⟨hdom, hclock, by rw [hperst]; rfl, by rw [State.on_eq_false_of_rd hdown]; rfl⟩

/-- D3hot is left with what it held. -/
theorem pcieD0_of_d3 {s : State} (h : s.rd .pcieD3 = 1) : pcieD0 s = s.host.heldVec.foldl (fun s v => msix v s)
    (foldN 64 (fun q s => cqOverdue q (releaseHeld q s)) ({ s with host := { s.host with heldVec := [] } }.wr .pcieD3 0)) :=
  if_pos (State.on_iff.2 h)

/-- Settles O36, by the state of the link, and by the request or the reset that arrives. -/
theorem hostEndpoint : Obligations.HostEndpoint := by
  refine ⟨fun dt r w s u hu hup hperst hready => ?_, fun dt r w v s u hu hup hperst hready hw => ?_,
    fun dt r w s u hu hup hperst hready hw hr => ?_, fun dt x env reply s u hu hup hperst hserved => ?_,
    fun dt x env reply t s u hu hup hperst hserved hbar halign hlen hfull hwr ht => ?_, fun dt s u hu hen => ?_,
    fun dt s u hu hen => ?_, fun dt s u hu hup => ?_, fun dt s u hu => ?_, fun dt cause s u hu hcause hup => ?_,
    fun dt cause s u hu hcause hperst => ?_, fun dt cause s u hu hcause hup => ?_, fun dt s u hu hup => ?_, fun dt s u hu hd3 => ?_,
    fun dt s u hu hup => ?_, fun dt speed width t s u hu hdom hclock hperst hdown ht => ?_, fun dt s u hu hperst => ?_⟩
  · rw [exec_pcieConfigRequest]
    exact after_eq_of hu (pcieConfigRequest_of_not_ready ⟨hup, hperst⟩ hready r w)
  · subst hw
    rw [exec_pcieConfigRequest]
    exact after_eq_of hu (pcieConfigRequest_of_write ⟨hup, hperst⟩ hready r v)
  · subst hw hr
    rw [exec_pcieConfigRequest]
    refine after_eq_of hu ((pcieConfigRequest_of_read ⟨hup, hperst⟩ hready .ids).trans ?_)
    rw [cfgValue_ids]
  · rw [exec_pcieInboundAccess]
    exact after_eq_of hu (pciInbound_of_not_served ⟨hup, hperst⟩ hserved env reply)
  · rw [exec_pcieInboundAccess]
    exact after_eq_of hu
      ((pciInbound_of_bar0 ⟨hup, hperst⟩ hserved hbar env reply).trans (bar0Access_of_read halign hlen hfull hwr ht))
  · rw [exec_hostEnable]
    exact after_eq_of hu (hostEnable_of_off hen)
  · rw [exec_hostDisable]
    exact after_eq_of hu (hostDisable_of_on hen)
  · rw [exec_pcieFlr]
    exact after_eq_of hu (if_pos (State.on_iff.2 hup))
  · rw [exec_pcieFlrComplete]
    exact after_eq_of hu rfl
  · subst hcause
    rw [exec_pcieReset]
    exact after_eq_of hu (if_pos (State.on_iff.2 hup))
  · subst hcause
    rw [exec_pcieReset]
    exact after_eq_of hu (if_neg (by rw [hperst]; decide))
  · subst hcause
    rw [exec_pcieReset]
    exact after_eq_of hu (if_pos (State.on_iff.2 hup))
  · rw [exec_pcieD3hot]
    exact after_eq_of hu (if_pos (State.on_iff.2 hup))
  · rw [exec_pcieD0Return]
    exact after_eq_of hu (pcieD0_of_d3 hd3)
  · rw [exec_pciePmeTurnOff]
    exact after_eq_of hu (if_pos (State.on_iff.2 hup))
  · rw [exec_pcieLinkUp]
    exact after_eq_of hu (pcieLinkUp_of_down hdom hclock hperst hdown speed.toNat width.toNat ht)
  · rw [exec_perstNRelease]
    exact after_eq_of hu (if_pos hperst)

/-! Doorbells (R382). -/

/-- Queue pair q lives and has no error. -/
def QpRuns (s : State) (q : Nat) : Prop := (s.qp q).live = true ∧ (s.qp q).err = false

section
variable {s : State} {q : Nat} (hrun : QpRuns s q)
include hrun

theorem sqDoorbell_of_inside {v : Nat} (h : v < (s.qp q).sqSize) : sqDoorbell q v s = s.wr .sqTail v q := by
  obtain ⟨hlive, herr⟩ := hrun
  simp only [sqDoorbell, hlive, herr, Bool.not_true, Bool.false_eq_true, if_false, if_neg (Nat.not_le.2 h)]

theorem sqDoorbell_of_outside {v : Nat} (h : (s.qp q).sqSize ≤ v) : sqDoorbell q v s = qpError q 0 s := by
  obtain ⟨hlive, herr⟩ := hrun
  simp only [sqDoorbell, hlive, herr, Bool.not_true, Bool.false_eq_true, if_false, if_pos h]

theorem cqDoorbell_of_inside {v n : Nat} (hn : n = (v + (s.qp q).cqSize - s.rd .cqHead q) % (s.qp q).cqSize)
    (hv : v < (s.qp q).cqSize) (hposted : n ≤ (s.qp q).posted) :
    cqDoorbell q v s = (s.setQp q { s.qp q with posted := (s.qp q).posted - n }).wr .cqHead v q := by
  obtain ⟨hlive, herr⟩ := hrun
  have hok : ¬ ((s.qp q).cqSize ≤ v ∨ (s.qp q).posted < n) := by omega
  simp only [cqDoorbell, hlive, herr, Bool.not_true, Bool.false_eq_true, if_false, ← hn, if_neg hok]

/-- A head that frees more than the posted entries ends the queue pair. -/
theorem cqDoorbell_of_excess {v : Nat} (h : (s.qp q).posted < (v + (s.qp q).cqSize - s.rd .cqHead q) % (s.qp q).cqSize) :
    cqDoorbell q v s = qpError q 1 s := by
  obtain ⟨hlive, herr⟩ := hrun
  simp only [cqDoorbell, hlive, herr, Bool.not_true, Bool.false_eq_true, if_false, h, or_true, if_true]

/-! Fetches (R383, R384). -/

/-- A fetched entry becomes the running command, or completes where the queue pair may not use it, or the dictionary is not ready. -/
theorem sqFetch_of_entry (hcur : (s.qp q).cur = none) (htail : (s.qp q).sqHead ≠ s.rd .sqTail q)
    (hroom : (s.qp q).posted + (s.qp q).held.length < (s.qp q).cqSize) (hserved : hostServed s = true) (hd3 : s.rd .pcieD3 = 0)
    (hflr : flrRuns s = false) (hopen : hostOpen s = true) {b : List Byte} {e : SqEntry} (he : e = sqEntry (padTo 64 b)) {t : State}
    (ht : t = s.setQp q { s.qp q with cur := some e, given := false, sqHead := ((s.qp q).sqHead + 1) % (s.qp q).sqSize }) :
    sqFetch q (some b) s = if sqOpOk q e then if e.op = 0x20 ∧ t.rd .hostDictReady ≠ 1 then cqBare q 2 t else t else cqBare q 3 t := by
  obtain ⟨hlive, herr⟩ := hrun
  have hfetch : (s.qp q).live = true ∧ (!(s.qp q).err) = true ∧ (s.qp q).cur.isNone = true ∧ (s.qp q).sqHead ≠ s.rd .sqTail q ∧
      (s.qp q).posted + (s.qp q).held.length < (s.qp q).cqSize ∧ hostServed s = true ∧ (!s.on .pcieD3) = true ∧
      (!flrRuns s) = true :=
    ⟨hlive, by rw [herr]; rfl, by rw [hcur]; rfl, htail, hroom, hserved, by rw [State.on_eq_false_of_rd hd3]; rfl,
      by rw [hflr]; rfl⟩
  have hready : (!dictReady t) = true ↔ t.rd .hostDictReady ≠ 1 := by
    rw [Bool.not_eq_true', ← Bool.not_eq_true]
    exact not_congr State.on_iff
  simp only [sqFetch, if_pos hfetch, hopen, if_true, ← he, ← ht, hready]
  cases sqOpOk q e <;> rfl

end

/-! Commands (R384 to R386). -/

/-- Entry e runs on queue pair q, and does not lie with the dictionary server. -/
structure CmdRuns (s : State) (q op : Nat) (e : SqEntry) : Prop where
  cur : (s.qp q).cur = some e
  live : (s.qp q).live = true
  err : (s.qp q).err = false
  given : (s.qp q).given = false
  op : e.op = op

section
variable {s : State} {q op : Nat} {e : SqEntry}

theorem onCmd_of_runs (h : CmdRuns s q op e) (f : SqEntry → State → State) : onCmd q op f s = f e s := by
  have hrun : (s.qp q).live = true ∧ (!(s.qp q).err) = true ∧ (!(s.qp q).given) = true ∧ e.op = op :=
    ⟨h.live, by rw [h.err]; rfl, by rw [h.given]; rfl, h.op⟩
  simp only [onCmd, h.cur, if_pos hrun]

/-- CREATE_QP begins a queue pair with a fresh TID. -/
theorem createQp_of_free (h : CmdRuns s 0 1 e) (hparams : qpParamsOk e = true) {k tid : Nat} (hk : k < 64)
    (hfree : (s.qp k).live = false) (htid : tidFree s tid = true) (hzero : k ≠ 0) {t : State}
    (ht : t = { s with host := { s.host with tids := tid :: s.host.tids } }) : createQp k tid s =
      cmdOk 0 (k + tid * 65536) (beginQp k { Qp.init with
        sqBase := e.par 16 8, cqBase := e.par 24 8, sqSize := e.par 32 2 + 1, cqSize := e.par 34 2 + 1, vec := e.par 36 2,
        cnt := e.par 38 1, time := e.par 39 1, tid := tid } t) := by
  have hroom : ¬ ((List.range 64).all fun k => (s.qp k).live) = true := by
    intro hall
    have hlive := List.all_eq_true.1 hall k (List.mem_range.2 hk)
    rw [hfree] at hlive
    cases hlive
  have htaken : ¬ ((s.qp k).live = true ∨ k = 0 ∨ (!tidFree s tid) = true) := by
    simp [hfree, hzero, htid]
  rw [createQp, onCmd_of_runs h, ht]
  simp only [hparams, Bool.not_true, Bool.false_eq_true, if_false, if_neg hroom, if_neg htaken]

theorem deleteQp_of_live (h : CmdRuns s 0 2 e) (hmin : 1 ≤ e.par 16 1) (hmax : e.par 16 1 < 64)
    (hlive : (s.qp (e.par 16 1)).live = true) : deleteQp s = cmdOk 0 0 (endQp (e.par 16 1) s) := by
  rw [deleteQp, onCmd_of_runs h]
  refine if_neg ?_
  rintro (hz | hz | hz)
  · omega
  · omega
  · rw [hlive] at hz
    cases hz

/-- The bytes at PTR are written. -/
theorem pcieOdWrite_of_len (h : CmdRuns s q 0x11 e) (hlen : e.len ≠ 0) (hopen : hostOpen s = true) (data : List Byte) :
    pcieOdWrite q data s = giveOd q e (.write (padTo e.len (data.take e.len))) s := by
  rw [pcieOdWrite, onCmd_of_runs h, if_neg hlen]
  exact if_neg (by rw [hopen]; decide)

end

/-! Interrupts (R389). -/

theorem cqCoalesce_of_due {s : State} {q : Nat} (hrun : QpRuns s q) (hfresh : 0 < (s.qp q).fresh) (htime : (s.qp q).time ≠ 0)
    (hdue : s.now = (s.qp q).oldest + (s.qp q).time * rootPerUs) (hd3 : s.rd .pcieD3 = 0) : cqCoalesce q s = cqSignal q s :=
  if_pos ⟨hrun.1, by rw [hrun.2]; rfl, hfresh, htime, hdue, by rw [State.on_eq_false_of_rd hd3]; rfl⟩

/-- New log records of the mask signal vector 128. -/
theorem logMsix_of_records {s : State} (hfirst : s.host.logAt = none)
    (hrecs : ((recsFrom s.log s.host.logSeq).2.any fun r => s.rdBit .hostEvmask (classBit r.code)) = true) :
    logMsix s = msix 128 { s with host := { s.host with logAt := some s.now, logSeq := s.log.next } } := by
  unfold logMsix
  rw [hfirst]
  exact if_pos ⟨rfl, hrecs⟩

/-- Settles O37, by the state of the queue pair, and by the opcode of its running command. -/
theorem queuePairs : Obligations.QueuePairs := by
  refine ⟨fun dt q v s u hu hlive herr hv => ?_, fun dt q v s u hu hlive herr hv => ?_,
    fun dt q v n s u hu hlive herr hn hv hposted => ?_, fun dt q v s u hu hlive herr hposted => ?_,
    fun dt q l b e t s u hu hlive herr hcur htail hroom hserved hd3 hflr hopen hl he ht => ?_,
    fun dt q tid e t s u hu hcur hlive herr hgiven hop hparams hfree htid hzero ht => ?_,
    fun dt e s u hu hcur hlive herr hgiven hop hmin hmax hother => ?_, fun dt q e s u hu hcur hlive herr hgiven hop => ?_,
    fun dt q data e s u hu hcur hlive herr hgiven hop hlen hopen => ?_, fun dt q e s u hu hcur hlive herr hgiven hop => ?_,
    fun dt q s u hu hlive herr hfresh htime hdue hd3 => ?_, fun dt s u hu hfirst hrecs => ?_, fun dt hi v s u hu => ?_⟩
  · rw [exec_pcieSqDoorbell]
    exact after_eq_of hu (sqDoorbell_of_inside ⟨hlive, herr⟩ hv)
  · rw [exec_pcieSqDoorbell]
    exact after_eq_of hu (sqDoorbell_of_outside ⟨hlive, herr⟩ hv)
  · rw [exec_pcieCqDoorbell]
    exact after_eq_of hu (cqDoorbell_of_inside ⟨hlive, herr⟩ hn hv hposted)
  · rw [exec_pcieCqDoorbell]
    exact after_eq_of hu (cqDoorbell_of_excess ⟨hlive, herr⟩ hposted)
  · subst hl
    rw [exec_pcieSqFetch]
    exact after_eq_of hu (sqFetch_of_entry ⟨hlive, herr⟩ hcur htail hroom hserved hd3 hflr hopen he ht)
  · rw [exec_createQp]
    exact after_eq_of hu (createQp_of_free ⟨hcur, hlive, herr, hgiven, hop⟩ hparams q.isLt hfree htid hzero ht)
  · rw [exec_deleteQp]
    exact after_eq_of hu (deleteQp_of_live ⟨hcur, hlive, herr, hgiven, hop⟩ hmin hmax hother)
  · rw [exec_pcieOdRead]
    exact after_eq_of hu (onCmd_of_runs ⟨hcur, hlive, herr, hgiven, hop⟩ _)
  · rw [exec_pcieOdWrite]
    exact after_eq_of hu (pcieOdWrite_of_len ⟨hcur, hlive, herr, hgiven, hop⟩ hlen hopen data)
  · rw [exec_pcieOdBlockRead]
    exact after_eq_of hu (onCmd_of_runs ⟨hcur, hlive, herr, hgiven, hop⟩ _)
  · rw [exec_cqCoalesceSignal]
    exact after_eq_of hu (cqCoalesce_of_due ⟨hlive, herr⟩ hfresh htime hdue hd3)
  · rw [exec_logMsixSignal]
    exact after_eq_of hu (logMsix_of_records hfirst hrecs)
  · rw [exec_hostNoteClear]
    exact after_eq_of hu rfl

end Sys2Proof.Machine
end

section
/-! PROOFS. The family of the `libmolol` calls (R271, R272, R377, R386, R387, R409). -/

namespace Sys2Proof.Machine

/-- CALL c runs on queue pair q. -/
structure CallRuns (s : State) (q c : Nat) (e : SqEntry) : Prop where
  cmd : CmdRuns s q 0x20 e
  code : e.par 16 2 = c

theorem onCall_of_runs {s : State} {q c : Nat} {e : SqEntry} (h : CallRuns s q c e) (f : State → State) : onCall q c f s = f s := by
  rw [onCall, onCmd_of_runs h.cmd]
  exact if_pos h.code

section
variable {s : State} {q : Nat} {e : SqEntry}

/-! Memory (R387). -/

section
variable (h : CallRuns s q 1 e) (bytes : Nat) (p : Placed)
include h

/-- Memory that the runtime placed is recorded, unless a preferred device governs host memory. -/
theorem molMemAlloc_of_placed (hhint : (p.any_ && !p.dev && hintedIn s q p.va bytes (· == Hint.preferredDevice)) = false) :
    molMemAlloc q bytes (some p) s =
      cmdOk q p.va (rtWrites p.entries { s with host := { s.host with mems := s.host.mems ++ [⟨q, p.va, bytes⟩] } }) := by
  rw [molMemAlloc, onCall_of_runs h]
  refine if_neg fun hhost => ?_
  rw [← and_assoc, ← Bool.and_eq_true, ← Bool.and_eq_true] at hhost
  exact absurd (hhint.symm.trans hhost) (by decide)

theorem molMemAlloc_of_hint (hhint : (p.any_ && !p.dev && hintedIn s q p.va bytes (· == Hint.preferredDevice)) = true) :
    molMemAlloc q bytes (some p) s = cmdFail q molNomem s := by
  rw [molMemAlloc, onCall_of_runs h]
  rw [Bool.and_eq_true, Bool.and_eq_true, and_assoc] at hhint
  exact if_pos hhint

end

section
variable (h : CallRuns s q 2 e) {ptr : Nat} (entries : List RtWrite)
include h

theorem molMemFree_of_held (hheld : (s.host.mems.any fun m => m.qp == q && m.va == ptr) = true) :
    molMemFree q ptr entries s = cmdOk q 0 (rtWrites entries
      { s with host := { s.host with mems := s.host.mems.filter fun m => !(m.qp == q && m.va == ptr) } }) := by
  rw [molMemFree, onCall_of_runs h]
  exact if_pos hheld

theorem molMemFree_of_unknown (hunknown : (s.host.mems.any fun m => m.qp == q && m.va == ptr) = false) :
    molMemFree q ptr entries s = cmdFail q molArg s := by
  rw [molMemFree, onCall_of_runs h]
  exact if_neg (by rw [hunknown]; decide)

end

/-! Models (R291, R386, R387, R409). -/

/-- A load of class 0 takes the TID, and activates the slot. -/
theorem molModelLoad_of_fit (h : CallRuns s q 3 e) {p : ModelPlan} (hfree : s.rd .ctxState p.slot = 0)
    (htid : tidFree s p.tid = true) (hactivate : activateOk (planShares p s) p.slot = true) {t x : State}
    (ht : t = modelLoad p.slot p.modelId p.image p.w p.aCs p.aLs (planShares p s)) (hweights : weightsOk p t = true)
    (hclass : t.sch.load.cls = 0) (hx : x = copyRoot (s.qp q).tid p.tid p.flags t) : molModelLoad q (some p) s =
      cmdOk q (p.slot + p.ch0 * 65536 + p.chs * 2 ^ 24) (planChannels p (takeWeights p (ctxActivate 1 p.slot { x with
        host := { x.host with
          tids := p.tid :: x.host.tids
          models := x.host.models ++ [⟨q, p.slot, p.ch0, p.chs, p.nodes, p.deadline⟩] } }))) := by
  have htaken : ¬ (s.rd .ctxState p.slot ≠ 0 ∨ (!tidFree s p.tid) = true) := by simp [hfree, htid]
  have hfits : ¬ (t.sch.load.cls = 3 ∨ (t.sch.load.cls = 2 ∧ (!p.partsFit) = true)) := by simp [hclass]
  rw [molModelLoad, onCall_of_runs h]
  simp only [if_neg htaken, hactivate, Bool.not_true, Bool.false_eq_true, if_false, ← ht, hweights, if_neg hfits, ← hx]

/-- An unload releases an idle slot. -/
theorem molModelUnload_of_idle {k : Nat} (h : CallRuns s q 4 e) {m : MolModel} (hmodel : modelOf s q k = some m)
    (hstate : s.rd .ctxState k = 2) (hidle : slotBusy s k = false) {t : State} (ht : t = ctxRelease 1 k s) :
    molModelUnload q k s = cmdOk q 0
      { t with host := { t.host with models := t.host.models.filter fun m => !(m.qp == q && m.slot == k) } } := by
  have hfree : s.rd .ctxState k = 2 ∧ (!slotBusy s k) = true := ⟨hstate, by rw [hidle]; rfl⟩
  rw [molModelUnload, onCall_of_runs h]
  simp only [hmodel, if_pos hfree, ← ht]

/-- An invocation places its tasks in its channel. -/
theorem molInvoke_of_room {k ch : Nat} (h : CallRuns s q 5 e) {m : MolModel} (hmodel : modelOf s q k = some m) (hmin : m.ch0 ≤ ch)
    (hmax : ch < m.ch0 + m.chs) (hnodes : nodesOk s m = true) (hstate : s.rd .ctxState k = 2) {x : Invocation}
    (hroom : (s.rd .chTail ch + 8 - chH s ch) % 8 + x.tasks.length ≤ 7) :
    molInvoke q k ch x s = cmdOk q 0 (waitHand k ch x.next (placeTasks ch x.tasks s)) := by
  have hown : ¬ (ch < m.ch0 ∨ m.ch0 + m.chs ≤ ch) := by omega
  have hready : ¬ ((!nodesOk s m) = true ∨ s.rd .ctxState k ≠ 2 ∨ 7 < (s.rd .chTail ch + 8 - chH s ch) % 8 + x.tasks.length) := by
    simp [hnodes, hstate, hroom]
  rw [molInvoke, onCall_of_runs h]
  simp only [hmodel, if_neg hown, if_neg hready]

/-! Migration (R271, R272). -/

section
variable (h : CallRuns s q 6 e)
include h

section
variable (hmove : s.host.move = none)
include hmove

theorem molPrefetch_of_kill_busy (hbusy : killBusy s q = true) (va n : Nat) (target : Option Bool) (ch : Nat)
    (pages : List PageMove) : molPrefetch q va n target ch pages s = cmdFail q molBusy s := by
  rw [molPrefetch, onCall_of_runs h]
  simp only [hmove, if_pos hbusy]

section
variable (hbusy : killBusy s q = false) (hinv : s.rd .mmuInvBusy = 0)
include hbusy hinv

/-- A prefetch that may begin moves the pages of its range. -/
theorem molPrefetch_of_begin {va n : Nat} {target : Option Bool} {pages : List PageMove} {l : List PageJob}
    (hl : l = (pages.filter fun p => decide (va ≤ p.va) && decide (p.va < va + n)).filterMap (pageJob q target s)) (ch : Nat) :
    molPrefetch q va n target ch pages s = if l.isEmpty then moveDone q ch s else beginBatch ⟨q, ch, [], [], l⟩ s := by
  rw [molPrefetch, onCall_of_runs h]
  simp only [hmove, hbusy, State.on_eq_false_of_rd hinv, Bool.false_eq_true, if_false, ← hl]

end

end

/-- A batch whose invalidations have completed ends, and the next begins. -/
theorem molPrefetch_of_move {m : MolMove} (hmove : s.host.move = some m) (hqp : m.qp = q) (hwait : m.inv = [])
    (hinv : s.rd .mmuInvBusy = 0) (va n : Nat) (target : Option Bool) (ch : Nat) (pages : List PageMove) :
    molPrefetch q va n target ch pages s =
      if m.todo.isEmpty then moveDone q m.ch (endBatch m s) else beginBatch m (endBatch m s) := by
  have hkeep : { m with inv := [] } = m := by
    rw [← hwait]
  have hbatch : moveStep m s = if m.todo.isEmpty then moveDone m.qp m.ch (endBatch m s) else beginBatch m (endBatch m s) := by
    simp only [moveStep, hwait, startInvs, hkeep, State.on_eq_false_of_rd hinv, ne_eq, not_true, Bool.false_eq_true, or_self, if_false]
  rw [molPrefetch, onCall_of_runs h]
  simp only [hmove, hbatch, hqp, if_true]

end

/-- A hint is recorded, and cut out of those of its kind. -/
theorem molAdvise_of_hint (h : CallRuns s q 7 e) (va n : Nat) (x : Hint) : molAdvise q va n (some x) s = cmdOk q 0
    { s with host := { s.host with hints :=
      (s.host.hints.flatMap fun y => if y.qp == q && x.same y.hint then cutHint va n y else [y]) ++ [⟨q, va, n, x⟩] } } := by
  rw [molAdvise, onCall_of_runs h]

/-! Apertures (R377, R387). -/

theorem apSize_eq : apSize = 2 ^ 26 := by
  norm_num [apSize]

theorem molBarMap_of_free (h : CallRuns s q 8 e) {bytes p a : Nat} (hbytes : bytes ≠ 0)
    (hone : p / 2 ^ 26 = (p + bytes - 1) / 2 ^ 26) (ha : a < 64) (hfree : s.rd .apEn a = 0) (readonly : Bool) :
    molBarMap q bytes readonly (some p) a s = cmdOk q (a * 2 ^ 26 + p % 2 ^ 26)
      ((((s.wr .apBase (p / 2 ^ 26) a).wr .apEn 1 a).wr .apRo (b2n readonly) a).wr .apTid (s.qp q).tid a) := by
  have hoff : s.on .apEn a = false := State.on_eq_false_of_rd hfree
  have hfits : ¬ (bytes = 0 ∨ p / 2 ^ 26 ≠ (p + bytes - 1) / 2 ^ 26) := by
    rintro (hz | hz)
    · exact hbytes hz
    · exact hz hone
  have hroom : ¬ ((List.range 64).all fun k => s.on .apEn k) = true := by
    intro hall
    have hon := List.all_eq_true.1 hall a (List.mem_range.2 ha)
    rw [hoff] at hon
    cases hon
  rw [molBarMap, onCall_of_runs h]
  simp only [apSize_eq, if_neg hfits, if_neg hroom, hoff, Bool.false_eq_true, if_false]

theorem molBarUnmap_of_own (h : CallRuns s q 9 e) {off : Nat} (ha : off / 2 ^ 26 < 64) (hon : s.rd .apEn (off / 2 ^ 26) = 1)
    (htid : s.rd .apTid (off / 2 ^ 26) = (s.qp q).tid) : molBarUnmap q off s = cmdOk q 0 (s.wr .apEn 0 (off / 2 ^ 26)) := by
  rw [molBarUnmap, onCall_of_runs h, apSize_eq]
  exact if_pos ⟨ha, State.on_iff.2 hon, htid⟩

end

/-- Settles O38, by the call code of the running command. -/
theorem libmololCalls : Obligations.LibmololCalls := by
  refine ⟨fun dt q bytes place e p s u hu hcur hlive herr hgiven hop hcode hplace hhint => ?_,
    fun dt q bytes place e p s u hu hcur hlive herr hgiven hop hcode hplace hhint => ?_,
    fun dt q ptr entries e s u hu hcur hlive herr hgiven hop hcode hheld => ?_,
    fun dt q ptr entries e s u hu hcur hlive herr hgiven hop hcode hunknown => ?_,
    fun dt q plan e p t x s u hu hcur hlive herr hgiven hop hcode hplan hfree htid hactivate ht hweights hclass hx => ?_,
    fun dt q k e m t s u hu hcur hlive herr hgiven hop hcode hmodel hstate hidle ht => ?_,
    fun dt q k ch x e m s u hu hcur hlive herr hgiven hop hcode hmodel hmin hmax hnodes hstate hroom => ?_,
    fun dt q va n target ch pages e s u hu hcur hlive herr hgiven hop hcode hmove hbusy => ?_,
    fun dt q va n target ch pages e l s u hu hcur hlive herr hgiven hop hcode hmove hbusy hinv hl hempty => ?_,
    fun dt q va n target ch pages e l s u hu hcur hlive herr hgiven hop hcode hmove hbusy hinv hl hmore => ?_,
    fun dt q va n target ch pages e m s u hu hcur hlive herr hgiven hop hcode hmove hqp hwait hinv hempty => ?_,
    fun dt q va n target ch pages e m s u hu hcur hlive herr hgiven hop hcode hmove hqp hwait hinv hmore => ?_,
    fun dt q va n hint e x s u hu hcur hlive herr hgiven hop hcode hhint => ?_,
    fun dt q bytes readonly pa a e p s u hu hcur hlive herr hgiven hop hcode hpa hbytes hone hfree => ?_,
    fun dt q off e s u hu hcur hlive herr hgiven hop hcode ha hon htid => ?_⟩
  · subst hplace
    rw [exec_molMemAlloc]
    exact after_eq_of hu (molMemAlloc_of_placed ⟨⟨hcur, hlive, herr, hgiven, hop⟩, hcode⟩ bytes p hhint)
  · subst hplace
    rw [exec_molMemAlloc]
    exact after_eq_of hu (molMemAlloc_of_hint ⟨⟨hcur, hlive, herr, hgiven, hop⟩, hcode⟩ bytes p hhint)
  · rw [exec_molMemFree]
    exact after_eq_of hu (molMemFree_of_held ⟨⟨hcur, hlive, herr, hgiven, hop⟩, hcode⟩ entries hheld)
  · rw [exec_molMemFree]
    exact after_eq_of hu (molMemFree_of_unknown ⟨⟨hcur, hlive, herr, hgiven, hop⟩, hcode⟩ entries hunknown)
  · subst hplan
    rw [exec_molModelLoad]
    exact after_eq_of hu
      (molModelLoad_of_fit ⟨⟨hcur, hlive, herr, hgiven, hop⟩, hcode⟩ hfree htid hactivate ht hweights hclass hx)
  · rw [exec_molModelUnload]
    exact after_eq_of hu (molModelUnload_of_idle ⟨⟨hcur, hlive, herr, hgiven, hop⟩, hcode⟩ hmodel hstate hidle ht)
  · rw [exec_molInvoke]
    exact after_eq_of hu (molInvoke_of_room ⟨⟨hcur, hlive, herr, hgiven, hop⟩, hcode⟩ hmodel hmin hmax hnodes hstate hroom)
  · rw [exec_molPrefetch]
    exact after_eq_of hu
      (molPrefetch_of_kill_busy ⟨⟨hcur, hlive, herr, hgiven, hop⟩, hcode⟩ hmove hbusy va n target ch pages)
  · rw [exec_molPrefetch]
    refine after_eq_of hu
      ((molPrefetch_of_begin ⟨⟨hcur, hlive, herr, hgiven, hop⟩, hcode⟩ hmove hbusy hinv hl ch).trans (if_pos ?_))
    rw [hempty]
    rfl
  · rw [exec_molPrefetch]
    exact after_eq_of hu ((molPrefetch_of_begin ⟨⟨hcur, hlive, herr, hgiven, hop⟩, hcode⟩ hmove hbusy hinv hl ch).trans
      (if_neg (mt List.isEmpty_iff.1 hmore)))
  · rw [exec_molPrefetch]
    refine after_eq_of hu ((molPrefetch_of_move ⟨⟨hcur, hlive, herr, hgiven, hop⟩, hcode⟩ hmove hqp hwait hinv va n target ch
      pages).trans (if_pos ?_))
    rw [hempty]
    rfl
  · rw [exec_molPrefetch]
    exact after_eq_of hu ((molPrefetch_of_move ⟨⟨hcur, hlive, herr, hgiven, hop⟩, hcode⟩ hmove hqp hwait hinv va n target ch
      pages).trans (if_neg (mt List.isEmpty_iff.1 hmore)))
  · subst hhint
    rw [exec_molAdvise]
    exact after_eq_of hu (molAdvise_of_hint ⟨⟨hcur, hlive, herr, hgiven, hop⟩, hcode⟩ va n x)
  · subst hpa
    rw [exec_molBarMap]
    exact after_eq_of hu
      (molBarMap_of_free ⟨⟨hcur, hlive, herr, hgiven, hop⟩, hcode⟩ hbytes hone a.isLt hfree readonly)
  · rw [exec_molBarUnmap]
    exact after_eq_of hu (molBarUnmap_of_own ⟨⟨hcur, hlive, herr, hgiven, hop⟩, hcode⟩ ha hon htid)

end Sys2Proof.Machine
end

section
/-! PROOFS. The families of the Dowel ports (R397 to R405), of the messages and the timers of an Assembly (R407 to R418), and of the
redundant pair (R426 to R434). -/

namespace Sys2Proof.Machine

/-! Reception and replay (R398 to R400). -/

theorem take_padTo_of_length {n : Nat} {l : List Byte} (h : l.length = n) : (padTo n l).take n = l := by
  rw [padTo, ← h, List.take_left]

section
variable {s : State} {p : Nat} (hon : dwlOn s = true) (hup : portUp s p = true)
include hon hup

section
variable {l : List Byte} (hlen : l.length = 64)
include hlen

/-- A flit whose check fails is counted, and answered with NAK. -/
theorem dwlFlitReceive_of_bad (hcheck : crc32c ((l.take 60).map (·.toNat)) ≠ dAt l 60 4) (res : Nat) :
    dwlFlitReceive p l res s = nakBad p (s.bump .dwlCntCrc 1 p) := by
  simp only [dwlFlitReceive, hon, hup, take_padTo_of_length hlen, Bool.and_self, Bool.not_true, Bool.false_eq_true, if_false,
    if_pos hcheck]

/-- A good IDLE flit returns its credits, and lets waiting flits go. -/
theorem dwlFlitReceive_of_idle (hcheck : crc32c ((l.take 60).map (·.toNat)) = dAt l 60 4) (htype : (readFlit l).typ = 0)
    (hnak : bitOf (dAt l 0 1) 6 = false) {t : State}
    (ht : t = takeAck p (dAt l 3 1) (dAt l 6 2 / 1024) (bitOf (dAt l 0 1) 7) s) (res : Nat) :
    dwlFlitReceive p l res s = dwlPump p (t.dport p).wait.length t := by
  rw [ht]
  simp only [dwlFlitReceive, hon, hup, take_padTo_of_length hlen, Bool.and_self, Bool.not_true, Bool.false_eq_true, if_false, hcheck,
    ne_eq, not_true, htype, if_true, hnak]

end

theorem dwlReplayTimeout_of_due (hout : (s.dport p).out ≠ []) (hdue : s.now = (s.dport p).ackAt + 10 * rootPerUs) :
    dwlReplayTimeout p s = replay p s :=
  if_pos ⟨hon, hup, by rw [List.isEmpty_eq_false_iff.2 hout]; rfl, hdue⟩

/-! Training (R401, R403). -/

theorem dwlRetrain_of_lost {t : State} (ht : t = s.bump .dwlCntRetrain 1 p) : dwlRetrain p true s =
    showPairLink ((t.wr .dwlPortState 1 p).setDport p { t.dport p with trainAt := t.now }) := by
  have hlost : portUp s p = true ∧ (true = true ∨ 8 ≤ (s.dport p).stuck) := ⟨hup, .inl rfl⟩
  rw [ht]
  exact (if_neg (by rw [hon]; decide)).trans (if_pos hlost)

end

/-- A training that is done in time brings a port UP that has not been. -/
theorem dwlTrainingDone_of_first {s : State} {p : Nat} (hon : dwlOn s = true) (hstate : s.rd .dwlPortState p = 1)
    (htime : s.now ≤ (s.dport p).trainAt + 30 * rootPerMs) (hfirst : (s.dport p).wasUp = false) {partner : Nat} {ppair : Bool}
    {t x : State} (ht : t = ((s.wr .dwlPortState 2 p).wr .dwlPartner partner p).wr .dwlPpair (b2n ppair) p)
    (hx : x = reroute (firstRoute p (showPairLink (raise .dwlLinkUp 1 p
      (t.setDport p { DwlPort.init with wasUp := true, replayTold := (s.dport p).replayTold, ackAt := t.now })))))
    (hpair : (dwlPump p (x.dport p).wait.length x).pair.on = false) :
    dwlTrainingDone p partner ppair s = dwlPump p (x.dport p).wait.length x := by
  have hdone : dwlOn s = true ∧ s.rd .dwlPortState p = 1 ∧ s.now ≤ (s.dport p).trainAt + 30 * rootPerMs := ⟨hon, hstate, htime⟩
  have hflits (f : State → FlitOut → State) (s : State) : DwlPort.init.out.foldl f s = s := rfl
  have halone : ¬ ((dwlPump p (x.dport p).wait.length x).rd .dwlPortUse p = 2 ∧
      (dwlPump p (x.dport p).wait.length x).pair.on = true) := by
    rw [hpair]
    exact not_and_of_not_right _ Bool.false_ne_true
  rw [dwlTrainingDone, if_pos hdone]
  dsimp only at hx ⊢
  rw [hfirst, if_neg Bool.false_ne_true, ← ht, hflits, ← hx]
  exact if_neg halone

theorem dwlTrainRetry_of_due {s : State} {p : Nat} (htrains : trains s p = true) (hrun : s.boot.p150 = true)
    (hdown : s.rd .dwlPortState p = 0) (hdue : every s (s.dport p).trainAt rootPerS = true) :
    dwlTrainRetry p s = (s.wr .dwlPortState 1 p).setDport p { s.dport p with trainAt := s.now } :=
  if_pos ⟨htrains, hrun, hdown, hdue⟩

/-! Messages (R404). -/

/-- The first message of a type is served. -/
theorem onMsg_of_first {typ : Nat} {rsp : Bool} {s t : State} {m : DwlMsg}
    (h : takeMsg (fun m => m.typ == typ && m.rsp == rsp) s = some (m, t)) (f : DwlMsg → State → State) :
    onMsg typ rsp f s = f m t := by
  simp only [onMsg, h]

/-! Remote accesses (R405). -/

/-- A request at the front of its type is served unless the BPU is busy at its address. -/
theorem dwlMem_of_first {typ : Nat} {s t : State} {m : DwlMsg}
    (htake : takeMsg (fun m => m.typ == typ && m.rsp == false) s = some (m, t))
    (hfind : (s.dwl.msgs.find? fun m => m.typ == typ && !m.rsp) = some m)
    (hfree : bpuBusyAt s (s.rd .inbBase (dAt m.data 0 5 % 2 ^ 32 / 2 ^ 28) * 2 ^ 28 + dAt m.data 0 5 % 2 ^ 32 % 2 ^ 28) = false)
    (env : RegEnv) (reply : FabReply) : dwlMem typ env reply s = remAccess env reply m t := by
  simp only [dwlMem, hfind, hfree, Bool.false_eq_true, if_false, onMsg_of_first htake]

/-- An access to a segment that is not enabled is answered UNMAPPED. -/
theorem remAccess_of_disabled {m : DwlMsg} {s : State} (hoff : s.rd .inbEn (dAt m.data 0 5 % 2 ^ 32 / 2 ^ 28) = 0) (env : RegEnv)
    (reply : FabReply) : remAccess env reply m s = remAnswer m 2 (dAt m.data 5 1 % 128 + 1) [] s :=
  if_pos (.inl (by rw [State.on_eq_false_of_rd hoff]; rfl))

/-- A read of an enabled segment whose mask names the requester is answered with the data that it gave. -/
theorem remAccess_of_read {m : DwlMsg} {s : State} {o len : Nat} (ho : o = dAt m.data 0 5 % 2 ^ 32)
    (hlen : len = dAt m.data 5 1 % 128 + 1) (hen : s.rd .inbEn (o / 2 ^ 28) = 1)
    (hmask : s.rdBit .inbSrcMask m.src (o / 2 ^ 28) = true) (hserved : remServed s m (o / 2 ^ 28) = true) (htype : m.typ = 3)
    {env : RegEnv} {reply : FabReply} {r : RdOut}
    (hr : r = inbPart ⟨18, s.rd .inbTid (o / 2 ^ 28), s.rd .inbBase (o / 2 ^ 28) * 2 ^ 28 + o % 2 ^ 28, len, false⟩ none env reply s)
    (hok : r.resp = rOkay) : remAccess env reply m s = remAnswer m 0 len r.data r.s := by
  have hopen : ¬ ((!s.on .inbEn (o / 2 ^ 28)) = true ∨ (!s.rdBit .inbSrcMask m.src (o / 2 ^ 28)) = true ∨
      (!remServed s m (o / 2 ^ 28)) = true) := by
    rw [State.on_iff.2 hen, hmask, hserved]
    decide
  have hread : (m.typ == 2) = false := by rw [htype]; rfl
  have htime : ¬ rOkay = rTimeout := by decide
  simp only [remAccess, ← ho, ← hlen, if_neg hopen, hread, Bool.false_eq_true, if_false, ← hr, hok, if_neg htime, true_or, if_true]
  rfl

/-- Settles O39, by what the port receives, by its training, and by the segment of a remote access. -/
theorem dowelPorts : Obligations.DowelPorts := by
  refine ⟨fun dt p l res s u hu hon hup hlen hcheck => ?_, fun dt p l res t s u hu hon hup hlen hcheck htype hnak ht => ?_,
    fun dt p s u hu hon hup hout hdue => ?_, fun dt p lost t s u hu hon hup hlost ht => ?_,
    fun dt p partner ppair t x s u hu hon hstate htime hfirst _ ht _ hx hpair => ?_,
    fun dt p s u hu htrains hrun hdown hdue => ?_, fun dt env reply m t s u hu htake hfab hfind hfree => ?_,
    fun dt env reply m t s u hu htake hfab hfind hfree hoff => ?_,
    fun dt env reply m t o len r s u hu htake hfab hfind ho hlen hfree hen hmask hserved htype hr hok => ?_⟩
  · rw [exec_dwlFlitReceive]
    exact after_eq_of hu (dwlFlitReceive_of_bad hon hup hlen hcheck res)
  · rw [exec_dwlFlitReceive]
    exact after_eq_of hu (dwlFlitReceive_of_idle hon hup hlen hcheck htype hnak ht res)
  · rw [exec_dwlReplayTimeout]
    exact after_eq_of hu (dwlReplayTimeout_of_due hon hup hout hdue)
  · subst hlost
    rw [exec_dwlRetrain]
    exact after_eq_of hu (dwlRetrain_of_lost hon hup ht)
  · rw [exec_dwlTrainingDone]
    exact after_eq_of hu (dwlTrainingDone_of_first hon hstate htime hfirst ht hx hpair)
  · rw [exec_dwlTrainRetry]
    exact after_eq_of hu (dwlTrainRetry_of_due htrains hrun hdown hdue)
  · rw [exec_dwlMemWr]
    exact after_eq_of hu ((if_pos hfab).trans (dwlMem_of_first htake hfind hfree env reply))
  · rw [exec_dwlMemRd]
    exact after_eq_of hu ((if_pos hfab).trans
      ((dwlMem_of_first htake hfind hfree env reply).trans (remAccess_of_disabled hoff env reply)))
  · rw [exec_dwlMemRd]
    rw [ho] at hfree
    exact after_eq_of hu ((if_pos hfab).trans ((dwlMem_of_first htake hfind hfree env reply).trans
      (remAccess_of_read ho hlen hen hmask hserved htype hr hok)))

/-! Tasks, SYNC and TIME (R408, R411 to R413, R416). -/

theorem dwlTask_of_task {m : DwlMsg} {s : State} (hsub : dAt m.data 0 1 = 0) (hstate : 3 ≤ ownState s) : dwlTask m s =
    placeTasks (dAt m.data 1 1 % 64) [(List.range 16).map fun k => dAt m.data (8 + 4 * k) 4] s := by
  simp only [dwlTask, hsub, if_pos hstate, taskMsg]

/-- A forwarded request goes to the dictionary. -/
theorem dwlTask_of_forward {m : DwlMsg} {s : State} (hsub : dAt m.data 0 1 = 1) (hrole : s.rd .asmRole = 2) (hsrc : m.src = 0)
    (hstate : 2 ≤ ownState s) {r : List Byte} (hr : r = (m.data.drop 4).take (dAt m.data 2 2)) (hop : dAt r 1 1 ≠ 3) :
    dwlTask m s = odReceive ⟨.dowel m.tag, .write (r.drop 8), payIdx (r.drop 4), paySub (r.drop 4)⟩ s := by
  have hmine : s.rd .asmRole = 2 ∧ m.src = 0 ∧ 2 ≤ ownState s := ⟨hrole, hsrc, hstate⟩
  simp only [dwlTask, hsub, if_pos hmine, forwarded, ← hr, if_neg hop, List.drop_drop]

/-- SYNC sets the base and arms the epoch. -/
theorem dwlSync_of_taken {m : DwlMsg} {s : State} (h : takesSync s m = true) {e : Nat} (he : e = dAt m.data 1 6) {x : State}
    (hx : x = epochArm 1 (BitVec.ofNat 32 (e / 2 ^ 32 % 2 ^ 16 + 2 ^ 31))
      (tbCfgWrite 1 (BitVec.ofNat 32 (dAt m.data 0 1)) ((s.wr .epochNsec 0).wr .epochSecLo e))) :
    dwlSync m s = x.wr .asmGridOk (b2n (!s.anyEnabled)) := by
  simp only [dwlSync, h, Bool.not_true, Bool.false_eq_true, if_false, ← he, ← hx]

theorem timeRequest_of_worker {m : DwlMsg} {s : State} (hpair : onPair s m = false) (hmanager : isManager s = true)
    (hsrc : m.src ≠ 0) (hreport : dAt m.data 14 1 ≠ 1) :
    timeRequest m s = dwlSend 6 true m.src m.tag 1 (timeAnswerPay s m) s := by
  simp only [timeRequest, hpair, Bool.false_eq_true, if_false, if_pos (And.intro hmanager hsrc), if_neg hreport]

/-- The offset is half the difference of the two ways. -/
theorem timeAnswer_of_worker {m : DwlMsg} {s : State} (hpair : onPair s m = false) (hrole : s.rd .asmRole = 2) {o : Int}
    (ho : o = Int.tdiv (((s.dwl.t1 : Int) - (dAt m.data 0 6 * 1000000000 + dAt m.data 6 4)) +
      (m.at_ - (dAt m.data 10 6 * 1000000000 + dAt m.data 16 4)) + dAt m.data 20 4 - dAt m.data 48 4) 2) :
    timeAnswer m s = dwlServo o ({ s with dwl := { s.dwl with ofs := satInt 32 o } }.wrS .dwlOfsNs (satInt 32 o)) := by
  have hmine : (s.rd .asmRole == 2) = true := beq_iff_eq.2 hrole
  simp only [timeAnswer, ← ho, hpair, Bool.false_eq_true, if_false, if_pos hmine]

/-- Settles O40, by the type of the message and the role of the node. -/
theorem assemblyMessages : Obligations.AssemblyMessages := by
  refine ⟨fun dt links m t s u hu htake hpair hmanager hsrc => ?_, fun dt m t s u hu htake hrole hsrc => ?_,
    fun dt m t s u hu htake hsub hstate => ?_, fun dt m t r s u hu htake hsub hrole hsrc hstate hr hop => ?_,
    fun dt m t e x s u hu htake hsync he hx => ?_, fun dt m t s u hu htake hpair hmanager hsrc hreport => ?_,
    fun dt m t o s u hu htake hpair hrole ho => ?_⟩
  · rw [exec_dwlHello]
    exact after_eq_of hu ((onMsg_of_first htake _).trans
      ((if_neg (by rw [hpair]; decide)).trans (if_pos ⟨hmanager, hsrc⟩)))
  · rw [exec_dwlVerdict]
    exact after_eq_of hu ((onMsg_of_first htake _).trans (if_pos ⟨hrole, hsrc⟩))
  · rw [exec_dwlTask]
    exact after_eq_of hu ((onMsg_of_first htake _).trans (dwlTask_of_task hsub hstate))
  · rw [exec_dwlTask]
    exact after_eq_of hu ((onMsg_of_first htake _).trans (dwlTask_of_forward hsub hrole hsrc hstate hr hop))
  · rw [exec_dwlSync]
    exact after_eq_of hu ((onMsg_of_first htake _).trans (dwlSync_of_taken hsync he hx))
  · rw [exec_dwlTimeRequest]
    exact after_eq_of hu ((onMsg_of_first htake _).trans (timeRequest_of_worker hpair hmanager hsrc hreport))
  · rw [exec_dwlTimeAnswer]
    exact after_eq_of hu ((onMsg_of_first htake _).trans (timeAnswer_of_worker hpair hrole ho))

/-! The timers of an Assembly (R407, R410 to R418). -/

section
variable {s : State}

theorem asmHelloTimer_of_new (hrole : s.rd .asmRole = 2) (hroute : s.rdBit .dwlRouteV 0 = true) (hnew : s.dwl.sent ≠ descHead s) :
    asmHelloTimer s =
      dwlSend 1 false 0 0 1 (descriptor s) { s with dwl := { s.dwl with sent := descHead s, helloAt := s.now } } :=
  if_pos ⟨hrole, hroute, .inl (bne_iff_ne.2 hnew)⟩

/-- The interval of TIME starts an exchange. -/
theorem asmTimeTimer_of_worker (hdue : every s s.dwl.timeAt (timeInt s) = true) (hpair : s.rd .pairRole ≠ 2)
    (hrole : s.rd .asmRole = 2) (hroute : s.rdBit .dwlRouteV 0 = true) : asmTimeTimer s =
      dwlSend 6 false 0 0 1 (timePay s) { s with dwl := { s.dwl with timeAt := s.now, t1 := s.dtNs } } := by
  have hport : pairTimePort s = none := if_neg (not_and_of_not_left _ hpair)
  have hworker : s.rd .asmRole = 2 ∧ s.rdBit .dwlRouteV 0 = true := ⟨hrole, hroute⟩
  simp only [asmTimeTimer, if_pos hdue, hport, if_pos hworker]

/-- The manager forms its Assembly 400 ms after T0. -/
theorem asmFormed_of_due (hmanager : isManager s = true) (hstate : s.rd .asmState = 1)
    (hdue : s.now = s.boot.t0 + 400 * rootPerMs) {x : State} (hx : x = s.wr .asmState 2) :
    asmFormed s = foldN 16 (fun k s => if k ≠ 0 ∧ inService s k then dwlSend 5 false k 0 1 (syncPay s) s else s)
      (raise .asmFormed 1 (x.rd .asmMember + x.rd .asmSuspect) x) := by
  rw [hx]
  exact if_pos ⟨hmanager, hstate, .inl hdue⟩

theorem asmWorkerLost_of_silent {k : Nat} (hmanager : isManager s = true) (hk : k ≠ 0) (hmin : 0 < (s.wkr k).state)
    (hmax : (s.wkr k).state < 5) (hlate : (s.wkr k).flitAt + s.rd .asmWkrTo * rootPerMs ≤ s.now) :
    asmWorkerLost k s = reroute (raise .asmMemberLost 1 k (showNodes (s.setWkr k { s.wkr k with state := 5 }))) :=
  if_pos ⟨hmanager, hk, hmin, hmax, hlate⟩

/-- A worker that has not heard node 0 for its time holds its Assembly channels. -/
theorem asmManagerLost_of_silent (hrole : s.rd .asmRole = 2) (hverdict : s.dwl.verdict ≠ none) (hheld : s.dwl.held = false)
    (hlate : s.dwl.mgrAt + s.rd .asmMgrTo * rootPerMs ≤ s.now) :
    asmManagerLost s = raise .asmManagerLost 1 0 ({ s with dwl := { s.dwl with held := true } }.wr .asmState 3) :=
  if_pos ⟨hrole, Option.isSome_iff_ne_none.2 hverdict, by rw [hheld]; rfl, hlate⟩

/-- A forward sends the request to its node. -/
theorem asmForward_of_request {x : State} {q : OdReq} (htake : OdTakes s q x) (hwrites : q.writes .asmForward = true) {r : List Byte}
    (hop : q.op = .write r) (hown : ownCheck q = 0) (hmanager : isManager x = true) (hres : dAt r 2 2 = 0)
    (hcode : dAt r 1 1 = 2 ∨ dAt r 1 1 = 3) (hform : vdpFormOk (dAt r 1 1) false (r.drop 4) = true) (hmin : 1 ≤ dAt r 0 1)
    (hmax : dAt r 0 1 ≤ 15) (hlive : 2 ≤ (x.wkr (dAt r 0 1)).state) (hserved : (x.wkr (dAt r 0 1)).state ≤ 4) :
    asmForward s = dwlSend 4 false (dAt r 0 1) x.dwl.nextTag 1 (fwdPay 1 r) { x with
      dwl := { x.dwl with
        nextTag := (x.dwl.nextTag + 1) % 65536
        fwd := x.dwl.fwd ++ [⟨x.dwl.nextTag, dAt r 0 1, q, x.now⟩] } } := by
  have hvalue : ¬ (dAt r 2 2 ≠ 0 ∨ (dAt r 1 1 ≠ 2 ∧ dAt r 1 1 ≠ 3) ∨ (!vdpFormOk (dAt r 1 1) false (r.drop 4)) = true ∨
      dAt r 0 1 = 0 ∨ 15 < dAt r 0 1) := by
    rw [hform]
    rintro (h | ⟨h2, h3⟩ | h | h | h)
    · exact h hres
    · exact hcode.elim h2 h3
    · cases h
    · omega
    · omega
  have hnode : ¬ ((x.wkr (dAt r 0 1)).state < 2 ∨ 4 < (x.wkr (dAt r 0 1)).state) := by omega
  rw [asmForward, odServe_of_front htake hwrites]
  simp only [OdReq.data_of_write hop, Option.getD_some, hown, ne_eq, not_true, hmanager, Bool.not_true, Bool.false_eq_true, if_false]
  exact (if_neg hvalue).trans (if_neg hnode)

theorem asmForwardTimeout_of_late {f : FwdRun}
    (hlate : (s.dwl.fwd.find? fun f => decide (f.at_ + 500 * rootPerMs ≤ s.now)) = some f) : asmForwardTimeout s =
      odReply f.req 1 abState [] (raise .asmForwardTimeout 1 f.node
        { s with dwl := { s.dwl with fwd := s.dwl.fwd.filter fun g => g.tag != f.tag } }) := by
  simp only [asmForwardTimeout, hlate]
  exact odDone_of_ne_zero (by decide) ..

end

/-- Settles O41, by the time that has passed and the role of the node. -/
theorem assemblyTimers : Obligations.AssemblyTimers := by
  refine ⟨fun dt s u hu hrole hroute hnew => ?_, fun dt s u hu hdue hpair hrole hroute => ?_,
    fun dt x s u hu hmanager hstate hdue hx => ?_, fun dt k s u hu hmanager hk hmin hmax hlate => ?_,
    fun dt s u hu hrole hverdict hheld hlate => ?_,
    fun dt q l x r s u hu hauth hqueue hx hwrites hop hown hmanager hres hcode hform hmin hmax hlive hserved => ?_,
    fun dt f s u hu hlate => ?_⟩
  · rw [exec_asmHelloTimer]
    exact after_eq_of hu (asmHelloTimer_of_new hrole hroute hnew)
  · rw [exec_asmTimeTimer]
    exact after_eq_of hu (asmTimeTimer_of_worker hdue hpair hrole hroute)
  · rw [exec_asmFormed]
    exact after_eq_of hu (asmFormed_of_due hmanager hstate hdue hx)
  · rw [exec_asmWorkerLost]
    exact after_eq_of hu (asmWorkerLost_of_silent hmanager hk hmin hmax hlate)
  · rw [exec_asmManagerLost]
    exact after_eq_of hu (asmManagerLost_of_silent hrole hverdict hheld hlate)
  · rw [exec_asmForward]
    exact after_eq_of hu (asmForward_of_request ⟨hauth, l, hqueue, hx⟩ hwrites hop hown hmanager hres hcode hform hmin hmax
      hlive hserved)
  · rw [exec_asmForwardTimeout]
    exact after_eq_of hu (asmForwardTimeout_of_late hlate)

/-! The redundant pair (R426 to R434). -/

/-- A shadow takes a mirror. -/
theorem dwlMirror_of_shadow {s : State} (h : s.rd .pairRole = 2) (m : DwlMsg) : dwlMirror m s = takeMirror (readMirror m.data) s :=
  if_pos (.inl h)

section
variable {s : State} (hon : s.pair.on = true)
include hon

/-- A PEER_FAIL_N that falls is shown, and then taken as a failure. -/
theorem peerFail_of_fall (hhigh : s.pair.failHigh = true) {t : State} (ht : t = s.wr .pairPeerFail 1) : peerFail true s =
    if mayTakeOver t then startTakeover 1 t else if t.rd .pairRole = 1 then raise .pairPeerFail 0 0 t else t := by
  have hkeep (v : Nat) : (s.wr .pairPeerFail v).pair.failHigh = true := hhigh
  rw [ht]
  simp only [peerFail, hon, hkeep, Bool.not_true, Bool.false_eq_true, if_false]
  rfl

/-- An ALIVE window with an edge starts the count anew. -/
theorem aliveWindowEnd_of_edge {k : Nat} (hwindow : s.windowNow = some k) (hnew : s.pair.winAt < s.now) : aliveWindowEnd true s =
    { s with pair := { s.pair with winAt := s.now, empty := 0 } }.wr .pairPeerAlive 1 := by
  have hcounts : ¬ ((!s.pair.on) = true ∨ s.now ≤ s.pair.winAt) := by
    rw [hon]
    rintro (h | h)
    · cases h
    · omega
  have hfew : 0 < 3 := by decide
  simp only [aliveWindowEnd, hwindow, if_neg hcounts, if_true, if_pos hfew]
  rfl

/-- The third ALIVE window in a row without an edge takes a shadow over. -/
theorem aliveWindowEnd_of_third {k : Nat} (hwindow : s.windowNow = some k) (hnew : s.pair.winAt < s.now)
    (hold : s.boot.t0 + 100 * rootPerMs ≤ windowStart s k) (hthird : 2 ≤ s.pair.empty) {t : State}
    (ht : t = { s with pair := { s.pair with winAt := s.now, empty := s.pair.empty + 1 } }.wr .pairPeerAlive 0)
    (htake : mayTakeOver t = true) : aliveWindowEnd false s = startTakeover 2 t := by
  have hcounts : ¬ ((!s.pair.on) = true ∨ s.now ≤ s.pair.winAt) := by
    rw [hon]
    rintro (h | h)
    · cases h
    · omega
  have hmany : ¬ s.pair.empty + 1 < 3 := by omega
  have hzero : b2n false = 0 := rfl
  simp only [aliveWindowEnd, hwindow, if_neg hcounts, Bool.false_eq_true, if_false, if_pos hold, hzero, ← ht, if_neg hmany,
    if_pos htake]

/-- The active yields when PEER_ACTIVE_N falls. -/
theorem peerActive_of_fall (hold : s.rd .pairPeerActive = 0) {t : State} (ht : t = s.wr .pairPeerActive 1)
    (hactive : t.pin.activeN = some false) : peerActive true s = raise .pairYield 0 0 (releaseRole t) := by
  have hone : b2n true = 1 := rfl
  simp only [peerActive, hon, Bool.not_true, Bool.false_eq_true, if_false, State.on_eq_false_of_rd hold, Bool.not_false,
    Bool.and_self, hone, ← ht, hactive, and_self, if_true]

/-- A mirror too old is reported once. -/
theorem pairMirrorStale_of_old (hport : s.pair.portLost = false) (hstale : mirrorStale s = true)
    (hfirst : s.pair.linkTold = false) :
    pairMirrorStale s = raise .pairLinkLost 1 1 { s with pair := { s.pair with linkTold := true } } := by
  simp only [pairMirrorStale, hon, hport, hstale, pairLinkLost, hfirst, Bool.not_true, Bool.false_eq_true, false_and, if_false, if_true]

/-- A lost pair port is reported once. -/
theorem pairMirrorStale_of_lost (hport : s.pair.portLost = true) (hrole : s.rd .pairRole = 1 ∨ s.rd .pairRole = 2)
    (hfirst : s.pair.linkTold = false) : pairMirrorStale s =
      raise .pairLinkLost 1 0 { s with pair := { s.pair with portLost := false, linkTold := true } } := by
  have hlost : s.pair.portLost = true ∧ (s.rd .pairRole = 1 ∨ s.rd .pairRole = 2) := ⟨hport, hrole⟩
  simp only [pairMirrorStale, hon, if_pos hlost, pairLinkLost, hfirst, Bool.not_true, Bool.false_eq_true, if_false]

end

/-- At the handover tick an active that has received READY gives up its role, and a shadow takes it. -/
theorem pairHandoverTick_of_tick {s t : State} (htick : atHandover s = true)
    (ht : t = { s with pair := { s.pair with ho := none, ready := false } }.wr .pairHoTick 0) : pairHandoverTick s =
      if t.rd .pairRole = 1 then if s.pair.ready then raise .pairHandover 1 0 (releaseRole t) else raise .pairHandover 1 1 t
      else if t.rd .pairRole = 2 then if s.pair.ready then finishTko (claimActive t) else setTko none t
      else t := by
  rw [ht]
  exact if_neg (by rw [htick]; decide)

theorem mayTakeOver_of_active {s : State} (h : s.rd .pairRole = 1) : mayTakeOver s = false := by
  rw [mayTakeOver, h]
  rfl

/-- Settles O42, by the role, the pin that changes, and the windows that have passed. -/
theorem pairCommands : Obligations.PairCommands := by
  refine ⟨fun dt m t s u hu htake hrole => ?_, fun dt low s u hu hon hlow hhigh hmay => ?_,
    fun dt low t s u hu hon hlow hhigh ht hrole => ?_, fun dt edge k s u hu hwindow hon hnew hedge => ?_,
    fun dt edge k t s u hu hwindow hon hnew hedge hold hthird ht hmay => ?_,
    fun dt low t s u hu hon hlow hold _ ht hactive => ?_, fun dt s u hu hon hport hstale hfirst => ?_,
    fun dt s u hu hon hport hrole hfirst => ?_, fun dt t s u hu htick ht hrole => ?_, fun dt t s u hu htick ht hrole => ?_⟩
  · rw [exec_dwlMirror]
    exact after_eq_of hu ((onMsg_of_first htake _).trans (dwlMirror_of_shadow hrole m))
  · subst hlow
    rw [exec_peerFailRecognised]
    exact after_eq_of hu ((peerFail_of_fall hon hhigh rfl).trans (if_pos hmay))
  · subst hlow
    rw [exec_peerFailRecognised]
    exact after_eq_of hu ((peerFail_of_fall hon hhigh ht).trans
      ((if_neg (by rw [mayTakeOver_of_active hrole]; decide)).trans (if_pos hrole)))
  · subst hedge
    rw [exec_aliveWindowEnd]
    exact after_eq_of hu (aliveWindowEnd_of_edge hon hwindow hnew)
  · subst hedge
    rw [exec_aliveWindowEnd]
    exact after_eq_of hu (aliveWindowEnd_of_third hon hwindow hnew hold hthird ht hmay)
  · subst hlow
    rw [exec_peerActiveFall]
    exact after_eq_of hu (peerActive_of_fall hon hold ht hactive)
  · rw [exec_pairMirrorStale]
    exact after_eq_of hu (pairMirrorStale_of_old hon hport hstale hfirst)
  · rw [exec_pairMirrorStale]
    exact after_eq_of hu (pairMirrorStale_of_lost hon hport hrole hfirst)
  · rw [exec_pairHandoverTick]
    exact after_eq_of hu ((pairHandoverTick_of_tick htick ht).trans (if_pos hrole))
  · rw [exec_pairHandoverTick]
    exact after_eq_of hu ((pairHandoverTick_of_tick htick ht).trans
      ((if_neg (by rw [hrole]; decide)).trans (if_pos hrole)))

end Sys2Proof.Machine
end

section
/-! PROOFS. The families of the power domains and rest states (R438 to R451, R474), and of the power supervision (R249, R448 to R460). -/

namespace Sys2Proof.Machine

/-! Power domains (R438, R439, R474). -/

/-- A request that names no domain in use switches what it names. -/
theorem pwrDomainRequest_of_allowed {s : State} {tid v : Nat} (htid : tid < 2) {ds : List Nat} (hds : ds = (List.range 24).filter onDemand)
    (hfree : ds.filter (domReqBad s v) = []) : pwrDomainRequest tid v s = ds.foldl (fun s d => domReqBit v d s) s := by
  simp only [pwrDomainRequest, if_neg (Nat.not_le.2 htid), ← hds, hfree, List.contains_nil, Bool.false_eq_true, if_false,
    List.isEmpty_nil, if_true]

theorem pwrDomainRequest_of_refused {tid : Nat} (htid : 2 ≤ tid) (v : Nat) (s : State) :
    pwrDomainRequest tid v s = raise .pwrCfgReject tid 0x00C s :=
  if_pos htid

section
variable {s : State} {d t : Nat}

/-- A switching domain whose needs are on goes on. -/
theorem pwrDomainSwitched_of_up (hsw : s.pwr.sw.get none d = some (true, t)) (hneeds : (domainNeeds d).all s.domOn = true)
    (hdue : s.now = upAt s d t) : pwrDomainSwitched d s = (domainOn d s).wrBit .vnrRstDom d false := by
  simp only [pwrDomainSwitched, hsw]
  exact if_pos ⟨hneeds, hdue⟩

theorem pwrDomainSwitched_of_down (hsw : s.pwr.sw.get none d = some (false, t)) (hdue : t + downTime d ≤ s.now)
    (hquiet : domainQuiet s d = true) : pwrDomainSwitched d s = domainOff d s := by
  simp only [pwrDomainSwitched, hsw, if_pos (And.intro hdue hquiet)]

end

/-- A partial reset cycles the domains that it names. -/
theorem partialReset_of_allowed {s : State} {v w : Nat} (hw : w = if bitOf v 16 then setBit v 4 true else v)
    (hok : ((List.range 24).any fun d => bitOf w d && !rstDomOk d) = false) {t : State}
    (ht : t = ((List.range 24).filter fun d => bitOf w d && rstDomOk d).foldl (fun s d => cycleDomain d s) s) :
    partialReset 0 v s = if bitOf w 23 then lockDebug t else t := by
  simp only [partialReset, ne_eq, not_true, if_false, ← hw, hok, Bool.false_eq_true, ← ht]

/-! Rest states (R441, R451) and wake (R445). -/

section
variable {u x : State} {q : OdReq} (htake : OdTakes u q x) (hwrites : q.writes .pwrReq = true) (hown : ownCheck q = 0)
include htake hwrites hown

/-- A request for a rest state, as R441 decides it. -/
theorem pwrStateRequest_of_rest (hnum : q.num ≠ 3) (flashOk : Bool) : pwrStateRequest flashOk u =
    if !restOk x then odReply q 1 abState [] x
    else if flashOk ∨ q.num = 2 then enterRest q.num (sendWaiting (applySto 9 (odReply q 0 0 [] (x.setOb .pwrReq q.num))))
    else abortRest q.num (applySto 9 (odReply q 0 0 [] (x.setOb .pwrReq q.num))) := by
  rw [pwrStateRequest, odServe_of_front htake hwrites]
  simp only [hown, ne_eq, not_true, if_false, if_neg hnum, odDone_zero, odDone_of_ne_zero (code := abState) (by decide)]

end

/-- A third critical reading enters STANDBY. -/
theorem thmCrit_of_third {s : State} (hcount : 3 ≤ s.pwr.crit) (hstate : 3 ≤ s.rd .pwrState) {t : State}
    (ht : t = enterRest 2 (applySto 9 (raise .thmCrit 0 (hottest s) { s with pwr := { s.pwr with crit := 0, coolAt := none } }))) :
    thmCrit s = { t with pwr := { t.pwr with critRest := true } } := by
  simp only [thmCrit, if_pos (And.intro hcount hstate), ← ht]

theorem thmRecoveryWake_of_cool {s : State} (hstate : s.rd .pwrState = 2) (hcrit : s.pwr.critRest = true)
    (hwaking : s.pwr.waking = false) (hcool : heldFor s.pwr.coolAt (10 * rootPerS) s.now = true) : thmRecoveryWake s = wake 7 s :=
  if_pos ⟨hstate, hcrit, by rw [hwaking]; rfl, hcool⟩

/-- Settles O43, by the domains that the request names, the state that it asks for, and the source that wakes. -/
theorem powerDomains : Obligations.PowerDomains := by
  refine ⟨fun dt tid v ds s u hu htid hds hfree => ?_, fun dt tid v s u hu htid => ?_,
    fun dt d t s u hu hsw hneeds hdue => ?_, fun dt d t s u hu hsw hdue hquiet => ?_, fun dt tid v w s u hu htid hw hok => ?_,
    fun dt flashOk q l x s u hu hauth hqueue hx hwrites hown hnum hrest => ?_,
    fun dt flashOk q l x s u hu hauth hqueue hx hwrites hown hnum hrest => ?_, fun dt t s u hu hcount hstate ht => ?_,
    fun dt b s u hu hwake => ?_, fun dt s u hu hwake halarm => ?_, fun dt s u hu hstate hcrit hwaking hcool => ?_⟩
  · rw [exec_pwrDomainRequest]
    exact after_eq_of hu (pwrDomainRequest_of_allowed htid hds hfree)
  · rw [exec_pwrDomainRequest]
    exact after_eq_of hu (pwrDomainRequest_of_refused htid v.toNat u)
  · rw [exec_pwrDomainSwitched]
    exact after_eq_of hu (pwrDomainSwitched_of_up hsw hneeds hdue)
  · rw [exec_pwrDomainSwitched]
    exact after_eq_of hu (pwrDomainSwitched_of_down hsw hdue hquiet)
  · subst htid
    rw [exec_partialReset]
    exact after_eq_of hu (partialReset_of_allowed hw hok rfl)
  · rw [exec_pwrStateRequest]
    exact after_eq_of hu ((pwrStateRequest_of_rest ⟨hauth, l, hqueue, hx⟩ hwrites hown hnum flashOk).trans
      (if_pos (by rw [hrest]; rfl)))
  · have hrequest : q.num ≠ 3 := by omega
    rw [exec_pwrStateRequest]
    refine after_eq_of hu ((pwrStateRequest_of_rest ⟨hauth, l, hqueue, hx⟩ hwrites hown hrequest flashOk).trans
      ((if_neg (by rw [hrest]; decide)).trans ((if_pos (.inr hnum)).trans ?_)))
    rw [hnum]
  · rw [exec_thmCrit]
    exact after_eq_of hu (thmCrit_of_third hcount hstate ht)
  · rw [exec_pwrWake]
    exact after_eq_of hu (if_pos hwake)
  · rw [exec_pwrAlarmWake]
    exact after_eq_of hu (if_pos ⟨hwake, halarm⟩)
  · rw [exec_thmRecoveryWake]
    exact after_eq_of hu (thmRecoveryWake_of_cool hstate hcrit hwaking hcool)

/-! Throttling and adaptive voltage (R448, R453, R455). -/

/-- A window above the cap raises the throttle level. -/
theorem throttleWindow_of_above {s : State} {est : Nat} (hstart : winStart s = s.now) (hnew : s.pwr.winAt < s.now)
    (habove : s.rd .pwrCap * 1000 < est) : throttleWindow est s =
      throttleUp ({ s with pwr := { s.pwr with
        winAt := s.now
        lastL := s.rd .pwrL
        above := if s.rd .pwrL = 4 then s.pwr.above + 1 else 0
        aboveTold := s.pwr.aboveTold } }.wr .pwrEst (min est 65535)) := by
  have hover : decide (est < s.rd .pwrCap * 1000) = false := decide_eq_false (Nat.lt_asymm habove)
  have hcap (w : PwrSt) : { s with pwr := w }.rd .pwrCap = s.rd .pwrCap := rfl
  have hlevel (w : PwrSt) : { s with pwr := w }.rd .pwrL = s.rd .pwrL := rfl
  rw [throttleWindow, if_pos ⟨hstart, hnew⟩]
  simp only [throttleLevel, hcap, hlevel, habove, and_true, true_or, if_true, hover, Bool.not_false, Bool.and_true]

theorem pwrCapUnmet_of_windows {s : State} (hcount : 10 ≤ s.pwr.above) (hfirst : s.pwr.aboveTold = false) :
    pwrCapUnmet s = raise .pwrCapUnmet 0 (s.rd .pwrEst / 100) { s with pwr := { s.pwr with aboveTold := true } } :=
  if_pos ⟨hcount, by rw [hfirst]; rfl⟩

theorem avsLift_of_no_limit {s : State} (h : s.pwr.avsLimit = false) : avsLift s = s :=
  if_neg (by rw [h]; exact not_and_of_not_left _ Bool.false_ne_true)

/-- A reading below the lower margin raises VID by one step. -/
theorem avsMonitor_of_low {s : State} (hon : avsOn s = true) (hperiod : onPeriod s s.pwr.avsSeen rootPerMs = true)
    (hvid : s.rd .pwrVid < 20) (hfree : s.pwr.avsAt + 200 * rootPerUs ≤ s.now) (hlimit : s.pwr.avsLimit = false) {w : PwrSt}
    (hw : w = { s.pwr with avsSeen := some s.now, avsAt := s.now, avsHigh := none, avsLow := none, avsOk := none }) (high : Bool) :
    avsMonitor true high s = { s with pwr := w }.wr .pwrVid (s.rd .pwrVid + 1) := by
  have htop : (s.rd .pwrVid == 20) = false := beq_eq_false_iff_ne.2 (Nat.ne_of_lt hvid)
  have hkeep : ({ s with pwr := w }.wr .pwrVid (s.rd .pwrVid + 1)).pwr.avsLimit = false := by
    rw [hw]
    exact hlimit
  rw [← avsLift_of_no_limit hkeep, hw]
  simp only [avsMonitor, hon, hperiod, Bool.and_self, Bool.not_true, Bool.false_eq_true, if_false, htop, Bool.and_false, hvid, hfree,
    and_self, if_true, sinceWhen]

theorem avsLimit_of_low {s : State} (hon : avsOn s = true) (hvid : s.rd .pwrVid = 20)
    (hheld : heldFor s.pwr.avsLow (10 * rootPerMs) s.now = true) (hfirst : s.pwr.avsLimit = false) :
    avsLimit s = updCap (raise .pwrAvsLimit 0 0 { s with pwr := { s.pwr with avsLimit := true, avsOk := none } }) :=
  if_pos ⟨hon, hvid, hheld, by rw [hfirst]; rfl⟩

/-! Temperature (R249, R449, R450). -/

/-- The twelve readings of a conversion. -/
def takeReadings (l : List Int) (s : State) : State :=
  foldN 12 (fun k s => if l.getD k 0 < -400 ∨ 1200 < l.getD k 0 then sensorFail k s else s)
    (foldN 12 (fun k s => s.wr .thmT (unsigned 12 (l.getD k 0)) k) { s with pwr := { s.pwr with thmSeen := some s.now } })

/-- A conversion reads the sensors, and sets the fans by the highest valid reading. -/
theorem thmConversion_of_reading {s : State} {l : List Int} (hon : s.domOn 1 = true)
    (hperiod : onPeriod s s.pwr.thmSeen (100 * rootPerUs) = true) {t x : State} (ht : t = takeReadings l s)
    (hx : x = foldN 12 (fun k s => judgeSensor (goodReadings t l) k s) t) {r : Nat × Int} {rest : List (Nat × Int)}
    (hgood : goodReadings x l = r :: rest) {top : Nat × Int} (htop : top = rest.foldl (fun m p => if m.2 < p.2 then p else m) r) :
    thmConversion l s = fanDuty 1 (fanDuty 0 (updCap (thmThresholds top.1 top.2
      (foldN 12 (fun k s => s.wr .thmValid (b2n (!(decide (k ∈ s.pwr.thmBad)))) k) x)))) := by
  rw [takeReadings] at ht
  simp only [thmConversion, if_pos (And.intro hon hperiod), ← ht, ← hx, hgood, ← htop]

/-- The MR4 codes set the refresh temperature. -/
theorem memcMr4Poll_of_due {s : State} (htrained : s.memc.trained = true) (hclock : s.clockOn 14 = true)
    (hperiod : onPeriod s s.memc.polled (16 * rootPerMs) = true) {codes : List Nat} {t : State}
    (ht : t = foldN 8 (fun ch s => { s with memc := { s.memc with rate := s.memc.rate.set ch (codes.getD ch 0 % 8) } })
      { s with memc := { s.memc with polled := some s.now } }) (hot : BitVec 8) :
    memcMr4Poll codes hot s = updCap (foldN 8 (fun ch s => dramHot ch (bitOf hot.toNat ch) s)
      (t.wr .memcTemp ((List.range 8).foldl (fun m ch => max m (t.memc.rate.get 0 ch)) 0))) := by
  rw [ht]
  exact if_pos ⟨htrained, hclock, hperiod⟩

/-! Fans (R456 to R459). -/

section
variable {s : State} {f : Nat}

theorem fansOn_wr_fanEn (v : Nat) : fansOn (s.wr .fanEn v f) = fansOn s := by
  have hstate : (s.wr .fanEn v f).rd .pwrState = s.rd .pwrState := State.rd_wr_ne s v (by simp)
  have hrun : (s.wr .fanEn v f).boot.p120 = s.boot.p120 := rfl
  rw [fansOn, fansOn, hstate, hrun]

/-- A fan that is enabled spins up. -/
theorem fanEnable_of_on (hon : fansOn s = true) {t : State} (ht : t = s.wr .fanEn 1 f) :
    fanEnable f s = updCap ((((t.setFan f ⟨t.now, none, none⟩).wr .fanState 1 f).wr .fanRetry 0 f).wr .fanD 255 f) := by
  have hen : (s.wr .fanEn 1 f).rd .fanEn f = 1 := State.rd_wr_same ..
  rw [ht, fanEnable]
  exact if_pos ⟨State.on_iff.2 hen, (fansOn_wr_fanEn 1).trans hon⟩

/-- A tach edge shows the speed. -/
theorem fanTachEdge_of_edge (hen : s.rd .fanEn f = 1) (hon : fansOn s = true) {t : Nat} (hedge : (s.fan f).edgeAt = some t)
    (hlate : t < s.now) (hlimit : s.now - t < tachLimit s f) :
    fanTachEdge f s = fanSpeed f (30 * rootPerS / (s.now - t)) (s.setFan f { s.fan f with edgeAt := some s.now }) := by
  have hgap : decide (tachLimit s f ≤ s.now - t) = false := decide_eq_false (Nat.not_le.2 hlimit)
  simp only [fanTachEdge, if_pos (And.intro (State.on_iff.2 hen) hon), hedge, hgap, Bool.false_eq_true, if_false, if_pos hlate]

/-- The channel is stalled after its third retry. -/
theorem fanSpinupTimeout_of_third (hon : fansOn s = true) (hstate : s.rd .fanState f = 1)
    (hdue : s.now = (s.fan f).startAt + 2 * rootPerS) (hretry : s.rd .fanRetry f = 3) :
    fanSpinupTimeout f s = fanDuty (1 - f) (updCap (raise .fanStall 0 f (s.wr .fanState 3 f))) :=
  if_pos ⟨hon, hstate, hdue, hretry⟩

theorem fanSpinupRetry_of_due (hon : fansOn s = true) (hstate : s.rd .fanState f = 1)
    (hdue : s.now = (s.fan f).startAt + 5 * rootPerS) (hretry : s.rd .fanRetry f < 3) : fanSpinupRetry f s =
      ((s.setFan f { s.fan f with startAt := s.now }).wr .fanD 255 f).wr .fanRetry (s.rd .fanRetry f + 1) f :=
  if_pos ⟨hon, hstate, hdue, hretry⟩

theorem fanTachLost_of_silent (hon : fansOn s = true) (hstate : s.rd .fanState f = 2) (hsilent : tachSilent s f = true) :
    fanTachLost f s = fanDuty (1 - f) (fanDuty f (updCap (raise .fanTachLost 0 f
      ((s.setFan f { s.fan f with okFrom := none }).wr .fanState 4 f)))) :=
  if_pos ⟨hon, hstate, hsilent⟩

theorem fanRecovered_of_held (hon : fansOn s = true) (hstate : 3 ≤ s.rd .fanState f)
    (hheld : heldFor (s.fan f).okFrom (10 * rootPerS) s.now = true) (hedges : tachSilent s f = false) :
    fanRecovered f s = fanDuty (1 - f) (fanDuty f (updCap (raise .fanRecovered 0 f (s.wr .fanState 2 f)))) :=
  if_pos ⟨hon, hstate, hheld, by rw [hedges]; rfl⟩

end

/-- Settles O44, by the window, the reading, and the state of the fan. -/
theorem powerSupervision : Obligations.PowerSupervision := by
  refine ⟨fun dt est t s u hu hstart hnew habove ht => ?_, fun dt s u hu hcount hfirst => ?_,
    fun dt low high w s u hu hon hperiod hlow hvid hfree hlimit hw => ?_, fun dt s u hu hon hvid hheld hfirst => ?_,
    fun dt l t x good r rest s u hu hon hperiod ht hx hgood hhead => ?_,
    fun dt codes hot t s u hu htrained hclock hperiod ht => ?_, fun dt f s u hu hon => ?_,
    fun dt f t s u hu hen hon hedge hlate hlimit => ?_, fun dt f s u hu hon hstate hdue hretry => ?_,
    fun dt f s u hu hon hstate hdue hretry => ?_, fun dt f s u hu hon hstate hsilent => ?_,
    fun dt f s u hu hon hstate hheld hedges => ?_⟩
  · rw [exec_throttleWindow, ht]
    exact after_eq_of hu (throttleWindow_of_above hstart hnew habove)
  · rw [exec_pwrCapUnmet]
    exact after_eq_of hu (pwrCapUnmet_of_windows hcount hfirst)
  · subst hlow
    rw [exec_avsMonitor]
    exact after_eq_of hu (avsMonitor_of_low hon hperiod hvid hfree hlimit hw high)
  · rw [exec_avsLimit]
    exact after_eq_of hu (avsLimit_of_low hon hvid hheld hfirst)
  · rw [exec_thmConversion]
    exact after_eq_of hu (thmConversion_of_reading hon hperiod ht hx (hgood.symm.trans hhead) rfl)
  · rw [exec_memcMr4Poll]
    exact after_eq_of hu (memcMr4Poll_of_due htrained hclock hperiod ht hot)
  · rw [exec_fanEnable]
    exact after_eq_of hu (fanEnable_of_on hon rfl)
  · rw [exec_fanTachEdge]
    exact after_eq_of hu (fanTachEdge_of_edge hen hon hedge hlate hlimit)
  · rw [exec_fanSpinupTimeout]
    exact after_eq_of hu (fanSpinupTimeout_of_third hon hstate hdue hretry)
  · rw [exec_fanSpinupRetry]
    exact after_eq_of hu (fanSpinupRetry_of_due hon hstate hdue hretry)
  · rw [exec_fanTachLost]
    exact after_eq_of hu (fanTachLost_of_silent hon hstate hsilent)
  · rw [exec_fanRecovered]
    exact after_eq_of hu (fanRecovered_of_held hon hstate hheld hedges)

end Sys2Proof.Machine
end

section
/-! PROOFS. The families of the boot timeline (R461 to R468), of the boot mailbox, Dowel boot and programming (R469 to R475), and of the
warm resets (R473, R487). -/

namespace Sys2Proof.Machine

/-! What the verified image and the open DRAM leave alone. -/

theorem LogFrame.boot {p : RegId → Bool} {s t : State} (h : LogFrame p s t) : t.boot = s.boot := by
  obtain ⟨_, _, _, rfl, -⟩ := h
  rfl

theorem activateClamp_boot (i : Nat) (t own : Tab ClpEntry) (s : State) : (activateClamp i t own s).boot = s.boot := by
  unfold activateClamp
  exact (raise_frame .fabClampCommit 0 i _ rfl rfl).boot

theorem stageEntries_boot (i : Nat) (l : List (Nat × ClpEntry)) (s : State) :
    (l.foldl (fun s e => stageEntry i e.1 e.2 s) s).boot = s.boot := by
  induction l generalizing s with
  | nil => rfl
  | cons e l ih => exact ih _

/-- The default Clamp tables leave the boot state alone. -/
theorem commitDefaults_boot (s : State) : (commitDefaults s).boot = s.boot := by
  refine foldN_inv (fun s : State => s.boot) 12 _ (fun i s => ?_) s
  exact (activateClamp_boot ..).trans (stageEntries_boot ..)

theorem bootResume_firstCause (s : State) : (bootResume s).boot.firstCause = s.boot.firstCause := by
  unfold bootResume
  split <;> rfl

theorem showShift_boot (s : State) : (showShift s).boot = s.boot := by
  rw [showShift, State.wr_boot]

/-- What a verified SIF does, apart from the times that it records. -/
theorem sifVerified_shape (b : List Byte) (s : State) : ∃ v stage t, sifVerified b s =
    commitDefaults (showShift (({ bootResume s with
      boot := { (bootResume s).boot with sif := true, img := b, s := v, sr := 0 } }.wr .vnrBootStage stage).wr .vnrBootTSif t)) :=
  ⟨_, _, _, rfl⟩

/-- A verified SIF leaves the cause of the first bank alone. -/
theorem sifVerified_firstCause (b : List Byte) (s : State) : (sifVerified b s).boot.firstCause = s.boot.firstCause := by
  obtain ⟨v, stage, t, hshape⟩ := sifVerified_shape b s
  rw [hshape, commitDefaults_boot, showShift_boot, State.wr_boot, State.wr_boot]
  exact bootResume_firstCause s

theorem gateOn_rd_mbPhase (bit : Nat) (s : State) : (gateOn bit s).rd .mbPhase = s.rd .mbPhase := by
  unfold gateOn
  split
  · rw [State.rd_wrBit, if_neg (by simp)]
  · rfl

theorem showUsable_rd_mbPhase (s : State) : (showUsable s).rd .mbPhase = s.rd .mbPhase := by
  rw [showUsable, State.rd_wr_ne _ _ (by simp), State.rd_wr_ne _ _ (by simp)]

/-- Opening DRAM leaves the phase of the mailbox alone. -/
theorem dramOpen_rd_mbPhase (s : State) : (dramOpen s).rd .mbPhase = s.rd .mbPhase := by
  rw [dramOpen, enableClocks, List.foldl_cons, List.foldl_nil, gateOn_rd_mbPhase, State.rd_wrBit, if_neg (by simp), State.rd_with_memc,
    showUsable_rd_mbPhase]

/-! Power-on and T0 (R461, R462, R498, R499). -/

section
variable {s : State}

/-- Now is a point of the timeline. -/
theorem atPoint_iff {ms : Nat} : atPoint s ms = true ↔ s.now = pointAt s ms := beq_iff_eq

section
variable (hvdd : s.boot.vdd = true)
include hvdd

theorem powerOnReset_main : powerOnReset 0 s = if s.pin.mainEn then porReset false s else s :=
  if_neg (by rw [hvdd]; decide)

theorem powerOnReset_core : powerOnReset 1 s = porReset false s :=
  if_neg (by rw [hvdd]; decide)

/-- A cause other than the last leaves the always-on supply's part. -/
theorem powerOnReset_of_not_ao {cause : Fin 3} (hcause : cause ≠ 2) (hmain : cause = 0 → s.pin.mainEn = true) :
    powerOnReset cause s = porReset false s :=
  match cause, hcause, hmain with
  | 0, _, hmain => (powerOnReset_main hvdd).trans (if_pos (hmain rfl))
  | 1, _, _ => powerOnReset_core hvdd
  | 2, hcause, _ => absurd rfl hcause

theorem powerOnReset_ao : powerOnReset 2 s = porReset true s :=
  if_neg (by rw [hvdd]; decide)

end

/-- The release starts a run at T0. -/
theorem t0Release_of_release (hvdd : s.boot.vdd = true) (hmain : s.pin.mainEn = true) (hrun : s.boot.run = false)
    (hrest : s.rd .pwrState ≠ 1) {x : State} (hx : x = resetCause 0 { s with
      boot := { s.boot with run := true, t0 := s.now }
      clk := { s.clk with t0 := s.now, qual := .idle, qualGood := 0, qualFails := 0, qualRetried := false } }) :
    t0Release s = tellReset (loadCounters ((readFuses x).wr .vnrLifecycle (b2n x.boot.fuse))) := by
  have hrelease : s.boot.vdd = true ∧ s.pin.mainEn = true ∧ (!s.boot.run) = true := ⟨hvdd, hmain, by rw [hrun]; rfl⟩
  have hnormal : (s.rd .pwrState == 1) = false := beq_eq_false_iff_ne.2 hrest
  simp only [t0Release, if_pos hrelease, hnormal, Bool.false_eq_true, if_false, ← hx]

/-- The straps give the source, and SRC 3 is reported as 0. -/
theorem strapLatch_of_due (hrun : s.boot.run = true) (hfirst : s.boot.strapped = false)
    (hdue : s.now = s.boot.t0 + 100 * rootPerUs) (v : Nat) {t : State}
    (ht : t = strapFields 20 (strapFields 19 (strapFields 3 { s.wr .vnrStrap v with
      boot := { s.boot with strapped := true, src := if v % 4 = 3 then 0 else v % 4 } }))) :
    strapLatch v s = if v % 4 = 3 then raise .bootStrapErr 0 v t else t := by
  rw [ht]
  exact if_pos ⟨hrun, by rw [hfirst]; rfl, hdue⟩

/-! The SIF and the points of the timeline (R339, R463, R467, R468). -/

section
variable (hwaits : romWaits s = true) (hmail : mailboxOn s = false) (hflash : s.boot.src = 0) (hfirst : s.boot.firstCause = none)
include hwaits hmail hflash hfirst

theorem bootSif_of_flash (b : List Byte) (err : Bool) :
    bootSif b err s = judgeSif (s.boot.bank.get [] s.boot.act) err s := by
  have htry : tryBank s = s.boot.act := by
    rw [tryBank, hfirst]
    rfl
  have hdowel : ¬ s.boot.src = 2 := by omega
  simp only [bootSif, hwaits, hmail, Bool.not_true, Bool.false_eq_true, if_false, if_neg hdowel, htry]

/-- The SIF in flash is verified. -/
theorem bootSif_of_good (hgood : bunSifCause s (s.boot.bank.get [] s.boot.act) = 0) (b : List Byte) : bootSif b false s =
    sifVerified (s.boot.bank.get [] s.boot.act) (s.wr .vnrBootBank s.boot.act) := by
  have htry : tryBank s = s.boot.act := by
    rw [tryBank, hfirst]
    rfl
  have hdowel : ¬ s.boot.src = 2 := by omega
  have hkeep : (sifVerified (s.boot.bank.get [] s.boot.act) (s.wr .vnrBootBank s.boot.act)).boot.firstCause = none :=
    (sifVerified_firstCause ..).trans hfirst
  rw [bootSif_of_flash hwaits hmail hflash hfirst]
  simp only [judgeSif, Bool.false_eq_true, if_false, hgood, ne_eq, not_true, hmail, if_neg hdowel, htry, hkeep]

/-- A flash read that fails tries the other bank. -/
theorem bootSif_of_error (b : List Byte) : bootSif b true s =
    { s with boot := { s.boot with firstCause := some 10, sif := false, img := [] } }.wr .vnrBootStage 0 := by
  have hdowel : ¬ s.boot.src = 2 := by omega
  have hbad : (10 : Nat) ≠ 0 := by decide
  rw [bootSif_of_flash hwaits hmail hflash hfirst]
  simp only [judgeSif, if_true, if_pos hbad, sourceFail, hmail, Bool.false_eq_true, if_false, if_neg hdowel, bankFail, hfirst]

end

theorem bootCanRom_of_due (hsif : s.boot.sif = true) (hfirst : s.boot.p40 = false) (hgood : s.boot.failed = false)
    (hdue : s.now = pointAt s 40) : bootCanRom s =
      domainOn 16 ((canRestricted { s with boot := { s.boot with p40 := true } }).wr .vnrBootStage 2) :=
  if_pos ⟨hsif, by rw [hfirst]; rfl, by rw [hgood]; rfl, atPoint_iff.2 hdue⟩

theorem bootCeReady_of_due (hfirst : s.boot.p60 = false) (hwaking : s.pwr.waking = false) (hsif : s.boot.sif = true)
    (hcan : s.boot.p40 = true) (hgood : s.boot.failed = false) (hdue : s.now = pointAt s 60) (peerHigh : Bool) {x : State}
    (hx : x = enableClocks [0, 1] (domainsOn [2, 3] { s with boot := { s.boot with p60 := true } })) :
    bootCeReady peerHigh s = takeRole peerHigh { x with pin := { x.pin with aliveOn := true, failN := some true } } := by
  have hce : ceDue s = true := by
    simp only [ceDue, hwaking, Bool.false_eq_true, if_false, hsif, hcan, hgood, atPoint_iff.2 hdue, Bool.not_false, Bool.and_self]
  rw [hx]
  exact if_pos ⟨by rw [hfirst]; rfl, hce⟩

section
variable (hsif : s.boot.sif = true) (hcan : s.boot.p40 = true) (hfirst : s.boot.dram = false) (hgood : s.boot.failed = false)
include hsif hcan hfirst hgood

theorem dramTraining_due : s.boot.p40 = true ∧ (!s.boot.dram) = true ∧ (!s.boot.failed) = true ∧ s.boot.sif = true :=
  ⟨hcan, by rw [hfirst]; rfl, by rw [hgood]; rfl, hsif⟩

/-- A training that succeeds opens DRAM. -/
theorem dramTraining_of_ok (hphase : s.rd .mbPhase = 0) : dramTraining true s =
    dramOpen ({ s with boot := { s.boot with dram := true } }.wr .vnrBootStage 3) := by
  have hkeep : (dramOpen ({ s with boot := { s.boot with dram := true } }.wr .vnrBootStage 3)).rd .mbPhase = 0 := by
    rw [dramOpen_rd_mbPhase, State.rd_wr_ne _ _ (by simp), State.rd_with_boot, hphase]
  have hidle : ¬ (0 : Nat) = 1 := by decide
  simp only [dramTraining, if_pos (dramTraining_due hsif hcan hfirst hgood), if_true, hkeep, if_neg hidle]

/-- A second training that fails is a boot failure. -/
theorem dramTraining_of_second_failure (hfails : s.boot.trainFails = 1) :
    dramTraining false s = bootFail 8 { s with boot := { s.boot with trainFails := 2 } } := by
  simp only [dramTraining, if_pos (dramTraining_due hsif hcan hfirst hgood), Bool.false_eq_true, if_false, hfails, Nat.reduceAdd,
    if_true]

end

theorem bootRuntimeVerified_of_flash (hsif : s.boot.sif = true) (hdram : s.boot.dram = true) (hfirst : s.boot.rtOk = false)
    (hgood : s.boot.failed = false) (hmail : mailboxOn s = false) (hflash : s.boot.src = 0)
    (hok : bunRtOk s s.boot.img = true) (more : List Byte) :
    bootRuntimeVerified more false s = rtVerified s.boot.img s := by
  have hdue : s.boot.sif = true ∧ s.boot.dram = true ∧ (!s.boot.rtOk) = true ∧ (!s.boot.failed) = true :=
    ⟨hsif, hdram, by rw [hfirst]; rfl, by rw [hgood]; rfl⟩
  have hdowel : ¬ s.boot.src = 2 := by omega
  simp only [bootRuntimeVerified, if_pos hdue, hmail, Bool.false_eq_true, if_false, if_neg hdowel, false_and, if_pos hok]

/-- The runtime starts at 120 ms. -/
theorem bootRuntimeStart_of_due (himage : s.boot.rtOk = true) (hce : s.boot.p60 = true) (hfirst : s.boot.p120 = false)
    (hgood : s.boot.failed = false) (hdue : s.now = pointAt s 120) {x y : State}
    (hx : x = enableClocks [2] (domainsOn [4, 17, 18, 20] s))
    (hy : y = showReady { x with boot := { x.boot with p120 := true }, can := { x.can with node := { x.can.node with up := true } } }) :
    bootRuntimeStart s =
      showRdy (pumpAll (fanStart 1 (fanStart 0 (demandDomains (runtimeInterfaces (updCap (objectsStart y))))))) := by
  have hstart : s.boot.rtOk = true ∧ s.boot.p60 = true ∧ (!s.boot.p120) = true ∧ (!s.boot.failed) = true ∧ atPoint s 120 = true :=
    ⟨himage, hce, by rw [hfirst]; rfl, by rw [hgood]; rfl, atPoint_iff.2 hdue⟩
  simp only [bootRuntimeStart, if_pos hstart, ← hx, ← hy]

/-- Dowel is trained at 150 ms where a port is in use. -/
theorem bootDowelTraining_of_due (hstarted : s.boot.p120 = true) (hfirst : s.boot.p150 = false) (hdue : s.now = pointAt s 150)
    (hports : ((List.range 4).any fun p => s.rd .dwlPortUse p != 0) = true) : bootDowelTraining s =
      beginAssembly (foldN 4 (fun p s => if trains s p ∧ s.rd .dwlPortState p = 0 then startTraining p s else s)
        (enableClocks [18] { s with boot := { s.boot with p150 := true } })) := by
  have htrain : s.boot.p120 = true ∧ (!s.boot.p150) = true ∧ atPoint s 150 = true :=
    ⟨hstarted, by rw [hfirst]; rfl, atPoint_iff.2 hdue⟩
  rw [bootDowelTraining, if_pos htrain]
  simp only [State.rd_with_boot, if_pos hports]

/-- The dictionary is served at 300 ms. -/
theorem bootDictReady_of_due (hwaking : s.pwr.waking = false) (hstarted : s.boot.p120 = true) (hfirst : s.boot.p300 = false)
    (hrestart : s.saf.restart = none) (hdue : s.now = pointAt s 300) {x y : State}
    (hx : x = { s with boot := { s.boot with p300 := true }, saf := { s.saf with bootDone := true } })
    (hy : y = serveDictionary ((x.wr .vnrBootStage 4).wr .vnrBootTDict (min (sinceT0 x) 65535))) :
    bootDictReady s = raise .bootDone 1 (bootDoneArg y) y := by
  have hready : s.boot.p120 = true ∧ (!s.boot.p300) = true ∧ s.saf.restart.isNone = true ∧ atPoint s 300 = true :=
    ⟨hstarted, by rw [hfirst]; rfl, by rw [hrestart]; rfl, atPoint_iff.2 hdue⟩
  simp only [bootDictReady, hwaking, Bool.false_eq_true, if_false, if_pos hready, ← hx, ← hy]

end

/-- Settles O45, by the point of the timeline and the source of the bundle. -/
theorem bootTimeline : Obligations.BootTimeline := by
  refine ⟨fun dt s u hu hvdd => ?_, fun dt cause s u hu hvdd hcause hmain => ?_, fun dt cause s u hu hvdd hcause hmain => ?_,
    fun dt cause s u hu hvdd hcause => ?_, fun dt x s u hu hvdd hmain hrun hrest hx => ?_,
    fun dt v s u hu hrun hfirst hdue hsrc => ?_, fun dt v s u hu hrun hfirst hdue hsrc => ?_,
    fun dt b err s u hu hwaits hmail hflash hfirst herr hgood => ?_, fun dt b err s u hu hwaits hmail hflash hfirst herr => ?_,
    fun dt s u hu hsif hfirst hgood hdue => ?_, fun dt peerHigh s u hu hfirst hwaking hsif hcan hgood hdue => ?_,
    fun dt ok s u hu hok hsif hcan hfirst hgood hphase => ?_, fun dt ok s u hu hok hsif hcan hfirst hgood hfails => ?_,
    fun dt more err s u hu hsif hdram hfirst hgood hmail hflash herr hok => ?_,
    fun dt s u hu himage hce hfirst hgood hdue => ?_, fun dt s u hu hstarted hfirst hdue hports => ?_,
    fun dt s u hu hwaking hstarted hfirst hrestart hdue => ?_⟩
  · rw [exec_vddAoValid]
    exact after_eq_of hu (if_neg (by rw [hvdd]; decide))
  · subst hcause
    rw [exec_powerOnReset]
    exact after_eq_of hu ((powerOnReset_main hvdd).trans (if_neg (by rw [hmain]; decide)))
  · rw [exec_powerOnReset]
    exact after_eq_of hu (powerOnReset_of_not_ao hvdd hcause hmain)
  · subst hcause
    rw [exec_powerOnReset]
    exact after_eq_of hu (powerOnReset_ao hvdd)
  · rw [exec_t0Release]
    exact after_eq_of hu (t0Release_of_release hvdd hmain hrun hrest hx)
  · rw [exec_strapLatch]
    refine after_eq_of hu ((strapLatch_of_due hrun hfirst hdue v.toNat rfl).trans ((if_neg hsrc).trans ?_))
    rw [if_neg hsrc]
  · rw [exec_strapLatch]
    refine after_eq_of hu ((strapLatch_of_due hrun hfirst hdue v.toNat rfl).trans ((if_pos hsrc).trans ?_))
    rw [if_pos hsrc]
  · subst herr
    rw [exec_bootSifVerified]
    exact after_eq_of hu (bootSif_of_good hwaits hmail hflash hfirst hgood b)
  · subst herr
    rw [exec_bootSifVerified]
    exact after_eq_of hu (bootSif_of_error hwaits hmail hflash hfirst b)
  · rw [exec_bootCanRom]
    exact after_eq_of hu (bootCanRom_of_due hsif hfirst hgood hdue)
  · rw [exec_bootCeReady]
    exact after_eq_of hu (bootCeReady_of_due hfirst hwaking hsif hcan hgood hdue peerHigh rfl)
  · subst hok
    rw [exec_dramTrainingDone]
    exact after_eq_of hu (dramTraining_of_ok hsif hcan hfirst hgood hphase)
  · subst hok
    rw [exec_dramTrainingDone]
    exact after_eq_of hu (dramTraining_of_second_failure hsif hcan hfirst hgood hfails)
  · subst herr
    rw [exec_bootRuntimeVerified]
    exact after_eq_of hu (bootRuntimeVerified_of_flash hsif hdram hfirst hgood hmail hflash hok more)
  · rw [exec_bootRuntimeStart]
    exact after_eq_of hu (bootRuntimeStart_of_due himage hce hfirst hgood hdue rfl rfl)
  · rw [exec_bootDowelTraining]
    exact after_eq_of hu (bootDowelTraining_of_due hstarted hfirst hdue hports)
  · rw [exec_bootDictReady]
    exact after_eq_of hu (bootDictReady_of_due hwaking hstarted hfirst hrestart hdue rfl rfl)

/-! PCIe boot (R465, R469) and Dowel boot (R470, R471). -/

section
variable {s : State}

theorem pcieReadyFallback_of_due (hrun : s.boot.run = true) (hdom : s.domOn 1 = true) (hready : s.rd .pcieReady = 0)
    (hdue : s.now = max s.boot.t0 s.host.perstAt + rootPerS ∨ (s.boot.src = 1 ∧ s.now = mailboxReadyAt s)) :
    pcieReadyFallback s = readyPcie s :=
  if_pos ⟨hrun, hdom, hready, hdue⟩

section
variable (hopen : mailboxOpen s = true)
include hopen

section
variable (hgo : s.rd .mbGo = 0)
include hgo

theorem mailbox_takes_go : ¬ ((!mailboxOpen s) = true ∨ s.on .mbGo = true) := by
  rw [hopen, State.on_eq_false_of_rd hgo]
  decide

/-- A chunk at the next offset is taken. -/
theorem bootMbGo_of_next (hphase : s.rd .mbPhase ≠ 4) (hofs : s.rd .mbOfs = s.boot.mb.length) (hmin : 1 ≤ s.rd .mbLen)
    (hmax : s.rd .mbLen ≤ 3840) : bootMbGo s = { s with boot := { s.boot with mbRun := true } }.wr .mbGo 1 := by
  have hok : ¬ (s.rd .mbPhase = 4 ∨ s.rd .mbOfs ≠ s.boot.mb.length ∨ s.rd .mbLen < 1 ∨ 3840 < s.rd .mbLen) := by omega
  exact (if_neg (mailbox_takes_go hopen hgo)).trans (if_neg hok)

theorem bootMbGo_of_other_offset (hofs : s.rd .mbOfs ≠ s.boot.mb.length) : bootMbGo s = s.wr .mbCause 1 :=
  (if_neg (mailbox_takes_go hopen hgo)).trans (if_pos (.inr (.inl hofs)))

end

/-- A chunk that may be copied whole is. -/
theorem mbChunkCopied_of_whole (hrun : s.boot.mbRun = true) {all : List Byte}
    (hall : all = s.boot.mb.take (s.rd .mbOfs) ++ mbChunk s) (hwhole : s.rd .mbPhase = 2 ∨ all.length < 256) :
    mbChunkCopied s = { s with boot := { s.boot with mb := all, mbRun := false } }.wr .mbGo 0 := by
  have hcopies : s.rd .mbPhase = 2 ∨ all.length < 256 ∨ (!bunForm all) = true := hwhole.imp_right .inl
  simp only [mbChunkCopied, hopen, hrun, Bool.not_true, Bool.false_eq_true, or_self, if_false, ← hall, if_pos hcopies, if_true]

end

/-- A silent Dowel source fails the boot. -/
theorem bootDowelTimeout_of_silent (hsrc : s.boot.src = 2) (himage : s.boot.rtOk = false) (hgood : s.boot.failed = false)
    (hup : s.clk.up = true) (hdom : s.domOn 1 = true) (hrun : s.boot.run = true) (hdue : s.now = s.boot.dwlAt + 10 * rootPerS) :
    bootDowelTimeout s = bootFail 9 { s with boot := { s.boot with sif := false, img := [] } } :=
  if_pos ⟨hsrc, by rw [himage]; rfl, by rw [hgood]; rfl, hup, hdom, hrun, hdue⟩

/-! Programming (R472, R475). -/

/-- A write of program control that names bank control or OTP_SVN. -/
theorem programControl_of_front {u x : State} {q : OdReq} (htake : OdTakes u q x) (hwrites : q.writes .progControl = true)
    (hown : ownCheck q = 0) : (q.num = 1 → x.boot.written = none → programControl u = odReply q 1 abState [] x) ∧
      (∀ b, q.num = 1 → x.boot.written = some b →
        programControl u = odReply q 0 0 [] ((setActiveBank b x).setOb .progControl 1)) ∧
      (q.num = 2 → programControl u =
        odReply q 0 0 [] ((x.wr .vnrOtpSvn (max (x.rd .vnrOtpSvn) (bunSvn x.boot.img))).setOb .progControl 2)) := by
  rw [programControl, odServe_of_front htake hwrites]
  refine ⟨fun hnum hbank => ?_, fun b hnum hbank => ?_, fun hnum => ?_⟩
  · simp only [hown, ne_eq, not_true, if_false, hnum, hbank]
    exact odDone_of_ne_zero (by decide) q x
  · simp only [hown, ne_eq, not_true, if_false, hnum, hbank, odDone_zero]
  · simp only [hown, ne_eq, not_true, if_false, hnum, odDone_zero]

theorem otpWrite_secure_of_open (h : s.rd .vnrLifecycle = 0) :
    otpWrite .secure s = { s with boot := { s.boot with fuse := true } } := by
  have hopen : otpOk s .secure = true := by
    unfold otpOk
    rw [State.on_eq_false_of_rd h]
    rfl
  exact if_neg (by rw [hopen]; decide)

/-- A secured part with debug locked takes no write of OTP. -/
theorem otpWrite_of_locked (hsecured : s.rd .vnrLifecycle = 1) (hlocked : s.rd .vnrDbgUnlocked = 0) (w : OtpWr) :
    otpWrite w s = s := by
  have hbad : otpOk s w = false := by
    unfold otpOk
    rw [State.on_iff.2 hsecured, State.on_eq_false_of_rd hlocked]
    rfl
  exact if_pos (by rw [hbad]; rfl)
end

/-- Settles O46, by the offset of the chunk, the time that has passed, and the value written. -/
theorem bootMailbox : Obligations.BootMailbox := by
  refine ⟨fun dt s u hu hrun hdom hready hdue => ?_, fun dt s u hu hrun hdom hready hsrc hdue => ?_,
    fun dt s u hu hopen hgo hphase hofs hmin hmax => ?_, fun dt s u hu hopen hgo hofs => ?_,
    fun dt all s u hu hopen hrun hall hwhole => ?_, fun dt s u hu hsrc himage hgood hup hdom hrun hdue => ?_,
    fun dt s u hu hsrc hfailed hsif hdue => ?_, fun dt q l s u hu hauth hqueue hwrites hown hnum hbank => ?_,
    fun dt q l b s u hu hauth hqueue hwrites hown hnum hbank => ?_, fun dt q l s u hu hauth hqueue hwrites hown hnum => ?_,
    fun dt w s u hu hw hopen => ?_, fun dt w s u hu hsecured hlocked => ?_⟩
  · rw [exec_pcieReadyFallback]
    exact after_eq_of hu (pcieReadyFallback_of_due hrun hdom hready (.inl hdue))
  · rw [exec_pcieReadyFallback]
    exact after_eq_of hu (pcieReadyFallback_of_due hrun hdom hready (.inr ⟨hsrc, hdue⟩))
  · rw [exec_bootMbGo]
    exact after_eq_of hu (bootMbGo_of_next hopen hgo hphase hofs hmin hmax)
  · rw [exec_bootMbGo]
    exact after_eq_of hu (bootMbGo_of_other_offset hopen hgo hofs)
  · rw [exec_bootMbChunkCopied]
    exact after_eq_of hu (mbChunkCopied_of_whole hopen hrun hall hwhole)
  · rw [exec_bootDowelTimeout]
    exact after_eq_of hu (bootDowelTimeout_of_silent hsrc himage hgood hup hdom hrun hdue)
  · rw [exec_bootDowelRetry]
    exact after_eq_of hu (if_pos ⟨hsrc, hfailed, by rw [hsif]; rfl, hdue⟩)
  · rw [exec_programControl]
    exact after_eq_of hu ((programControl_of_front ⟨hauth, l, hqueue, rfl⟩ hwrites hown).1 hnum hbank)
  · rw [exec_programControl]
    exact after_eq_of hu ((programControl_of_front ⟨hauth, l, hqueue, rfl⟩ hwrites hown).2.1 b hnum hbank)
  · rw [exec_programControl]
    exact after_eq_of hu ((programControl_of_front ⟨hauth, l, hqueue, rfl⟩ hwrites hown).2.2 hnum)
  · subst hw
    rw [exec_otpWrite]
    exact after_eq_of hu (otpWrite_secure_of_open hopen)
  · rw [exec_otpWrite]
    exact after_eq_of hu (otpWrite_of_locked hsecured hlocked w)

/-! Warm resets (R461, R473) and the faults of the Safety Island (R487). -/

section
variable {s : State} (hrun : s.boot.run = true)
include hrun

section
variable (hup : s.clk.up = true)
include hup

/-- The pin asserts a warm reset before RST_CTRL.WARM does. -/
theorem warmReset_of_assertion (hidle : s.boot.warm = none) (pinLow : Bool) : warmReset pinLow false s =
    if pinLow then warmAssert 2 s else if s.on .vnrWarm then warmAssert 3 s else s := by
  simp only [warmReset, hrun, hup, hidle, Bool.not_true, Bool.false_eq_true, if_false]

/-- A release starts the ROM with T0 13 ms back. -/
theorem warmReset_of_release {c : Nat} (hwarm : s.boot.warm = some c) (hcause : c ≠ 4) (pinLow : Bool) :
    warmReset pinLow true s = romStart { s with
      boot := { s.boot with warm := none, t0 := s.now - 13 * rootPerMs }
      clk := { s.clk with monBad := false } } := by
  simp only [warmReset, hrun, hup, hwarm, Bool.not_true, Bool.false_eq_true, if_false, if_true, warmRelease]
  exact if_neg (not_and_of_not_left _ hcause)

end

theorem warmReset_of_standby (hdown : s.clk.up = false) (hdom : s.domOn 1 = true) : warmReset true false s = warmStandby 2 s := by
  simp only [warmReset, hrun, hdown, hdom, Bool.not_true, Bool.not_false, Bool.false_eq_true, if_false, if_true, and_self]

end

section
variable {s : State} (hdom : s.domOn 1 = true)
include hdom

theorem islandFault_of_corrected : islandFault 3 s = s.wr .safSramCorr (satAdd 16 (s.rd .safSramCorr) 1) :=
  (if_neg (by rw [hdom]; decide)).trans (if_pos rfl)

theorem islandFault_of_uncorrectable {kind : Fin 4} (hkind : kind ≠ 3) (hup : s.clk.up = true) :
    islandFault kind s = warmAssert 4 (s.wrBit .safLs kind true) :=
  (if_neg (by rw [hdom]; decide)).trans ((if_neg hkind).trans (if_pos hup))

end

/-- Settles O47, by what asserts or releases the warm reset, and by the kind of the fault. -/
theorem warmResetAndIslandFaults : Obligations.WarmResetAndIslandFaults := by
  refine ⟨fun dt pinLow release s u hu hup hrun hidle hrelease hpin => ?_,
    fun dt pinLow release s u hu hup hrun hidle hrelease hpin hwarm => ?_,
    fun dt pinLow release s u hu hrun hdown hdom hpin hrelease => ?_,
    fun dt pinLow release c s u hu hup hrun hwarm hrelease hcause => ?_, fun dt kind s u hu hdom hkind => ?_,
    fun dt kind s u hu hdom hkind hup => ?_⟩
  · subst hrelease hpin
    rw [exec_warmReset]
    exact after_eq_of hu ((warmReset_of_assertion hrun hup hidle true).trans (if_pos rfl))
  · subst hrelease hpin
    rw [exec_warmReset]
    exact after_eq_of hu ((warmReset_of_assertion hrun hup hidle false).trans
      ((if_neg Bool.false_ne_true).trans (if_pos (State.on_iff.2 hwarm))))
  · subst hpin hrelease
    rw [exec_warmReset]
    exact after_eq_of hu (warmReset_of_standby hrun hdown hdom)
  · subst hrelease
    rw [exec_warmReset]
    exact after_eq_of hu (warmReset_of_release hrun hup hwarm hcause pinLow)
  · subst hkind
    rw [exec_islandFault]
    exact after_eq_of hu (islandFault_of_corrected hdom)
  · rw [exec_islandFault]
    exact after_eq_of hu (islandFault_of_uncorrectable hdom hkind hup)

end Sys2Proof.Machine
end

section
/-! PROOFS. The families of the safe-state restarts (R477 to R479) and of the safety diagnostics (R481 to R488). -/

namespace Sys2Proof.Machine

/-! Restarts (R477 to R479). -/

section
variable {s : State}

section
variable {sub t : Nat} {l : List (Nat × Nat)} (htrig : liveTriggers s = (sub, t) :: l)
include htrig

/-- The oldest trigger is taken; what it does depends on the restart, on the escalation and on the restarts before it. -/
theorem safeStateRestart_of_trigger : safeStateRestart s =
    if s.saf.restart.isSome ∨ s.saf.escalated then { s with saf := { s.saf with trig := l } }
    else if thirdRestart s then escalate 1 { s with saf := { s.saf with trig := l } }
    else beginRestart sub t { s with saf := { s.saf with trig := l } } := by
  rw [safeStateRestart, htrig]
  rfl

theorem safeStateRestart_of_idle (hidle : s.saf.restart = none) (hesc : s.saf.escalated = false) : safeStateRestart s =
    if thirdRestart s then escalate 1 { s with saf := { s.saf with trig := l } }
    else beginRestart sub t { s with saf := { s.saf with trig := l } } := by
  refine (safeStateRestart_of_trigger htrig).trans (if_neg ?_)
  rw [hidle, hesc]
  decide

end

/-- The restart is done in time. -/
theorem safRestartDone_of_back {r : RestartRun} (hrun : s.saf.restart = some r) (hdom : s.domOn 4 = true)
    (hback : ((List.range 12).all fun d => (s.pwr.sw.get none (d + 4)).isNone) = true) (hdue : s.now ≤ r.trigAt + 150 * rootPerMs)
    {x : State} (hx : x = serveDictionary { s with saf := { s.saf with restart := none } }) :
    safRestartDone s = updSafState (raise .safRestartDone 0 ((x.now - r.trigAt) / rootPerMs) (showRdy x)) := by
  have hcompute : computeBack s = true := by rw [computeBack, hdom, hback, Bool.and_self]
  have hdone : computeBack s = true ∧ s.now ≤ r.trigAt + 150 * rootPerMs := ⟨hcompute, hdue⟩
  simp only [safRestartDone, hrun, if_pos hdone, ← hx]

theorem safRestartTimeout_of_other {r : RestartRun} (hrun : s.saf.restart = some r) (hnow : s.now ≠ r.trigAt + 150 * rootPerMs) :
    safRestartTimeout s = s := by
  simp only [safRestartTimeout, hrun, if_neg hnow]

end

/-- Settles O48, by what the oldest trigger finds and by the time that the restart has taken. -/
theorem safeStateRestarts : Obligations.SafeStateRestarts := by
  refine ⟨fun dt sub t l s u hu htrig hidle hesc hthird => ?_, fun dt sub t l s u hu htrig hidle hesc hthird => ?_,
    fun dt sub t l s u hu htrig hbusy => ?_, fun dt r x s u hu hrun hdom hback hdue hx => ?_, fun dt r s u hu hrun hnow => ?_,
    fun dt r s u hu hrun hnow => ?_⟩
  · rw [exec_safeStateRestart]
    exact after_eq_of hu ((safeStateRestart_of_idle htrig hidle hesc).trans (if_neg (by rw [hthird]; decide)))
  · rw [exec_safeStateRestart]
    exact after_eq_of hu ((safeStateRestart_of_idle htrig hidle hesc).trans (if_pos hthird))
  · rw [exec_safeStateRestart]
    exact after_eq_of hu ((safeStateRestart_of_trigger htrig).trans (if_pos hbusy))
  · rw [exec_safRestartDone]
    exact after_eq_of hu (safRestartDone_of_back hrun hdom hback hdue hx)
  · rw [exec_safRestartTimeout]
    exact after_eq_of hu (safRestartTimeout_of_late hrun hnow)
  · rw [exec_safRestartTimeout]
    exact after_eq_of hu (safRestartTimeout_of_other hrun hnow)

/-! Disarming and the readback (R481, R483). -/

section
variable {s : State}

/-- A write of an object that has a row of its own takes its effect and is answered. -/
theorem ownWrite_of_front {u x : State} {q : OdReq} (htake : OdTakes u q x) {o : ObjId} (hwrites : q.writes o = true)
    (hown : ownCheck q = 0) (f : Nat → State → State) : ownWrite o f u = odReply q 0 0 [] (f q.num x) := by
  rw [ownWrite, odServe_of_front htake hwrites]
  exact (if_neg (not_not_intro hown)).trans (odDone_zero ..)

theorem stoReadback_of_equal {pad : Bool} (hpad : pad = (s.rd .safStoDrv == 1)) : stoReadback pad s = s.wr .safStoPad (b2n pad) :=
  if_pos hpad

theorem stoReadback_of_mismatch {pad : Bool} (hpad : pad ≠ (s.rd .safStoDrv == 1)) (hnew : pad ≠ (s.rd .safStoPad == 1)) :
    stoReadback pad s = (raise .safStoReadback 0 (s.rd .safStoDrv) (s.wr .safRbFail 1)).wr .safStoPad (b2n pad) :=
  (if_neg hpad).trans (if_neg hnew)

/-! SS1 (R484). -/

theorem startSs1_of_running (hruns : s.saf.ss1End.isSome = true) : startSs1 s = s := if_pos hruns

/-- An SS1 starts: the axes in torque mode are asked to disable, and its time runs. -/
theorem startSs1_of_armed (hidle : s.saf.ss1End = none) (harmed : s.rd .safArmed ≠ 0) {x : State}
    (hx : x = foldN 8 (fun n s => if s.rd .axMode n = 2 ∧ s.on .axEn n then requestDisable n s else s)
      { s with saf := { s.saf with ss1End := some (s.now + s.rd .safSs1T * rootPerMs) } }) :
    startSs1 s = logEv .safSs1 0 0 (updSafState (x.wr .safSs1Rem (x.rd .safSs1T))) := by
  have hnone : ¬ s.saf.ss1End.isSome = true := by
    rw [hidle]
    decide
  rw [hx]
  exact (if_neg hnone).trans (if_neg harmed)

theorem showSs1Rem_of_none (h : s.saf.ss1End = none) : showSs1Rem s = s.wr .safSs1Rem 0 := by
  rw [showSs1Rem, h]

/-! The runtime watchdog (R485, R486). -/

section
variable (hidle : s.saf.restart = none) (hesc : s.saf.escalated = false)
include hidle hesc

theorem wdg_takes_kick : ¬ (s.saf.restart.isSome = true ∨ s.saf.escalated = true) := by
  rw [hidle, hesc]
  decide

/-- A valid kick. -/
theorem wdgKick_of_valid {v : Nat} (hlt : v < 65536) (hv : v = kickDue s) : wdgKick v s = { s with
    saf := { s.saf with wdgLast := some v, wdgFrom := if s.saf.wdgLast.isNone then s.now else s.saf.wdgFrom, wdgOk := true } } := by
  simp only [wdgKick, if_neg (wdg_takes_kick hidle hesc), Nat.mod_eq_of_lt hlt, if_pos hv]

theorem wdgKick_of_invalid {v : Nat} (hlt : v < 65536) (hv : v ≠ kickDue s) :
    wdgKick v s = s.wr .safWdgBad (satAdd 16 (s.rd .safWdgBad) 1) := by
  simp only [wdgKick, if_neg (wdg_takes_kick hidle hesc), Nat.mod_eq_of_lt hlt, if_neg hv]
  rfl

end

/-- The end of a window: the next one begins, and a window without a kick is reported. -/
theorem wdgWindowEnd_of_due (hruns : s.saf.wdgLast.isSome = true) (hdue : wdgEnd s = s.now) {x : State}
    (hx : x = { s with saf := { s.saf with wdgFrom := wdgEnd s, wdgOk := false } }) :
    wdgWindowEnd s = if s.saf.wdgOk then x else raise .safWdgExpired 0 0 (x.bump .safWdgExp 1) := by
  rw [hx]
  exact if_pos ⟨hruns, hdue⟩

/-! The Clamp CRC (R488). -/

theorem clampCrcChecks_of_due (hclamp : s.domOn 21 = true) (hisland : s.domOn 1 = true)
    (hdue : onPeriod s s.saf.crcFrom (10 * rootPerMs) = true) :
    clampCrcChecks s = foldN 12 (clampCrcCheck true) { s with saf := { s.saf with crcFrom := some s.now } } := by
  have hon : s.domOn 21 = true ∧ s.domOn 1 = true := ⟨hclamp, hisland⟩
  simp only [clampCrcChecks, if_pos hon, hdue, if_true]

end

/-- Settles O49, by what each check finds. -/
theorem safetyDiagnostics : Obligations.SafetyDiagnostics := by
  refine ⟨fun dt q l s u hu hauth hqueue hwrites hown => ?_, fun dt pad s u hu hdom hup hsto hpad => ?_,
    fun dt pad s u hu hdom hup hsto hpad hnew => ?_, fun dt gpio k s u hu hgpio hdom hen hpin hidle harmed => ?_,
    fun dt gpio k s u hu hgpio hruns => ?_, fun dt e s u hu hend hnow => ?_, fun dt v s u hu hdom hidle hesc hv => ?_,
    fun dt v s u hu hdom hidle hesc hv => ?_, fun dt s u hu hruns hdue hok => ?_, fun dt s u hu hruns hdue hok => ?_,
    fun dt l s u hu hl hclamp hisland hdue => ?_⟩
  · rw [exec_safDisarm]
    exact after_eq_of hu (ownWrite_of_front ⟨hauth, l, hqueue, rfl⟩ hwrites hown safDisarm)
  · rw [exec_safStoReadback]
    exact after_eq_of hu ((if_pos ⟨hdom, hup, hsto⟩).trans (stoReadback_of_equal hpad))
  · rw [exec_safStoReadback]
    exact after_eq_of hu ((if_pos ⟨hdom, hup, hsto⟩).trans (stoReadback_of_mismatch hpad hnew))
  · subst hgpio
    rw [exec_ss1Request]
    exact after_eq_of hu ((if_pos ⟨hdom, State.on_iff.2 hen, hpin⟩).trans (startSs1_of_armed hidle harmed rfl))
  · subst hgpio
    rw [exec_ss1Request]
    refine after_eq_of hu ?_
    dsimp only
    split
    · exact startSs1_of_running hruns
    · rfl
  · rw [exec_ss1Expire]
    exact after_eq_of hu ((ss1Expire_of_due hend hnow).trans
      (congrArg (fun x => applySto 5 (raise .safSs1 0 1 x)) (showSs1Rem_of_none rfl)))
  · rw [exec_wdgKick]
    exact after_eq_of hu ((if_pos hdom).trans (wdgKick_of_valid hidle hesc v.isLt hv))
  · rw [exec_wdgKick]
    exact after_eq_of hu ((if_pos hdom).trans (wdgKick_of_invalid hidle hesc v.isLt hv))
  · rw [exec_wdgWindowEnd]
    exact after_eq_of hu ((wdgWindowEnd_of_due hruns hdue rfl).trans (if_pos hok))
  · rw [exec_wdgWindowEnd]
    exact after_eq_of hu ((wdgWindowEnd_of_due hruns hdue rfl).trans (if_neg (by rw [hok]; decide)))
  · subst hl
    rw [exec_safClampCrcCheck]
    exact after_eq_of hu (clampCrcChecks_of_due hclamp hisland hdue)

end Sys2Proof.Machine
end
